-- ==== Sys2Proof/Word.lean ====
section
/-! DEFINITION. The word types of the model and the shape of every sparse store. -/

namespace Sys2Proof

/-- A 32-bit register or data word (R11: BAR0 is accessed in aligned 32-bit words). -/
abbrev Word := BitVec 32

/-- One byte of an addressed memory. -/
abbrev Byte := BitVec 8

/-- A sparse store: key and value pairs in one canonical form (keys strictly rising, no entry equal to what its key
reads as when it is not listed; see `Sys2Proof.Machine.mapWf`). -/
abbrev SMap (α : Type) := List (Nat × α)

end Sys2Proof
end

