-- ==== Sys2Proof/Syntax.lean ====
section
/-! DEFINITION. The commands of the block and the types of their operands. -/

namespace Sys2Proof

/-- Who reads a 64-bit quantity (R49: each requester has its own shadow). -/
inductive Requester where
  | host | steward
  deriving DecidableEq, Repr

/-- The four link widths (R36). -/
inductive LinkWidth where
  | x1 | x2 | x4 | x8
  deriving DecidableEq, Repr

/-- A configuration write that may let messages go (R57): a vector's own mask, the function mask, MSI-X Enable, Bus Master
Enable, or the power state of the function (the passage after R38). -/
inductive MsixChange where
  | vectorMask (v : Fin 256) (masked : Bool)
  | functionMask (masked : Bool)
  | msixEnable (on : Bool)
  | busMaster (on : Bool)
  | d3hot (on : Bool)
  deriving DecidableEq, Repr

/-- A PCI Express configuration request (R74): a read or a write of one aligned 32-bit register. -/
inductive CfgReq where
  | read (reg : Fin 1024)
  | write (reg : Fin 1024) (value : Word)
  deriving DecidableEq, Repr

/-- An output of a bank's Level DAC Engine (R361): level j of a lane (0 VIH, 1 VIL, 2 VOH, 3 VOL, 4 VT, 5 VCOM), the PPMU force
of a lane, a DPS of the bank, or its HVC. -/
inductive LdeOut where
  | pin (lane : Fin 32) (j : Fin 6)
  | ppmu (lane : Fin 32)
  | dps (i : Fin 3)
  | hvc
  deriving DecidableEq, Repr

/-- What a guard monitor sees at an evaluation: bank, monitor, and the quantity in the monitor's units (R378). -/
structure GuardObs where
  bank : Fin 24
  m : Fin 39
  value : Int
  deriving DecidableEq, Repr


/-- An error that a read of the Vector Store meets: the 64-bit word, counted from the first one read, and whether it is
uncorrectable (R296, R297). -/
structure EccHit where
  word : Nat
  uncorrectable : Bool
  deriving DecidableEq, Repr

/-- The state a comparator reports at an instant; `both` is HI and LO together (R124). -/
inductive CmpState where
  | lo | hi | mid | both
  deriving DecidableEq, Repr

/-- What a site pin's comparator reports in a vector's compare: the states from C1 on, in time order, up to C2 in WINDOW format. A pin
that is not listed reports MID throughout. -/
structure PinObs where
  pin : Nat
  states : List CmpState
  deriving DecidableEq, Repr

/-- Who starts a PSQ (R207). -/
inductive StartBy where
  | host | piste
  deriving DecidableEq, Repr

/-- A reading of a sensor at a sample (R453): in 1/16 °C, and whether its reference check passes (R457). -/
structure Reading where
  temp : Int
  refOk : Bool
  deriving DecidableEq, Repr

/-- The measurements of one trim of a calibration step (R448): which trim of the item it is, and three measurements of it, in 1/1000 of
the trim's LSB, the third used where the first two disagree. -/
structure TrimMeas where
  sub : Fin 64
  m1 : Int
  m2 : Int
  m3 : Int
  deriving DecidableEq, Repr

/-- The algorithms of R469, each offered or selected: DMTF measurement specification, SHA-384 for measurements and as base hash (one
field for both hashes), ECDSA P-384 as base signature, secp384r1, AES-256-GCM, the SPDM key schedule, and ECDSA P-384 of the requester. -/
structure AlgSet where
  spec : Bool
  hash : Bool
  asym : Bool
  dhe : Bool
  aead : Bool
  schedule : Bool
  reqAsym : Bool
  deriving DecidableEq, Repr


/-- A firmware image as the boot ROM finds it in a slot whose signature and chain verify (R75, R496): the version and digest that
GET_FW_INFO returns, its SVN, and SVN_COMMIT. -/
structure FwInfo where
  version : Word
  digest : BitVec 384
  svn : BitVec 16
  commit : Bool
  deriving DecidableEq, Repr

/-- What the flash's SFDP table gives (R527): density, addressing, page, and the sizes of the sector and block erase, in log2 bytes. -/
structure Sfdp where
  densLog2 : BitVec 8
  addr4 : Bool
  pageLog2 : BitVec 5
  sectLog2 : BitVec 5
  blkLog2 : BitVec 5
  deriving DecidableEq, Repr

/-- What an error met by a read of NVM at start-up lies in (R537). -/
inductive NvmItem where
  /-- A slot of the event log. -/
  | event (slot : Fin 16384)
  /-- A copy of a calibration record. -/
  | calCopy (rec : Fin 25) (copy : Fin 3)
  | other
  deriving DecidableEq, Repr

/-- An error met by a read of NVM (R537): the word's offset / 8, whether it is uncorrectable, and what it lies in. -/
structure NvmHit where
  off : BitVec 23
  uncorrectable : Bool
  item : NvmItem
  deriving DecidableEq, Repr

/-- What the partner says of itself in IDENT (R500): role, the HIF part word, firmware version, FW_SVN and DEVID. -/
structure PartnerIdent where
  role : Fin 4
  part : Word
  fwVersion : Word
  fwSvn : BitVec 16
  devid : BitVec 128
  deriving DecidableEq, Repr

/-- What the partner gives in AUTH (R501), with what it reports as the link becomes PAIRED: its certificate chain, the transcript and its
signature over it; FEED_EN; its generation; and its EPC_STATUS.N where its epoch is valid (R505). -/
structure PartnerAuth where
  chain : List Byte
  transcript : List Byte
  signature : List Byte
  feedEn : Bool
  gen : Word
  epochN : Option Nat
  deriving DecidableEq, Repr

/-- The type of a flit (R502). -/
inductive FlitType where
  | idle | ctrl | mirror | feedReq | feedData
  deriving DecidableEq, Repr

/-- A MIRROR message (R505), with the frame of the state it holds, and the item's words. -/
inductive MirrorMsg where
  /-- The frame marker; `all` says that the partner has now sent every item of the frame. -/
  | marker (f : BitVec 48) (dev : Fin 8) (gen : Word) (chFail : BitVec 8) (admitted : Nat) (all : Bool) (words : List Word)
  /-- A PSQ checkpoint: whether a program is loaded, the digest of its bundle where it is sealed, and its PLK_FEED_TAG. -/
  | psq (f : BitVec 48) (n : Fin 8) (loaded : Bool) (bundle : Option (BitVec 384)) (tag : Word) (words : List Word)
  /-- A site entry, with the PSQ the site is bound to. -/
  | site (f : BitVec 48) (i : Fin 256) (psq : Option (Fin 8)) (words : List Word)
  /-- Site registers. -/
  | regs (f : BitVec 48) (i : Fin 256) (words : List Word)
  /-- An event record of the partner. -/
  | record (words : List Word)
  deriving DecidableEq, Repr

/-- What a feed request comes back with (R511, R513). -/
inductive FeedGot where
  | data (bytes : List Byte)
  | unwritten
  | error
  deriving DecidableEq, Repr

/-- The commands of the block: one constructor per row of the opcode table, in its order. A command is a register access of
the host, an event of the hardware or of its surroundings, or one action of a program of the block; its operands are what
the row's event brings with it. -/
inductive Instr where
  /-- REGISTER_WRITE (R9): A host write to a register field that has no behaviour of its own sets the field according
  to its access code. -/
  | registerWrite (off : Nat) (value : Word) (inc : Nat)
  /-- BAR0_BAD_ACCESS (R39): A BAR0 access that is not an aligned 32-bit access is not performed, and HIF_BADACC.COUNT
  increments. -/
  | bar0BadAccess (write : Bool)
  /-- LOW_WORD_READ (R49): A read of the low word of a 64-bit quantity returns it and latches the high word into the
  requester's shadow. -/
  | lowWordRead (who : Requester) (off : Nat)
  /-- LOW_WORD_WRITE (R50): A write of the low word of a 64-bit RW quantity is held in a buffer. -/
  | lowWordWrite (off : Nat) (value : Word)
  /-- HIGH_WORD_WRITE (R50): A write of the high word applies both words of a 64-bit quantity in one cycle. -/
  | highWordWrite (off : Nat) (value : Word)
  /-- RC_FIELD_READ (R52): A read of an RC field returns its value and then clears the field. -/
  | rcFieldRead (off : Nat) (hwSet : Option Word)
  /-- INT_STAT_CLEAR (R51): A W1C write to INT_STAT clears each bit written 1, unless hardware sets that bit in the
  same cycle. -/
  | intStatClear (page : Nat) (value : Word) (hwSet : Word)
  /-- INT_SET (R46): A write to INT_SET sets the INT_STAT bits written 1, as a hardware set would. -/
  | intSet (page : Nat) (value : Word)
  /-- INT_EN_WRITE (R56): A write to INT_EN that enables a bit already set in INT_STAT sends the page's message. -/
  | intEnWrite (page : Nat) (value : Word)
  /-- INT_VEC_WRITE (R56): A write to INT_VEC moves the page to a new vector and signals it if an enabled cause is
  pending. -/
  | intVecWrite (page : Nat) (value : Word)
  /-- MSIX_UNMASK (R57): When a vector is unmasked or the function can send again, one message is sent for each
  pending bit, which then clears. -/
  | msixUnmask (change : MsixChange)
  /-- FLT_ACK (R62): A write to FLT_ACK ends the unacknowledged state of one class, or of every class, and FLT_LEVEL
  is recomputed. -/
  | fltAck (page : Nat) (value : Word)
  /-- FLT_HIST_CURSOR_WRITE (R64): A write to FLT_HIST_CURSOR takes a snapshot of the fault history queue. -/
  | fltHistCursorWrite (page : Nat) (value : Word)
  /-- FLT_HIST_DATA_READ (R64): A read of FLT_HIST_DATA returns the word at the cursor and advances the cursor. -/
  | fltHistDataRead (page : Nat)
  /-- GET_FW_INFO (R66): The mailbox command returns the firmware version, slot and digest. -/
  | getFwInfo (length : BitVec 16)
  /-- RELOAD_SETTINGS (R535): The mailbox command reloads and re-applies the board settings image when the device is
  READY and no site is bound. -/
  | reloadSettings (length : BitVec 16)
  /-- LOAD_RECOVERY_FW (R67): The Vendor mailbox command receives one block of a signed firmware image; after the last
  block the image is verified and programmed into flash slot A. -/
  | loadRecoveryFw (length : BitVec 16)
  /-- GET_BOOT_LOG (R66): The mailbox command returns the timestamps of start-up steps 1 to 12. -/
  | getBootLog (length : BitVec 16)
  /-- RECOVERY_RESET (R67): 10 ms after a successful recovery-firmware completion, the Steward performs a system
  reset. -/
  | recoveryReset
  /-- SYS_RST_N (R68): SYS_RST_N held low for at least 1 µs performs a system reset, and the device enters BOOT. -/
  | sysRstN
  /-- CHIP (R68): A write of 1 to HIF_RESET.CHIP performs a system reset. -/
  | chip
  /-- PERST_N (R69): PERST_N low resets the HIF logic, link, configuration space and MSI-X tables while sequencers
  continue. -/
  | perstN (high : Bool)
  /-- FUNCTION_LEVEL_RESET (R70): An FLR stops the PSQs, releases the sites, clears the Piste, discards sealed content
  and keys, and returns to READY where allowed. -/
  | functionLevelReset
  /-- BLK_RESET (R71): A write of CTRL.BLK_RESET resets the page's block registers, or is ignored with RESET_BUSY
  while STAT.BUSY is 1. -/
  | blkReset (page : Nat)
  /-- POR_RELEASE (R73): The internal power-on reset releases and start-up steps 1 to 7 begin: always-on domain up,
  identity read, crystal and PLL started. -/
  | porRelease
  /-- REFCLK_WATCH_END (R80): At start-up step 6 the PLL locks to REFCLK, or to the crystal if REFCLK is absent, and
  SOURCE takes its first value. -/
  | refclkWatchEnd (present : Bool)
  /-- CONFIG_REQUEST (R74): A PCI Express configuration request is answered with CRS until the device is ready, and is
  served afterwards. -/
  | configRequest (req : CfgReq) (ready : Bool)
  /-- HIF_LINK_TRAINED (R74): The host link trains or retrains and HIF_LINK reports its width and speed. -/
  | hifLinkTrained (width : LinkWidth) (speed : Fin 5)
  /-- HIF_LINK_DOWN (R57): The host link goes down; WIDTH and SPEED read 0 and messages become pending. -/
  | hifLinkDown
  /-- BOOT_FW_LOADED (R75): The boot ROM finishes loading and verifying a firmware slot; the Steward starts and
  DEVICE_STATE becomes SAFE, or FAULT if both slots fail. -/
  | bootFwLoaded (a : Option FwInfo) (b : Option FwInfo) (idOk : Bool) (sfdp : Option Sfdp) (nvm : List NvmHit)
  /-- STARTUP_READY (R73): At start-up step 12 DEVICE_STATE becomes READY, the vendor microcode is loaded and the PUV
  enables are written. -/
  | startupReady
  /-- CEIL_MW_WRITE (R30): A write to PGV_CEIL.CEIL_MW sets the power ceiling, clipped to 60,000, or is refused
  REFUSED_BELOW_CHARGE. -/
  | ceilMwWrite (value : Nat)
  /-- CEIL_LOCK (R9): A write of 1 to PGV_CEIL.LOCK locks CEIL_MW until a power-on or system reset. -/
  | ceilLock
  /-- REFCLK_LOST (R81): REFCLK fails its presence conditions; the PLL switches to the crystal within 200 ns and
  SOURCE becomes HOLDOVER. -/
  | refclkLost
  /-- REFCLK_RETURN (R82): After REFCLK has been present for 1 ms and no PSQ is running, the PLL leaves the crystal
  for REFCLK. -/
  | refclkReturn
  /-- MULT_WRITE (R84): A write to EPC_SRC.MULT changes MCLK when the state and the Piste allow it, relocks the PLL
  and invalidates the epoch, or raises MULT_BUSY. -/
  | multWrite (value : Nat)
  /-- PLL_RELOCK_DONE (R84): The PLL relocks after a MULT change, and the TMU bin tables are recalibrated. -/
  | pllRelockDone
  /-- HOLD_EXPIRED (R85): Holdover lasting longer than HOLD_MAX_MS invalidates the epoch and raises HOLD_EXPIRED. -/
  | holdExpired
  /-- FMK_MARKER (R87): A marker pulse on FMK is decoded by its width as FRAME, SUPERFRAME or START and checked
  against the counter. -/
  | fmkMarker (width : Nat)
  /-- FMK_REALIGN (R94): After three equal failed markers, the device realigns to them at the next frame boundary with
  no PSQ running. -/
  | fmkRealign
  /-- FMK_MISSING (R95): A FRAME marker that does not arrive in its window counts as missing; eight in a row clear
  FMK_PRESENT and raise FMK_LOST. -/
  | fmkMissing
  /-- FRAME_BOUNDARY (R89): Phase p reaches N − 1 and the next cycle gives p = 0 and F + 1, setting F_WRAP on wrap. -/
  | frameBoundary
  /-- FRAME_LEN_WRITE (R88): A write to EPC_FRAME_LEN.LEN sets the frame period while the epoch is invalid. -/
  | frameLenWrite (value : Nat)
  /-- ARM (R90): A write of 1 to EPC_ALIGN.ARM arms alignment in START or LOAD mode. -/
  | arm
  /-- SEED_PS_WRITE (R98): A write to EPC_SKEW_SEED.SEED_PS sets the FMK trace delay, clipped at 7,000 with
  SEED_CLIPPED. -/
  | seedPsWrite (value : Nat)
  /-- SKEW_CAL (R99): A write of 1 to EPC_SKEW.CAL starts a measurement of the internal FMK receive delay with a TMU.
  -/
  | skewCal
  /-- SKEW_MEASURE_DONE (R100): A skew measurement completes; a new TRIM is kept, or the old one is retained and
  SKEW_CAL is raised. -/
  | skewMeasureDone (result : Option Nat)
  /-- SKEW_TRIM_APPLY (R99): A changed TRIM is applied in one step at a frame boundary with no PSQ running. -/
  | skewTrimApply
  /-- SYNC_EDGE (R102): An assertion on a SYNC lane that passes the filter latches SYNC_CAP, sets INT_STAT.SYNC and,
  in role STOP, requests stops. -/
  | syncEdge (lane : Fin 8) (width : Nat)
  /-- SYNC_PULSE_END (R103): At the end of its pulse time the device releases the SYNC lane. -/
  | syncPulseEnd (lane : Fin 8) (held : Bool)
  /-- GO (R107): A write of PST_COMMIT.GO commits the staged entry to the Piste, or refuses it with a result code. -/
  | go
  /-- CANCEL (R107): A write of PST_COMMIT.CANCEL frees the named stored entry, or reports NOT_FOUND or LATE. -/
  | cancel
  /-- MARK (R104): A Piste MARK entry at its position performs no act and is logged with its ARG. -/
  | mark
  /-- PSQ_START (R111): A Piste PSQ_START entry starts each masked PSQ that passes its start check, with τ0 at the
  position. -/
  | psqStart
  /-- PSQ_STOP (R109): A Piste PSQ_STOP entry delivers a stop request to each masked running PSQ 24 cycles after its
  position. -/
  | psqStop
  /-- QUIET_OPEN (R112): A Piste QUIET_OPEN entry opens the quiet window of each masked bank. -/
  | quietOpen
  /-- QUIET_CLOSE (R112): A Piste QUIET_CLOSE entry closes the quiet window of each masked bank. -/
  | quietClose
  /-- SYNC_PULSE (R104): A Piste SYNC_PULSE entry drives the named lane if its role is STOP or MARKER, or is refused
  ROLE. -/
  | syncPulse
  /-- SUPPLY_GO (R372): A Piste SUPPLY_GO entry starts draining the setpoint queues of the selected channels, or is
  refused if any is fault-held. -/
  | supplyGo
  /-- ACQ_ARM (R411): A Piste ACQ_ARM entry arms a capture descriptor of the bank's ACQ. -/
  | acqArm
  /-- TMU_ARM (R425): A Piste TMU_ARM entry arms the named TMU 32 cycles after its position. -/
  | tmuArm
  /-- MSR_RELEASE (R401): A Piste MSR_RELEASE entry releases a held request group in every bank. -/
  | msrRelease
  /-- REG_WRITE (R105): A Piste REG_WRITE entry writes ARG to a bank or PGV page register in the committing role. -/
  | regWrite
  /-- PISTE_DROP (R110): While the device is in HOLD or FAULT, entries whose position passes are retired DROPPED
  without execution. -/
  | pisteDrop
  /-- PST_LOG_CURSOR_WRITE (R114): A write to PST_LOG_CURSOR takes a snapshot of the execution log. -/
  | pstLogCursorWrite (value : Word)
  /-- PST_LOG_DATA_READ (R114): A read of PST_LOG_DATA returns the word at the cursor and advances it. -/
  | pstLogDataRead
  /-- CONN (R120): A write of PEC_PPMU.CONN requests or ends the PPMU connection, held while the channel is SAFE or
  the PMU holds the pad. -/
  | conn (k : Fin 768) (on : Bool)
  /-- PPMU_CONNECT (R118): 200 ns after the channel's elements disconnect, the PPMU connects to the pad. -/
  | ppmuConnect (k : Fin 768)
  /-- MEASURE_EXIT (R118): 200 ns after the PPMU disconnects, the channel takes up the elements of its new pin state.
  -/
  | measureExit (k : Fin 768)
  /-- IDLE_HOLD (R117): A write of 0 to PEC_CFG.IDLE_HOLD turns off a driver still driving in IDLE within 100 ns. -/
  | idleHold (k : Fin 768) (on : Bool)
  /-- PPMU_COMPLIANCE (R148): The PPMU enters compliance, setting PPMU_OVR and raising PPMU_COMPLIANCE. -/
  | ppmuCompliance (k : Fin 768) (on : Bool)
  /-- REQ (R125): A write to BNK_MODE.REQ requests a bank mode change, evaluated by the Power Governor, stored if the
  bank is gated, or ignored during a transition. -/
  | req (b : Fin 24) (mode : Fin 4)
  /-- MODE_LIMITS_APPLY (R128): 25 µs into a mode transition, the clamp and level limits of the new mode take effect.
  -/
  | modeLimitsApply (b : Fin 24)
  /-- MODE_CAL_APPLY (R128): 35 µs into a mode transition, the calibration selections and deskew of the new mode are
  applied. -/
  | modeCalApply (b : Fin 24) (fails : Word)
  /-- MODE_DONE (R128): At 45 µs BNK_MODE.ACTIVE takes the new mode, TRANSITION becomes 0 and MODE_DONE is set. -/
  | modeDone (b : Fin 24)
  /-- MAP (R140): A write to the symbol-map window stores a map, or is ignored with MAP_BUSY while the site's PSQ
  runs. -/
  | map (k : Fin 768) (w : Fin 128) (value : Word)
  /-- D2D_FRAME (R151): A die-to-die frame of 8 vectors arrives; on a CRC failure the bank masks or drops outcomes,
  counts CRC_ERR and taints the bursts. -/
  | d2dFrame (b : Fin 24) (inbound : Bool) (crcOk : Bool)
  /-- VECTOR_PERIOD (R157): A vector period of a running PSQ begins: the vector is fanned out and each channel
  performs its pin action. -/
  | vectorPeriod (n : Fin 8)
  /-- STALL_RESUME (R217): 16 cycles after the missing item becomes ready, the next vector period of a stalled PSQ
  begins. -/
  | stallResume (n : Fin 8)
  /-- OUTCOME_DELIVERY (R137): A channel's compare outcome reaches the Fail Reduction Engine and condition logic in
  vector order. -/
  | outcomeDelivery (site : Fin 256) (obs : List PinObs)
  /-- PERIOD_WRITE (R160): A write to a PSQ_PERIOD entry is stored, or ignored with PERIOD_BUSY while the PSQ runs. -/
  | periodWrite (n : Fin 8) (t : Fin 256) (value : Word)
  /-- EDGE_WINDOW_WRITE (R179): A write to the edge window, PEC_TS_GROUP or PEC_FIXTURE is stored, or ignored during
  the site's burst. -/
  | edgeWindowWrite (k : Fin 768) (off : Nat) (value : Word)
  /-- DESKEW_APPLY (R166): A pending deskew value takes effect once the channel is no longer ACTIVE. -/
  | deskewApply (k : Fin 768)
  /-- NOP (R192): The NOP instruction does nothing. -/
  | nop (n : Fin 8)
  /-- RUN (R193): RUN emits N_M1 + 1 vectors from VP and advances VP. -/
  | run (n : Fin 8)
  /-- VSET (R194): VSET sets VP to a segment and offset, or faults BAD_SEGMENT. -/
  | vset (n : Fin 8)
  /-- LOOP (R195): LOOP pushes a loop entry with its pass count, VP and VPSAVE. -/
  | loop (n : Fin 8)
  /-- ENDLOOP (R195): ENDLOOP decrements the innermost count and loops back, restoring VP if saved, or pops the entry.
  -/
  | endloop (n : Fin 8)
  /-- JUMP (R197): JUMP evaluates its condition, after the resolution point where needed, and pops LPOP entries and
  jumps if it holds. -/
  | jump (n : Fin 8)
  /-- CALL (R196): CALL pushes the return PC and loop depth and continues at TARGET. -/
  | call (n : Fin 8)
  /-- RET (R196): RET pops the call stack and continues at the return PC. -/
  | ret (n : Fin 8)
  /-- MATCH (R199): MATCH repeats the vector at VP until every active site matches or the iteration limit is reached.
  -/
  | matchVec (n : Fin 8)
  /-- MATCH_END (R199): A MATCH ends at an iteration boundary, writes each site's register and advances VP. -/
  | matchEnd (n : Fin 8)
  /-- PAUSEPT (R213): At a PAUSEPT with a pause request pending, the PSQ holds its pins and enters PAUSED. -/
  | pausept (n : Fin 8)
  /-- EPOCHWAIT (R202): EPOCHWAIT holds or repeats until a target epoch position, or counts a late wait. -/
  | epochwait (n : Fin 8)
  /-- EPOCHWAIT_TARGET (R202): The EPOCHWAIT target is reached and the next vector period begins. -/
  | epochwaitTarget (n : Fin 8)
  /-- RESOLUTION_POINT (R200): The resolution point of a waited-for vector is reached and the waiting condition or
  SITEOP proceeds. -/
  | resolutionPoint (n : Fin 8)
  /-- SUBST (R276): SITEOP SUBST emits vectors from VP with the per-site symbols of a descriptor substituted. -/
  | subst (n : Fin 8)
  /-- ALU (R272): SITEOP ALU performs a per-site register operation on the selected sites. -/
  | alu (n : Fin 8)
  /-- OUTCOME (R270): SITEOP OUTCOME copies LF into SF in the selected sites and optionally clears LF. -/
  | outcome (n : Fin 8)
  /-- STATE (R273): SITEOP STATE masks, unmasks or retires the selected sites from the next vector. -/
  | siteState (n : Fin 8)
  /-- MWAIT (R274): SITEOP MWAIT holds the output until a measurement group's results for this PSQ are delivered. -/
  | mwait (n : Fin 8)
  /-- MWAIT_TIMEOUT (R274): At the MWAIT timeout, the outstanding requests are cancelled, their registers take all
  ones and their sites SF 1. -/
  | mwaitTimeout (n : Fin 8)
  /-- APG (R242): The APG instruction has the APG assemble N_M1 + 1 vectors from a step of its step table. -/
  | apg (n : Fin 8)
  /-- HALT (R209): HALT ends the burst after every earlier vector is applied. -/
  | halt (n : Fin 8)
  /-- MICROWORD (R238): A microword of a customer opcode acts: its load, its vectors, its operations, its function and
  its next-address control. -/
  | microword (n : Fin 8)
  /-- UCNT_LD (R237): The UCNT_LD function loads UCNT with the LDSRC value. -/
  | ucntLd (n : Fin 8)
  /-- APG_LDX (R237): The APG_LDX function loads the X index. -/
  | apgLdx (n : Fin 8)
  /-- APG_LDY (R237): The APG_LDY function loads the Y index. -/
  | apgLdy (n : Fin 8)
  /-- APG_LDD (R237): The APG_LDD0 to APG_LDD3 functions load a data generator. -/
  | apgLdd (n : Fin 8)
  /-- PCN_RD (R255): The PCN_RD function loads UCNT from a performance counter, or zero in the open area without
  USER_EN. -/
  | pcnRd (n : Fin 8)
  /-- LOAD (R204): A write of PSQ_CTRL.LOAD checks and loads or unloads the PSQ's program, including the residency
  check. -/
  | load (n : Fin 8)
  /-- PRELOAD_DONE (R313): The pinned pages of an admitted load are in the cache; LOADED becomes 1 and PRELOAD_DONE is
  set. -/
  | preloadDone (n : Fin 8)
  /-- START (R207): A write of PSQ_CTRL.START begins a start check with τ0 512 cycles later. -/
  | start (n : Fin 8)
  /-- START_CHECK (R208): The start check of a PSQ begins: counts clear, pending records are forced and the start is
  refused for the first failing reason. -/
  | startCheck (n : Fin 8) (source : StartBy)
  /-- FIRST_VECTOR (R207): At τ0 the first vector period of the burst begins and DEVICE_STATE becomes RUN. -/
  | firstVector (n : Fin 8)
  /-- STOP (R210): A write of PSQ_CTRL.STOP requests a stop of the PSQ. -/
  | stop (n : Fin 8)
  /-- BURST_END (R175): The burst ends at a vector boundary by HALT, stop or fault; pending edges complete and
  accumulation closes. -/
  | burstEnd (n : Fin 8)
  /-- PAUSE (R213): A write of PSQ_CTRL.PAUSE sets or releases the host pause request. -/
  | pause (n : Fin 8) (on : Bool)
  /-- PAUSE_RELEASE (R214): When no pause source is pending, the next vector begins 16 cycles later. -/
  | pauseRelease (n : Fin 8)
  /-- PSQ_AJUMP_WRITE (R225): A write to PSQ_AJUMP with VALID makes or replaces an asynchronous jump request. -/
  | psqAjumpWrite (n : Fin 8) (value : Word)
  /-- MCE_LOAD (R249): A write of MCE_LOAD_CTRL.GO unloads the program and starts a microcode image load. -/
  | mceLoad (n : Fin 8)
  /-- MCE_LOAD_DONE (R249): A microcode load completes with LOADED or a refusal code in MCE_LOAD_RESP. -/
  | mceLoadDone (n : Fin 8) (hits : List EccHit)
  /-- STORE_SCAN (R254): Every 100 ms an idle PSQ's control store is read in full and its errors handled. -/
  | storeScan (n : Fin 8) (part : Fin 3) (addr : Nat) (uncorrectable : Option Bool)
  /-- VENDOR_RELOAD (R253): The Steward reloads an invalidated vendor area once the PSQ is not running. -/
  | vendorReload (n : Fin 8)
  /-- APG_SCR_DATA_ACCESS (R243): An access to APG_SCR_DATA reads or writes a scramble entry and advances the index.
  -/
  | apgScrDataAccess (n : Fin 8) (write : Option Word)
  /-- APG_TOPO_DATA_ACCESS (R244): An access to APG_TOPO_DATA reads or writes a topology entry and advances the
  cursor. -/
  | apgTopoDataAccess (n : Fin 8) (write : Option Word)
  /-- PCN_WRAP (R256): A counter with INT wraps, setting its overflow bit and CNT_OVF and recording PCN_SKID. -/
  | pcnWrap (n : Option (Fin 8)) (ctr : Fin 8)
  /-- SFB_BIND (R260): A write of SFB_CMD.GO asks the allocator to bind sites of a template to a PSQ. -/
  | sfbBind
  /-- REL_PSQ (R262): A write of SFB_CMD.REL_PSQ releases every site of a PSQ. -/
  | relPsq
  /-- REL_SITES (R262): A write of SFB_CMD.REL_SITES releases the sites selected in SFB_SEL. -/
  | relSites
  /-- SFB_CMD_COMPLETE (R263): A bind or release completes within 20 µs with its outcome in SFB_RESP. -/
  | sfbCmdComplete
  /-- SITE_REG_WRITE (R267): A host write to a site register is stored, or ignored with SITE_BUSY while the site's PSQ
  runs. -/
  | siteRegWrite (site : Fin 256) (r : Fin 16) (value : Word)
  /-- SITE_STATE_WRITE (R267): A host write to SITE_STATE changes SF and LF when allowed and clears W1C bits. -/
  | siteStateWrite (site : Fin 256) (value : Word)
  /-- MASK (R279): A write of SITE_CTRL.MASK masks or unmasks a site, effective at least 16 cycles later. -/
  | mask (site : Fin 256) (on : Bool)
  /-- RETIRE (R280): A write of 1 to SITE_CTRL.RETIRE retires the site. -/
  | retire (site : Fin 256)
  /-- UNRETIRE (R281): A write of 1 to SITE_CTRL.UNRETIRE ends the site's retirement when its PSQ is not running. -/
  | unretire (site : Fin 256)
  /-- OVL_DATA_ACCESS (R277): An access to OVL_DATA reads or writes 4 overlay bytes and advances the cursor. -/
  | ovlDataAccess (write : Option Word)
  /-- DESCRIPTOR_WRITE (R277): A write to a substitution descriptor is stored, or ignored with OVL_BUSY while its
  owner PSQ runs. -/
  | descriptorWrite (d : Fin 32) (w : Fin 8) (value : Word)
  /-- OVL_DMA (R278): A write of OVL_DMA_CTRL.GO starts copying a Vector Store object into site overlay regions. -/
  | ovlDma
  /-- OVL_DMA_DONE (R278): An OVL DMA completes and reports its outcome in OVL_DMA_RESP. -/
  | ovlDmaDone (hits : List EccHit)
  /-- BAR2_READ (R306): A host BAR2 read returns data, zeros or a poisoned completion according to the window and the
  memory. -/
  | bar2Read (addr : Nat) (len : Nat) (hits : List EccHit)
  /-- BAR2_WRITE (R306): A host BAR2 write is performed, read-modify-written, or discarded. -/
  | bar2Write (addr : Nat) (data : List (Option Byte)) (hits : List EccHit)
  /-- BUCKET_LEAK (R299): Every LEAK_S seconds the correctable-error bucket level falls by one. -/
  | bucketLeak
  /-- VS_CHANNEL_FAIL (R300): A Vector Store channel loses training or four consecutive reads fail, and it is marked
  failed. -/
  | vsChannelFail (c : Fin 8)
  /-- SCRUB_READ (R301): The scrubber reads the next block at its configured rate and handles any error it finds. -/
  | scrubRead (hits : List EccHit)
  /-- VMC_ALLOC (R289): A write of VMC_ALLOC.GO requests an object of a number of granules. -/
  | vmcAlloc (granulesM1 : BitVec 18)
  /-- VMC_FREE (R292): A write of VMC_ALLOC.FREE requests freeing an object. -/
  | vmcFree (granulesM1 : BitVec 18)
  /-- VMC_ALLOC_DONE (R289): An allocation or free completes within 50 µs and reports its outcome in VMC_RESP. -/
  | vmcAllocDone
  /-- MAP_VS (R309): The LFT_CMD MAP_VS command maps a page range onto granules of an object. -/
  | mapVs
  /-- MAP_HOST (R309): The LFT_CMD MAP_HOST command maps a page range onto host memory. -/
  | mapHost
  /-- UNMAP (R309): The LFT_CMD UNMAP command invalidates a page range. -/
  | unmap
  /-- MAP_DONE (R309): A map command completes and LFT_MAP_RESP reports its outcome. -/
  | mapDone
  /-- LFT_STAGE_WRITE (R318): A write to LFT_STAGE names a new staging object and clears PRESENT in every host entry,
  unless refused. -/
  | lftStageWrite (handle : Word)
  /-- LOOKAHEAD_FETCH (R314): The lookahead walker requests the unpinned blocks ahead of the output. -/
  | lookaheadFetch (n : Fin 8)
  /-- CACHE_FILL (R215): A requested block arrives in the vector cache, marked never-written or uncorrectable if so.
  -/
  | cacheFill (n : Fin 8) (block : Nat) (hits : List EccHit) (forward : Option (List Byte))
  /-- HOST_PAGE_FETCH (R316): A host-backed page first needed is staged by DMA from host memory into a staging
  granule. -/
  | hostPageFetch (vpn : Nat)
  /-- HOST_PAGE_STAGED (R316): The whole host page is staged and PRESENT is set, or the fetch failed and is retried or
  marked FAILED. -/
  | hostPageStaged (vpn : Nat) (data : Option (List Byte))
  /-- MARK_DRAIN (R333): An entry of the mark queue is drained into the bitmap by read-modify-write. -/
  | markDrain (n : Fin 8) (bad : Bool)
  /-- BMAP_CLR (R334): A write of FRE_CMD.BMAP_CLR starts clearing the bound sites' bitmaps. -/
  | bmapClr (n : Fin 8)
  /-- BMAP_CLR_DONE (R334): The bitmap clear completes and waiting marks proceed. -/
  | bmapClrDone (n : Fin 8)
  /-- SOLVE_START (R335): After the mark queue drains at the end of a burst, a solver engine starts on the next site.
  -/
  | solveStart (n : Fin 8)
  /-- SOLVE_DONE (R338): A site's solve completes and its solution slot is written. -/
  | solveDone (site : Fin 256) (hits : List EccHit)
  /-- LIM_GO (R342): A write of FRE_CMD.LIM_GO evaluates the limit entries in FRE_LIM_MASK for every bound site. -/
  | limGo (n : Fin 8)
  /-- LIM_DONE (R342): A limit evaluation completes and LIM_DONE is set. -/
  | limDone (n : Fin 8)
  /-- ISSUE (R345): A write of FRE_CMD.ISSUE releases held records after the burst ends. -/
  | issue (n : Fin 8)
  /-- RECORD_ISSUE (R345): A site's pending record is issued: CLOSE entries evaluated, bin selected, record built and
  LIMFAIL cleared. -/
  | recordIssue (n : Fin 8)
  /-- RING_WRITE (R350): The oldest stored record is written to the host ring when there is room, and FRE_HEAD
  advances. -/
  | ringWrite
  /-- TAIL (R350): A write to FRE_TAIL records records consumed, or is ignored with RING_ERR. -/
  | tail (value : Word)
  /-- FFR_CURSOR_WRITE (R64): A write to FRE_FFR_CURSOR or FRE_PIN_CURSOR takes a snapshot of the site's records or
  counters. -/
  | ffrCursorWrite (pins : Bool) (value : Word)
  /-- FFR_DATA_READ (R64): A read of FRE_FFR_DATA or FRE_PIN_DATA returns a word and advances the cursor. -/
  | ffrDataRead (pins : Bool)
  /-- LEVEL_WRITE (R359): A write of a level code applies to the output under the settling and deglitch rules. -/
  | levelWrite (k : Fin 768) (j : Fin 6) (code : Nat)
  /-- DEGLITCH_RELEASE (R358): At the end of a hold the output tracks the code in force. -/
  | deglitchRelease (b : Fin 24) (out : LdeOut)
  /-- DAC_READBACK (R361): Every 10 ms each driven output is compared with its code, and a failure raises DAC_CHECK.
  -/
  | dacReadback (b : Fin 24) (out : LdeOut) (good : Bool)
  /-- DPS_EN (R362): A write of DPS_CTRL.EN enables the channel as a charge-changing write, or disables it. -/
  | dpsEn (u : Fin 72) (on : Bool)
  /-- DPS_READY (R362): The output stage has biased and STAT.READY becomes 1. -/
  | dpsReady (u : Fin 96)
  /-- DPS_CONN (R362): A write of DPS_CTRL.CONN closes or opens the output switch. -/
  | dpsConn (u : Fin 72) (on : Bool)
  /-- DPS_SWITCH_CLOSED (R362): The output switch closes and STAT.CONNECTED becomes 1. -/
  | dpsSwitchClosed (u : Fin 96)
  /-- DPS_V (R363): A write to DPS_V sets the setpoint when the queue is idle, clipped to the range. -/
  | dpsV (u : Fin 72) (code : Nat)
  /-- ILIM (R364): A write to DPS_CLAMP.ILIM sets the current limit, a raise being charge-changing. -/
  | ilim (u : Fin 72) (value : Nat)
  /-- CLAMPED (R364): The load demands more than the limit; the channel regulates current and raises CLAMPED. -/
  | clamped (u : Fin 96) (on : Bool)
  /-- DPS_RANGE (R365): A write to DPS_RANGE.RANGE switches the measure range. -/
  | dpsRange (u : Fin 72) (value : Nat)
  /-- SENSE_LOST (R366): A force-to-sense difference above 300 mV for 10 µs reverts the channel to local sense and
  raises SENSE_OPEN. -/
  | senseLost (u : Fin 72)
  /-- SENSE_RETRY (R366): A write of DPS_CTRL.SENSE_RETRY clears SENSE_LOST and returns to remote sense. -/
  | senseRetry (u : Fin 72)
  /-- DPS_GANG (R367): A write to DPS_GANG.MODE joins or separates channels, or raises GANG_BUSY. -/
  | dpsGang (b : Fin 24) (mode : Fin 4)
  /-- HVC_EN (R373): A write of HVC_CTRL.EN enables the HVC as a charge-changing write, or disables it. -/
  | hvcEn (b : Fin 24) (on : Bool)
  /-- Q_PUSH (R369): A write to DPS_Q_PUSH or HVC_Q_PUSH appends a setpoint entry, or is discarded when full. -/
  | qPush (u : Fin 96) (value : Word)
  /-- Q_GO (R370): A write of Q_CTRL.GO starts draining the queue at the next update tick. -/
  | qGo (u : Fin 96)
  /-- FLUSH (R371): A write of Q_CTRL.FLUSH discards every unissued entry. -/
  | flush (u : Fin 96)
  /-- UPDATE_TICK (R370): At a 1 µs update tick each draining queue issues or applies its entry, or finds itself
  empty. -/
  | updateTick
  /-- RELEASE (R377): A host write of CTRL.RELEASE ends FAULT_HELD on a DPS or HVC. -/
  | release (u : Fin 96)
  /-- PUV_WRITE (R374): An Owner write to a PUV register starts an NVM write of the power-up/fault value. -/
  | puvWrite (u : Fin 96) (value : Word)
  /-- GMN_WIN_WRITE (R379): A write to GMN_WIN sets a monitor's window, or is ignored with WIN_BAD. -/
  | gmnWinWrite (b : Fin 24) (m : Fin 39) (value : Word)
  /-- GMN_CFG_WRITE (R380): A write to GMN_CFG configures a monitor, refusing a ninth FAST monitor. -/
  | gmnCfgWrite (b : Fin 24) (m : Fin 39) (value : Word)
  /-- GUARD_TICK (R381): At each guard tick the sampled monitors are evaluated. -/
  | guardTick (obs : List GuardObs)
  /-- GUARD_CROSSING (R380): A continuous monitor detects its quantity leaving the window. -/
  | guardCrossing (obs : GuardObs)
  /-- GMN_BLANK1 (R384): A write to GMN_BLANK1 blanks the selected monitors for DUR_US. -/
  | gmnBlank1 (b : Fin 24) (value : Word)
  /-- BLANK_END (R383): A blanking window ends and the monitor is evaluated again. -/
  | blankEnd (obs : GuardObs) (scheduled : Bool)
  /-- PMU_EN (R576): A write of PMU_CTRL.EN enables the PMU as a charge-changing write, or disables it. -/
  | pmuEn (b : Fin 24) (on : Bool)
  /-- ACQ_EN (R576): A write of ACQ_CTRL.EN enables the ACQ as a charge-changing write, or disables it. -/
  | acqEn (b : Fin 24) (on : Bool)
  /-- PMU_COMPLIANCE (R393): The PMU enters compliance and raises PMU_COMPLIANCE. -/
  | pmuCompliance (b : Fin 24) (on : Bool)
  /-- MSR_COMMIT (R400): A write of MSR_COMMIT.GO stores the staged measurement request, or refuses it. -/
  | msrCommit (b : Fin 24) (group : BitVec 8)
  /-- MSR_CANCEL (R408): A write of MSR_COMMIT.CANCEL cancels a queued request. -/
  | msrCancel (b : Fin 24) (group : BitVec 8)
  /-- MSR_FLUSH (R408): A write of MSR_COMMIT.FLUSH cancels every queued request of a group. -/
  | msrFlush (b : Fin 24) (group : BitVec 8)
  /-- MSR_REL (R401): A write of MSR_REL releases a request group in this bank or every bank. -/
  | msrRel (b : Fin 24) (group : BitVec 8) (all : Bool)
  /-- MSR_DISPATCH (R403): When the ACQ is free the scheduler dispatches the next item of the chosen eligible request.
  -/
  | msrDispatch (b : Fin 24)
  /-- ITEM_DONE (R404): A measurement item's last sample interval ends, and its result is converted and delivered. -/
  | itemDone (b : Fin 24) (sum : Int) (clipped : Bool) (limited : Bool)
  /-- RES_DATA2_READ (R406): A read of RES_DATA2 returns the tag and removes the oldest result entry. -/
  | resData2Read (b : Fin 24)
  /-- CAP_ARM (R411): A write of ACQ_CAP_CTRL.ARM arms a capture descriptor, or refuses it. -/
  | capArm (b : Fin 24) (desc : BitVec 2)
  /-- CAP_DISARM (R417): A write of ACQ_CAP_CTRL.DISARM ends the capture at once. -/
  | capDisarm (b : Fin 24) (desc : BitVec 2)
  /-- CAPTURE_RESULT (R413): A capture result is written and the trigger is evaluated on it. -/
  | captureResult (b : Fin 24) (sum : Int) (clipped : Bool) (limited : Bool)
  /-- CAP_REARM (R415): After readiness and hold-off the capture re-arms for its next segment. -/
  | capRearm (b : Fin 24)
  /-- SEG_CUR_WRITE (R64): A write to ACQ_SEG_CUR takes a snapshot of the segment entries. -/
  | segCurWrite (b : Fin 24) (value : Word)
  /-- SEG_DATA_READ (R64): A read of ACQ_SEG_DATA returns a word and advances the cursor. -/
  | segDataRead (b : Fin 24)
  /-- TMU_CTRL_ARM (R425): A write of TMU_CTRL.ARM arms the TMU, or refuses it. -/
  | tmuCtrlArm (t : Fin 16) (reserve : Bool)
  /-- DISARM (R426): A write of TMU_CTRL.DISARM returns the TMU to IDLE. -/
  | disarm (t : Fin 16) (reserve : Bool)
  /-- TMU_EDGE (R426): A selected crossbar edge arrives and its time is taken as the start or a stop result. -/
  | tmuEdge (t : Fin 16) (src : BitVec 8) (cycle : Nat) (code : Fin 512)
  /-- TMU_TIMEOUT (R426): The measurement timeout passes and stops without a result take TIMEOUT. -/
  | tmuTimeout (t : Fin 16)
  /-- CAL_GO (R432): A write of TMU_CTRL.CAL_GO runs a code-density calibration of the TMU. -/
  | calGo (t : Fin 16) (reserve : Bool)
  /-- TMU_CAL_DONE (R431): A calibration completes with DONE, UNSTABLE, BIN_BAD or ABORTED. -/
  | tmuCalDone (t : Fin 16) (runs : List (List Nat)) (aborted : Bool)
  /-- TMU_BIN_DATA_READ (R431): A read of TMU_BIN_DATA returns a bin position and advances the bin. -/
  | tmuBinDataRead (t : Fin 16)
  /-- CAL_CTRL_GO (R442): A write of CAL_CTRL.GO makes the records in CAL_BANKS due. -/
  | calCtrlGo
  /-- ABORT (R446): A write of CAL_CTRL.ABORT abandons steps and clears CAL_DUE. -/
  | abort
  /-- CAL_STEP_START (R444): The conductor starts a calibration step on a due bank in a gap when its resources are
  free. -/
  | calStepStart (core : Bool)
  /-- CAL_STEP_DONE (R448): A calibration step's measurements agree or fail, and the adopted corrections are written.
  -/
  | calStepDone (rec : Fin 25) (trims : List TrimMeas) (sel : Option Nat) (slices : List Int)
  /-- CAL_COPY_COMMIT (R450): An NVM write of a calibration copy commits and the next copy is written. -/
  | calCopyCommit (rec : Fin 25) (ok : Bool)
  /-- CAL_AGE_DUE (R442): A record's last run becomes older than MAX_AGE_H and the record becomes due. -/
  | calAgeDue (rec : Fin 25)
  /-- CAL_OVERDUE (R464): A record due for 24 hours without a completed run raises CAL_OVERDUE. -/
  | calOverdue (rec : Fin 25)
  /-- THERMAL_SAMPLE (R453): Every 1 ms each sensor is sampled and regions enter or leave their thermal states. -/
  | thermalSample (readings : List Reading)
  /-- THROTTLE_PHASE (R459): The throttle duty cycle switches between its pending and released parts. -/
  | throttlePhase (region : Fin 5)
  /-- THM_THRESHOLD_WRITE (R454): A write to a thermal threshold or the rate limit is stored, or ignored with THR_BAD.
  -/
  | thmThresholdWrite (off : Nat) (value : Word)
  /-- LOCK (R454): A write of THM_CFG.LOCK fixes the thresholds and rate limit. -/
  | lock (value : Word)
  /-- FE_POWER_RETRY (R463): Every 1 s the Steward retries powering an FE die held unpowered by temperature. -/
  | fePowerRetry (fe : Fin 4)
  /-- GET_VERSION (R468): The SPDM request returns VERSION listing 0x1200. -/
  | getVersion (ses : Option Nat)
  /-- GET_CAPABILITIES (R468): The SPDM request returns CAPABILITIES. -/
  | getCapabilities (ses : Option Nat)
  /-- NEGOTIATE_ALGORITHMS (R469): The SPDM request selects the algorithms. -/
  | negotiateAlgorithms (ses : Option Nat) (offer : AlgSet)
  /-- GET_DIGESTS (R470): The SPDM request returns DIGESTS. -/
  | getDigests (ses : Option Nat)
  /-- GET_CERTIFICATE (R470): The SPDM request returns part of the certificate chain. -/
  | getCertificate (ses : Option Nat) (slot : Nat) (off : Nat) (len : Nat)
  /-- CHALLENGE (R470): The SPDM request returns a signed CHALLENGE_AUTH. -/
  | challenge (ses : Option Nat) (slot : Nat) (transcript : List Byte)
  /-- GET_MEASUREMENTS (R471): The SPDM request returns measurement blocks. -/
  | getMeasurements (ses : Option Nat) (index : BitVec 8) (sign : Bool) (transcript : List Byte)
  /-- KEY_EXCHANGE (R472): The SPDM request starts a session, possibly requesting an Owner session. -/
  | keyExchange (ses : Option Nat) (owner : Option (BitVec 8)) (transcript : List Byte)
  /-- FINISH (R472): The SPDM request completes the handshake, verifying an Owner signature where requested. -/
  | finish (ses : Option Nat) (sig : Option (List Byte)) (message : List Byte)
  /-- END_SESSION (R473): The SPDM request ends a session. -/
  | endSession (ses : Option Nat)
  /-- UNSUPPORTED_REQUEST (R470): An unsupported SPDM request code receives ERROR UnsupportedRequest. -/
  | unsupportedRequest (code : BitVec 8) (ses : Option Nat)
  /-- SESSION_IDLE_TIMEOUT (R473): An Owner session with no secured message for IDLE_S seconds ends. -/
  | sessionIdleTimeout
  /-- GET_NONCE (R475): The SEC_CMD opcode writes a fresh nonce to the data window. -/
  | getNonce (length : BitVec 16)
  /-- TOKEN (R476): The SEC_CMD opcode checks a token and enrolls, revokes or grants the Vendor role. -/
  | token (length : BitVec 16) (nvmOk : Bool)
  /-- END_VENDOR (R478): The SEC_CMD opcode ends the Vendor role. -/
  | endVendor (length : BitVec 16)
  /-- GET_SLOT (R475): The SEC_CMD opcode writes a slot's key and PERMS to the data window. -/
  | getSlot (length : BitVec 16)
  /-- VENDOR_EXPIRY (R478): The Vendor role's LIFE_S expires and the role ends. -/
  | vendorExpiry
  /-- NONCE_EXPIRY (R475): A nonce older than 300 s ceases to be valid. -/
  | nonceExpiry
  /-- BUNDLE_LOAD (R485): A write of SEC_LOAD_CTRL.GO checks and applies a sealed bundle to a PSQ. -/
  | bundleLoad (n : Fin 8)
  /-- BUNDLE_APPLY_DONE (R486): A bundle load completes: sections written, PSQ loaded, counter advanced and SEALED
  set. -/
  | bundleApplyDone (nvmOk : Bool)
  /-- UNLOAD (R489): A write of SEC_LOAD_CTRL.UNLOAD removes the sealed program from its PSQ. -/
  | unload (n : Fin 8)
  /-- OVL_APPLY (R488): A write of SEC_LOAD_CTRL.OVL_APPLY copies the bundle's overlay records into bound sites. -/
  | ovlApply (n : Fin 8)
  /-- DEBUG_WINDOW_READ (R493): A read of the SEC debug window returns decrypted words only to an Owner meeting R480.
  -/
  | debugWindowRead (off : Nat)
  /-- JTAG_PRIVATE (R494): A Kernamal private JTAG instruction is denied unless JTAG_DBG is set. -/
  | jtagPrivate
  /-- PLK_EN (R499): A write of PLK_CFG.EN powers the PLK domain as a charge-changing write, or takes the link down.
  -/
  | plkEn (on : Bool)
  /-- ROLE (R498): A write to PLK_CFG.ROLE sets the Pairs role when the link is OFF, DOWN or REFUSED. -/
  | plkRole (value : Fin 4)
  /-- LINK_TRAINED (R500): Pairs Link training completes or fails and the link enters IDENT or REFUSED. -/
  | linkTrained (ok : Bool)
  /-- IDENT_DONE (R500): Identity exchange completes and its checks pass or refuse the pairing. -/
  | identDone (ident : Option PartnerIdent)
  /-- AUTH_DONE (R501): Authentication establishes the link key and the link becomes PAIRED. -/
  | authDone (auth : Option PartnerAuth)
  /-- RETRAIN (R500): A write of PLK_CTRL.RETRAIN leaves REFUSED or DOWN for TRAINING. -/
  | retrain
  /-- LINK_DOWN_RETRY (R500): 10 ms after the link goes down the Lead starts training again. -/
  | linkDownRetry
  /-- FLIT_RECEIVE (R503): A flit arrives, is checked, acknowledged or discarded pending replay. -/
  | flitReceive (type : FlitType) (seq : BitVec 12) (ack : BitVec 12) (crcOk : Bool) (tagOk : Bool) (epochN : Option (Option Nat))
  /-- FLIT_REPLAY (R503): The sender replays from an unacknowledged flit, and eight replays take the link down. -/
  | flitReplay (seq : BitVec 12)
  /-- MIRROR (R507): A received MIRROR message updates the partner's mirror and copies partner event records. -/
  | mirror (msg : MirrorMsg)
  /-- FEED_REQ (R511): A received feed request is served from this device's Vector Store for a matched PSQ. -/
  | feedReq (n : Fin 8) (block : Nat) (hits : List EccHit)
  /-- FEED_DATA (R513): Received feed data fills the feeding device's vector cache, or completes as a feed error. -/
  | feedData (n : Fin 8) (block : Nat) (got : FeedGot)
  /-- LINK_SILENCE (R504): No flit for 10 µs takes the link down. -/
  | linkSilence
  /-- CHECK (R518): A write of PLK_CTRL.CHECK checks the generation and enters HOLD if stale. -/
  | check
  /-- REFRESH (R519): A write of PLK_CTRL.REFRESH leaves HOLD if the generation now passes. -/
  | refresh
  /-- PLK_MSEL_WRITE (R509): A write to PLK_MSEL selects a mirrored item and takes a snapshot. -/
  | plkMselWrite (value : Word)
  /-- PLK_MDATA_READ (R509): A read of PLK_MDATA returns a mirrored word and advances. -/
  | plkMdataRead
  /-- SPM_GO (R524): A write of SPM_CTRL.GO starts a page transfer on the selected target, or refuses it. -/
  | spmGo
  /-- SPM_ABORT (R526): A write of SPM_CTRL.ABORT ends the transfer at the next word boundary. -/
  | spmAbort (bits : Option Nat)
  /-- SPM_TRANSFER_DONE (R524): A page transfer completes and SPM_RESP reports its outcome. -/
  | spmTransferDone (status : BitVec 8) (rx : List Bool)
  /-- SPM_RETRY_WAIT (R525): After the retry interval the SPM makes a new attempt, or ends NOT_READY. -/
  | spmRetryWait (status : BitVec 8)
  /-- BAR4_READ (R528): A BAR4 read returns flash bytes, or zeros during an erase. -/
  | bar4Read (addr : Nat) (len : Nat)
  /-- BAR4_WRITE (R529): A BAR4 write is programmed into flash page by page, or discarded. -/
  | bar4Write (addr : Nat) (data : List (Option Byte))
  /-- XIP_ERASE (R530): A write of SPM_XIP_CMD.GO erases a flash sector or block. -/
  | xipErase (value : Word)
  /-- XIP_POLL (R530): A status poll of a program or erase finds it complete or times out. -/
  | xipPoll (clear : Bool)
  /-- NVM_WRITE_DONE (R536): An NVM write operation completes, is verified and retried once on failure. -/
  | nvmWriteDone (first : Bool) (retry : Bool)
  /-- OPSEC_TICK (R538): The operating-seconds counter advances by one second. -/
  | opsecTick
  /-- OPSEC_CHECKPOINT (R538): Every 60 s the Steward writes a checkpoint of the operating-seconds counter. -/
  | opsecCheckpoint
  /-- EVR_RECORD_WRITE (R539): The recorder writes a record into the slot chosen by the placement rules. -/
  | evrRecordWrite
  /-- EVR_SUMMARY (R542): When the queue empties after drops, the recorder makes a flood summary record. -/
  | evrSummary
  /-- EVR_CURSOR_HI (R545): A write of EVR_CURSOR_HI loads a snapshot of the first qualifying record. -/
  | evrCursorHi (value : Word)
  /-- EVR_DATA15_READ (R545): A read of EVR_DATA15 returns its word and loads the next qualifying record. -/
  | evrData15Read
  /-- EVR_CLEAR (R546): An Owner write of EVR_CLEAR.GO frees records up to MAXSEV. -/
  | evrClear (value : Word)
  /-- EVR_CLEAR_DONE (R546): The clear completes and a CLEARED record is made. -/
  | evrClearDone
  /-- EVR_WALL (R543): A write of EVR_WALL sets host wall time, marking SETBACK if it goes back. -/
  | evrWall (value : Word)
  /-- RAIL_FAIL (R550): A rail leaving its good window puts DUT-facing balls in high impedance and applies the power-
  on reset. -/
  | railFail (torn : Option (Fin 16384))
  /-- PWR_BANK (R556): A write to PWR_BANK.ON requests bank domains up or down, each changed bit a separate request.
  -/
  | pwrBank (value : Word)
  /-- PWR_CTRL (R557): A write to PWR_CTRL requests a PSQ cluster domain up or down. -/
  | pwrCtrl (value : Word)
  /-- BANK_POWER_UP_DONE (R558): A bank domain completes power-up: shadow applied or discarded, self-check made, GATED
  cleared. -/
  | bankPowerUpDone (b : Fin 24) (fails : Word)
  /-- BANK_POWER_DOWN_DONE (R558): A bank domain completes power-down and its PWR_STAT bit clears. -/
  | bankPowerDownDone (b : Fin 24)
  /-- FE_COMMON_OFF (R555): 50 µs after the last bank of an FE die turns off, its common domain turns off. -/
  | feCommonOff (fe : Fin 4)
  /-- CLUSTER_POWER_UP_DONE (R557): A PSQ cluster domain is on and the Steward loads the vendor microcode. -/
  | clusterPowerUpDone (c : Fin 2)
  /-- MBX_DONE (R67): A mailbox command completes, writing RESULT, clearing BUSY and setting MBX_DONE; for the last
  recovery block this comes up to 30 s after the command. -/
  | mbxDone (programOk : Bool)
  /-- PROG_REGISTER_WRITE (R205): A write to PSQ_PROG, PSQ_PROG_LEN, PSQ_SEGTAB, PSQ_SEGTAB_LEN or PSQ_ENTRY is
  stored, or ignored with PROG_BUSY while running or ACCESS_DENIED while sealed. -/
  | progRegisterWrite (n : Fin 8) (off : Nat) (value : Word)
  /-- APG_REGISTER_WRITE (R247): A write to an APG start value, step entry or mask is stored, or ignored with APG_BUSY
  while the PSQ runs. -/
  | apgRegisterWrite (n : Fin 8) (off : Nat) (value : Word)
  /-- LFT_PIN_WRITE (R312): A write to LFT_PIN sets a pinned range, or is ignored with PIN_BUSY while a program is
  loaded. -/
  | lftPinWrite (n : Fin 8) (r : Fin 8) (value : Word)
  /-- CAP_DESCRIPTOR_WRITE (R418): A write to a capture descriptor or spill register is stored, or ignored with
  CAP_BUSY while a capture holds the ACQ. -/
  | capDescriptorWrite (b : Fin 24) (off : Nat) (value : Word)
  /-- TMU_CONFIG_WRITE (R430): A write to TMU_START, TMU_CFG, TMU_TIMEOUT, TMU_EPOCH or a stop input is stored, or
  ignored with TMU_BUSY while ARMED or RUNNING. -/
  | tmuConfigWrite (t : Fin 16) (off : Nat) (value : Word)
  /-- LIMIT_ENTRY_WRITE (R343): A write to a limit entry is stored, or ignored with FRE_BUSY while the PSQ runs or an
  evaluation runs. -/
  | limitEntryWrite (n : Fin 8) (e : Fin 64) (w : Fin 4) (value : Word)
  /-- HVC_V_WRITE (R373): A write to HVC_V sets the HVC setpoint under the deglitcher, clipped at 15 V, or is ignored
  with Q_BUSY or HELD_WRITE. -/
  | hvcVWrite (b : Fin 24) (code : Nat)
  /-- HVC_CONN_WRITE (R373): A write of HVC_CTRL.CONN closes or opens the HVC output switch. -/
  | hvcConnWrite (b : Fin 24) (on : Bool)
  /-- FEED_MB_WRITE (R512): A write to PLK_CFG.FEED_MB changes the feed capacity, and the feed assignment is made
  again. -/
  | feedMbWrite (value : BitVec 15)
  deriving DecidableEq, Repr

end Sys2Proof
end

