-- ==== Sys2Proof/Config.lean ====
section
/-! DEFINITION. What the spec leaves open: the free values. Every one is an opaque constant, so nothing can evaluate it and no
proof can lean on a value of it. -/

namespace Sys2Proof.Config

/-- A fresh free value: the n-th one a run draws (`State.free` counts them). -/
opaque freeNat : Nat → Nat

/-- What the configuration registers hold that the spec does not give. -/
opaque cfgWord : Nat → Nat

/-- Where the granules reserved for the page table begin, modulo the store's 262,144 granules (R288 does not say). -/
opaque pageTableBase : Nat

/-- SHA-384 of a byte string, as a number. -/
opaque sha384 : List Byte → BitVec 384

/-- The device identity key's ECDSA P-384 signature over a byte string: r, then s. -/
opaque signIdentity : List Byte → BitVec 768

/-- AES-256-GCM of a result record under the key of an Owner slot (R349): the 176 bytes of ciphertext, then IV and TAG. -/
opaque encryptRecord : Nat → List Byte → BitVec 1632

/-- The ECDSA P-384 verification of a signature (r, then s) over a byte string under a public key. -/
opaque verify : (key message signature : List Byte) → Bool

/-- Kernamal's public key, fused in the device. -/
opaque kernamalKey : List Byte

/-- The vendor microcode image the Steward holds (R252). -/
opaque vendorImage : List Word

/-- The factory value of a trim of a calibration record (R450), by record and trim key. -/
opaque factoryTrim : (record key : Nat) → Int

/-- The factory selection of a calibration record, by record and key. -/
opaque factorySel : (record key : Nat) → Nat

/-- The calibrated path delay of a guard event source (R423, R435), by bank. -/
opaque guardDelay : Nat → Int

/-- DEVID (R466), 16 bytes. -/
opaque deviceId : BitVec 128

/-- The device's certificate chain in DER, at most 4,096 bytes. -/
opaque certChain : List Byte

/-- The public key that a DER chain of the Kernamal key service certifies, where the chain reaches the fused root. -/
opaque chainKey : List Byte → Option (List Byte)

/-- CK unwrapped from a wrap entry (R482): BUNDLE_ID, EPUB, WK; none where the unwrap fails. -/
opaque unwrapContent : (bundleId epub wk : List Byte) → Option (List Byte)

/-- AES-256-GCM decryption: none where the tag fails. -/
opaque gcmOpen : (key iv aad cipher tag : List Byte) → Option (List Byte)

/-- Whether the leaf of a chain carries the Kernamal board-maker extension (R533). -/
opaque boardMaker : List Byte → Bool

/-- The SVN of a firmware image whose Kernamal signature and chain verify (R75, R496). -/
opaque fwImageSvn : List Byte → Option Nat

end Sys2Proof.Config
end

