-- ==== Sys2Proof/Machine/RegMap.lean ====
section
/-! DEFINITION. The register map: every page of BAR0 (R44), every register field of the spec's register tables with its
offset, bits, access code and reset value, and the word each register reads as when nothing has written it. -/

namespace Sys2Proof.Machine

/-- The kinds of 4 KiB pages of BAR0 (R44). -/
inductive PageKind where
  | hifId | hifRst | epcSrc | pgv | msixTab | msixPba | epcCtl | pst | tmu | secCtl | secLoad | secDbg | secCnt
  | stw | spm | evr | nvm | thm | cal | gmnSum | plk | sfb | ovl | pcnChip | psq | mce | apg | pcn | mceWin | site
  | vmc | lftG | lft | freG | fre | freSite | bnk | dps | hvc | pmu | acq | gmn | lde | pec
  deriving DecidableEq, Repr

/-- The access codes of R9. -/
inductive Acc where
  | ro | rw | w1c | w1s | wo | rwl | rc
  deriving DecidableEq, Repr

/-- How a field stores a written value that the register tables treat apart. -/
inductive Norm where
  /-- The value itself. -/
  | none
  /-- 0 is stored as 1. -/
  | zeroOne
  /-- The reserved value leaves the field unchanged. -/
  | leave (v : Nat)
  /-- A value above the largest defined one leaves the field unchanged. -/
  | upTo (m : Nat)
  /-- A value outside the bounds is stored as the nearest bound. -/
  | between (lo hi : Nat)
  deriving DecidableEq, Repr

/-- One row of a register table: a field, or an array of fields one stride apart. `own` marks a field whose write is a
row of its own in the opcode table (R9: REGISTER_WRITE is for fields with no behaviour of their own); `need` is the role
the field needs beyond its page's (R11), 0 Operator, 1 Owner, 2 Vendor. -/
structure Fld where
  off : Nat
  stride : Nat
  cnt : Nat
  hi : Nat
  lo : Nat
  acc : Acc
  rst : Nat
  own : Bool
  norm : Norm
  need : Nat
  deriving DecidableEq, Repr

namespace Reg


/-! Page kind `stw`. -/

def STW_CMD_OPCODE : Fld := ⟨0x40, 4, 1, 31, 16, .wo, 0, true, .none, 0⟩
def STW_CMD_LENGTH : Fld := ⟨0x40, 4, 1, 15, 0, .wo, 0, true, .none, 0⟩
def STW_RESP_RESULT : Fld := ⟨0x44, 4, 1, 31, 16, .ro, 0, false, .none, 0⟩
def STW_RESP_BUSY : Fld := ⟨0x44, 4, 1, 0, 0, .ro, 0, false, .none, 0⟩
def STW_WIN_DATA : Fld := ⟨0x800, 4, 512, 31, 0, .rw, 0, false, .none, 0⟩

/-! Page kind `hifId`. -/

def HIF_PART : Fld := ⟨0x40, 4, 1, 31, 16, .ro, 0x7680, false, .none, 0⟩
def HIF_PART_STEPPING : Fld := ⟨0x40, 4, 1, 15, 8, .ro, 0xB0, false, .none, 0⟩
def HIF_PART_PACKAGE : Fld := ⟨0x40, 4, 1, 7, 0, .ro, 0x55, false, .none, 0⟩
def DEVICE_STATE_CAUSE_TYPE : Fld := ⟨0x44, 4, 1, 31, 16, .ro, 0, false, .none, 0⟩
def DEVICE_STATE_CAUSE : Fld := ⟨0x44, 4, 1, 15, 8, .ro, 0, false, .none, 0⟩
def DEVICE_STATE : Fld := ⟨0x44, 4, 1, 2, 0, .ro, 0, false, .none, 0⟩
def HIF_LINK_WIDTH : Fld := ⟨0x48, 4, 1, 15, 8, .ro, 0, false, .none, 0⟩
def HIF_LINK_SPEED : Fld := ⟨0x48, 4, 1, 3, 0, .ro, 0, false, .none, 0⟩
def HIF_BADACC_OVF : Fld := ⟨0x4C, 4, 1, 31, 31, .w1c, 0, false, .none, 0⟩
def HIF_BADACC_COUNT : Fld := ⟨0x4C, 4, 1, 15, 0, .ro, 0, false, .none, 0⟩

/-! Page kind `epcSrc`. -/

def EPC_SRC_FORCE_XTAL : Fld := ⟨0x40, 4, 1, 31, 31, .rw, 0, false, .none, 0⟩
def EPC_SRC_MULT : Fld := ⟨0x40, 4, 1, 7, 3, .rw, 0x10, true, .none, 0⟩
def EPC_SRC_SOURCE : Fld := ⟨0x40, 4, 1, 1, 0, .ro, 0, false, .none, 0⟩
def EPC_SRCSTAT_REF_PRESENT : Fld := ⟨0x44, 4, 1, 31, 31, .ro, 0, false, .none, 0⟩
def EPC_SRCSTAT_FMK_PRESENT : Fld := ⟨0x44, 4, 1, 30, 30, .ro, 0, false, .none, 0⟩
def EPC_SRCSTAT_PLL_LOCK : Fld := ⟨0x44, 4, 1, 29, 29, .ro, 0, false, .none, 0⟩
def EPC_SRCSTAT_XTAL_OK : Fld := ⟨0x44, 4, 1, 28, 28, .ro, 0, false, .none, 0⟩
def EPC_SRCSTAT_OVF : Fld := ⟨0x44, 4, 1, 16, 16, .w1c, 0, false, .none, 0⟩
def EPC_SRCSTAT_SWITCH_COUNT : Fld := ⟨0x44, 4, 1, 15, 0, .ro, 0, false, .none, 0⟩
def EPC_AGE : Fld := ⟨0x48, 4, 1, 19, 0, .rw, 0, false, .none, 0⟩
def EPC_LEARNED : Fld := ⟨0x4C, 4, 1, 31, 0, .ro, 0, false, .none, 0⟩
def EPC_HOLD_HOLD_MAX_MS : Fld := ⟨0x50, 4, 1, 31, 16, .rw, 0x3E8, false, .zeroOne, 0⟩
def EPC_HOLD_ELAPSED_MS : Fld := ⟨0x50, 4, 1, 15, 0, .ro, 0, false, .none, 0⟩

/-! Page kind `epcCtl`. -/

def EPC_FRAME_LEN : Fld := ⟨0x40, 4, 1, 11, 0, .rw, 0x64, true, .none, 0⟩
def EPC_ALIGN_ARM : Fld := ⟨0x44, 4, 1, 31, 31, .wo, 0, true, .none, 0⟩
def EPC_ALIGN_MODE : Fld := ⟨0x44, 4, 1, 0, 0, .rw, 0, false, .none, 0⟩
def EPC_LOAD_F_UPPER : Fld := ⟨0x48, 4, 1, 31, 0, .rw, 0, false, .none, 0⟩
def EPC_NOW_F_LO : Fld := ⟨0x50, 4, 1, 31, 0, .ro, 0, false, .none, 0⟩
def EPC_NOW_P : Fld := ⟨0x54, 4, 1, 31, 16, .ro, 0, false, .none, 0⟩
def EPC_NOW_F_HI : Fld := ⟨0x54, 4, 1, 15, 0, .ro, 0, false, .none, 0⟩
def EPC_STATUS_VALID : Fld := ⟨0x58, 4, 1, 31, 31, .ro, 0, false, .none, 0⟩
def EPC_STATUS_HOLDOVER : Fld := ⟨0x58, 4, 1, 30, 30, .ro, 0, false, .none, 0⟩
def EPC_STATUS_SUSPECT : Fld := ⟨0x58, 4, 1, 29, 29, .ro, 0, false, .none, 0⟩
def EPC_STATUS_F_WRAP : Fld := ⟨0x58, 4, 1, 28, 28, .w1c, 0, false, .none, 0⟩
def EPC_STATUS_N : Fld := ⟨0x58, 4, 1, 15, 0, .ro, 0x640, false, .none, 0⟩
def EPC_MISSED_OVF : Fld := ⟨0x5C, 4, 1, 31, 31, .w1c, 0, false, .none, 0⟩
def EPC_MISSED_BADWIDTH : Fld := ⟨0x5C, 4, 1, 23, 16, .ro, 0, false, .none, 0⟩
def EPC_MISSED_COUNT : Fld := ⟨0x5C, 4, 1, 15, 0, .ro, 0, false, .none, 0⟩
def EPC_REALIGN_STEP : Fld := ⟨0x60, 4, 1, 31, 0, .ro, 0, false, .none, 0⟩
def EPC_SKEW_SEED_SEED_PS : Fld := ⟨0x64, 4, 1, 12, 0, .rw, 0, true, .none, 0⟩
def EPC_SKEW_CAL : Fld := ⟨0x68, 4, 1, 31, 31, .wo, 0, true, .none, 0⟩
def EPC_SKEW_SEED_CLIPPED : Fld := ⟨0x68, 4, 1, 30, 30, .w1c, 0, false, .none, 0⟩
def EPC_SKEW_CAL_BUSY : Fld := ⟨0x68, 4, 1, 29, 29, .ro, 0, false, .none, 0⟩
def EPC_SKEW_TRIM : Fld := ⟨0x68, 4, 1, 23, 0, .ro, 0, false, .none, 0⟩
def SYNC_CFG_PSQ_MASK : Fld := ⟨0x80, 4, 8, 23, 16, .rw, 0, false, .none, 0⟩
def SYNC_CFG_PULSE_W : Fld := ⟨0x80, 4, 8, 15, 8, .rw, 4, false, .zeroOne, 0⟩
def SYNC_CFG_FILTER : Fld := ⟨0x80, 4, 8, 7, 4, .rw, 2, false, .none, 0⟩
def SYNC_CFG_ROLE : Fld := ⟨0x80, 4, 8, 2, 0, .rw, 0, false, .none, 0⟩
def SYNC_CAP_F_LO : Fld := ⟨0xA0, 8, 8, 31, 0, .ro, 0, false, .none, 0⟩
def SYNC_STAT_LEVEL : Fld := ⟨0xE0, 4, 1, 15, 8, .ro, 0, false, .none, 0⟩
def SYNC_STAT_DRIVING : Fld := ⟨0xE0, 4, 1, 7, 0, .ro, 0, false, .none, 0⟩
def SYNC_CAP_P : Fld := ⟨0xA4, 8, 8, 31, 16, .ro, 0, false, .none, 0⟩
def SYNC_CAP_F_HI : Fld := ⟨0xA4, 8, 8, 15, 0, .ro, 0, false, .none, 0⟩

/-! Page kind `pst`. -/

def PST_W : Fld := ⟨0x40, 4, 4, 31, 0, .rw, 0, false, .none, 0⟩
def PST_COMMIT_CANCEL : Fld := ⟨0x50, 4, 1, 1, 1, .wo, 0, true, .none, 0⟩
def PST_COMMIT_GO : Fld := ⟨0x50, 4, 1, 0, 0, .wo, 0, true, .none, 0⟩
def PST_RESP_RESULT : Fld := ⟨0x54, 4, 1, 31, 28, .ro, 0, false, .none, 0⟩
def PST_RESP_HANDLE : Fld := ⟨0x54, 4, 1, 15, 0, .ro, 0, false, .none, 0⟩
def PST_FILL_USED : Fld := ⟨0x58, 4, 1, 12, 0, .ro, 0, false, .none, 0⟩
def PST_NEXT_F_LO : Fld := ⟨0x60, 4, 1, 31, 0, .ro, 0xFFFFFFFF, false, .none, 0⟩
def PST_QUIET_OPEN : Fld := ⟨0x68, 4, 1, 23, 0, .ro, 0, false, .none, 0⟩
def PST_LOG_CURSOR : Fld := ⟨0x70, 4, 1, 31, 0, .rw, 0, true, .none, 0⟩
def PST_LOG_DATA : Fld := ⟨0x74, 4, 1, 31, 0, .ro, 0, false, .none, 0⟩
def PST_NEXT_P : Fld := ⟨0x64, 4, 1, 31, 16, .ro, 0xFFFF, false, .none, 0⟩
def PST_NEXT_F_HI : Fld := ⟨0x64, 4, 1, 15, 0, .ro, 0xFFFF, false, .none, 0⟩

/-! Page kind `bnk`. -/

def BNK_STAT_TRANSITION : Fld := ⟨0x14, 4, 1, 24, 24, .ro, 0, false, .none, 0⟩
def BNK_MODE_TRANSITION : Fld := ⟨0x40, 4, 1, 24, 24, .ro, 0, false, .none, 0⟩
def BNK_MODE_ACTIVE : Fld := ⟨0x40, 4, 1, 17, 16, .ro, 2, false, .none, 0⟩
def BNK_MODE_REQ : Fld := ⟨0x40, 4, 1, 1, 0, .rw, 2, true, .none, 0⟩
def BNK_BOUND : Fld := ⟨0x44, 4, 1, 31, 0, .ro, 0, false, .none, 0⟩
def BNK_SAFE : Fld := ⟨0x48, 4, 1, 31, 0, .ro, 0xFFFFFFFF, false, .none, 0⟩
def BNK_MBUS_BUSY : Fld := ⟨0x4C, 4, 1, 31, 31, .ro, 0, false, .none, 0⟩
def BNK_MBUS_SRC : Fld := ⟨0x4C, 4, 1, 30, 29, .ro, 0, false, .none, 0⟩
def BNK_MBUS_LANE : Fld := ⟨0x4C, 4, 1, 4, 0, .ro, 0, false, .none, 0⟩
def BNK_EVX_EN : Fld := ⟨0x50, 4, 4, 31, 31, .rw, 0, false, .none, 0⟩
def BNK_EVX_SRC : Fld := ⟨0x50, 4, 4, 7, 6, .rw, 0, false, .none, 0⟩
def BNK_EVX_FALL : Fld := ⟨0x50, 4, 4, 5, 5, .rw, 0, false, .none, 0⟩
def BNK_EVX_LANE : Fld := ⟨0x50, 4, 4, 4, 0, .rw, 0, false, .none, 0⟩
def BNK_D2D_OVF : Fld := ⟨0x60, 4, 1, 31, 31, .w1c, 0, false, .none, 0⟩
def BNK_D2D_CRC_ERR : Fld := ⟨0x60, 4, 1, 15, 0, .rw, 0, false, .none, 0⟩
def BNK_CLIP : Fld := ⟨0x64, 4, 1, 31, 0, .ro, 0, false, .none, 0⟩

/-! Page kind `pec`. -/

def PEC_STAT_SEALED : Fld := ⟨0x14, 4, 1, 7, 7, .ro, 0, false, .none, 0⟩
def PEC_STAT_SELFCHK_FAIL : Fld := ⟨0x14, 4, 1, 6, 6, .ro, 0, false, .none, 0⟩
def PEC_STAT_TERM_OFF : Fld := ⟨0x14, 4, 1, 5, 5, .ro, 0, false, .none, 0⟩
def PEC_STAT_THR_INV : Fld := ⟨0x14, 4, 1, 4, 4, .ro, 0, false, .none, 0⟩
def PEC_STAT_PMU_ON : Fld := ⟨0x14, 4, 1, 3, 3, .ro, 0, false, .none, 0⟩
def PEC_STAT_PPMU_ON : Fld := ⟨0x14, 4, 1, 2, 2, .ro, 0, false, .none, 0⟩
def PEC_STAT_PIN_STATE : Fld := ⟨0x14, 4, 1, 1, 0, .ro, 0, false, .none, 0⟩
def PEC_CFG_SUPPRESS_ACT : Fld := ⟨0x40, 4, 1, 11, 11, .rw, 0, false, .none, 0⟩
def PEC_CFG_IDLE_HOLD : Fld := ⟨0x40, 4, 1, 10, 10, .rw, 1, true, .none, 0⟩
def PEC_CFG_TERM_MODE : Fld := ⟨0x40, 4, 1, 9, 8, .rw, 0, false, .upTo 2, 0⟩
def PEC_CFG_CMP_HYST : Fld := ⟨0x40, 4, 1, 7, 6, .rw, 0, false, .leave 3, 0⟩
def PEC_CFG_DRV_SLEW : Fld := ⟨0x40, 4, 1, 5, 4, .rw, 0, false, .leave 3, 0⟩
def PEC_CFG_CLAMP_EN : Fld := ⟨0x40, 4, 1, 3, 3, .rw, 1, false, .none, 0⟩
def PEC_LOAD_ISNK : Fld := ⟨0x44, 4, 1, 27, 16, .rw, 0, false, .between 0 4000, 0⟩
def PEC_LOAD_ISRC : Fld := ⟨0x44, 4, 1, 11, 0, .rw, 0, false, .between 0 4000, 0⟩
def PEC_CLAMP_CLH : Fld := ⟨0x48, 4, 1, 15, 8, .rw, 0xA0, false, .none, 0⟩
def PEC_CLAMP_CLL : Fld := ⟨0x48, 4, 1, 7, 0, .rw, 0xA, false, .none, 0⟩
def PEC_SITE_BOUND : Fld := ⟨0x4C, 4, 1, 31, 31, .ro, 0, false, .none, 0⟩
def PEC_SITE : Fld := ⟨0x4C, 4, 1, 15, 8, .ro, 0, false, .none, 0⟩
def PEC_SITE_SITE_PIN : Fld := ⟨0x4C, 4, 1, 6, 0, .ro, 0, false, .none, 0⟩
def PEC_PPMU_CONN : Fld := ⟨0x50, 4, 1, 31, 31, .rw, 0, true, .none, 0⟩
def PEC_PPMU_MODE : Fld := ⟨0x50, 4, 1, 30, 29, .rw, 0, false, .upTo 2, 0⟩
def PEC_PPMU_RANGE : Fld := ⟨0x50, 4, 1, 26, 24, .rw, 3, false, .upTo 4, 0⟩
def PEC_PPMU_COMPLIANCE : Fld := ⟨0x50, 4, 1, 15, 15, .ro, 0, false, .none, 0⟩
def PEC_PPMU_HELD : Fld := ⟨0x50, 4, 1, 14, 14, .ro, 0, false, .none, 0⟩
def PEC_PPMU_FORCE_VALUE : Fld := ⟨0x54, 4, 1, 19, 0, .rw, 0, false, .none, 0⟩
def PEC_LSTAT_PPMU_CLIP : Fld := ⟨0x58, 4, 1, 8, 8, .ro, 0, false, .none, 0⟩
def PEC_LSTAT_CLAMP_CLIP : Fld := ⟨0x58, 4, 1, 6, 6, .ro, 0, false, .none, 0⟩
def PEC_LSTAT_LVL_CLIP : Fld := ⟨0x58, 4, 1, 5, 0, .ro, 0, false, .none, 0⟩
def PEC_SUPPR_OVF : Fld := ⟨0x5C, 4, 1, 31, 31, .w1c, 0, false, .none, 0⟩
def PEC_SUPPR_COUNT : Fld := ⟨0x5C, 4, 1, 30, 0, .rw, 0, false, .none, 0⟩
def PEC_CMP_LIVE_HI : Fld := ⟨0x60, 4, 1, 1, 1, .ro, 0, false, .none, 0⟩
def PEC_CMP_LIVE_LO : Fld := ⟨0x60, 4, 1, 0, 0, .ro, 0, false, .none, 0⟩
def PEC_MAP : Fld := ⟨0x800, 4, 128, 31, 0, .rw, 0x43104310, true, .none, 0⟩
def PEC_TS_GROUP : Fld := ⟨0x400, 4, 1, 3, 0, .rw, 0, true, .none, 0⟩
def PEC_DESKEW_CMP : Fld := ⟨0x404, 4, 1, 31, 16, .ro, 0, false, .none, 0⟩
def PEC_DESKEW_DRV : Fld := ⟨0x404, 4, 1, 15, 0, .ro, 0, false, .none, 0⟩
def PEC_DESKEW_STAT_PENDING : Fld := ⟨0x408, 4, 1, 31, 31, .ro, 0, false, .none, 0⟩
def PEC_FIXTURE_FIX : Fld := ⟨0x40C, 4, 1, 15, 0, .rw, 0, true, .none, 0⟩
def PEC_TCHK_FAIL : Fld := ⟨0x410, 4, 1, 31, 31, .ro, 0, false, .none, 0⟩
def PEC_TCHK_RULE : Fld := ⟨0x410, 4, 1, 11, 8, .ro, 0, false, .none, 0⟩
def PEC_TCHK_SET : Fld := ⟨0x410, 4, 1, 7, 0, .ro, 0, false, .none, 0⟩
def PEC_TCOLL_DRV_OVF : Fld := ⟨0x414, 4, 1, 31, 31, .w1c, 0, false, .none, 0⟩
def PEC_TCOLL_DRV_COUNT : Fld := ⟨0x414, 4, 1, 30, 0, .rw, 0, false, .none, 0⟩
def PEC_TCOLL_CMP_OVF : Fld := ⟨0x418, 4, 1, 31, 31, .w1c, 0, false, .none, 0⟩
def PEC_TCOLL_CMP_COUNT : Fld := ⟨0x418, 4, 1, 30, 0, .rw, 0, false, .none, 0⟩

/-! Page kind `psq`. -/

def PSQ_CTRL_LOAD : Fld := ⟨0x10, 4, 1, 3, 3, .wo, 0, true, .none, 0⟩
def PSQ_CTRL_PAUSE : Fld := ⟨0x10, 4, 1, 2, 2, .rw, 0, true, .none, 0⟩
def PSQ_CTRL_STOP : Fld := ⟨0x10, 4, 1, 1, 1, .wo, 0, true, .none, 0⟩
def PSQ_CTRL_START : Fld := ⟨0x10, 4, 1, 0, 0, .wo, 0, true, .none, 0⟩
def PSQ_STAT_RUNSTATE : Fld := ⟨0x14, 4, 1, 27, 24, .ro, 0, false, .none, 0⟩
def PSQ_STAT_LW : Fld := ⟨0x14, 4, 1, 23, 22, .ro, 0, false, .none, 0⟩
def PSQ_STAT_BOUND : Fld := ⟨0x14, 4, 1, 21, 21, .ro, 0, false, .none, 0⟩
def PSQ_STAT_LOADED : Fld := ⟨0x14, 4, 1, 20, 20, .ro, 0, false, .none, 0⟩
def PSQ_STAT_SEALED : Fld := ⟨0x14, 4, 1, 19, 19, .ro, 0, false, .none, 0⟩
def PSQ_STAT_TAINTED : Fld := ⟨0x14, 4, 1, 18, 18, .ro, 0, false, .none, 0⟩
def PSQ_STAT_AJ_PEND : Fld := ⟨0x14, 4, 1, 17, 17, .ro, 0, false, .none, 0⟩
def PSQ_STAT_T0_VALID : Fld := ⟨0x14, 4, 1, 16, 16, .ro, 0, false, .none, 0⟩
def PSQ_PROG_VA_LO : Fld := ⟨0x40, 4, 1, 31, 0, .rw, 0, true, .none, 0⟩
def PSQ_PROG_VA_HI : Fld := ⟨0x44, 4, 1, 7, 0, .rw, 0, true, .none, 0⟩
def PSQ_PROG_LEN : Fld := ⟨0x48, 4, 1, 24, 0, .rw, 0, true, .none, 0⟩
def PSQ_ENTRY_PC : Fld := ⟨0x4C, 4, 1, 23, 0, .rw, 0, true, .none, 0⟩
def PSQ_SEGTAB_VA_LO : Fld := ⟨0x50, 4, 1, 31, 0, .rw, 0, true, .none, 0⟩
def PSQ_SEGTAB_VA_HI : Fld := ⟨0x54, 4, 1, 7, 0, .rw, 0, true, .none, 0⟩
def PSQ_SEGTAB_LEN : Fld := ⟨0x58, 4, 1, 12, 0, .rw, 0, true, .none, 0⟩
def PSQ_LOAD_RESP_RESULT : Fld := ⟨0x5C, 4, 1, 31, 28, .ro, 0, false, .none, 0⟩
def PSQ_LOAD_RESP_DETAIL : Fld := ⟨0x5C, 4, 1, 15, 0, .ro, 0, false, .none, 0⟩
def PSQ_START_RESP_RESULT : Fld := ⟨0x60, 4, 1, 31, 28, .ro, 0, false, .none, 0⟩
def PSQ_START_RESP_SOURCE : Fld := ⟨0x60, 4, 1, 27, 24, .ro, 0, false, .none, 0⟩
def PSQ_START_RESP_REASON : Fld := ⟨0x60, 4, 1, 7, 0, .ro, 0, false, .none, 0⟩
def PSQ_PC : Fld := ⟨0x64, 4, 1, 23, 0, .ro, 0, false, .none, 0⟩
def PSQ_VP_SEG_VALID : Fld := ⟨0x68, 4, 1, 31, 31, .ro, 0, false, .none, 0⟩
def PSQ_VP_SEG : Fld := ⟨0x68, 4, 1, 11, 0, .ro, 0, false, .none, 0⟩
def PSQ_VP_OFF : Fld := ⟨0x6C, 4, 1, 31, 0, .ro, 0, false, .none, 0⟩
def PSQ_VCOUNT_LO : Fld := ⟨0x70, 4, 1, 31, 0, .ro, 0, false, .none, 0⟩
def PSQ_VCOUNT_HI : Fld := ⟨0x74, 4, 1, 31, 0, .ro, 0, false, .none, 0⟩
def PSQ_STALLCYC_LO : Fld := ⟨0x78, 4, 1, 31, 0, .ro, 0, false, .none, 0⟩
def PSQ_STALLCYC_HI : Fld := ⟨0x7C, 4, 1, 31, 0, .ro, 0, false, .none, 0⟩
def PSQ_UNDERRUN_OVF : Fld := ⟨0x80, 4, 1, 31, 31, .w1c, 0, false, .none, 0⟩
def PSQ_UNDERRUN_COUNT : Fld := ⟨0x80, 4, 1, 30, 0, .rw, 0, false, .none, 0⟩
def PSQ_STALLS_OVF : Fld := ⟨0x84, 4, 1, 31, 31, .w1c, 0, false, .none, 0⟩
def PSQ_STALLS_COUNT : Fld := ⟨0x84, 4, 1, 30, 0, .rw, 0, false, .none, 0⟩
def PSQ_DECODE_OVF : Fld := ⟨0x88, 4, 1, 31, 31, .w1c, 0, false, .none, 0⟩
def PSQ_DECODE_COUNT : Fld := ⟨0x88, 4, 1, 30, 0, .rw, 0, false, .none, 0⟩
def PSQ_LATEWAIT_OVF : Fld := ⟨0x8C, 4, 1, 31, 31, .w1c, 0, false, .none, 0⟩
def PSQ_LATEWAIT_COUNT : Fld := ⟨0x8C, 4, 1, 30, 0, .rw, 0, false, .none, 0⟩
def PSQ_TAINT : Fld := ⟨0x90, 4, 1, 7, 0, .ro, 0, false, .none, 0⟩
def PSQ_END_CAUSE : Fld := ⟨0x94, 4, 1, 31, 28, .ro, 0, false, .none, 0⟩
def PSQ_END_FAULT : Fld := ⟨0x94, 4, 1, 23, 16, .ro, 0, false, .none, 0⟩
def PSQ_END_LANE : Fld := ⟨0x94, 4, 1, 10, 8, .ro, 0, false, .none, 0⟩
def PSQ_FAULT_PC : Fld := ⟨0x98, 4, 1, 23, 0, .ro, 0, false, .none, 0⟩
def PSQ_AJUMP_VALID : Fld := ⟨0x9C, 4, 1, 31, 31, .rw, 0, true, .none, 0⟩
def PSQ_AJUMP_LPOP : Fld := ⟨0x9C, 4, 1, 27, 24, .rw, 0, true, .none, 0⟩
def PSQ_AJUMP_TARGET : Fld := ⟨0x9C, 4, 1, 23, 0, .rw, 0, true, .none, 0⟩
def PSQ_STOPCFG_DRIVE : Fld := ⟨0xA0, 4, 1, 31, 31, .rw, 0, false, .none, 0⟩
def PSQ_STOPCFG_LANE : Fld := ⟨0xA0, 4, 1, 26, 24, .rw, 0, false, .none, 0⟩
def PSQ_STOPCFG_COND : Fld := ⟨0xA0, 4, 1, 4, 0, .rw, 0, false, .none, 0⟩
def PSQ_PAUSE_STAT_HOST : Fld := ⟨0xA4, 4, 1, 31, 31, .ro, 0, false, .none, 0⟩
def PSQ_PAUSE_STAT_THROTTLE : Fld := ⟨0xA4, 4, 1, 30, 30, .ro, 0, false, .none, 0⟩
def PSQ_PAUSE_STAT_PAIRS : Fld := ⟨0xA4, 4, 1, 29, 29, .ro, 0, false, .none, 0⟩
def PSQ_PAUSE_STAT_LAST_ID : Fld := ⟨0xA4, 4, 1, 15, 0, .ro, 0, false, .none, 0⟩
def PSQ_T0_F_LO : Fld := ⟨0xA8, 4, 1, 31, 0, .ro, 0, false, .none, 0⟩
def PSQ_T0_P : Fld := ⟨0xAC, 4, 1, 31, 16, .ro, 0, false, .none, 0⟩
def PSQ_T0_F_HI : Fld := ⟨0xAC, 4, 1, 15, 0, .ro, 0, false, .none, 0⟩
def PSQ_DEPTH_CALL : Fld := ⟨0xB0, 4, 1, 12, 8, .ro, 0, false, .none, 0⟩
def PSQ_DEPTH_LOOP : Fld := ⟨0xB0, 4, 1, 4, 0, .ro, 0, false, .none, 0⟩
def PSQ_MATCH_ALL : Fld := ⟨0xB4, 4, 1, 31, 31, .ro, 0, false, .none, 0⟩
def PSQ_MATCH_NONE : Fld := ⟨0xB4, 4, 1, 30, 30, .ro, 0, false, .none, 0⟩
def PSQ_MATCH_ITER : Fld := ⟨0xB8, 4, 1, 31, 0, .ro, 0, false, .none, 0⟩
def PSQ_LOOP_VPSAVE : Fld := ⟨0x100, 16, 16, 31, 31, .ro, 0, false, .none, 0⟩
def PSQ_LOOP_START_PC : Fld := ⟨0x100, 16, 16, 23, 0, .ro, 0, false, .none, 0⟩
def PSQ_LOOP_REMAIN_M1 : Fld := ⟨0x104, 16, 16, 31, 0, .ro, 0, false, .none, 0⟩
def PSQ_LOOP_VP_SEG : Fld := ⟨0x108, 16, 16, 11, 0, .ro, 0, false, .none, 0⟩
def PSQ_LOOP_VP_OFF : Fld := ⟨0x10C, 16, 16, 31, 0, .ro, 0, false, .none, 0⟩
def PSQ_CALL_LOOP_DEPTH : Fld := ⟨0x200, 4, 16, 28, 24, .ro, 0, false, .none, 0⟩
def PSQ_CALL_RET_PC : Fld := ⟨0x200, 4, 16, 23, 0, .ro, 0, false, .none, 0⟩
def PSQ_PERIOD_V : Fld := ⟨0x800, 4, 256, 31, 31, .rw, 0, true, .none, 0⟩
def PSQ_PERIOD_PERIOD_M1 : Fld := ⟨0x800, 4, 256, 15, 0, .rw, 0, true, .none, 0⟩

/-! Page kind `mce`. -/

def MCE_STAT_VENDOR_VALID : Fld := ⟨0x14, 4, 1, 27, 27, .ro, 0, false, .none, 0⟩
def MCE_STAT_USER_VALID : Fld := ⟨0x14, 4, 1, 26, 26, .ro, 0, false, .none, 0⟩
def MCE_STAT_LOADING : Fld := ⟨0x14, 4, 1, 25, 25, .ro, 0, false, .none, 0⟩
def MCE_STAT_SEALED : Fld := ⟨0x14, 4, 1, 24, 24, .ro, 0, false, .none, 0⟩
def MCE_LOAD_HANDLE : Fld := ⟨0x40, 4, 1, 31, 0, .rw, 0, false, .none, 0⟩
def MCE_LOAD_OFF : Fld := ⟨0x44, 4, 1, 31, 0, .rw, 0, false, .none, 0⟩
def MCE_LOAD_CTRL_GO : Fld := ⟨0x48, 4, 1, 31, 31, .wo, 0, true, .none, 0⟩
def MCE_LOAD_CTRL_SRC : Fld := ⟨0x48, 4, 1, 1, 0, .rw, 0, false, .none, 0⟩
def MCE_LOAD_RESP_RESULT : Fld := ⟨0x4C, 4, 1, 31, 28, .ro, 0, false, .none, 0⟩
def MCE_LOAD_RESP_DETAIL : Fld := ⟨0x4C, 4, 1, 15, 0, .ro, 0, false, .none, 0⟩
def MCE_WIN_NBANK : Fld := ⟨0x50, 4, 1, 5, 4, .rw, 0, false, .none, 0⟩
def MCE_WIN_UBANK : Fld := ⟨0x50, 4, 1, 1, 0, .rw, 0, false, .none, 0⟩
def MCE_CE_OVF : Fld := ⟨0x54, 4, 1, 31, 31, .w1c, 0, false, .none, 0⟩
def MCE_CE_COUNT : Fld := ⟨0x54, 4, 1, 30, 0, .rw, 0, false, .none, 0⟩
def MCE_UE_VALID : Fld := ⟨0x58, 4, 1, 31, 31, .w1c, 0, false, .none, 0⟩
def MCE_UE_PART : Fld := ⟨0x58, 4, 1, 29, 28, .ro, 0, false, .none, 0⟩
def MCE_UE_ADDR : Fld := ⟨0x58, 4, 1, 13, 0, .ro, 0, false, .none, 0⟩
def MCE_UCNT : Fld := ⟨0x5C, 4, 1, 31, 0, .ro, 0, false, .none, 0⟩
def MCE_OWNER_VALID : Fld := ⟨0x60, 4, 1, 31, 31, .ro, 0, false, .none, 0⟩
def MCE_OWNER_SLOT : Fld := ⟨0x60, 4, 1, 2, 0, .ro, 0, false, .none, 0⟩
def MCE_VDIG : Fld := ⟨0x80, 4, 12, 31, 0, .ro, 0, false, .none, 0⟩
def MCE_UDIG : Fld := ⟨0xC0, 4, 12, 31, 0, .ro, 0, false, .none, 0⟩

/-! Page kind `apg`. -/

def APG_STAT_CARRY_X : Fld := ⟨0x14, 4, 1, 27, 27, .ro, 0, false, .none, 0⟩
def APG_STAT_CARRY_Y : Fld := ⟨0x14, 4, 1, 26, 26, .ro, 0, false, .none, 0⟩
def APG_STAT_SEALED : Fld := ⟨0x14, 4, 1, 25, 25, .ro, 0, false, .none, 0⟩
def APG_STAT_PHASE : Fld := ⟨0x14, 4, 1, 17, 16, .ro, 0, false, .none, 0⟩
def APG_SCR_CUR_INDEX : Fld := ⟨0xE0, 4, 1, 11, 0, .rw, 0, false, .none, 0⟩
def APG_SCR_DATA : Fld := ⟨0xE4, 4, 1, 11, 0, .rw, 0, true, .none, 0⟩
def APG_TOPO_CUR_MAP : Fld := ⟨0xE8, 4, 1, 10, 7, .rw, 0, false, .none, 0⟩
def APG_TOPO_CUR_PIN : Fld := ⟨0xE8, 4, 1, 6, 0, .rw, 0, false, .none, 0⟩
def APG_TOPO_DATA : Fld := ⟨0xEC, 4, 1, 15, 0, .rw, 0, true, .none, 0⟩
def APG_FAULT_CAUSE : Fld := ⟨0xF0, 4, 1, 31, 28, .ro, 0, false, .none, 0⟩
def APG_FAULT_STEP : Fld := ⟨0xF0, 4, 1, 23, 16, .ro, 0, false, .none, 0⟩
def APG_X_BASE : Fld := ⟨0x40, 4, 1, 31, 0, .rw, 0, true, .none, 0⟩
def APG_X_INDEX : Fld := ⟨0x44, 4, 1, 31, 0, .rw, 0, true, .none, 0⟩
def APG_X_LIMIT : Fld := ⟨0x48, 4, 1, 31, 0, .rw, 0xFFFFFFFF, true, .none, 0⟩
def APG_X_INCR : Fld := ⟨0x4C, 4, 1, 31, 0, .rw, 1, true, .none, 0⟩
def APG_Y_BASE : Fld := ⟨0x50, 4, 1, 31, 0, .rw, 0, true, .none, 0⟩
def APG_Y_INDEX : Fld := ⟨0x54, 4, 1, 31, 0, .rw, 0, true, .none, 0⟩
def APG_Y_LIMIT : Fld := ⟨0x58, 4, 1, 31, 0, .rw, 0xFFFFFFFF, true, .none, 0⟩
def APG_Y_INCR : Fld := ⟨0x5C, 4, 1, 31, 0, .rw, 1, true, .none, 0⟩
def APG_D_LO : Fld := ⟨0x60, 32, 4, 31, 0, .rw, 0, true, .none, 0⟩
def APG_D_HI : Fld := ⟨0x64, 32, 4, 31, 0, .rw, 0, true, .none, 0⟩
def APG_SEED_LO : Fld := ⟨0x68, 32, 4, 31, 0, .rw, 0, true, .none, 0⟩
def APG_SEED_HI : Fld := ⟨0x6C, 32, 4, 31, 0, .rw, 0, true, .none, 0⟩
def APG_POLY_LO : Fld := ⟨0x70, 32, 4, 31, 0, .rw, 0, true, .none, 0⟩
def APG_POLY_HI : Fld := ⟨0x74, 32, 4, 31, 0, .rw, 0, true, .none, 0⟩
def APG_XMASK : Fld := ⟨0x78, 32, 4, 31, 0, .rw, 0, true, .none, 0⟩
def APG_YMASK : Fld := ⟨0x7C, 32, 4, 31, 0, .rw, 0, true, .none, 0⟩
def APG_X_NOW : Fld := ⟨0x100, 4, 1, 31, 0, .ro, 0, false, .none, 0⟩
def APG_Y_NOW : Fld := ⟨0x104, 4, 1, 31, 0, .ro, 0, false, .none, 0⟩
def APG_D_NOW_LO : Fld := ⟨0x108, 8, 4, 31, 0, .ro, 0, false, .none, 0⟩
def APG_D_NOW_HI : Fld := ⟨0x10C, 8, 4, 31, 0, .ro, 0, false, .none, 0⟩
def APG_STEP_LO : Fld := ⟨0x800, 8, 256, 31, 0, .rw, 0, true, .none, 0⟩
def APG_STEP_HI : Fld := ⟨0x804, 8, 256, 31, 0, .rw, 0, true, .none, 0⟩

/-! Page kind `pcn`. -/

def PCN_CTRL_USER_EN : Fld := ⟨0x40, 4, 1, 31, 31, .rw, 0, false, .none, 1⟩
def PCN_CTRL_FREEZE : Fld := ⟨0x40, 4, 1, 0, 0, .rw, 0, false, .none, 0⟩
def PCN_OVF_CYCLE : Fld := ⟨0x44, 4, 1, 8, 8, .w1c, 0, false, .none, 0⟩
def PCN_OVF_CNT : Fld := ⟨0x44, 4, 1, 7, 0, .w1c, 0, false, .none, 0⟩
def PCN_SKID_VALID : Fld := ⟨0x48, 4, 1, 31, 31, .w1c, 0, false, .none, 0⟩
def PCN_SKID : Fld := ⟨0x48, 4, 1, 27, 24, .ro, 0, false, .none, 0⟩
def PCN_SKID_PC : Fld := ⟨0x48, 4, 1, 23, 0, .ro, 0, false, .none, 0⟩
def PCN_CFG_EN : Fld := ⟨0x60, 16, 8, 31, 31, .rw, 0, false, .none, 0⟩
def PCN_CFG_INT : Fld := ⟨0x60, 16, 8, 30, 30, .rw, 0, false, .none, 0⟩
def PCN_CFG_RUN_ONLY : Fld := ⟨0x60, 16, 8, 29, 29, .rw, 0, false, .none, 0⟩
def PCN_CFG_EVENT : Fld := ⟨0x60, 16, 8, 7, 0, .rw, 0, false, .none, 0⟩
def PCN_CNT_LO : Fld := ⟨0x64, 16, 8, 31, 0, .rw, 0, false, .none, 0⟩
def PCN_CNT_HI : Fld := ⟨0x68, 16, 8, 15, 0, .rw, 0, false, .none, 0⟩
def PCN_CYCLE_LO : Fld := ⟨0x50, 4, 1, 31, 0, .rw, 0, false, .none, 0⟩
def PCN_CYCLE_HI : Fld := ⟨0x54, 4, 1, 31, 0, .rw, 0, false, .none, 0⟩

/-! Page kind `sfb`. -/

def SFB_REQ_TEMPLATE : Fld := ⟨0x40, 4, 1, 27, 24, .rw, 0, false, .none, 0⟩
def SFB_REQ_PSQ : Fld := ⟨0x40, 4, 1, 22, 20, .rw, 0, false, .none, 0⟩
def SFB_REQ_COUNT : Fld := ⟨0x40, 4, 1, 16, 8, .rw, 0, false, .none, 0⟩
def SFB_REQ_PLACE_FIRST : Fld := ⟨0x40, 4, 1, 7, 0, .rw, 0, false, .none, 0⟩
def SFB_CMD_GO : Fld := ⟨0x44, 4, 1, 31, 31, .wo, 0, true, .none, 0⟩
def SFB_CMD_REL_PSQ : Fld := ⟨0x44, 4, 1, 30, 30, .wo, 0, true, .none, 0⟩
def SFB_CMD_REL_SITES : Fld := ⟨0x44, 4, 1, 29, 29, .wo, 0, true, .none, 0⟩
def SFB_CMD_PSQ : Fld := ⟨0x44, 4, 1, 2, 0, .rw, 0, false, .none, 0⟩
def SFB_RESP_RESULT : Fld := ⟨0x48, 4, 1, 31, 28, .ro, 0, false, .none, 0⟩
def SFB_RESP_REASON : Fld := ⟨0x48, 4, 1, 23, 16, .ro, 0, false, .none, 0⟩
def SFB_RESP_DETAIL : Fld := ⟨0x48, 4, 1, 15, 0, .ro, 0, false, .none, 0⟩
def SFB_SEL : Fld := ⟨0x50, 4, 8, 31, 0, .rw, 0, false, .none, 0⟩
def SFB_BOUND : Fld := ⟨0x70, 4, 8, 31, 0, .ro, 0, false, .none, 0⟩
def SFB_LW_USED : Fld := ⟨0x90, 4, 1, 4, 0, .ro, 0, false, .none, 0⟩
def SFB_TPL_SEL : Fld := ⟨0x94, 4, 1, 3, 0, .rw, 0, false, .none, 0⟩
def SFB_TPL_INFO_VALID : Fld := ⟨0x98, 4, 1, 31, 31, .ro, 0, false, .none, 0⟩
def SFB_TPL_INFO_PINS_M1 : Fld := ⟨0x98, 4, 1, 30, 24, .ro, 0, false, .none, 0⟩
def SFB_TPL_INFO_W_M1 : Fld := ⟨0x98, 4, 1, 23, 22, .ro, 0, false, .none, 0⟩
def SFB_TPL_INFO_NDPS : Fld := ⟨0x98, 4, 1, 21, 19, .ro, 0, false, .none, 0⟩
def SFB_TPL_INFO_HV : Fld := ⟨0x98, 4, 1, 18, 18, .ro, 0, false, .none, 0⟩
def SFB_TPL_INFO_NPLACE : Fld := ⟨0x98, 4, 1, 8, 0, .ro, 0, false, .none, 0⟩
def SFB_ACTIVE : Fld := ⟨0xA0, 4, 8, 31, 0, .ro, 0, false, .none, 0⟩
def SFB_SOFAULT_CAUSE : Fld := ⟨0xC0, 4, 1, 31, 28, .ro, 0, false, .none, 0⟩
def SFB_SOFAULT_PSQ : Fld := ⟨0xC0, 4, 1, 26, 24, .ro, 0, false, .none, 0⟩
def SFB_SOFAULT_PC : Fld := ⟨0xC0, 4, 1, 23, 0, .ro, 0, false, .none, 0⟩

/-! Page kind `ovl`. -/

def OVL_CUR_SITE : Fld := ⟨0x40, 4, 1, 19, 12, .rw, 0, false, .none, 0⟩
def OVL_CUR_BYTE : Fld := ⟨0x40, 4, 1, 11, 0, .rw, 0, false, .none, 0⟩
def OVL_DATA : Fld := ⟨0x44, 4, 1, 31, 0, .rw, 0, true, .none, 0⟩
def OVL_DMA_HANDLE : Fld := ⟨0x48, 4, 1, 31, 0, .rw, 0, false, .none, 0⟩
def OVL_DMA_OFF : Fld := ⟨0x4C, 4, 1, 31, 0, .rw, 0, false, .none, 0⟩
def OVL_DMA_CTRL_GO : Fld := ⟨0x50, 4, 1, 31, 31, .wo, 0, true, .none, 0⟩
def OVL_DMA_CTRL_COUNT_M1 : Fld := ⟨0x50, 4, 1, 15, 8, .rw, 0, false, .none, 0⟩
def OVL_DMA_CTRL_FIRST : Fld := ⟨0x50, 4, 1, 7, 0, .rw, 0, false, .none, 0⟩
def OVL_DMA_RESP_RESULT : Fld := ⟨0x54, 4, 1, 31, 28, .ro, 0, false, .none, 0⟩
def OVL_DMA_RESP_UNWRITTEN : Fld := ⟨0x54, 4, 1, 27, 27, .ro, 0, false, .none, 0⟩
def OVL_DESC_WORD : Fld := ⟨0x100, 4, 256, 31, 0, .rw, 0, true, .none, 0⟩

/-! Page kind `site`. -/

def SITE_CTRL_UNRETIRE : Fld := ⟨0x40, 4, 1, 3, 3, .wo, 0, true, .none, 0⟩
def SITE_CTRL_RETIRE : Fld := ⟨0x40, 4, 1, 2, 2, .w1s, 0, true, .none, 0⟩
def SITE_CTRL_MASK : Fld := ⟨0x40, 4, 1, 0, 0, .rw, 0, true, .none, 0⟩
def SITE_CFG_RETIRE_SUPPLY : Fld := ⟨0x44, 4, 1, 1, 1, .rw, 0, false, .none, 0⟩
def SITE_CFG_RETIRE_ON_FAIL : Fld := ⟨0x44, 4, 1, 0, 0, .rw, 0, false, .none, 0⟩
def SITE_BIND_BOUND : Fld := ⟨0x48, 4, 1, 31, 31, .ro, 0, false, .none, 0⟩
def SITE_BIND_TEMPLATE : Fld := ⟨0x48, 4, 1, 30, 27, .ro, 0, false, .none, 0⟩
def SITE_BIND_PSQ : Fld := ⟨0x48, 4, 1, 26, 24, .ro, 0, false, .none, 0⟩
def SITE_BIND_PLACEMENT : Fld := ⟨0x48, 4, 1, 23, 16, .ro, 0, false, .none, 0⟩
def SITE_BIND_PINS_M1 : Fld := ⟨0x48, 4, 1, 6, 0, .ro, 0, false, .none, 0⟩
def SITE_STATE_ACTIVE : Fld := ⟨0x4C, 4, 1, 31, 31, .ro, 0, false, .none, 0⟩
def SITE_STATE_MASKED : Fld := ⟨0x4C, 4, 1, 30, 30, .ro, 0, false, .none, 0⟩
def SITE_STATE_RETIRED : Fld := ⟨0x4C, 4, 1, 29, 29, .ro, 0, false, .none, 0⟩
def SITE_STATE_CAUSE : Fld := ⟨0x4C, 4, 1, 28, 26, .ro, 0, false, .none, 0⟩
def SITE_STATE_SF : Fld := ⟨0x4C, 4, 1, 25, 25, .rw, 0, true, .none, 0⟩
def SITE_STATE_LF : Fld := ⟨0x4C, 4, 1, 24, 24, .rw, 0, true, .none, 0⟩
def SITE_STATE_CAP_MID : Fld := ⟨0x4C, 4, 1, 23, 23, .w1c, 0, true, .none, 0⟩
def SITE_STATE_OVL_RANGE : Fld := ⟨0x4C, 4, 1, 22, 22, .w1c, 0, true, .none, 0⟩
def SITE_STATE_OVL_SEALED : Fld := ⟨0x4C, 4, 1, 21, 21, .ro, 0, false, .none, 0⟩
def SITE_STATE_REG_SEALED : Fld := ⟨0x4C, 4, 1, 20, 20, .ro, 0, false, .none, 0⟩
def SITE_RETIRE_AT_LO : Fld := ⟨0x50, 4, 1, 31, 0, .ro, 0, false, .none, 0⟩
def SITE_RETIRE_AT_HI : Fld := ⟨0x54, 4, 1, 31, 0, .ro, 0, false, .none, 0⟩
def SITE_S : Fld := ⟨0x60, 4, 16, 31, 0, .rw, 0, true, .none, 0⟩
def SITE_PINMAP_VALID1 : Fld := ⟨0x100, 4, 64, 31, 31, .ro, 0, false, .none, 0⟩
def SITE_PINMAP_PEC1 : Fld := ⟨0x100, 4, 64, 25, 16, .ro, 0, false, .none, 0⟩
def SITE_PINMAP_VALID0 : Fld := ⟨0x100, 4, 64, 15, 15, .ro, 0, false, .none, 0⟩
def SITE_PINMAP_PEC0 : Fld := ⟨0x100, 4, 64, 9, 0, .ro, 0, false, .none, 0⟩
def SITE_SUPPLY_DPS : Fld := ⟨0x200, 4, 1, 31, 0, .ro, 0, false, .none, 0⟩
def SITE_SUPPLY_HVC : Fld := ⟨0x204, 4, 1, 7, 0, .ro, 0, false, .none, 0⟩

/-! Page kind `vmc`. -/

def VMC_STAT_SCRUB_ACTIVE : Fld := ⟨0x14, 4, 1, 27, 27, .ro, 0, false, .none, 0⟩
def VMC_STAT_SCRUB_DEFERRED : Fld := ⟨0x14, 4, 1, 26, 26, .ro, 0, false, .none, 0⟩
def VMC_STAT_CH_FAIL : Fld := ⟨0x14, 4, 1, 23, 16, .ro, 0, false, .none, 0⟩
def VMC_ALLOC_GO : Fld := ⟨0x40, 4, 1, 31, 31, .wo, 0, true, .none, 0⟩
def VMC_ALLOC_FREE : Fld := ⟨0x40, 4, 1, 30, 30, .wo, 0, true, .none, 0⟩
def VMC_ALLOC_GRANULES_M1 : Fld := ⟨0x40, 4, 1, 17, 0, .rw, 0, false, .none, 0⟩
def VMC_FREE_HANDLE : Fld := ⟨0x44, 4, 1, 31, 0, .rw, 0, false, .none, 0⟩
def VMC_RESP_RESULT : Fld := ⟨0x48, 4, 1, 31, 28, .ro, 0, false, .none, 0⟩
def VMC_HANDLE : Fld := ⟨0x4C, 4, 1, 31, 0, .ro, 0, false, .none, 0⟩
def VMC_FREEGR_FREE : Fld := ⟨0x50, 4, 1, 18, 0, .ro, 0x3F800, false, .none, 0⟩
def VMC_OBJ_SEL_HANDLE : Fld := ⟨0x54, 4, 1, 31, 0, .rw, 0, false, .none, 0⟩
def VMC_OBJ_INFO_VALID : Fld := ⟨0x58, 4, 1, 31, 31, .ro, 0, false, .none, 0⟩
def VMC_OBJ_INFO_KIND : Fld := ⟨0x58, 4, 1, 30, 29, .ro, 0, false, .none, 0⟩
def VMC_OBJ_INFO_BUSY : Fld := ⟨0x58, 4, 1, 28, 28, .ro, 0, false, .none, 0⟩
def VMC_OBJ_INFO_GRANULES_M1 : Fld := ⟨0x58, 4, 1, 17, 0, .ro, 0, false, .none, 0⟩
def VMC_CE_OVF : Fld := ⟨0x5C, 4, 1, 31, 31, .w1c, 0, false, .none, 0⟩
def VMC_CE_COUNT : Fld := ⟨0x5C, 4, 1, 30, 0, .rw, 0, false, .none, 0⟩
def VMC_BUCKET_DEPTH : Fld := ⟨0x60, 4, 1, 31, 24, .rw, 0x20, false, .zeroOne, 0⟩
def VMC_BUCKET_LEAK_S : Fld := ⟨0x60, 4, 1, 23, 16, .rw, 1, false, .zeroOne, 0⟩
def VMC_BUCKET_LEVEL : Fld := ⟨0x60, 4, 1, 7, 0, .ro, 0, false, .none, 0⟩
def VMC_UE_OVF : Fld := ⟨0x64, 4, 1, 31, 31, .w1c, 0, false, .none, 0⟩
def VMC_UE_COUNT : Fld := ⟨0x64, 4, 1, 30, 0, .rw, 0, false, .none, 0⟩
def VMC_POISON_OVF : Fld := ⟨0x68, 4, 1, 31, 31, .w1c, 0, false, .none, 0⟩
def VMC_POISON_COUNT : Fld := ⟨0x68, 4, 1, 30, 0, .rw, 0, false, .none, 0⟩
def VMC_UE_LOC_HANDLE : Fld := ⟨0x6C, 4, 1, 31, 0, .ro, 0, false, .none, 0⟩
def VMC_UE_LOC_SCRUB : Fld := ⟨0x70, 4, 1, 31, 31, .ro, 0, false, .none, 0⟩
def VMC_UE_LOC_WORD : Fld := ⟨0x70, 4, 1, 30, 0, .ro, 0, false, .none, 0⟩
def VMC_RMW_FAIL_OVF : Fld := ⟨0x74, 4, 1, 31, 31, .w1c, 0, false, .none, 0⟩
def VMC_RMW_FAIL_COUNT : Fld := ⟨0x74, 4, 1, 30, 0, .rw, 0, false, .none, 0⟩
def VMC_UNWR_OVF : Fld := ⟨0x78, 4, 1, 31, 31, .w1c, 0, false, .none, 0⟩
def VMC_UNWR_COUNT : Fld := ⟨0x78, 4, 1, 30, 0, .rw, 0, false, .none, 0⟩
def VMC_BAR2_DISC_OVF : Fld := ⟨0x7C, 4, 1, 31, 31, .w1c, 0, false, .none, 0⟩
def VMC_BAR2_DISC_COUNT : Fld := ⟨0x7C, 4, 1, 30, 0, .rw, 0, false, .none, 0⟩
def VMC_SCRUB_CFG_EN : Fld := ⟨0x80, 4, 1, 31, 31, .rw, 1, false, .none, 0⟩
def VMC_SCRUB_CFG_PASS_H : Fld := ⟨0x80, 4, 1, 15, 0, .rw, 0x18, false, .zeroOne, 0⟩
def VMC_SCRUB_POS_BLOCK : Fld := ⟨0x84, 4, 1, 27, 0, .ro, 0, false, .none, 0⟩
def VMC_SCRUB_PASSES_OVF : Fld := ⟨0x88, 4, 1, 31, 31, .w1c, 0, false, .none, 0⟩
def VMC_SCRUB_PASSES_COUNT : Fld := ⟨0x88, 4, 1, 30, 0, .ro, 0, false, .none, 0⟩
def VMC_WIN_KIND : Fld := ⟨0x100, 16, 4, 31, 30, .rw, 0, false, .none, 0⟩
def VMC_WIN_BANK : Fld := ⟨0x100, 16, 4, 4, 0, .rw, 0, false, .none, 0⟩
def VMC_WIN_HANDLE : Fld := ⟨0x104, 16, 4, 31, 0, .rw, 0, false, .none, 0⟩
def VMC_WIN_BASE_GR : Fld := ⟨0x108, 16, 4, 17, 0, .rw, 0, false, .none, 0⟩

/-! Page kind `lftG`. -/

def LFT_MAP_VPN : Fld := ⟨0x40, 4, 1, 23, 0, .rw, 0, false, .none, 0⟩
def LFT_MAP_COUNT_COUNT_M1 : Fld := ⟨0x44, 4, 1, 23, 0, .rw, 0, false, .none, 0⟩
def LFT_MAP_HANDLE : Fld := ⟨0x48, 4, 1, 31, 0, .rw, 0, false, .none, 0⟩
def LFT_MAP_GROFF : Fld := ⟨0x4C, 4, 1, 17, 0, .rw, 0, false, .none, 0⟩
def LFT_MAP_HADDR_ADDR_LO : Fld := ⟨0x50, 4, 1, 31, 0, .rw, 0, false, .none, 0⟩
def LFT_MAP_HADDR_ADDR_HI : Fld := ⟨0x54, 4, 1, 19, 0, .rw, 0, false, .none, 0⟩
def LFT_CMD_MAP_VS : Fld := ⟨0x58, 4, 1, 31, 31, .wo, 0, true, .none, 0⟩
def LFT_CMD_MAP_HOST : Fld := ⟨0x58, 4, 1, 30, 30, .wo, 0, true, .none, 0⟩
def LFT_CMD_UNMAP : Fld := ⟨0x58, 4, 1, 29, 29, .wo, 0, true, .none, 0⟩
def LFT_MAP_RESP_RESULT : Fld := ⟨0x5C, 4, 1, 31, 28, .ro, 0, false, .none, 0⟩
def LFT_MAP_RESP_DETAIL : Fld := ⟨0x5C, 4, 1, 23, 0, .ro, 0, false, .none, 0⟩
def LFT_HOSTCFG_BW_MBPS : Fld := ⟨0x60, 4, 1, 31, 16, .rw, 0x6590, false, .none, 0⟩
def LFT_HOSTCFG_RETRY : Fld := ⟨0x60, 4, 1, 3, 0, .rw, 2, false, .none, 0⟩
def LFT_STAGE_HANDLE : Fld := ⟨0x64, 4, 1, 31, 0, .rw, 0, true, .none, 0⟩
def LFT_ADMITTED_SUM_MB : Fld := ⟨0x68, 4, 1, 18, 0, .ro, 0, false, .none, 0⟩
def LFT_HADMITTED_SUM_MB : Fld := ⟨0x6C, 4, 1, 16, 0, .ro, 0, false, .none, 0⟩
def LFT_HOSTERR_OVF : Fld := ⟨0x70, 4, 1, 31, 31, .w1c, 0, false, .none, 0⟩
def LFT_HOSTERR_COUNT : Fld := ⟨0x70, 4, 1, 30, 0, .rw, 0, false, .none, 0⟩
def LFT_PTE_SEL_VPN : Fld := ⟨0x74, 4, 1, 23, 0, .rw, 0, false, .none, 0⟩
def LFT_PTE_LO : Fld := ⟨0x78, 4, 1, 31, 0, .ro, 0, false, .none, 0⟩
def LFT_PTE_HI : Fld := ⟨0x7C, 4, 1, 31, 0, .ro, 0, false, .none, 0⟩

/-! Page kind `lft`. -/

def LFT_PIN_EN : Fld := ⟨0x40, 4, 8, 31, 31, .rw, 0, true, .none, 0⟩
def LFT_PIN_COUNT_M1 : Fld := ⟨0x40, 4, 8, 29, 24, .rw, 0, true, .none, 0⟩
def LFT_PIN_VPN : Fld := ⟨0x40, 4, 8, 23, 0, .rw, 0, true, .none, 0⟩
def LFT_RESID_RESULT : Fld := ⟨0x60, 4, 1, 31, 28, .ro, 0, false, .none, 0⟩
def LFT_RESID_MODE : Fld := ⟨0x60, 4, 1, 27, 26, .ro, 0, false, .none, 0⟩
def LFT_RESID_SOURCE : Fld := ⟨0x60, 4, 1, 25, 24, .ro, 0, false, .none, 0⟩
def LFT_RESID_DETAIL : Fld := ⟨0x60, 4, 1, 23, 0, .ro, 0, false, .none, 0⟩
def LFT_NEED_NEED_MB : Fld := ⟨0x64, 4, 1, 18, 0, .ro, 0, false, .none, 0⟩
def LFT_HNEED_NEED_MB : Fld := ⟨0x68, 4, 1, 16, 0, .ro, 0, false, .none, 0⟩
def LFT_AVAIL_AVAIL_MB : Fld := ⟨0x6C, 4, 1, 18, 0, .ro, 0x61A80, false, .none, 0⟩
def LFT_PINNED_PAGES : Fld := ⟨0x70, 4, 1, 5, 0, .ro, 0, false, .none, 0⟩
def LFT_LA_DEPTH : Fld := ⟨0x74, 4, 1, 13, 0, .rw, 0x2000, false, .between 1 12288, 0⟩
def LFT_MISS_OVF : Fld := ⟨0x78, 4, 1, 31, 31, .w1c, 0, false, .none, 0⟩
def LFT_MISS_COUNT : Fld := ⟨0x78, 4, 1, 30, 0, .rw, 0, false, .none, 0⟩
def LFT_MISS_MAX_NS : Fld := ⟨0x7C, 4, 1, 31, 0, .rc, 0, false, .none, 0⟩

/-! Page kind `freG`. -/

def FRE_RING_LO_BASE_LO : Fld := ⟨0x40, 4, 1, 31, 12, .rw, 0, false, .none, 0⟩
def FRE_RING_HI_BASE_HI : Fld := ⟨0x44, 4, 1, 19, 0, .rw, 0, false, .none, 0⟩
def FRE_RING_CFG_EN : Fld := ⟨0x48, 4, 1, 31, 31, .rw, 0, false, .none, 0⟩
def FRE_RING_CFG_SIZE_LOG2 : Fld := ⟨0x48, 4, 1, 4, 0, .rw, 0xA, false, .between 4 16, 0⟩
def FRE_HEAD : Fld := ⟨0x4C, 4, 1, 31, 0, .ro, 0, false, .none, 0⟩
def FRE_TAIL : Fld := ⟨0x50, 4, 1, 31, 0, .rw, 0, true, .none, 0⟩
def FRE_STORE_PENDING : Fld := ⟨0x54, 4, 1, 10, 0, .ro, 0, false, .none, 0⟩
def FRE_LOST_OVF : Fld := ⟨0x58, 4, 1, 31, 31, .w1c, 0, false, .none, 0⟩
def FRE_LOST_COUNT : Fld := ⟨0x58, 4, 1, 30, 0, .rw, 0, false, .none, 0⟩
def FRE_SEQ_LO : Fld := ⟨0x5C, 4, 1, 31, 0, .ro, 0, false, .none, 0⟩
def FRE_SEQ_HI : Fld := ⟨0x60, 4, 1, 15, 0, .ro, 0, false, .none, 0⟩

/-! Page kind `fre`. -/

def FRE_CFG_BMAP_EN : Fld := ⟨0x40, 4, 1, 31, 31, .rw, 0, false, .none, 0⟩
def FRE_CFG_REPAIR_EN : Fld := ⟨0x40, 4, 1, 30, 30, .rw, 0, false, .none, 0⟩
def FRE_CFG_HOLD_ISSUE : Fld := ⟨0x40, 4, 1, 29, 29, .rw, 0, false, .none, 0⟩
def FRE_CFG_ENC : Fld := ⟨0x40, 4, 1, 28, 28, .ro, 0, false, .none, 0⟩
def FRE_CFG_ENC_SLOT : Fld := ⟨0x40, 4, 1, 27, 25, .ro, 0, false, .none, 0⟩
def FRE_CFG_DBITS : Fld := ⟨0x40, 4, 1, 22, 20, .rw, 0, false, .none, 0⟩
def FRE_CFG_YBITS : Fld := ⟨0x40, 4, 1, 17, 12, .rw, 0, false, .none, 0⟩
def FRE_CFG_XBITS : Fld := ⟨0x40, 4, 1, 5, 0, .rw, 0, false, .none, 0⟩
def FRE_REPAIR_NSR : Fld := ⟨0x44, 4, 1, 30, 24, .rw, 0, false, .none, 0⟩
def FRE_REPAIR_NSC : Fld := ⟨0x44, 4, 1, 22, 16, .rw, 0, false, .none, 0⟩
def FRE_REPAIR_RCOLS_LOG2 : Fld := ⟨0x44, 4, 1, 13, 8, .rw, 0, false, .none, 0⟩
def FRE_REPAIR_RROWS_LOG2 : Fld := ⟨0x44, 4, 1, 5, 0, .rw, 0, false, .none, 0⟩
def FRE_NODES_NODE_LOG2 : Fld := ⟨0x48, 4, 1, 4, 0, .rw, 0x14, false, .between 10 24, 0⟩
def FRE_SOL_HANDLE : Fld := ⟨0x4C, 4, 1, 31, 0, .rw, 0, false, .none, 0⟩
def FRE_SOL_OFF : Fld := ⟨0x50, 4, 1, 31, 14, .rw, 0, false, .none, 0⟩
def FRE_CMD_ISSUE : Fld := ⟨0x54, 4, 1, 31, 31, .wo, 0, true, .none, 0⟩
def FRE_CMD_BMAP_CLR : Fld := ⟨0x54, 4, 1, 30, 30, .wo, 0, true, .none, 0⟩
def FRE_CMD_LIM_GO : Fld := ⟨0x54, 4, 1, 29, 29, .wo, 0, true, .none, 0⟩
def FRE_LIM_MASK_LO : Fld := ⟨0x58, 4, 1, 31, 0, .rw, 0, false, .none, 0⟩
def FRE_LIM_MASK_HI : Fld := ⟨0x5C, 4, 1, 31, 0, .rw, 0, false, .none, 0⟩
def FRE_STATE_PHASE : Fld := ⟨0x60, 4, 1, 31, 28, .ro, 0, false, .none, 0⟩
def FRE_STATE_SOLVES_LEFT : Fld := ⟨0x60, 4, 1, 8, 0, .ro, 0, false, .none, 0⟩
def FRE_BURST : Fld := ⟨0x64, 4, 1, 31, 0, .ro, 0, false, .none, 0⟩
def FRE_NONCE : Fld := ⟨0x80, 4, 8, 31, 0, .rw, 0, false, .none, 0⟩
def FRE_DMAP : Fld := ⟨0x100, 4, 32, 31, 0, .rw, 0, false, .none, 0⟩
def FRE_BIN_REPAIR : Fld := ⟨0x68, 4, 1, 31, 16, .rw, 0, false, .none, 0⟩
def FRE_BIN_PASS : Fld := ⟨0x68, 4, 1, 15, 0, .rw, 0, false, .none, 0⟩
def FRE_BIN_UNREP : Fld := ⟨0x6C, 4, 1, 31, 16, .rw, 0, false, .none, 0⟩
def FRE_BIN_FAIL : Fld := ⟨0x6C, 4, 1, 15, 0, .rw, 0, false, .none, 0⟩
def FRE_BIN_RETIRE : Fld := ⟨0x70, 4, 1, 31, 16, .rw, 0, false, .none, 0⟩
def FRE_BIN_ABORT : Fld := ⟨0x70, 4, 1, 15, 0, .rw, 0, false, .none, 0⟩
def FRE_LIMIT_WORD : Fld := ⟨0x400, 4, 256, 31, 0, .rw, 0, true, .none, 0⟩

/-! Page kind `freSite`. -/

def FRE_SITE_SEL_SITE : Fld := ⟨0x40, 4, 1, 7, 0, .rw, 0, false, .none, 0⟩
def FRE_S_STAT_PENDING : Fld := ⟨0x44, 4, 1, 31, 31, .ro, 0, false, .none, 0⟩
def FRE_S_STAT_PASS : Fld := ⟨0x44, 4, 1, 30, 30, .ro, 0, false, .none, 0⟩
def FRE_S_STAT_NONREP : Fld := ⟨0x44, 4, 1, 29, 29, .ro, 0, false, .none, 0⟩
def FRE_S_STAT_MATCH_TO : Fld := ⟨0x44, 4, 1, 28, 28, .ro, 0, false, .none, 0⟩
def FRE_S_STAT_RSTAT : Fld := ⟨0x44, 4, 1, 27, 24, .ro, 0, false, .none, 0⟩
def FRE_S_STAT_RREASON : Fld := ⟨0x44, 4, 1, 23, 20, .ro, 0, false, .none, 0⟩
def FRE_S_STAT_TAINT : Fld := ⟨0x44, 4, 1, 15, 8, .ro, 0, false, .none, 0⟩
def FRE_S_FAILS_LO : Fld := ⟨0x48, 4, 1, 31, 0, .ro, 0, false, .none, 0⟩
def FRE_S_FAILS_HI : Fld := ⟨0x4C, 4, 1, 15, 0, .ro, 0, false, .none, 0⟩
def FRE_S_CMP_LO : Fld := ⟨0x50, 4, 1, 31, 0, .ro, 0, false, .none, 0⟩
def FRE_S_CMP_HI : Fld := ⟨0x54, 4, 1, 15, 0, .ro, 0, false, .none, 0⟩
def FRE_S_FFR_COUNT : Fld := ⟨0x58, 4, 1, 6, 0, .ro, 0, false, .none, 0⟩
def FRE_S_BMAP_HANDLE : Fld := ⟨0x5C, 4, 1, 31, 0, .rw, 0, false, .none, 0⟩
def FRE_S_BMAP_OFF : Fld := ⟨0x60, 4, 1, 31, 0, .rw, 0, false, .none, 0⟩
def FRE_S_BMAP_LOST_COUNT : Fld := ⟨0x64, 4, 1, 31, 0, .ro, 0, false, .none, 0⟩
def FRE_S_LIMFAIL_LO : Fld := ⟨0x68, 4, 1, 31, 0, .ro, 0, false, .none, 0⟩
def FRE_S_LIMFAIL_HI : Fld := ⟨0x6C, 4, 1, 31, 0, .ro, 0, false, .none, 0⟩
def FRE_S_BIN : Fld := ⟨0x70, 4, 1, 15, 0, .ro, 0, false, .none, 0⟩
def FRE_FFR_CURSOR_ENTRY : Fld := ⟨0x74, 4, 1, 9, 4, .rw, 0, true, .none, 0⟩
def FRE_FFR_CURSOR_WORD : Fld := ⟨0x74, 4, 1, 3, 0, .rw, 0, true, .none, 0⟩
def FRE_FFR_DATA : Fld := ⟨0x78, 4, 1, 31, 0, .ro, 0, false, .none, 0⟩
def FRE_PIN_CURSOR_PIN : Fld := ⟨0x7C, 4, 1, 7, 1, .rw, 0, true, .none, 0⟩
def FRE_PIN_CURSOR_WORD : Fld := ⟨0x7C, 4, 1, 0, 0, .rw, 0, true, .none, 0⟩
def FRE_PIN_DATA : Fld := ⟨0x80, 4, 1, 31, 0, .ro, 0, false, .none, 0⟩

/-! Page kind `lde`. -/

def LDE_STAT_RANGE : Fld := ⟨0x14, 4, 1, 27, 27, .ro, 1, false, .none, 0⟩
def LDE_STAT_HOLDING : Fld := ⟨0x14, 4, 1, 26, 26, .ro, 0, false, .none, 0⟩
def LDE_DGL_HOLD : Fld := ⟨0x40, 4, 1, 7, 0, .rw, 8, false, .zeroOne, 0⟩
def LDE_DGL_COUNT_OVF : Fld := ⟨0x44, 4, 1, 31, 31, .w1c, 0, false, .none, 0⟩
def LDE_DGL_COUNT : Fld := ⟨0x44, 4, 1, 30, 0, .rw, 0, false, .none, 0⟩
def LDE_CHECK_VALID : Fld := ⟨0x48, 4, 1, 31, 31, .w1c, 0, false, .none, 0⟩
def LDE_CHECK_SRC : Fld := ⟨0x48, 4, 1, 15, 12, .ro, 0, false, .none, 0⟩
def LDE_CHECK_LANE : Fld := ⟨0x48, 4, 1, 4, 0, .ro, 0, false, .none, 0⟩
def LDE_SEALED : Fld := ⟨0x4C, 4, 1, 31, 0, .ro, 0, false, .none, 0⟩
def LDE_LVL0 : Fld := ⟨0x100, 32, 32, 19, 0, .rw, 0x3C3C4, true, .none, 0⟩
def LDE_LVL1 : Fld := ⟨0x104, 32, 32, 19, 0, .rw, 0x3C3C4, true, .none, 0⟩
def LDE_LVL2 : Fld := ⟨0x108, 32, 32, 19, 0, .rw, 0x3C3C4, true, .none, 0⟩
def LDE_LVL3 : Fld := ⟨0x10C, 32, 32, 19, 0, .rw, 0x3C3C4, true, .none, 0⟩
def LDE_LVL4 : Fld := ⟨0x110, 32, 32, 19, 0, .rw, 0x3C3C4, true, .none, 0⟩
def LDE_LVL5 : Fld := ⟨0x114, 32, 32, 19, 0, .rw, 0x3C3C4, true, .none, 0⟩

/-! Page kind `dps`. -/

def DPS_STAT_READY : Fld := ⟨0x14, 4, 1, 27, 27, .ro, 0, false, .none, 0⟩
def DPS_STAT_CONNECTED : Fld := ⟨0x14, 4, 1, 26, 26, .ro, 0, false, .none, 0⟩
def DPS_STAT_CLAMPED : Fld := ⟨0x14, 4, 1, 25, 25, .ro, 0, false, .none, 0⟩
def DPS_STAT_CLIP : Fld := ⟨0x14, 4, 1, 24, 24, .ro, 0, false, .none, 0⟩
def DPS_STAT_FAULT_HELD : Fld := ⟨0x14, 4, 1, 23, 23, .ro, 0, false, .none, 0⟩
def DPS_STAT_SENSE_LOST : Fld := ⟨0x14, 4, 1, 22, 22, .ro, 0, false, .none, 0⟩
def DPS_STAT_FOLLOWER : Fld := ⟨0x14, 4, 1, 21, 21, .ro, 0, false, .none, 0⟩
def DPS_STAT_RANGE_NOW : Fld := ⟨0x14, 4, 1, 19, 17, .ro, 4, false, .none, 0⟩
def DPS_CTRL_RELEASE : Fld := ⟨0x40, 4, 1, 31, 31, .wo, 0, true, .none, 0⟩
def DPS_CTRL_SENSE_RETRY : Fld := ⟨0x40, 4, 1, 30, 30, .wo, 0, true, .none, 0⟩
def DPS_CTRL_SENSE : Fld := ⟨0x40, 4, 1, 4, 4, .rw, 0, false, .none, 0⟩
def DPS_CTRL_CONN : Fld := ⟨0x40, 4, 1, 1, 1, .rw, 0, true, .none, 0⟩
def DPS_CTRL_EN : Fld := ⟨0x40, 4, 1, 0, 0, .rw, 0, true, .none, 0⟩
def DPS_V_CODE : Fld := ⟨0x44, 4, 1, 19, 0, .rw, 0x3C3C4, true, .none, 0⟩
def DPS_CLAMP_ILIM : Fld := ⟨0x48, 4, 1, 9, 0, .rw, 0x258, true, .none, 0⟩
def DPS_RANGE : Fld := ⟨0x4C, 4, 1, 2, 0, .rw, 4, true, .none, 0⟩
def DPS_GANG_MODE : Fld := ⟨0x50, 4, 1, 1, 0, .rw, 0, true, .none, 0⟩
def DPS_PUV_CONN : Fld := ⟨0x54, 4, 1, 31, 31, .rw, 0, true, .none, 1⟩
def DPS_PUV_BUSY : Fld := ⟨0x54, 4, 1, 30, 30, .ro, 0, false, .none, 0⟩
def DPS_PUV_CODE : Fld := ⟨0x54, 4, 1, 19, 0, .rw, 0, true, .none, 1⟩
def DPS_Q_PUSH_DWELL_M1 : Fld := ⟨0x58, 4, 1, 31, 20, .wo, 0, true, .none, 0⟩
def DPS_Q_PUSH_CODE : Fld := ⟨0x58, 4, 1, 19, 0, .wo, 0, true, .none, 0⟩
def DPS_Q_CTRL_GO : Fld := ⟨0x5C, 4, 1, 31, 31, .wo, 0, true, .none, 0⟩
def DPS_Q_CTRL_FLUSH : Fld := ⟨0x5C, 4, 1, 30, 30, .wo, 0, true, .none, 0⟩
def DPS_Q_STAT_RUNNING : Fld := ⟨0x60, 4, 1, 31, 31, .ro, 0, false, .none, 0⟩
def DPS_Q_STAT_ISSUED : Fld := ⟨0x60, 4, 1, 30, 30, .ro, 0, false, .none, 0⟩
def DPS_Q_STAT_LEVEL : Fld := ⟨0x60, 4, 1, 6, 0, .ro, 0, false, .none, 0⟩
def DPS_Q_OVF : Fld := ⟨0x64, 4, 1, 31, 31, .w1c, 0, false, .none, 0⟩
def DPS_Q_OVF_COUNT : Fld := ⟨0x64, 4, 1, 30, 0, .rw, 0, false, .none, 0⟩

/-! Page kind `hvc`. -/

def HVC_CTRL_RELEASE : Fld := ⟨0x40, 4, 1, 31, 31, .wo, 0, true, .none, 0⟩
def HVC_CTRL_SLEW : Fld := ⟨0x40, 4, 1, 5, 4, .rw, 0, false, .leave 3, 0⟩
def HVC_CTRL_CONN : Fld := ⟨0x40, 4, 1, 1, 1, .rw, 0, true, .none, 0⟩
def HVC_CTRL_EN : Fld := ⟨0x40, 4, 1, 0, 0, .rw, 0, true, .none, 0⟩
def HVC_V_CODE : Fld := ⟨0x44, 4, 1, 19, 0, .rw, 0, true, .none, 0⟩
def HVC_CLAMP_ILIM : Fld := ⟨0x48, 4, 1, 6, 0, .rw, 0x64, false, .between 1 100, 0⟩
def HVC_STAT_READY : Fld := ⟨0x14, 4, 1, 27, 27, .ro, 0, false, .none, 0⟩
def HVC_STAT_CONNECTED : Fld := ⟨0x14, 4, 1, 26, 26, .ro, 0, false, .none, 0⟩
def HVC_STAT_CLAMPED : Fld := ⟨0x14, 4, 1, 25, 25, .ro, 0, false, .none, 0⟩
def HVC_STAT_CLIP : Fld := ⟨0x14, 4, 1, 24, 24, .ro, 0, false, .none, 0⟩
def HVC_STAT_FAULT_HELD : Fld := ⟨0x14, 4, 1, 23, 23, .ro, 0, false, .none, 0⟩
def HVC_PUV_CONN : Fld := ⟨0x54, 4, 1, 31, 31, .rw, 0, true, .none, 1⟩
def HVC_PUV_BUSY : Fld := ⟨0x54, 4, 1, 30, 30, .ro, 0, false, .none, 0⟩
def HVC_PUV_CODE : Fld := ⟨0x54, 4, 1, 19, 0, .rw, 0, true, .none, 1⟩
def HVC_Q_PUSH_DWELL_M1 : Fld := ⟨0x58, 4, 1, 31, 20, .wo, 0, true, .none, 0⟩
def HVC_Q_PUSH_CODE : Fld := ⟨0x58, 4, 1, 19, 0, .wo, 0, true, .none, 0⟩
def HVC_Q_CTRL_GO : Fld := ⟨0x5C, 4, 1, 31, 31, .wo, 0, true, .none, 0⟩
def HVC_Q_CTRL_FLUSH : Fld := ⟨0x5C, 4, 1, 30, 30, .wo, 0, true, .none, 0⟩
def HVC_Q_STAT_RUNNING : Fld := ⟨0x60, 4, 1, 31, 31, .ro, 0, false, .none, 0⟩
def HVC_Q_STAT_ISSUED : Fld := ⟨0x60, 4, 1, 30, 30, .ro, 0, false, .none, 0⟩
def HVC_Q_STAT_LEVEL : Fld := ⟨0x60, 4, 1, 6, 0, .ro, 0, false, .none, 0⟩
def HVC_Q_OVF : Fld := ⟨0x64, 4, 1, 31, 31, .w1c, 0, false, .none, 0⟩
def HVC_Q_OVF_COUNT : Fld := ⟨0x64, 4, 1, 30, 0, .rw, 0, false, .none, 0⟩

/-! Page kind `gmn`. -/

def GMN_TRIP0 : Fld := ⟨0x40, 4, 1, 31, 0, .w1c, 0, false, .none, 0⟩
def GMN_TRIP1 : Fld := ⟨0x44, 4, 1, 6, 0, .w1c, 0, false, .none, 0⟩
def GMN_LIVE0 : Fld := ⟨0x48, 4, 1, 31, 0, .ro, 0, false, .none, 0⟩
def GMN_LIVE1 : Fld := ⟨0x4C, 4, 1, 6, 0, .ro, 0, false, .none, 0⟩
def GMN_BLANKED0 : Fld := ⟨0x50, 4, 1, 31, 0, .ro, 0, false, .none, 0⟩
def GMN_BLANKED1 : Fld := ⟨0x54, 4, 1, 6, 0, .ro, 0, false, .none, 0⟩
def GMN_BLANK0_MASK : Fld := ⟨0x58, 4, 1, 31, 0, .rw, 0, false, .none, 0⟩
def GMN_BLANK1_DUR_US : Fld := ⟨0x5C, 4, 1, 31, 16, .wo, 0, true, .none, 0⟩
def GMN_BLANK1_MASK : Fld := ⟨0x5C, 4, 1, 6, 0, .wo, 0, true, .none, 0⟩
def GMN_TRIPS_OVF : Fld := ⟨0x60, 4, 1, 31, 31, .w1c, 0, false, .none, 0⟩
def GMN_TRIPS_COUNT : Fld := ⟨0x60, 4, 1, 30, 0, .rw, 0, false, .none, 0⟩
def GMN_FASTCNT_FAST : Fld := ⟨0x64, 4, 1, 3, 0, .ro, 0, false, .none, 0⟩
def GMN_WIN_HI : Fld := ⟨0x100, 8, 39, 31, 16, .rw, 0, true, .none, 0⟩
def GMN_WIN_LO : Fld := ⟨0x100, 8, 39, 15, 0, .rw, 0, true, .none, 0⟩
def GMN_CFG_EN : Fld := ⟨0x104, 8, 39, 31, 31, .rw, 1, true, .none, 0⟩
def GMN_CFG_MODE : Fld := ⟨0x104, 8, 39, 30, 29, .rw, 0, true, .none, 0⟩
def GMN_CFG_LATCH : Fld := ⟨0x104, 8, 39, 28, 28, .rw, 0, true, .none, 0⟩
def GMN_CFG_ACTION : Fld := ⟨0x104, 8, 39, 27, 26, .rw, 0, true, .none, 0⟩
def GMN_CFG_EVT : Fld := ⟨0x104, 8, 39, 25, 25, .rw, 0, true, .none, 0⟩
def GMN_CFG_WAKE : Fld := ⟨0x104, 8, 39, 24, 24, .rw, 0, true, .none, 0⟩
def GMN_CFG_LVL_BLANK : Fld := ⟨0x104, 8, 39, 23, 23, .rw, 1, true, .none, 0⟩
def GMN_CFG_QTY : Fld := ⟨0x104, 8, 39, 22, 22, .rw, 0, true, .none, 0⟩
def GMN_CFG_BLANK_US : Fld := ⟨0x104, 8, 39, 15, 8, .rw, 5, true, .none, 0⟩

/-! Page kind `gmnSum`. -/

def GMN_TICK_RATE : Fld := ⟨0x40, 4, 1, 2, 0, .rw, 0, false, .upTo 4, 0⟩
def GMN_SUM_BANKS : Fld := ⟨0x44, 4, 1, 23, 0, .ro, 0, false, .none, 0⟩
def GMN_TOTAL_OVF : Fld := ⟨0x48, 4, 1, 31, 31, .w1c, 0, false, .none, 0⟩
def GMN_TOTAL_COUNT : Fld := ⟨0x48, 4, 1, 30, 0, .rw, 0, false, .none, 0⟩

/-! Page kind `pmu`. -/

def PMU_CTRL_EN : Fld := ⟨0x10, 4, 1, 0, 0, .rw, 0, true, .none, 0⟩
def PMU_STAT_CONNECTED : Fld := ⟨0x14, 4, 1, 27, 27, .ro, 0, false, .none, 0⟩
def PMU_STAT_COMPLIANCE : Fld := ⟨0x14, 4, 1, 26, 26, .ro, 0, false, .none, 0⟩
def PMU_STAT_RANGE_NOW : Fld := ⟨0x14, 4, 1, 25, 23, .ro, 6, false, .none, 0⟩
def PMU_STAT_MODE_NOW : Fld := ⟨0x14, 4, 1, 22, 21, .ro, 2, false, .none, 0⟩
def PMU_STAT_LANE : Fld := ⟨0x14, 4, 1, 20, 16, .ro, 0, false, .none, 0⟩
def PMU_CLAMP_CLH : Fld := ⟨0x40, 4, 1, 15, 8, .rw, 0xA0, false, .none, 0⟩
def PMU_CLAMP_CLL : Fld := ⟨0x40, 4, 1, 7, 0, .rw, 0xA, false, .none, 0⟩
def PMU_COUNT_OVF : Fld := ⟨0x44, 4, 1, 31, 31, .w1c, 0, false, .none, 0⟩
def PMU_COUNT : Fld := ⟨0x44, 4, 1, 30, 0, .rw, 0, false, .none, 0⟩
def PMU_COMPL_OVF : Fld := ⟨0x48, 4, 1, 31, 31, .w1c, 0, false, .none, 0⟩
def PMU_COMPL_COUNT : Fld := ⟨0x48, 4, 1, 30, 0, .rw, 0, false, .none, 0⟩

/-! Page kind `acq`. -/

def ACQ_CTRL_EN : Fld := ⟨0x10, 4, 1, 0, 0, .rw, 0, true, .none, 0⟩
def ACQ_STAT_USE : Fld := ⟨0x14, 4, 1, 27, 26, .ro, 0, false, .none, 0⟩
def MSR_COMMIT_GO : Fld := ⟨0x60, 4, 1, 31, 31, .wo, 0, true, .none, 0⟩
def MSR_COMMIT_CANCEL : Fld := ⟨0x60, 4, 1, 30, 30, .wo, 0, true, .none, 0⟩
def MSR_COMMIT_FLUSH : Fld := ⟨0x60, 4, 1, 29, 29, .wo, 0, true, .none, 0⟩
def MSR_COMMIT_GROUP : Fld := ⟨0x60, 4, 1, 7, 0, .rw, 0, false, .none, 0⟩
def MSR_CANCEL_H_HANDLE : Fld := ⟨0x64, 4, 1, 15, 0, .rw, 0, false, .none, 0⟩
def MSR_RESP_RESULT : Fld := ⟨0x68, 4, 1, 31, 28, .ro, 0, false, .none, 0⟩
def MSR_RESP_HANDLE : Fld := ⟨0x68, 4, 1, 15, 0, .ro, 0, false, .none, 0⟩
def MSR_REL_GO : Fld := ⟨0x6C, 4, 1, 31, 31, .wo, 0, true, .none, 0⟩
def MSR_REL_ALL : Fld := ⟨0x6C, 4, 1, 30, 30, .wo, 0, true, .none, 0⟩
def MSR_REL_GROUP : Fld := ⟨0x6C, 4, 1, 7, 0, .wo, 0, true, .none, 0⟩
def MSR_FILL_DETAIL : Fld := ⟨0x70, 4, 1, 24, 16, .ro, 0, false, .none, 0⟩
def MSR_FILL_USED : Fld := ⟨0x70, 4, 1, 8, 0, .ro, 0, false, .none, 0⟩
def MSR_LATE_OVF : Fld := ⟨0x74, 4, 1, 31, 31, .w1c, 0, false, .none, 0⟩
def MSR_LATE_COUNT : Fld := ⟨0x74, 4, 1, 30, 0, .rw, 0, false, .none, 0⟩
def MSR_RES_LOST_OVF : Fld := ⟨0x78, 4, 1, 31, 31, .w1c, 0, false, .none, 0⟩
def MSR_RES_LOST_COUNT : Fld := ⟨0x78, 4, 1, 30, 0, .rw, 0, false, .none, 0⟩
def MSR_CUR_BUSY : Fld := ⟨0x7C, 4, 1, 31, 31, .ro, 0, false, .none, 0⟩
def MSR_CUR_HANDLE : Fld := ⟨0x7C, 4, 1, 15, 0, .ro, 0, false, .none, 0⟩
def RES_DATA0_VALUE : Fld := ⟨0x80, 4, 1, 31, 0, .ro, 0, false, .none, 0⟩
def RES_DATA1_VALID : Fld := ⟨0x84, 4, 1, 31, 31, .ro, 0, false, .none, 0⟩
def RES_DATA1_STATUS : Fld := ⟨0x84, 4, 1, 30, 28, .ro, 0, false, .none, 0⟩
def RES_DATA1_LATE : Fld := ⟨0x84, 4, 1, 27, 27, .ro, 0, false, .none, 0⟩
def RES_DATA1_SITE_VALID : Fld := ⟨0x84, 4, 1, 24, 24, .ro, 0, false, .none, 0⟩
def RES_DATA1_SITE : Fld := ⟨0x84, 4, 1, 23, 16, .ro, 0, false, .none, 0⟩
def RES_DATA1_HANDLE : Fld := ⟨0x84, 4, 1, 15, 0, .ro, 0, false, .none, 0⟩
def RES_DATA2_TAG : Fld := ⟨0x88, 4, 1, 31, 0, .ro, 0, false, .none, 0⟩
def RES_FILL_COUNT : Fld := ⟨0x8C, 4, 1, 6, 0, .ro, 0, false, .none, 0⟩
def ACQ_CAP_CTRL_ARM : Fld := ⟨0x100, 4, 1, 31, 31, .wo, 0, true, .none, 0⟩
def ACQ_CAP_CTRL_DISARM : Fld := ⟨0x100, 4, 1, 30, 30, .wo, 0, true, .none, 0⟩
def ACQ_CAP_CTRL_DESC : Fld := ⟨0x100, 4, 1, 1, 0, .rw, 0, false, .none, 0⟩
def ACQ_CAP_STAT_STATE : Fld := ⟨0x104, 4, 1, 31, 28, .ro, 0, false, .none, 0⟩
def ACQ_CAP_STAT_CLASS : Fld := ⟨0x104, 4, 1, 27, 26, .ro, 0, false, .none, 0⟩
def ACQ_CAP_STAT_DESC : Fld := ⟨0x104, 4, 1, 25, 24, .ro, 0, false, .none, 0⟩
def ACQ_CAP_STAT_SEGS : Fld := ⟨0x104, 4, 1, 8, 0, .ro, 0, false, .none, 0⟩
def ACQ_CAP_RESP_RESULT : Fld := ⟨0x108, 4, 1, 31, 28, .ro, 0, false, .none, 0⟩
def ACQ_MISSED_OVF : Fld := ⟨0x10C, 4, 1, 31, 31, .w1c, 0, false, .none, 0⟩
def ACQ_MISSED_COUNT : Fld := ⟨0x10C, 4, 1, 30, 0, .rw, 0, false, .none, 0⟩
def ACQ_ARM_WAIT_NS : Fld := ⟨0x110, 4, 1, 31, 0, .ro, 0, false, .none, 0⟩
def ACQ_SPILL_HANDLE : Fld := ⟨0x120, 4, 1, 31, 0, .rw, 0, true, .none, 0⟩
def ACQ_SPILL_OFF : Fld := ⟨0x124, 4, 1, 31, 0, .rw, 0, true, .none, 0⟩
def ACQ_SPILL_WORDS : Fld := ⟨0x128, 4, 1, 25, 0, .rw, 0, true, .none, 0⟩
def ACQ_SEG_CUR_SEG : Fld := ⟨0x140, 4, 1, 15, 8, .rw, 0, true, .none, 0⟩
def ACQ_SEG_CUR_WORD : Fld := ⟨0x140, 4, 1, 2, 0, .rw, 0, true, .none, 0⟩
def ACQ_SEG_DATA : Fld := ⟨0x144, 4, 1, 31, 0, .ro, 0, false, .none, 0⟩
def ACQ_DESC_WORD : Fld := ⟨0x200, 4, 32, 31, 0, .rw, 0, true, .none, 0⟩
def MSR_W : Fld := ⟨0x40, 4, 8, 31, 0, .rw, 0, false, .none, 0⟩

/-! Page kind `tmu`. -/

def TMU_CTRL_ARM : Fld := ⟨0, 4, 1, 31, 31, .wo, 0, true, .none, 0⟩
def TMU_CTRL_DISARM : Fld := ⟨0, 4, 1, 30, 30, .wo, 0, true, .none, 0⟩
def TMU_CTRL_CAL_GO : Fld := ⟨0, 4, 1, 29, 29, .wo, 0, true, .none, 0⟩
def TMU_CTRL_HOST_RESERVE : Fld := ⟨0, 4, 1, 28, 28, .rw, 0, false, .none, 0⟩
def TMU_STAT_STATE : Fld := ⟨4, 4, 1, 31, 29, .ro, 0, false, .none, 0⟩
def TMU_STAT_OWNER : Fld := ⟨4, 4, 1, 28, 27, .ro, 0, false, .none, 0⟩
def TMU_STAT_BINTAB_VALID : Fld := ⟨4, 4, 1, 26, 26, .ro, 0, false, .none, 0⟩
def TMU_STAT_DONE_STOPS : Fld := ⟨4, 4, 1, 3, 0, .ro, 0, false, .none, 0⟩
def TMU_RESP_RESULT : Fld := ⟨8, 4, 1, 31, 28, .ro, 0, false, .none, 0⟩
def TMU_START_FIXREF : Fld := ⟨0xC, 4, 1, 20, 20, .rw, 0, true, .none, 0⟩
def TMU_START_OCC_M1 : Fld := ⟨0xC, 4, 1, 19, 8, .rw, 0, true, .none, 0⟩
def TMU_START_SRC : Fld := ⟨0xC, 4, 1, 7, 0, .rw, 0, true, .none, 0⟩
def TMU_CFG_NSTOP : Fld := ⟨0x10, 4, 1, 3, 0, .rw, 1, true, .none, 0⟩
def TMU_TIMEOUT_US : Fld := ⟨0x14, 4, 1, 18, 0, .rw, 0, true, .none, 0⟩
def TMU_EPOCH_F_LO : Fld := ⟨0x18, 4, 1, 31, 0, .rw, 0, true, .none, 0⟩
def TMU_EPOCH_P : Fld := ⟨0x1C, 4, 1, 31, 16, .rw, 0, true, .none, 0⟩
def TMU_EPOCH_F_HI : Fld := ⟨0x1C, 4, 1, 15, 0, .rw, 0, true, .none, 0⟩
def TMU_T0_F_LO : Fld := ⟨0x80, 4, 1, 31, 0, .ro, 0, false, .none, 0⟩
def TMU_T0_P : Fld := ⟨0x84, 4, 1, 31, 16, .ro, 0, false, .none, 0⟩
def TMU_T0_F_HI : Fld := ⟨0x84, 4, 1, 15, 0, .ro, 0, false, .none, 0⟩
def TMU_T0_FINE : Fld := ⟨0x88, 4, 1, 11, 0, .ro, 0, false, .none, 0⟩
def TMU_RES_LO : Fld := ⟨0x100, 8, 15, 31, 0, .ro, 0, false, .none, 0⟩
def TMU_RES_VALID : Fld := ⟨0x104, 8, 15, 31, 31, .ro, 0, false, .none, 0⟩
def TMU_RES_COINCIDENT : Fld := ⟨0x104, 8, 15, 30, 30, .ro, 0, false, .none, 0⟩
def TMU_RES_ORDER : Fld := ⟨0x104, 8, 15, 29, 29, .ro, 0, false, .none, 0⟩
def TMU_RES_TIMEOUT : Fld := ⟨0x104, 8, 15, 28, 28, .ro, 0, false, .none, 0⟩
def TMU_RES_EDGE_LOST : Fld := ⟨0x104, 8, 15, 27, 27, .ro, 0, false, .none, 0⟩
def TMU_RES_HOLDOVER : Fld := ⟨0x104, 8, 15, 26, 26, .ro, 0, false, .none, 0⟩
def TMU_RES_HI : Fld := ⟨0x104, 8, 15, 9, 0, .ro, 0, false, .none, 0⟩
def TMU_BIN_CUR_BIN : Fld := ⟨0x180, 4, 1, 8, 0, .rw, 0, false, .none, 0⟩
def TMU_BIN_DATA_POS : Fld := ⟨0x184, 4, 1, 23, 0, .ro, 0, false, .none, 0⟩
def TMU_CAL_CFG_HITS_LOG2 : Fld := ⟨0x188, 4, 1, 4, 0, .rw, 0x14, false, .between 16 24, 0⟩
def TMU_CAL_STAT_RESULT : Fld := ⟨0x18C, 4, 1, 31, 28, .ro, 0, false, .none, 0⟩
def TMU_CAL_STAT_HITS : Fld := ⟨0x18C, 4, 1, 24, 0, .ro, 0, false, .none, 0⟩
def TMU_COUNT_OVF : Fld := ⟨0x190, 4, 1, 31, 31, .w1c, 0, false, .none, 0⟩
def TMU_COUNT : Fld := ⟨0x190, 4, 1, 30, 0, .rw, 0, false, .none, 0⟩
def TMU_STOP_FIXREF : Fld := ⟨0x44, 4, 15, 20, 20, .rw, 0, true, .none, 0⟩
def TMU_STOP_OCC_M1 : Fld := ⟨0x44, 4, 15, 19, 8, .rw, 0, true, .none, 0⟩
def TMU_STOP_SRC : Fld := ⟨0x44, 4, 15, 7, 0, .rw, 0, true, .none, 0⟩

/-! Page kind `thm`. -/

def THM_CFG_LOCK : Fld := ⟨0x40, 4, 1, 31, 31, .w1s, 0, true, .none, 0⟩
def THM_CFG_RATE_LIM : Fld := ⟨0x40, 4, 1, 15, 0, .rwl, 0x50, true, .none, 0⟩
def THM_WARN : Fld := ⟨0x44, 4, 1, 15, 0, .rwl, 0x640, true, .none, 0⟩
def THM_THROT : Fld := ⟨0x48, 4, 1, 15, 0, .rwl, 0x690, true, .none, 0⟩
def THM_CRIT : Fld := ⟨0x4C, 4, 1, 15, 0, .rwl, 0x730, true, .none, 0⟩
def THM_SHUT : Fld := ⟨0x50, 4, 1, 15, 0, .rwl, 0x7D0, true, .none, 0⟩
def THM_THR_CFG_PSQ_EN : Fld := ⟨0x54, 4, 1, 31, 31, .rw, 1, false, .none, 0⟩
def THM_THR_CFG_MSR_EN : Fld := ⟨0x54, 4, 1, 30, 30, .rw, 1, false, .none, 0⟩
def THM_THR_CFG_SCRUB_EN : Fld := ⟨0x54, 4, 1, 29, 29, .rw, 1, false, .none, 0⟩
def THM_THR_CFG_PAUSE_MS : Fld := ⟨0x54, 4, 1, 15, 8, .rw, 0x14, false, .zeroOne, 0⟩
def THM_THR_CFG_RUN_MS : Fld := ⟨0x54, 4, 1, 7, 0, .rw, 0x50, false, .zeroOne, 0⟩
def THM_LAST_VALID : Fld := ⟨0x58, 4, 1, 31, 31, .w1c, 0, false, .none, 0⟩
def THM_LAST_REGION : Fld := ⟨0x58, 4, 1, 30, 28, .ro, 0, false, .none, 0⟩
def THM_LAST_CAUSE : Fld := ⟨0x58, 4, 1, 27, 24, .ro, 0, false, .none, 0⟩
def THM_LAST_SENSOR : Fld := ⟨0x58, 4, 1, 20, 16, .ro, 0, false, .none, 0⟩
def THM_LAST_TEMP : Fld := ⟨0x58, 4, 1, 15, 0, .ro, 0, false, .none, 0⟩
def THM_LAST_SEC : Fld := ⟨0x5C, 4, 1, 31, 0, .ro, 0, false, .none, 0⟩
def THM_THR_MS_OVF : Fld := ⟨0x60, 4, 1, 31, 31, .w1c, 0, false, .none, 0⟩
def THM_THR_MS_COUNT : Fld := ⟨0x60, 4, 1, 30, 0, .rw, 0, false, .none, 0⟩
def THM_SENSOR_BROKEN : Fld := ⟨0x80, 4, 32, 31, 31, .ro, 0, false, .none, 0⟩
def THM_SENSOR_RISE : Fld := ⟨0x80, 4, 32, 27, 16, .ro, 0, false, .none, 0⟩
def THM_SENSOR_TEMP : Fld := ⟨0x80, 4, 32, 15, 0, .ro, 0, false, .none, 0⟩
def THM_REGION_WARN : Fld := ⟨0x100, 4, 5, 31, 31, .ro, 0, false, .none, 0⟩
def THM_REGION_THROTTLE : Fld := ⟨0x100, 4, 5, 30, 30, .ro, 0, false, .none, 0⟩
def THM_REGION_RATE : Fld := ⟨0x100, 4, 5, 29, 29, .ro, 0, false, .none, 0⟩
def THM_REGION_CRITICAL : Fld := ⟨0x100, 4, 5, 28, 28, .ro, 0, false, .none, 0⟩
def THM_REGION_SHUTDOWN : Fld := ⟨0x100, 4, 5, 27, 27, .ro, 0, false, .none, 0⟩
def THM_REGION_PAUSING : Fld := ⟨0x100, 4, 5, 26, 26, .ro, 0, false, .none, 0⟩
def THM_REGION_BROKEN : Fld := ⟨0x100, 4, 5, 25, 24, .ro, 0, false, .none, 0⟩
def THM_REGION_TEMP : Fld := ⟨0x100, 4, 5, 15, 0, .ro, 0, false, .none, 0⟩

/-! Page kind `cal`. -/

def CAL_CTRL_GO : Fld := ⟨0x40, 4, 1, 31, 31, .wo, 0, true, .none, 0⟩
def CAL_CTRL_ABORT : Fld := ⟨0x40, 4, 1, 30, 30, .wo, 0, true, .none, 0⟩
def CAL_CTRL_EN : Fld := ⟨0x40, 4, 1, 0, 0, .rw, 1, false, .none, 0⟩
def CAL_BANKS : Fld := ⟨0x44, 4, 1, 24, 0, .rw, 0, false, .none, 0⟩
def CAL_CFG_MAX_AGE_H : Fld := ⟨0x48, 4, 1, 15, 8, .rw, 8, false, .zeroOne, 0⟩
def CAL_CFG_DELTA_T : Fld := ⟨0x48, 4, 1, 7, 0, .rw, 0x30, false, .zeroOne, 0⟩
def CAL_DUE : Fld := ⟨0x4C, 4, 1, 24, 0, .ro, 0x1FFFFFF, false, .none, 0⟩
def CAL_RUNNING : Fld := ⟨0x50, 4, 1, 24, 0, .ro, 0, false, .none, 0⟩
def CAL_GAP : Fld := ⟨0x54, 4, 1, 23, 0, .ro, 0, false, .none, 0⟩
def CAL_UNST_OVF : Fld := ⟨0x58, 4, 1, 31, 31, .w1c, 0, false, .none, 0⟩
def CAL_UNST_COUNT : Fld := ⟨0x58, 4, 1, 30, 0, .rw, 0, false, .none, 0⟩
def CAL_UNST_LAST_RECORD : Fld := ⟨0x5C, 4, 1, 28, 24, .ro, 0, false, .none, 0⟩
def CAL_UNST_LAST_ITEM : Fld := ⟨0x5C, 4, 1, 19, 16, .ro, 0, false, .none, 0⟩
def CAL_UNST_LAST_INDEX : Fld := ⟨0x5C, 4, 1, 7, 0, .ro, 0, false, .none, 0⟩
def CAL_REC_SEL_RECORD : Fld := ⟨0x60, 4, 1, 4, 0, .rw, 0, false, .none, 0⟩
def CAL_REC_STAT_SOURCE : Fld := ⟨0x64, 4, 1, 31, 30, .ro, 0, false, .none, 0⟩
def CAL_REC_STAT_INTACT : Fld := ⟨0x64, 4, 1, 29, 27, .ro, 0, false, .none, 0⟩
def CAL_REC_STAT_STEPS : Fld := ⟨0x64, 4, 1, 7, 0, .ro, 0, false, .none, 0⟩
def CAL_REC_RUN_LAST_T : Fld := ⟨0x74, 4, 1, 31, 16, .ro, 0, false, .none, 0⟩
def CAL_REC_AGE_AGE_S : Fld := ⟨0x78, 4, 1, 31, 0, .ro, 0xFFFFFFFF, false, .none, 0⟩
def CAL_SEL_PENDING : Fld := ⟨0x7C, 4, 1, 5, 3, .ro, 7, false, .none, 0⟩
def CAL_SEL_SET : Fld := ⟨0x7C, 4, 1, 2, 0, .ro, 0, false, .none, 0⟩
def CAL_FACT_LOCKED : Fld := ⟨0x80, 4, 1, 31, 31, .ro, 1, false, .none, 0⟩
def CAL_FACT_USE_FACTORY : Fld := ⟨0x80, 4, 1, 30, 30, .rw, 0, false, .none, 2⟩
def CAL_GEN : Fld := ⟨0x68, 4, 3, 31, 0, .ro, 0, false, .none, 0⟩

/-! Page kind `secCtl`. -/

def SEC_STAT_ID_VALID : Fld := ⟨0x14, 4, 1, 27, 27, .ro, 0, false, .none, 0⟩
def SEC_STAT_PROD_LOCK : Fld := ⟨0x14, 4, 1, 26, 26, .ro, 1, false, .none, 0⟩
def SEC_STAT_JTAG_DBG : Fld := ⟨0x14, 4, 1, 25, 25, .ro, 0, false, .none, 0⟩
def SEC_STAT_VENDOR : Fld := ⟨0x14, 4, 1, 24, 24, .ro, 0, false, .none, 0⟩
def SEC_STAT_OWNER_SESSION : Fld := ⟨0x14, 4, 1, 23, 23, .ro, 0, false, .none, 0⟩
def SEC_STAT_OWNER_SLOT : Fld := ⟨0x14, 4, 1, 22, 20, .ro, 0, false, .none, 0⟩
def SEC_STAT_SESSIONS : Fld := ⟨0x14, 4, 1, 19, 16, .ro, 0, false, .none, 0⟩
def SEC_STAT_ENROLLED : Fld := ⟨0x14, 4, 1, 15, 8, .ro, 0, false, .none, 0⟩
def SEC_CMD_OPCODE : Fld := ⟨0x40, 4, 1, 31, 16, .wo, 0, true, .none, 0⟩
def SEC_CMD_LENGTH : Fld := ⟨0x40, 4, 1, 15, 0, .wo, 0, true, .none, 0⟩
def SEC_RESP_RESULT : Fld := ⟨0x44, 4, 1, 31, 24, .ro, 0, false, .none, 0⟩
def SEC_RESP_BUSY : Fld := ⟨0x44, 4, 1, 0, 0, .ro, 0, false, .none, 0⟩
def SEC_VENDOR_LEFT_S : Fld := ⟨0x48, 4, 1, 31, 0, .ro, 0, false, .none, 0⟩
def SEC_OWN_CFG_IDLE_S : Fld := ⟨0x4C, 4, 1, 15, 0, .rw, 0x258, false, .zeroOne, 0⟩
def SEC_ENROLL_CTR : Fld := ⟨0x50, 4, 1, 31, 0, .ro, 0, false, .none, 0⟩
def SEC_BOOTRND_BR : Fld := ⟨0x54, 4, 1, 31, 0, .ro, 0, false, .none, 0⟩
def SEC_SERIAL : Fld := ⟨0x60, 4, 4, 31, 0, .ro, 0, false, .none, 0⟩
def SEC_SLOT_SEL_SLOT : Fld := ⟨0x70, 4, 1, 2, 0, .rw, 0, false, .none, 0⟩
def SEC_WIN_DATA : Fld := ⟨0x100, 4, 960, 31, 0, .rw, 0, false, .none, 0⟩

/-! Page kind `secLoad`. -/

def SECL_STAT_LOADING : Fld := ⟨0x14, 4, 1, 27, 27, .ro, 0, false, .none, 0⟩
def SECL_STAT_LOAD_PSQ : Fld := ⟨0x14, 4, 1, 26, 24, .ro, 0, false, .none, 0⟩
def SECL_STAT_SEALED_PSQ : Fld := ⟨0x14, 4, 1, 7, 0, .ro, 0, false, .none, 0⟩
def SEC_LOAD_HANDLE : Fld := ⟨0x40, 4, 1, 31, 0, .rw, 0, false, .none, 0⟩
def SEC_LOAD_OFF : Fld := ⟨0x44, 4, 1, 31, 0, .rw, 0, false, .none, 0⟩
def SEC_LOAD_LEN : Fld := ⟨0x48, 4, 1, 31, 0, .rw, 0, false, .none, 0⟩
def SEC_LOAD_CTRL_GO : Fld := ⟨0x4C, 4, 1, 31, 31, .wo, 0, true, .none, 0⟩
def SEC_LOAD_CTRL_UNLOAD : Fld := ⟨0x4C, 4, 1, 30, 30, .wo, 0, true, .none, 0⟩
def SEC_LOAD_CTRL_OVL_APPLY : Fld := ⟨0x4C, 4, 1, 29, 29, .wo, 0, true, .none, 0⟩
def SEC_LOAD_CTRL_PSQ : Fld := ⟨0x4C, 4, 1, 2, 0, .rw, 0, false, .none, 0⟩
def SEC_LOAD_RESP_RESULT : Fld := ⟨0x50, 4, 1, 31, 24, .ro, 0, false, .none, 0⟩
def SEC_LOAD_RESP_DETAIL : Fld := ⟨0x50, 4, 1, 15, 0, .ro, 0, false, .none, 0⟩
def SEC_BSEL_PSQ : Fld := ⟨0x54, 4, 1, 2, 0, .rw, 0, false, .none, 0⟩
def SEC_BINFO_VALID : Fld := ⟨0x58, 4, 1, 31, 31, .ro, 0, false, .none, 0⟩
def SEC_BINFO_ENC : Fld := ⟨0x58, 4, 1, 30, 30, .ro, 0, false, .none, 0⟩
def SEC_BINFO_DEBUG_ALLOW : Fld := ⟨0x58, 4, 1, 29, 29, .ro, 0, false, .none, 0⟩
def SEC_BINFO_SLOT : Fld := ⟨0x58, 4, 1, 26, 24, .ro, 0, false, .none, 0⟩
def SEC_BINFO_COUNTER : Fld := ⟨0x58, 4, 1, 21, 16, .ro, 0, false, .none, 0⟩
def SEC_BINFO_TEMPLATE : Fld := ⟨0x58, 4, 1, 3, 0, .ro, 0, false, .none, 0⟩
def SEC_BVER_VERSION : Fld := ⟨0x5C, 4, 1, 31, 0, .ro, 0, false, .none, 0⟩
def SEC_BDIG_DIGEST : Fld := ⟨0x60, 4, 12, 31, 0, .ro, 0, false, .none, 0⟩

/-! Page kind `secDbg`. -/

def SEC_DBG_HANDLE : Fld := ⟨0x40, 4, 1, 31, 0, .rw, 0, false, .none, 0⟩
def SEC_DBG_OFF : Fld := ⟨0x44, 4, 1, 31, 0, .rw, 0, false, .none, 0⟩
def SEC_DBG_DENIED : Fld := ⟨0x48, 4, 1, 31, 31, .w1c, 0, false, .none, 0⟩
def SEC_DBG_UE : Fld := ⟨0x48, 4, 1, 30, 30, .w1c, 0, false, .none, 0⟩
def SEC_DBG_UNWRITTEN : Fld := ⟨0x48, 4, 1, 29, 29, .w1c, 0, false, .none, 0⟩
def SEC_DBGWIN_DATA : Fld := ⟨0x800, 4, 512, 31, 0, .ro, 0, false, .none, 0⟩

/-! Page kind `secCnt`. -/

def SEC_FW_SVN : Fld := ⟨0x40, 4, 1, 15, 0, .ro, 0, false, .none, 0⟩
def SEC_ARB : Fld := ⟨0x100, 4, 64, 31, 0, .ro, 0, false, .none, 0⟩

/-! Page kind `plk`. -/

def PLK_STAT_LSTATE : Fld := ⟨0x14, 4, 1, 27, 24, .ro, 0, false, .none, 0⟩
def PLK_STAT_FEEDING : Fld := ⟨0x14, 4, 1, 23, 23, .ro, 0, false, .none, 0⟩
def PLK_STAT_SERVING : Fld := ⟨0x14, 4, 1, 22, 22, .ro, 0, false, .none, 0⟩
def PLK_STAT_MIRROR_OFF : Fld := ⟨0x14, 4, 1, 21, 21, .ro, 1, false, .none, 0⟩
def PLK_CFG_ROLE : Fld := ⟨0x40, 4, 1, 31, 30, .rw, 0, true, .none, 0⟩
def PLK_CFG_EN : Fld := ⟨0x40, 4, 1, 29, 29, .rw, 0, true, .none, 0⟩
def PLK_CFG_FEED_EN : Fld := ⟨0x40, 4, 1, 28, 28, .rw, 1, false, .none, 0⟩
def PLK_CFG_SHORT_ACT : Fld := ⟨0x40, 4, 1, 27, 27, .rw, 0, false, .none, 0⟩
def PLK_CFG_FEED_MB : Fld := ⟨0x40, 4, 1, 14, 0, .rw, 0x6D60, true, .none, 0⟩
def PLK_CTRL_CHECK : Fld := ⟨0x44, 4, 1, 31, 31, .wo, 0, true, .none, 0⟩
def PLK_CTRL_REFRESH : Fld := ⟨0x44, 4, 1, 30, 30, .wo, 0, true, .none, 0⟩
def PLK_CTRL_RETRAIN : Fld := ⟨0x44, 4, 1, 29, 29, .wo, 0, true, .none, 0⟩
def PLK_RESP_RESULT : Fld := ⟨0x48, 4, 1, 31, 28, .ro, 0, false, .none, 0⟩
def PLK_GEN : Fld := ⟨0x4C, 4, 1, 31, 0, .rw, 0, false, .none, 0⟩
def PLK_EXPECT_VALUE : Fld := ⟨0x50, 4, 1, 31, 0, .rw, 0, false, .none, 0⟩
def PLK_EXPECT_VALID : Fld := ⟨0x54, 4, 1, 31, 31, .rw, 0, false, .none, 0⟩
def PLK_PARTNER_GEN : Fld := ⟨0x58, 4, 1, 31, 0, .ro, 0, false, .none, 0⟩
def PLK_REFUSE_REASON : Fld := ⟨0x5C, 4, 1, 3, 0, .ro, 0, false, .none, 0⟩
def PLK_DEVID : Fld := ⟨0x60, 4, 4, 31, 0, .ro, 0, false, .none, 0⟩
def PLK_RETRY_OVF : Fld := ⟨0x70, 4, 1, 31, 31, .w1c, 0, false, .none, 0⟩
def PLK_RETRY_COUNT : Fld := ⟨0x70, 4, 1, 30, 0, .rw, 0, false, .none, 0⟩
def PLK_AUTHERR_OVF : Fld := ⟨0x74, 4, 1, 31, 31, .w1c, 0, false, .none, 0⟩
def PLK_AUTHERR_COUNT : Fld := ⟨0x74, 4, 1, 30, 0, .rw, 0, false, .none, 0⟩
def PLK_FEED_STATE : Fld := ⟨0x78, 4, 1, 15, 0, .ro, 0, false, .none, 0⟩
def PLK_FEED_CAP_USED_MB : Fld := ⟨0x7C, 4, 1, 31, 16, .ro, 0, false, .none, 0⟩
def PLK_FEED_CAP_CAP_MB : Fld := ⟨0x7C, 4, 1, 15, 0, .ro, 0, false, .none, 0⟩
def PLK_FEED_TAG : Fld := ⟨0x80, 4, 8, 31, 0, .rw, 0, false, .none, 0⟩
def PLK_MIRROR_LO : Fld := ⟨0xA0, 4, 1, 31, 0, .ro, 0, false, .none, 0⟩
def PLK_MIRROR_HI : Fld := ⟨0xA4, 4, 1, 15, 0, .ro, 0, false, .none, 0⟩
def PLK_AGE_MAX : Fld := ⟨0xA8, 4, 1, 15, 0, .ro, 0, false, .none, 0⟩
def PLK_MSEL_KIND : Fld := ⟨0xB0, 4, 1, 31, 28, .rw, 0, true, .none, 0⟩
def PLK_MSEL_INDEX : Fld := ⟨0xB0, 4, 1, 15, 8, .rw, 0, true, .none, 0⟩
def PLK_MSEL_WORD : Fld := ⟨0xB0, 4, 1, 5, 0, .rw, 0, true, .none, 0⟩
def PLK_MDATA_DATA : Fld := ⟨0xB4, 4, 1, 31, 0, .ro, 0, false, .none, 0⟩
def PLK_MSTAT_EMPTY : Fld := ⟨0xB8, 4, 1, 31, 31, .ro, 0, false, .none, 0⟩
def PLK_MSTAT_SEALED : Fld := ⟨0xB8, 4, 1, 30, 30, .ro, 0, false, .none, 0⟩

/-! Page kind `spm`. -/

def SPM_STAT_BUSY : Fld := ⟨0x14, 4, 1, 27, 27, .ro, 0, false, .none, 0⟩
def SPM_STAT_XIP_BUSY : Fld := ⟨0x14, 4, 1, 26, 26, .ro, 0, false, .none, 0⟩
def SPM_STAT_SFDP_OK : Fld := ⟨0x14, 4, 1, 25, 25, .ro, 0, false, .none, 0⟩
def SPM_CFG_MODE : Fld := ⟨0x40, 4, 1, 31, 30, .rw, 0, false, .none, 0⟩
def SPM_CFG_CS : Fld := ⟨0x40, 4, 1, 29, 27, .rw, 1, false, .none, 0⟩
def SPM_CFG_FRAMED : Fld := ⟨0x40, 4, 1, 26, 26, .rw, 0, false, .none, 0⟩
def SPM_CFG_WSIZE : Fld := ⟨0x40, 4, 1, 25, 24, .rw, 0, false, .leave 3, 0⟩
def SPM_CFG_STATUS_FIRST : Fld := ⟨0x40, 4, 1, 23, 23, .rw, 0, false, .none, 0⟩
def SPM_CFG_DIV : Fld := ⟨0x40, 4, 1, 7, 0, .rw, 3, false, .zeroOne, 0⟩
def SPM_LEN : Fld := ⟨0x44, 4, 1, 12, 0, .rw, 8, false, .between 1 4096, 0⟩
def SPM_CTRL_GO : Fld := ⟨0x48, 4, 1, 31, 31, .wo, 0, true, .none, 0⟩
def SPM_CTRL_ABORT : Fld := ⟨0x48, 4, 1, 30, 30, .wo, 0, true, .none, 0⟩
def SPM_RESP_RESULT : Fld := ⟨0x4C, 4, 1, 31, 28, .ro, 0, false, .none, 0⟩
def SPM_RESP_STATUS : Fld := ⟨0x4C, 4, 1, 27, 20, .ro, 0, false, .none, 0⟩
def SPM_RESP_TRIES : Fld := ⟨0x4C, 4, 1, 19, 13, .ro, 0, false, .none, 0⟩
def SPM_RESP_BITS : Fld := ⟨0x4C, 4, 1, 12, 0, .ro, 0, false, .none, 0⟩
def SPM_RETRY_INTERVAL : Fld := ⟨0x50, 4, 1, 31, 16, .rw, 0x64, false, .zeroOne, 0⟩
def SPM_RETRY_LIMIT : Fld := ⟨0x50, 4, 1, 7, 0, .rw, 0xA, false, .none, 0⟩
def SPM_TIMING_CSS : Fld := ⟨0x54, 4, 1, 15, 8, .rw, 1, false, .none, 0⟩
def SPM_TIMING_CSH : Fld := ⟨0x54, 4, 1, 7, 0, .rw, 1, false, .none, 0⟩
def SPM_XIP_CFG_WREN : Fld := ⟨0x60, 4, 1, 31, 31, .rw, 0, false, .none, 1⟩
def SPM_XIP_CFG_FW_WREN : Fld := ⟨0x60, 4, 1, 30, 30, .rw, 0, false, .none, 2⟩
def SPM_XIP_CMD_GO : Fld := ⟨0x64, 4, 1, 31, 31, .wo, 0, true, .none, 0⟩
def SPM_XIP_CMD_BLOCK : Fld := ⟨0x64, 4, 1, 30, 30, .rw, 0, false, .none, 0⟩
def SPM_XIP_CMD_ADDR : Fld := ⟨0x64, 4, 1, 25, 0, .rw, 0, false, .none, 0⟩
def SPM_XIP_RESP_RESULT : Fld := ⟨0x68, 4, 1, 31, 28, .ro, 0, false, .none, 0⟩
def SPM_XIP_INFO_DENS_LOG2 : Fld := ⟨0x6C, 4, 1, 31, 24, .ro, 0x18, false, .none, 0⟩
def SPM_XIP_INFO_ADDR4 : Fld := ⟨0x6C, 4, 1, 23, 23, .ro, 0, false, .none, 0⟩
def SPM_XIP_INFO_PAGE_LOG2 : Fld := ⟨0x6C, 4, 1, 20, 16, .ro, 8, false, .none, 0⟩
def SPM_XIP_INFO_SECT_LOG2 : Fld := ⟨0x6C, 4, 1, 12, 8, .ro, 0xC, false, .none, 0⟩
def SPM_XIP_INFO_BLK_LOG2 : Fld := ⟨0x6C, 4, 1, 4, 0, .ro, 0xC, false, .none, 0⟩
def SPM_TX : Fld := ⟨0x200, 4, 128, 31, 0, .rw, 0, false, .none, 0⟩
def SPM_RX : Fld := ⟨0x400, 4, 128, 31, 0, .ro, 0, false, .none, 0⟩
def SPM_XIP_DISC_OVF : Fld := ⟨0x70, 4, 1, 31, 31, .w1c, 0, false, .none, 0⟩
def SPM_XIP_DISC_COUNT : Fld := ⟨0x70, 4, 1, 30, 0, .rw, 0, false, .none, 0⟩
def SPM_XIP_ERR_OVF : Fld := ⟨0x74, 4, 1, 31, 31, .w1c, 0, false, .none, 0⟩
def SPM_XIP_ERR_COUNT : Fld := ⟨0x74, 4, 1, 30, 0, .rw, 0, false, .none, 0⟩
def SPM_XIP_RBUSY_OVF : Fld := ⟨0x78, 4, 1, 31, 31, .w1c, 0, false, .none, 0⟩
def SPM_XIP_RBUSY_COUNT : Fld := ⟨0x78, 4, 1, 30, 0, .rw, 0, false, .none, 0⟩

/-! Page kind `evr`. -/

def EVR_STAT_CLEARING : Fld := ⟨0x14, 4, 1, 27, 27, .ro, 0, false, .none, 0⟩
def EVR_STAT_SETBACK : Fld := ⟨0x14, 4, 1, 26, 26, .ro, 0, false, .none, 0⟩
def EVR_STAT_WALL_VALID : Fld := ⟨0x14, 4, 1, 25, 25, .ro, 0, false, .none, 0⟩
def EVR_STAT_QUEUE : Fld := ⟨0x14, 4, 1, 21, 16, .ro, 0, false, .none, 0⟩
def EVR_CFG_INT_SEV : Fld := ⟨0x40, 4, 1, 2, 0, .rw, 3, false, .none, 0⟩
def EVR_CLEAR_GO : Fld := ⟨0x44, 4, 1, 31, 31, .wo, 0, true, .none, 0⟩
def EVR_CLEAR_MAXSEV : Fld := ⟨0x44, 4, 1, 2, 0, .wo, 0, true, .none, 0⟩
def EVR_USED_HIGH : Fld := ⟨0x48, 4, 1, 30, 16, .ro, 0, false, .none, 0⟩
def EVR_USED_ALL : Fld := ⟨0x48, 4, 1, 14, 0, .ro, 0, false, .none, 0⟩
def EVR_OPSEC : Fld := ⟨0x64, 4, 1, 31, 0, .ro, 0, false, .none, 0⟩
def EVR_BOOTS : Fld := ⟨0x68, 4, 1, 31, 0, .ro, 0, false, .none, 0⟩
def EVR_TORN : Fld := ⟨0x70, 4, 1, 14, 0, .ro, 0, false, .none, 0⟩
def EVR_CURSOR_LO_SEQ_LO : Fld := ⟨0x78, 4, 1, 31, 0, .rw, 0, false, .none, 0⟩
def EVR_CURSOR_HI_LOADED : Fld := ⟨0x7C, 4, 1, 31, 31, .ro, 0, false, .none, 0⟩
def EVR_CURSOR_HI_END : Fld := ⟨0x7C, 4, 1, 30, 30, .ro, 0, false, .none, 0⟩
def EVR_CURSOR_HI_MINSEV : Fld := ⟨0x7C, 4, 1, 26, 24, .rw, 0, true, .none, 0⟩
def EVR_CURSOR_HI_SEQ_HI : Fld := ⟨0x7C, 4, 1, 15, 0, .rw, 0, true, .none, 0⟩
def EVR_DATA : Fld := ⟨0x80, 4, 16, 31, 0, .ro, 0, false, .none, 0⟩
def EVR_DROP_COUNT : Fld := ⟨0xC4, 8, 17, 31, 0, .ro, 0, false, .none, 0⟩
def EVR_NEXT_SEQ_LO : Fld := ⟨0x4C, 4, 1, 31, 0, .ro, 0, false, .none, 0⟩
def EVR_NEXT_SEQ_HI : Fld := ⟨0x50, 4, 1, 15, 0, .ro, 0, false, .none, 0⟩
def EVR_OLDEST_SEQ_LO : Fld := ⟨0x54, 4, 1, 31, 0, .ro, 0, false, .none, 0⟩
def EVR_OLDEST_SEQ_HI : Fld := ⟨0x58, 4, 1, 15, 0, .ro, 0, false, .none, 0⟩
def EVR_WALL_LO : Fld := ⟨0x5C, 4, 1, 31, 0, .rw, 0, true, .none, 0⟩
def EVR_WALL_HI : Fld := ⟨0x60, 4, 1, 31, 0, .rw, 0, true, .none, 0⟩
def EVR_DROPPED_OVF : Fld := ⟨0x6C, 4, 1, 31, 31, .w1c, 0, false, .none, 0⟩
def EVR_DROPPED_COUNT : Fld := ⟨0x6C, 4, 1, 30, 0, .rw, 0, false, .none, 0⟩
def EVR_UNSTORED_OVF : Fld := ⟨0x74, 4, 1, 31, 31, .w1c, 0, false, .none, 0⟩
def EVR_UNSTORED_COUNT : Fld := ⟨0x74, 4, 1, 30, 0, .rw, 0, false, .none, 0⟩
def EVR_DROP_TYPE : Fld := ⟨0xC0, 8, 17, 31, 16, .ro, 0, false, .none, 0⟩
def EVR_DROP_CLASS : Fld := ⟨0xC0, 8, 17, 15, 8, .ro, 0, false, .none, 0⟩

/-! Page kind `nvm`. -/

def NVM_UE_VALID : Fld := ⟨0x44, 4, 1, 31, 31, .w1c, 0, false, .none, 0⟩
def NVM_UE_OFF : Fld := ⟨0x44, 4, 1, 22, 0, .ro, 0, false, .none, 0⟩
def NVM_CE_OVF : Fld := ⟨0x40, 4, 1, 31, 31, .w1c, 0, false, .none, 0⟩
def NVM_CE_COUNT : Fld := ⟨0x40, 4, 1, 30, 0, .rw, 0, false, .none, 0⟩
def NVM_WFAIL_OVF : Fld := ⟨0x48, 4, 1, 31, 31, .w1c, 0, false, .none, 0⟩
def NVM_WFAIL_COUNT : Fld := ⟨0x48, 4, 1, 30, 0, .rw, 0, false, .none, 0⟩
def NVM_WRITES_OVF : Fld := ⟨0x4C, 4, 1, 31, 31, .ro, 0, false, .none, 0⟩
def NVM_WRITES_COUNT : Fld := ⟨0x4C, 4, 1, 30, 0, .ro, 0, false, .none, 0⟩

/-! Page kind `hifRst`. -/

def PWR_BANK_ON : Fld := ⟨0x80, 4, 1, 23, 0, .rw, 0, true, .none, 0⟩
def PWR_CTRL_CLUSTER_B : Fld := ⟨0x84, 4, 1, 1, 1, .rw, 1, true, .none, 0⟩
def PWR_CTRL_CLUSTER_A : Fld := ⟨0x84, 4, 1, 0, 0, .rw, 1, true, .none, 0⟩
def PWR_STAT0_ON : Fld := ⟨0x88, 4, 1, 31, 0, .ro, 0, false, .none, 0⟩
def PWR_STAT1_ON : Fld := ⟨0x8C, 4, 1, 7, 0, .ro, 0, false, .none, 0⟩
def PWR_RESP_RESULT : Fld := ⟨0x90, 4, 1, 31, 28, .ro, 0, false, .none, 0⟩
def PWR_RESP_DOMAIN : Fld := ⟨0x90, 4, 1, 5, 0, .ro, 0, false, .none, 0⟩
def HIF_RESET_CHIP : Fld := ⟨0x40, 4, 1, 0, 0, .wo, 0, true, .none, 0⟩

/-! Page kind `pgv`. -/

def PGV_CEIL_LOCK : Fld := ⟨0x40, 4, 1, 31, 31, .w1s, 0, true, .none, 0⟩
def PGV_CEIL_CEIL_MW : Fld := ⟨0x40, 4, 1, 15, 0, .rwl, 0xEA60, true, .none, 0⟩
def PGV_CHARGED_HEADROOM_MW : Fld := ⟨0x44, 4, 1, 31, 16, .ro, 0, false, .none, 0⟩
def PGV_CHARGED_CHARGED_MW : Fld := ⟨0x44, 4, 1, 15, 0, .ro, 0, false, .none, 0⟩
def PGV_MODE_DRYRUN : Fld := ⟨0x48, 4, 1, 0, 0, .rw, 0, false, .none, 0⟩
def PGV_RESP_RESULT : Fld := ⟨0x4C, 4, 1, 31, 28, .ro, 0, false, .none, 0⟩
def PGV_RESP_SOURCE : Fld := ⟨0x4C, 4, 1, 27, 24, .ro, 0, false, .none, 0⟩
def PGV_RESP_TOTAL_MW : Fld := ⟨0x4C, 4, 1, 23, 0, .ro, 0, false, .none, 0⟩
def PGV_REFUSED_OVF : Fld := ⟨0x50, 4, 1, 31, 31, .w1c, 0, false, .none, 0⟩
def PGV_REFUSED_COUNT : Fld := ⟨0x50, 4, 1, 15, 0, .ro, 0, false, .none, 0⟩
def PGV_BANK_CHARGE_GATED : Fld := ⟨0x60, 4, 24, 18, 18, .ro, 1, false, .none, 0⟩
def PGV_BANK_CHARGE_MODE : Fld := ⟨0x60, 4, 24, 17, 16, .ro, 2, false, .none, 0⟩
def PGV_BANK_CHARGE_CHARGE_MW : Fld := ⟨0x60, 4, 24, 15, 0, .ro, 0, false, .none, 0⟩

/-! Page kind `msixTab`. -/

def MSIX_ADDR_LO : Fld := ⟨0, 16, 256, 31, 0, .rw, 0, false, .none, 0⟩
def MSIX_ADDR_HI : Fld := ⟨4, 16, 256, 31, 0, .rw, 0, false, .none, 0⟩
def MSIX_DATA : Fld := ⟨8, 16, 256, 31, 0, .rw, 0, false, .none, 0⟩
def MSIX_MASK : Fld := ⟨0xC, 16, 256, 0, 0, .rw, 1, false, .none, 0⟩

/-! Page kind `msixPba`. -/

def MSIX_PBA_PENDING : Fld := ⟨0, 4, 8, 31, 0, .ro, 0, false, .none, 0⟩

end Reg

open Reg

/-- The fields of page kind `stw`. -/
def stwFields : List Fld :=
  [STW_CMD_OPCODE, STW_CMD_LENGTH, STW_RESP_RESULT, STW_RESP_BUSY, STW_WIN_DATA]

/-- The fields of page kind `hifId`. -/
def hifIdFields : List Fld :=
  [HIF_PART, HIF_PART_STEPPING, HIF_PART_PACKAGE, DEVICE_STATE_CAUSE_TYPE, DEVICE_STATE_CAUSE, DEVICE_STATE,
   HIF_LINK_WIDTH, HIF_LINK_SPEED, HIF_BADACC_OVF, HIF_BADACC_COUNT]

/-- The fields of page kind `epcSrc`. -/
def epcSrcFields : List Fld :=
  [EPC_SRC_FORCE_XTAL, EPC_SRC_MULT, EPC_SRC_SOURCE, EPC_SRCSTAT_REF_PRESENT, EPC_SRCSTAT_FMK_PRESENT,
   EPC_SRCSTAT_PLL_LOCK, EPC_SRCSTAT_XTAL_OK, EPC_SRCSTAT_OVF, EPC_SRCSTAT_SWITCH_COUNT, EPC_AGE, EPC_LEARNED,
   EPC_HOLD_HOLD_MAX_MS, EPC_HOLD_ELAPSED_MS]

/-- The fields of page kind `epcCtl`. -/
def epcCtlFields : List Fld :=
  [EPC_FRAME_LEN, EPC_ALIGN_ARM, EPC_ALIGN_MODE, EPC_LOAD_F_UPPER, EPC_NOW_F_LO, EPC_NOW_P, EPC_NOW_F_HI,
   EPC_STATUS_VALID, EPC_STATUS_HOLDOVER, EPC_STATUS_SUSPECT, EPC_STATUS_F_WRAP, EPC_STATUS_N, EPC_MISSED_OVF,
   EPC_MISSED_BADWIDTH, EPC_MISSED_COUNT, EPC_REALIGN_STEP, EPC_SKEW_SEED_SEED_PS, EPC_SKEW_CAL,
   EPC_SKEW_SEED_CLIPPED, EPC_SKEW_CAL_BUSY, EPC_SKEW_TRIM, SYNC_CFG_PSQ_MASK, SYNC_CFG_PULSE_W, SYNC_CFG_FILTER,
   SYNC_CFG_ROLE, SYNC_CAP_F_LO, SYNC_STAT_LEVEL, SYNC_STAT_DRIVING, SYNC_CAP_P, SYNC_CAP_F_HI]

/-- The fields of page kind `pst`. -/
def pstFields : List Fld :=
  [PST_W, PST_COMMIT_CANCEL, PST_COMMIT_GO, PST_RESP_RESULT, PST_RESP_HANDLE, PST_FILL_USED, PST_NEXT_F_LO,
   PST_QUIET_OPEN, PST_LOG_CURSOR, PST_LOG_DATA, PST_NEXT_P, PST_NEXT_F_HI]

/-- The fields of page kind `bnk`. -/
def bnkFields : List Fld :=
  [BNK_STAT_TRANSITION, BNK_MODE_TRANSITION, BNK_MODE_ACTIVE, BNK_MODE_REQ, BNK_BOUND, BNK_SAFE, BNK_MBUS_BUSY,
   BNK_MBUS_SRC, BNK_MBUS_LANE, BNK_EVX_EN, BNK_EVX_SRC, BNK_EVX_FALL, BNK_EVX_LANE, BNK_D2D_OVF, BNK_D2D_CRC_ERR,
   BNK_CLIP]

/-- The fields of page kind `pec`, part 0. -/
def pecFields0 : List Fld :=
  [PEC_STAT_SEALED, PEC_STAT_SELFCHK_FAIL, PEC_STAT_TERM_OFF, PEC_STAT_THR_INV, PEC_STAT_PMU_ON, PEC_STAT_PPMU_ON,
   PEC_STAT_PIN_STATE, PEC_CFG_SUPPRESS_ACT, PEC_CFG_IDLE_HOLD, PEC_CFG_TERM_MODE, PEC_CFG_CMP_HYST,
   PEC_CFG_DRV_SLEW, PEC_CFG_CLAMP_EN, PEC_LOAD_ISNK, PEC_LOAD_ISRC, PEC_CLAMP_CLH, PEC_CLAMP_CLL, PEC_SITE_BOUND,
   PEC_SITE, PEC_SITE_SITE_PIN, PEC_PPMU_CONN, PEC_PPMU_MODE, PEC_PPMU_RANGE, PEC_PPMU_COMPLIANCE, PEC_PPMU_HELD,
   PEC_PPMU_FORCE_VALUE, PEC_LSTAT_PPMU_CLIP, PEC_LSTAT_CLAMP_CLIP, PEC_LSTAT_LVL_CLIP, PEC_SUPPR_OVF,
   PEC_SUPPR_COUNT, PEC_CMP_LIVE_HI, PEC_CMP_LIVE_LO, PEC_MAP, PEC_TS_GROUP, PEC_DESKEW_CMP, PEC_DESKEW_DRV,
   PEC_DESKEW_STAT_PENDING, PEC_FIXTURE_FIX, PEC_TCHK_FAIL]

/-- The fields of page kind `pec`, part 1. -/
def pecFields1 : List Fld :=
  [PEC_TCHK_RULE, PEC_TCHK_SET, PEC_TCOLL_DRV_OVF, PEC_TCOLL_DRV_COUNT, PEC_TCOLL_CMP_OVF, PEC_TCOLL_CMP_COUNT]

/-- The fields of page kind `pec`. -/
def pecFields : List Fld := pecFields0 ++ pecFields1

/-- The fields of page kind `psq`, part 0. -/
def psqFields0 : List Fld :=
  [PSQ_CTRL_LOAD, PSQ_CTRL_PAUSE, PSQ_CTRL_STOP, PSQ_CTRL_START, PSQ_STAT_RUNSTATE, PSQ_STAT_LW, PSQ_STAT_BOUND,
   PSQ_STAT_LOADED, PSQ_STAT_SEALED, PSQ_STAT_TAINTED, PSQ_STAT_AJ_PEND, PSQ_STAT_T0_VALID, PSQ_PROG_VA_LO,
   PSQ_PROG_VA_HI, PSQ_PROG_LEN, PSQ_ENTRY_PC, PSQ_SEGTAB_VA_LO, PSQ_SEGTAB_VA_HI, PSQ_SEGTAB_LEN,
   PSQ_LOAD_RESP_RESULT, PSQ_LOAD_RESP_DETAIL, PSQ_START_RESP_RESULT, PSQ_START_RESP_SOURCE, PSQ_START_RESP_REASON,
   PSQ_PC, PSQ_VP_SEG_VALID, PSQ_VP_SEG, PSQ_VP_OFF, PSQ_VCOUNT_LO, PSQ_VCOUNT_HI, PSQ_STALLCYC_LO,
   PSQ_STALLCYC_HI, PSQ_UNDERRUN_OVF, PSQ_UNDERRUN_COUNT, PSQ_STALLS_OVF, PSQ_STALLS_COUNT, PSQ_DECODE_OVF,
   PSQ_DECODE_COUNT, PSQ_LATEWAIT_OVF, PSQ_LATEWAIT_COUNT]

/-- The fields of page kind `psq`, part 1. -/
def psqFields1 : List Fld :=
  [PSQ_TAINT, PSQ_END_CAUSE, PSQ_END_FAULT, PSQ_END_LANE, PSQ_FAULT_PC, PSQ_AJUMP_VALID, PSQ_AJUMP_LPOP,
   PSQ_AJUMP_TARGET, PSQ_STOPCFG_DRIVE, PSQ_STOPCFG_LANE, PSQ_STOPCFG_COND, PSQ_PAUSE_STAT_HOST,
   PSQ_PAUSE_STAT_THROTTLE, PSQ_PAUSE_STAT_PAIRS, PSQ_PAUSE_STAT_LAST_ID, PSQ_T0_F_LO, PSQ_T0_P, PSQ_T0_F_HI,
   PSQ_DEPTH_CALL, PSQ_DEPTH_LOOP, PSQ_MATCH_ALL, PSQ_MATCH_NONE, PSQ_MATCH_ITER, PSQ_LOOP_VPSAVE,
   PSQ_LOOP_START_PC, PSQ_LOOP_REMAIN_M1, PSQ_LOOP_VP_SEG, PSQ_LOOP_VP_OFF, PSQ_CALL_LOOP_DEPTH, PSQ_CALL_RET_PC,
   PSQ_PERIOD_V, PSQ_PERIOD_PERIOD_M1]

/-- The fields of page kind `psq`. -/
def psqFields : List Fld := psqFields0 ++ psqFields1

/-- The fields of page kind `mce`. -/
def mceFields : List Fld :=
  [MCE_STAT_VENDOR_VALID, MCE_STAT_USER_VALID, MCE_STAT_LOADING, MCE_STAT_SEALED, MCE_LOAD_HANDLE, MCE_LOAD_OFF,
   MCE_LOAD_CTRL_GO, MCE_LOAD_CTRL_SRC, MCE_LOAD_RESP_RESULT, MCE_LOAD_RESP_DETAIL, MCE_WIN_NBANK, MCE_WIN_UBANK,
   MCE_CE_OVF, MCE_CE_COUNT, MCE_UE_VALID, MCE_UE_PART, MCE_UE_ADDR, MCE_UCNT, MCE_OWNER_VALID, MCE_OWNER_SLOT,
   MCE_VDIG, MCE_UDIG]

/-- The fields of page kind `apg`. -/
def apgFields : List Fld :=
  [APG_STAT_CARRY_X, APG_STAT_CARRY_Y, APG_STAT_SEALED, APG_STAT_PHASE, APG_SCR_CUR_INDEX, APG_SCR_DATA,
   APG_TOPO_CUR_MAP, APG_TOPO_CUR_PIN, APG_TOPO_DATA, APG_FAULT_CAUSE, APG_FAULT_STEP, APG_X_BASE, APG_X_INDEX,
   APG_X_LIMIT, APG_X_INCR, APG_Y_BASE, APG_Y_INDEX, APG_Y_LIMIT, APG_Y_INCR, APG_D_LO, APG_D_HI, APG_SEED_LO,
   APG_SEED_HI, APG_POLY_LO, APG_POLY_HI, APG_XMASK, APG_YMASK, APG_X_NOW, APG_Y_NOW, APG_D_NOW_LO, APG_D_NOW_HI,
   APG_STEP_LO, APG_STEP_HI]

/-- The fields of page kind `pcn`. -/
def pcnFields : List Fld :=
  [PCN_CTRL_USER_EN, PCN_CTRL_FREEZE, PCN_OVF_CYCLE, PCN_OVF_CNT, PCN_SKID_VALID, PCN_SKID, PCN_SKID_PC,
   PCN_CFG_EN, PCN_CFG_INT, PCN_CFG_RUN_ONLY, PCN_CFG_EVENT, PCN_CNT_LO, PCN_CNT_HI, PCN_CYCLE_LO, PCN_CYCLE_HI]

/-- The fields of page kind `sfb`. -/
def sfbFields : List Fld :=
  [SFB_REQ_TEMPLATE, SFB_REQ_PSQ, SFB_REQ_COUNT, SFB_REQ_PLACE_FIRST, SFB_CMD_GO, SFB_CMD_REL_PSQ,
   SFB_CMD_REL_SITES, SFB_CMD_PSQ, SFB_RESP_RESULT, SFB_RESP_REASON, SFB_RESP_DETAIL, SFB_SEL, SFB_BOUND,
   SFB_LW_USED, SFB_TPL_SEL, SFB_TPL_INFO_VALID, SFB_TPL_INFO_PINS_M1, SFB_TPL_INFO_W_M1, SFB_TPL_INFO_NDPS,
   SFB_TPL_INFO_HV, SFB_TPL_INFO_NPLACE, SFB_ACTIVE, SFB_SOFAULT_CAUSE, SFB_SOFAULT_PSQ, SFB_SOFAULT_PC]

/-- The fields of page kind `ovl`. -/
def ovlFields : List Fld :=
  [OVL_CUR_SITE, OVL_CUR_BYTE, OVL_DATA, OVL_DMA_HANDLE, OVL_DMA_OFF, OVL_DMA_CTRL_GO, OVL_DMA_CTRL_COUNT_M1,
   OVL_DMA_CTRL_FIRST, OVL_DMA_RESP_RESULT, OVL_DMA_RESP_UNWRITTEN, OVL_DESC_WORD]

/-- The fields of page kind `site`. -/
def siteFields : List Fld :=
  [SITE_CTRL_UNRETIRE, SITE_CTRL_RETIRE, SITE_CTRL_MASK, SITE_CFG_RETIRE_SUPPLY, SITE_CFG_RETIRE_ON_FAIL,
   SITE_BIND_BOUND, SITE_BIND_TEMPLATE, SITE_BIND_PSQ, SITE_BIND_PLACEMENT, SITE_BIND_PINS_M1, SITE_STATE_ACTIVE,
   SITE_STATE_MASKED, SITE_STATE_RETIRED, SITE_STATE_CAUSE, SITE_STATE_SF, SITE_STATE_LF, SITE_STATE_CAP_MID,
   SITE_STATE_OVL_RANGE, SITE_STATE_OVL_SEALED, SITE_STATE_REG_SEALED, SITE_RETIRE_AT_LO, SITE_RETIRE_AT_HI,
   SITE_S, SITE_PINMAP_VALID1, SITE_PINMAP_PEC1, SITE_PINMAP_VALID0, SITE_PINMAP_PEC0, SITE_SUPPLY_DPS,
   SITE_SUPPLY_HVC]

/-- The fields of page kind `vmc`, part 0. -/
def vmcFields0 : List Fld :=
  [VMC_STAT_SCRUB_ACTIVE, VMC_STAT_SCRUB_DEFERRED, VMC_STAT_CH_FAIL, VMC_ALLOC_GO, VMC_ALLOC_FREE,
   VMC_ALLOC_GRANULES_M1, VMC_FREE_HANDLE, VMC_RESP_RESULT, VMC_HANDLE, VMC_FREEGR_FREE, VMC_OBJ_SEL_HANDLE,
   VMC_OBJ_INFO_VALID, VMC_OBJ_INFO_KIND, VMC_OBJ_INFO_BUSY, VMC_OBJ_INFO_GRANULES_M1, VMC_CE_OVF, VMC_CE_COUNT,
   VMC_BUCKET_DEPTH, VMC_BUCKET_LEAK_S, VMC_BUCKET_LEVEL, VMC_UE_OVF, VMC_UE_COUNT, VMC_POISON_OVF,
   VMC_POISON_COUNT, VMC_UE_LOC_HANDLE, VMC_UE_LOC_SCRUB, VMC_UE_LOC_WORD, VMC_RMW_FAIL_OVF, VMC_RMW_FAIL_COUNT,
   VMC_UNWR_OVF, VMC_UNWR_COUNT, VMC_BAR2_DISC_OVF, VMC_BAR2_DISC_COUNT, VMC_SCRUB_CFG_EN, VMC_SCRUB_CFG_PASS_H,
   VMC_SCRUB_POS_BLOCK, VMC_SCRUB_PASSES_OVF, VMC_SCRUB_PASSES_COUNT, VMC_WIN_KIND, VMC_WIN_BANK]

/-- The fields of page kind `vmc`, part 1. -/
def vmcFields1 : List Fld :=
  [VMC_WIN_HANDLE, VMC_WIN_BASE_GR]

/-- The fields of page kind `vmc`. -/
def vmcFields : List Fld := vmcFields0 ++ vmcFields1

/-- The fields of page kind `lftG`. -/
def lftGFields : List Fld :=
  [LFT_MAP_VPN, LFT_MAP_COUNT_COUNT_M1, LFT_MAP_HANDLE, LFT_MAP_GROFF, LFT_MAP_HADDR_ADDR_LO,
   LFT_MAP_HADDR_ADDR_HI, LFT_CMD_MAP_VS, LFT_CMD_MAP_HOST, LFT_CMD_UNMAP, LFT_MAP_RESP_RESULT,
   LFT_MAP_RESP_DETAIL, LFT_HOSTCFG_BW_MBPS, LFT_HOSTCFG_RETRY, LFT_STAGE_HANDLE, LFT_ADMITTED_SUM_MB,
   LFT_HADMITTED_SUM_MB, LFT_HOSTERR_OVF, LFT_HOSTERR_COUNT, LFT_PTE_SEL_VPN, LFT_PTE_LO, LFT_PTE_HI]

/-- The fields of page kind `lft`. -/
def lftFields : List Fld :=
  [LFT_PIN_EN, LFT_PIN_COUNT_M1, LFT_PIN_VPN, LFT_RESID_RESULT, LFT_RESID_MODE, LFT_RESID_SOURCE, LFT_RESID_DETAIL,
   LFT_NEED_NEED_MB, LFT_HNEED_NEED_MB, LFT_AVAIL_AVAIL_MB, LFT_PINNED_PAGES, LFT_LA_DEPTH, LFT_MISS_OVF,
   LFT_MISS_COUNT, LFT_MISS_MAX_NS]

/-- The fields of page kind `freG`. -/
def freGFields : List Fld :=
  [FRE_RING_LO_BASE_LO, FRE_RING_HI_BASE_HI, FRE_RING_CFG_EN, FRE_RING_CFG_SIZE_LOG2, FRE_HEAD, FRE_TAIL,
   FRE_STORE_PENDING, FRE_LOST_OVF, FRE_LOST_COUNT, FRE_SEQ_LO, FRE_SEQ_HI]

/-- The fields of page kind `fre`. -/
def freFields : List Fld :=
  [FRE_CFG_BMAP_EN, FRE_CFG_REPAIR_EN, FRE_CFG_HOLD_ISSUE, FRE_CFG_ENC, FRE_CFG_ENC_SLOT, FRE_CFG_DBITS,
   FRE_CFG_YBITS, FRE_CFG_XBITS, FRE_REPAIR_NSR, FRE_REPAIR_NSC, FRE_REPAIR_RCOLS_LOG2, FRE_REPAIR_RROWS_LOG2,
   FRE_NODES_NODE_LOG2, FRE_SOL_HANDLE, FRE_SOL_OFF, FRE_CMD_ISSUE, FRE_CMD_BMAP_CLR, FRE_CMD_LIM_GO,
   FRE_LIM_MASK_LO, FRE_LIM_MASK_HI, FRE_STATE_PHASE, FRE_STATE_SOLVES_LEFT, FRE_BURST, FRE_NONCE, FRE_DMAP,
   FRE_BIN_REPAIR, FRE_BIN_PASS, FRE_BIN_UNREP, FRE_BIN_FAIL, FRE_BIN_RETIRE, FRE_BIN_ABORT, FRE_LIMIT_WORD]

/-- The fields of page kind `freSite`. -/
def freSiteFields : List Fld :=
  [FRE_SITE_SEL_SITE, FRE_S_STAT_PENDING, FRE_S_STAT_PASS, FRE_S_STAT_NONREP, FRE_S_STAT_MATCH_TO,
   FRE_S_STAT_RSTAT, FRE_S_STAT_RREASON, FRE_S_STAT_TAINT, FRE_S_FAILS_LO, FRE_S_FAILS_HI, FRE_S_CMP_LO,
   FRE_S_CMP_HI, FRE_S_FFR_COUNT, FRE_S_BMAP_HANDLE, FRE_S_BMAP_OFF, FRE_S_BMAP_LOST_COUNT, FRE_S_LIMFAIL_LO,
   FRE_S_LIMFAIL_HI, FRE_S_BIN, FRE_FFR_CURSOR_ENTRY, FRE_FFR_CURSOR_WORD, FRE_FFR_DATA, FRE_PIN_CURSOR_PIN,
   FRE_PIN_CURSOR_WORD, FRE_PIN_DATA]

/-- The fields of page kind `lde`. -/
def ldeFields : List Fld :=
  [LDE_STAT_RANGE, LDE_STAT_HOLDING, LDE_DGL_HOLD, LDE_DGL_COUNT_OVF, LDE_DGL_COUNT, LDE_CHECK_VALID,
   LDE_CHECK_SRC, LDE_CHECK_LANE, LDE_SEALED, LDE_LVL0, LDE_LVL1, LDE_LVL2, LDE_LVL3, LDE_LVL4, LDE_LVL5]

/-- The fields of page kind `dps`. -/
def dpsFields : List Fld :=
  [DPS_STAT_READY, DPS_STAT_CONNECTED, DPS_STAT_CLAMPED, DPS_STAT_CLIP, DPS_STAT_FAULT_HELD, DPS_STAT_SENSE_LOST,
   DPS_STAT_FOLLOWER, DPS_STAT_RANGE_NOW, DPS_CTRL_RELEASE, DPS_CTRL_SENSE_RETRY, DPS_CTRL_SENSE, DPS_CTRL_CONN,
   DPS_CTRL_EN, DPS_V_CODE, DPS_CLAMP_ILIM, DPS_RANGE, DPS_GANG_MODE, DPS_PUV_CONN, DPS_PUV_BUSY, DPS_PUV_CODE,
   DPS_Q_PUSH_DWELL_M1, DPS_Q_PUSH_CODE, DPS_Q_CTRL_GO, DPS_Q_CTRL_FLUSH, DPS_Q_STAT_RUNNING, DPS_Q_STAT_ISSUED,
   DPS_Q_STAT_LEVEL, DPS_Q_OVF, DPS_Q_OVF_COUNT]

/-- The fields of page kind `hvc`. -/
def hvcFields : List Fld :=
  [HVC_CTRL_RELEASE, HVC_CTRL_SLEW, HVC_CTRL_CONN, HVC_CTRL_EN, HVC_V_CODE, HVC_CLAMP_ILIM, HVC_STAT_READY,
   HVC_STAT_CONNECTED, HVC_STAT_CLAMPED, HVC_STAT_CLIP, HVC_STAT_FAULT_HELD, HVC_PUV_CONN, HVC_PUV_BUSY,
   HVC_PUV_CODE, HVC_Q_PUSH_DWELL_M1, HVC_Q_PUSH_CODE, HVC_Q_CTRL_GO, HVC_Q_CTRL_FLUSH, HVC_Q_STAT_RUNNING,
   HVC_Q_STAT_ISSUED, HVC_Q_STAT_LEVEL, HVC_Q_OVF, HVC_Q_OVF_COUNT]

/-- The fields of page kind `gmn`. -/
def gmnFields : List Fld :=
  [GMN_TRIP0, GMN_TRIP1, GMN_LIVE0, GMN_LIVE1, GMN_BLANKED0, GMN_BLANKED1, GMN_BLANK0_MASK, GMN_BLANK1_DUR_US,
   GMN_BLANK1_MASK, GMN_TRIPS_OVF, GMN_TRIPS_COUNT, GMN_FASTCNT_FAST, GMN_WIN_HI, GMN_WIN_LO, GMN_CFG_EN,
   GMN_CFG_MODE, GMN_CFG_LATCH, GMN_CFG_ACTION, GMN_CFG_EVT, GMN_CFG_WAKE, GMN_CFG_LVL_BLANK, GMN_CFG_QTY,
   GMN_CFG_BLANK_US]

/-- The fields of page kind `gmnSum`. -/
def gmnSumFields : List Fld :=
  [GMN_TICK_RATE, GMN_SUM_BANKS, GMN_TOTAL_OVF, GMN_TOTAL_COUNT]

/-- The fields of page kind `pmu`. -/
def pmuFields : List Fld :=
  [PMU_CTRL_EN, PMU_STAT_CONNECTED, PMU_STAT_COMPLIANCE, PMU_STAT_RANGE_NOW, PMU_STAT_MODE_NOW, PMU_STAT_LANE,
   PMU_CLAMP_CLH, PMU_CLAMP_CLL, PMU_COUNT_OVF, PMU_COUNT, PMU_COMPL_OVF, PMU_COMPL_COUNT]

/-- The fields of page kind `acq`, part 0. -/
def acqFields0 : List Fld :=
  [ACQ_CTRL_EN, ACQ_STAT_USE, MSR_COMMIT_GO, MSR_COMMIT_CANCEL, MSR_COMMIT_FLUSH, MSR_COMMIT_GROUP,
   MSR_CANCEL_H_HANDLE, MSR_RESP_RESULT, MSR_RESP_HANDLE, MSR_REL_GO, MSR_REL_ALL, MSR_REL_GROUP, MSR_FILL_DETAIL,
   MSR_FILL_USED, MSR_LATE_OVF, MSR_LATE_COUNT, MSR_RES_LOST_OVF, MSR_RES_LOST_COUNT, MSR_CUR_BUSY, MSR_CUR_HANDLE,
   RES_DATA0_VALUE, RES_DATA1_VALID, RES_DATA1_STATUS, RES_DATA1_LATE, RES_DATA1_SITE_VALID, RES_DATA1_SITE,
   RES_DATA1_HANDLE, RES_DATA2_TAG, RES_FILL_COUNT, ACQ_CAP_CTRL_ARM, ACQ_CAP_CTRL_DISARM, ACQ_CAP_CTRL_DESC,
   ACQ_CAP_STAT_STATE, ACQ_CAP_STAT_CLASS, ACQ_CAP_STAT_DESC, ACQ_CAP_STAT_SEGS, ACQ_CAP_RESP_RESULT,
   ACQ_MISSED_OVF, ACQ_MISSED_COUNT, ACQ_ARM_WAIT_NS]

/-- The fields of page kind `acq`, part 1. -/
def acqFields1 : List Fld :=
  [ACQ_SPILL_HANDLE, ACQ_SPILL_OFF, ACQ_SPILL_WORDS, ACQ_SEG_CUR_SEG, ACQ_SEG_CUR_WORD, ACQ_SEG_DATA,
   ACQ_DESC_WORD, MSR_W]

/-- The fields of page kind `acq`. -/
def acqFields : List Fld := acqFields0 ++ acqFields1

/-- The fields of page kind `tmu`. -/
def tmuFields : List Fld :=
  [TMU_CTRL_ARM, TMU_CTRL_DISARM, TMU_CTRL_CAL_GO, TMU_CTRL_HOST_RESERVE, TMU_STAT_STATE, TMU_STAT_OWNER,
   TMU_STAT_BINTAB_VALID, TMU_STAT_DONE_STOPS, TMU_RESP_RESULT, TMU_START_FIXREF, TMU_START_OCC_M1, TMU_START_SRC,
   TMU_CFG_NSTOP, TMU_TIMEOUT_US, TMU_EPOCH_F_LO, TMU_EPOCH_P, TMU_EPOCH_F_HI, TMU_T0_F_LO, TMU_T0_P, TMU_T0_F_HI,
   TMU_T0_FINE, TMU_RES_LO, TMU_RES_VALID, TMU_RES_COINCIDENT, TMU_RES_ORDER, TMU_RES_TIMEOUT, TMU_RES_EDGE_LOST,
   TMU_RES_HOLDOVER, TMU_RES_HI, TMU_BIN_CUR_BIN, TMU_BIN_DATA_POS, TMU_CAL_CFG_HITS_LOG2, TMU_CAL_STAT_RESULT,
   TMU_CAL_STAT_HITS, TMU_COUNT_OVF, TMU_COUNT, TMU_STOP_FIXREF, TMU_STOP_OCC_M1, TMU_STOP_SRC]

/-- The fields of page kind `thm`. -/
def thmFields : List Fld :=
  [THM_CFG_LOCK, THM_CFG_RATE_LIM, THM_WARN, THM_THROT, THM_CRIT, THM_SHUT, THM_THR_CFG_PSQ_EN, THM_THR_CFG_MSR_EN,
   THM_THR_CFG_SCRUB_EN, THM_THR_CFG_PAUSE_MS, THM_THR_CFG_RUN_MS, THM_LAST_VALID, THM_LAST_REGION, THM_LAST_CAUSE,
   THM_LAST_SENSOR, THM_LAST_TEMP, THM_LAST_SEC, THM_THR_MS_OVF, THM_THR_MS_COUNT, THM_SENSOR_BROKEN,
   THM_SENSOR_RISE, THM_SENSOR_TEMP, THM_REGION_WARN, THM_REGION_THROTTLE, THM_REGION_RATE, THM_REGION_CRITICAL,
   THM_REGION_SHUTDOWN, THM_REGION_PAUSING, THM_REGION_BROKEN, THM_REGION_TEMP]

/-- The fields of page kind `cal`. -/
def calFields : List Fld :=
  [CAL_CTRL_GO, CAL_CTRL_ABORT, CAL_CTRL_EN, CAL_BANKS, CAL_CFG_MAX_AGE_H, CAL_CFG_DELTA_T, CAL_DUE, CAL_RUNNING,
   CAL_GAP, CAL_UNST_OVF, CAL_UNST_COUNT, CAL_UNST_LAST_RECORD, CAL_UNST_LAST_ITEM, CAL_UNST_LAST_INDEX,
   CAL_REC_SEL_RECORD, CAL_REC_STAT_SOURCE, CAL_REC_STAT_INTACT, CAL_REC_STAT_STEPS, CAL_REC_RUN_LAST_T,
   CAL_REC_AGE_AGE_S, CAL_SEL_PENDING, CAL_SEL_SET, CAL_FACT_LOCKED, CAL_FACT_USE_FACTORY, CAL_GEN]

/-- The fields of page kind `secCtl`. -/
def secCtlFields : List Fld :=
  [SEC_STAT_ID_VALID, SEC_STAT_PROD_LOCK, SEC_STAT_JTAG_DBG, SEC_STAT_VENDOR, SEC_STAT_OWNER_SESSION,
   SEC_STAT_OWNER_SLOT, SEC_STAT_SESSIONS, SEC_STAT_ENROLLED, SEC_CMD_OPCODE, SEC_CMD_LENGTH, SEC_RESP_RESULT,
   SEC_RESP_BUSY, SEC_VENDOR_LEFT_S, SEC_OWN_CFG_IDLE_S, SEC_ENROLL_CTR, SEC_BOOTRND_BR, SEC_SERIAL,
   SEC_SLOT_SEL_SLOT, SEC_WIN_DATA]

/-- The fields of page kind `secLoad`. -/
def secLoadFields : List Fld :=
  [SECL_STAT_LOADING, SECL_STAT_LOAD_PSQ, SECL_STAT_SEALED_PSQ, SEC_LOAD_HANDLE, SEC_LOAD_OFF, SEC_LOAD_LEN,
   SEC_LOAD_CTRL_GO, SEC_LOAD_CTRL_UNLOAD, SEC_LOAD_CTRL_OVL_APPLY, SEC_LOAD_CTRL_PSQ, SEC_LOAD_RESP_RESULT,
   SEC_LOAD_RESP_DETAIL, SEC_BSEL_PSQ, SEC_BINFO_VALID, SEC_BINFO_ENC, SEC_BINFO_DEBUG_ALLOW, SEC_BINFO_SLOT,
   SEC_BINFO_COUNTER, SEC_BINFO_TEMPLATE, SEC_BVER_VERSION, SEC_BDIG_DIGEST]

/-- The fields of page kind `secDbg`. -/
def secDbgFields : List Fld :=
  [SEC_DBG_HANDLE, SEC_DBG_OFF, SEC_DBG_DENIED, SEC_DBG_UE, SEC_DBG_UNWRITTEN, SEC_DBGWIN_DATA]

/-- The fields of page kind `secCnt`. -/
def secCntFields : List Fld :=
  [SEC_FW_SVN, SEC_ARB]

/-- The fields of page kind `plk`. -/
def plkFields : List Fld :=
  [PLK_STAT_LSTATE, PLK_STAT_FEEDING, PLK_STAT_SERVING, PLK_STAT_MIRROR_OFF, PLK_CFG_ROLE, PLK_CFG_EN,
   PLK_CFG_FEED_EN, PLK_CFG_SHORT_ACT, PLK_CFG_FEED_MB, PLK_CTRL_CHECK, PLK_CTRL_REFRESH, PLK_CTRL_RETRAIN,
   PLK_RESP_RESULT, PLK_GEN, PLK_EXPECT_VALUE, PLK_EXPECT_VALID, PLK_PARTNER_GEN, PLK_REFUSE_REASON, PLK_DEVID,
   PLK_RETRY_OVF, PLK_RETRY_COUNT, PLK_AUTHERR_OVF, PLK_AUTHERR_COUNT, PLK_FEED_STATE, PLK_FEED_CAP_USED_MB,
   PLK_FEED_CAP_CAP_MB, PLK_FEED_TAG, PLK_MIRROR_LO, PLK_MIRROR_HI, PLK_AGE_MAX, PLK_MSEL_KIND, PLK_MSEL_INDEX,
   PLK_MSEL_WORD, PLK_MDATA_DATA, PLK_MSTAT_EMPTY, PLK_MSTAT_SEALED]

/-- The fields of page kind `spm`. -/
def spmFields : List Fld :=
  [SPM_STAT_BUSY, SPM_STAT_XIP_BUSY, SPM_STAT_SFDP_OK, SPM_CFG_MODE, SPM_CFG_CS, SPM_CFG_FRAMED, SPM_CFG_WSIZE,
   SPM_CFG_STATUS_FIRST, SPM_CFG_DIV, SPM_LEN, SPM_CTRL_GO, SPM_CTRL_ABORT, SPM_RESP_RESULT, SPM_RESP_STATUS,
   SPM_RESP_TRIES, SPM_RESP_BITS, SPM_RETRY_INTERVAL, SPM_RETRY_LIMIT, SPM_TIMING_CSS, SPM_TIMING_CSH,
   SPM_XIP_CFG_WREN, SPM_XIP_CFG_FW_WREN, SPM_XIP_CMD_GO, SPM_XIP_CMD_BLOCK, SPM_XIP_CMD_ADDR, SPM_XIP_RESP_RESULT,
   SPM_XIP_INFO_DENS_LOG2, SPM_XIP_INFO_ADDR4, SPM_XIP_INFO_PAGE_LOG2, SPM_XIP_INFO_SECT_LOG2,
   SPM_XIP_INFO_BLK_LOG2, SPM_TX, SPM_RX, SPM_XIP_DISC_OVF, SPM_XIP_DISC_COUNT, SPM_XIP_ERR_OVF, SPM_XIP_ERR_COUNT,
   SPM_XIP_RBUSY_OVF, SPM_XIP_RBUSY_COUNT]

/-- The fields of page kind `evr`. -/
def evrFields : List Fld :=
  [EVR_STAT_CLEARING, EVR_STAT_SETBACK, EVR_STAT_WALL_VALID, EVR_STAT_QUEUE, EVR_CFG_INT_SEV, EVR_CLEAR_GO,
   EVR_CLEAR_MAXSEV, EVR_USED_HIGH, EVR_USED_ALL, EVR_OPSEC, EVR_BOOTS, EVR_TORN, EVR_CURSOR_LO_SEQ_LO,
   EVR_CURSOR_HI_LOADED, EVR_CURSOR_HI_END, EVR_CURSOR_HI_MINSEV, EVR_CURSOR_HI_SEQ_HI, EVR_DATA, EVR_DROP_COUNT,
   EVR_NEXT_SEQ_LO, EVR_NEXT_SEQ_HI, EVR_OLDEST_SEQ_LO, EVR_OLDEST_SEQ_HI, EVR_WALL_LO, EVR_WALL_HI,
   EVR_DROPPED_OVF, EVR_DROPPED_COUNT, EVR_UNSTORED_OVF, EVR_UNSTORED_COUNT, EVR_DROP_TYPE, EVR_DROP_CLASS]

/-- The fields of page kind `nvm`. -/
def nvmFields : List Fld :=
  [NVM_UE_VALID, NVM_UE_OFF, NVM_CE_OVF, NVM_CE_COUNT, NVM_WFAIL_OVF, NVM_WFAIL_COUNT, NVM_WRITES_OVF,
   NVM_WRITES_COUNT]

/-- The fields of page kind `hifRst`. -/
def hifRstFields : List Fld :=
  [PWR_BANK_ON, PWR_CTRL_CLUSTER_B, PWR_CTRL_CLUSTER_A, PWR_STAT0_ON, PWR_STAT1_ON, PWR_RESP_RESULT,
   PWR_RESP_DOMAIN, HIF_RESET_CHIP]

/-- The fields of page kind `pgv`. -/
def pgvFields : List Fld :=
  [PGV_CEIL_LOCK, PGV_CEIL_CEIL_MW, PGV_CHARGED_HEADROOM_MW, PGV_CHARGED_CHARGED_MW, PGV_MODE_DRYRUN,
   PGV_RESP_RESULT, PGV_RESP_SOURCE, PGV_RESP_TOTAL_MW, PGV_REFUSED_OVF, PGV_REFUSED_COUNT, PGV_BANK_CHARGE_GATED,
   PGV_BANK_CHARGE_MODE, PGV_BANK_CHARGE_CHARGE_MW]

/-- The fields of page kind `msixTab`. -/
def msixTabFields : List Fld :=
  [MSIX_ADDR_LO, MSIX_ADDR_HI, MSIX_DATA, MSIX_MASK]

/-- The fields of page kind `msixPba`. -/
def msixPbaFields : List Fld :=
  [MSIX_PBA_PENDING]

/-- The register table of each page kind. -/
def fieldsOf : PageKind → List Fld
  | .hifId => hifIdFields
  | .hifRst => hifRstFields
  | .epcSrc => epcSrcFields
  | .pgv => pgvFields
  | .msixTab => msixTabFields
  | .msixPba => msixPbaFields
  | .epcCtl => epcCtlFields
  | .pst => pstFields
  | .tmu => tmuFields
  | .secCtl => secCtlFields
  | .secLoad => secLoadFields
  | .secDbg => secDbgFields
  | .secCnt => secCntFields
  | .stw => stwFields
  | .spm => spmFields
  | .evr => evrFields
  | .nvm => nvmFields
  | .thm => thmFields
  | .cal => calFields
  | .gmnSum => gmnSumFields
  | .plk => plkFields
  | .sfb => sfbFields
  | .ovl => ovlFields
  | .pcnChip => pcnFields
  | .psq => psqFields
  | .mce => mceFields
  | .apg => apgFields
  | .pcn => pcnFields
  | .mceWin => []
  | .site => siteFields
  | .vmc => vmcFields
  | .lftG => lftGFields
  | .lft => lftFields
  | .freG => freGFields
  | .fre => freFields
  | .freSite => freSiteFields
  | .bnk => bnkFields
  | .dps => dpsFields
  | .hvc => hvcFields
  | .pmu => pmuFields
  | .acq => acqFields
  | .gmn => gmnFields
  | .lde => ldeFields
  | .pec => pecFields

end Sys2Proof.Machine
end

