-- ==== Sys2Proof/Machine/Pages.lean ====
section
/-! DEFINITION. The BAR0 page map (R43 to R45): which page an offset lies in, the base of each page, page types, default
vectors, minimum roles, and what a register reads as when nothing has written it. -/

namespace Sys2Proof.Machine

/-- A BAR0 offset resolved: the page kind, the instance on the page, the page's base, the base its block registers are
counted from (it differs from the page's base on a TMU page only), and the offset from that base. -/
structure PageRef where
  kind : PageKind
  inst : Nat
  page : Nat
  base : Nat
  off : Nat
  deriving DecidableEq, Repr

/-- The base of the block registers of instance `i` of a page kind (R44; for the TMU the block base B of its page). -/
def baseOf : PageKind → Nat → Nat
  | .hifId, _ => 0
  | .hifRst, _ => 0x1000
  | .epcSrc, _ => 0x2000
  | .pgv, _ => 0x3000
  | .msixTab, _ => 0x4000
  | .msixPba, _ => 0x5000
  | .epcCtl, _ => 0x10000
  | .pst, _ => 0x11000
  | .tmu, i => 0x18000 + (i / 2) * 0x1000 + (if i % 2 = 0 then 0x40 else 0x800)
  | .secCtl, _ => 0x20000
  | .secLoad, _ => 0x21000
  | .secDbg, _ => 0x22000
  | .secCnt, _ => 0x23000
  | .stw, _ => 0x30000
  | .spm, _ => 0x31000
  | .evr, _ => 0x32000
  | .nvm, _ => 0x33000
  | .thm, _ => 0x40000
  | .cal, _ => 0x41000
  | .gmnSum, _ => 0x42000
  | .plk, _ => 0x50000
  | .sfb, _ => 0x60000
  | .ovl, _ => 0x61000
  | .pcnChip, _ => 0x62000
  | .psq, n => 0x80000 + n * 0x10000
  | .mce, n => 0x80000 + n * 0x10000 + 0x1000
  | .apg, n => 0x80000 + n * 0x10000 + 0x2000
  | .pcn, n => 0x80000 + n * 0x10000 + 0x3000
  | .mceWin, n => 0x80000 + n * 0x10000 + 0x4000
  | .site, n => 0x100000 + n * 0x1000
  | .vmc, _ => 0x200000
  | .lftG, _ => 0x220000
  | .lft, n => 0x221000 + n * 0x1000
  | .freG, _ => 0x240000
  | .fre, n => 0x241000 + n * 0x1000
  | .freSite, _ => 0x249000
  | .bnk, b => 0x300000 + b * 0x10000
  | .dps, i => 0x300000 + (i / 3) * 0x10000 + 0x1000 + (i % 3) * 0x1000
  | .hvc, b => 0x300000 + b * 0x10000 + 0x4000
  | .pmu, b => 0x300000 + b * 0x10000 + 0x5000
  | .acq, b => 0x300000 + b * 0x10000 + 0x6000
  | .gmn, b => 0x300000 + b * 0x10000 + 0x7000
  | .lde, b => 0x300000 + b * 0x10000 + 0x8000
  | .pec, k => 0x1000000 + k * 0x1000

/-- The base of the page that instance `i` of a kind lies on: two TMUs share a page (R44). -/
def pageBase (k : PageKind) (i : Nat) : Nat := baseOf k i / 0x1000 * 0x1000

/-- The kind and instance of the page with this number (offset div 0x1000); none for a reserved page (R45). -/
def kindOfPage (n : Nat) : Option (PageKind × Nat) :=
  if n < 0x80 then
    match n with
    | 0x00 => some (.hifId, 0)
    | 0x01 => some (.hifRst, 0)
    | 0x02 => some (.epcSrc, 0)
    | 0x03 => some (.pgv, 0)
    | 0x04 => some (.msixTab, 0)
    | 0x05 => some (.msixPba, 0)
    | 0x10 => some (.epcCtl, 0)
    | 0x11 => some (.pst, 0)
    | 0x20 => some (.secCtl, 0)
    | 0x21 => some (.secLoad, 0)
    | 0x22 => some (.secDbg, 0)
    | 0x23 => some (.secCnt, 0)
    | 0x30 => some (.stw, 0)
    | 0x31 => some (.spm, 0)
    | 0x32 => some (.evr, 0)
    | 0x33 => some (.nvm, 0)
    | 0x40 => some (.thm, 0)
    | 0x41 => some (.cal, 0)
    | 0x42 => some (.gmnSum, 0)
    | 0x50 => some (.plk, 0)
    | 0x60 => some (.sfb, 0)
    | 0x61 => some (.ovl, 0)
    | 0x62 => some (.pcnChip, 0)
    | m => if 0x18 ≤ m ∧ m < 0x20 then some (.tmu, 2 * (m - 0x18)) else none
  else if n < 0x100 then
    let k := (n - 0x80) / 0x10
    match (n - 0x80) % 0x10 with
    | 0 => some (.psq, k)
    | 1 => some (.mce, k)
    | 2 => some (.apg, k)
    | 3 => some (.pcn, k)
    | _ => some (.mceWin, k)
  else if n < 0x200 then some (.site, n - 0x100)
  else if n < 0x300 then
    if n = 0x200 then some (.vmc, 0)
    else if n = 0x220 then some (.lftG, 0)
    else if 0x221 ≤ n ∧ n < 0x229 then some (.lft, n - 0x221)
    else if n = 0x240 then some (.freG, 0)
    else if 0x241 ≤ n ∧ n < 0x249 then some (.fre, n - 0x241)
    else if n = 0x249 then some (.freSite, 0)
    else none
  else if n < 0x300 + 24 * 0x10 then
    let b := (n - 0x300) / 0x10
    match (n - 0x300) % 0x10 with
    | 0 => some (.bnk, b)
    | 1 => some (.dps, 3 * b)
    | 2 => some (.dps, 3 * b + 1)
    | 3 => some (.dps, 3 * b + 2)
    | 4 => some (.hvc, b)
    | 5 => some (.pmu, b)
    | 6 => some (.acq, b)
    | 7 => some (.gmn, b)
    | 8 => some (.lde, b)
    | _ => none
  else if 0x1000 ≤ n ∧ n < 0x1000 + 768 then some (.pec, n - 0x1000)
  else none

/-- A BAR0 offset resolved; none where the offset is reserved (R45). -/
def pageOf (off : Nat) : Option PageRef :=
  match kindOfPage (off / 0x1000) with
  | none => none
  | some (k, i) =>
    let page := off / 0x1000 * 0x1000
    let o := off % 0x1000
    match k with
    | .tmu =>
      if o < 0x40 then some ⟨.tmu, i, page, page, o⟩
      else if o < 0x800 then some ⟨.tmu, i, page, page + 0x40, o - 0x40⟩
      else some ⟨.tmu, i + 1, page, page + 0x800, o - 0x800⟩
    | .mceWin => some ⟨.mceWin, i, page, baseOf .mceWin i, off - baseOf .mceWin i⟩
    | k => some ⟨k, i, page, page, o⟩

/-- PAGE_ID.TYPE of a page kind (R43). -/
def typeOf : PageKind → Nat
  | .hifId | .hifRst => 1
  | .pgv => 2
  | .epcSrc | .epcCtl | .pst => 3
  | .tmu => 4
  | .secCtl | .secLoad | .secDbg | .secCnt => 5
  | .stw => 6
  | .spm => 7
  | .evr => 8
  | .nvm => 9
  | .thm => 0xA
  | .cal => 0xB
  | .gmn | .gmnSum => 0xC
  | .plk => 0xD
  | .psq => 0xE
  | .mce | .mceWin => 0xF
  | .apg => 0x10
  | .pcn | .pcnChip => 0x11
  | .sfb | .site => 0x12
  | .ovl => 0x13
  | .vmc => 0x14
  | .lft | .lftG => 0x15
  | .fre | .freG | .freSite => 0x16
  | .bnk => 0x17
  | .dps => 0x18
  | .hvc => 0x19
  | .pmu => 0x1A
  | .acq => 0x1B
  | .lde => 0x1C
  | .pec => 0x1D
  | .msixTab | .msixPba => 0

/-- PAGE_ID.INSTANCE (R44 and the register sections of the chapters). -/
def instanceOf : PageKind → Nat → Nat
  | .hifRst, _ => 1
  | .epcSrc, _ => 1
  | .pst, _ => 2
  | .tmu, i => i / 2
  | .secLoad, _ => 1
  | .secDbg, _ => 2
  | .secCnt, _ => 3
  | .gmnSum, _ | .sfb, _ | .ovl, _ | .pcnChip, _ | .lftG, _ | .freG, _ => 0xFFFF
  | .freSite, _ => 0xFFFE
  | _, i => i

/-- The MSI-X vector a page's INT_VEC resets to (R43). -/
def defaultVec : PageKind → Nat → Nat
  | .hifId, _ | .hifRst, _ => 0
  | .pgv, _ => 1
  | .epcSrc, _ | .epcCtl, _ | .pst, _ => 2
  | .tmu, _ => 3
  | .secCtl, _ | .secLoad, _ | .secDbg, _ | .secCnt, _ => 4
  | .stw, _ => 5
  | .spm, _ => 6
  | .evr, _ => 7
  | .nvm, _ => 8
  | .thm, _ => 9
  | .cal, _ => 10
  | .gmnSum, _ => 11
  | .plk, _ => 12
  | .pcnChip, _ => 13
  | .psq, n | .mce, n | .apg, n | .pcn, n | .mceWin, n => 16 + n
  | .sfb, _ | .ovl, _ | .site, _ => 24
  | .vmc, _ => 25
  | .lftG, _ | .lft, _ => 26
  | .freG, _ | .fre, _ | .freSite, _ => 27
  | .bnk, b | .hvc, b | .pmu, b | .acq, b | .gmn, b | .lde, b => 32 + b
  | .dps, i => 32 + i / 3
  | .pec, k => 32 + k / 32
  | .msixTab, _ | .msixPba, _ => 0

/-- The minimum role to write a page's block registers (R44; 0 Operator, 1 Owner, 2 Vendor). -/
def wrMin : PageKind → Nat
  | .nvm => 2
  | .pcnChip | .secDbg => 1
  | _ => 0

/-- The minimum role to read a page's block registers (R44: Owner for the chip-wide counters and the SEC debug page). -/
def rdMin : PageKind → Nat
  | .pcnChip | .secDbg => 1
  | _ => 0

/-- Whether some fields of a page need a higher role than its minimum (PAGE_PRIV.FIELD_RULES). -/
def fieldRules (k : PageKind) : Bool :=
  k == .evr || (fieldsOf k).any fun f => decide (wrMin k < f.need)

/-- The bank whose power domain a page belongs to, for the pages that R45 names as gated with their bank. -/
def bankOfPage : PageKind → Nat → Option Nat
  | .bnk, b | .hvc, b | .pmu, b | .acq, b | .gmn, b | .lde, b => some b
  | .dps, i => some (i / 3)
  | .pec, k => some (k / 32)
  | _, _ => none

/-- Whether a field of a register table covers this offset of its page, and at which index. -/
def Fld.at? (f : Fld) (off : Nat) : Option Nat :=
  if off < f.off then none
  else
    let d := off - f.off
    if d % f.stride = 0 ∧ d / f.stride < f.cnt then some (d / f.stride) else none

/-- The register tables' reset value of the word at this offset of a page kind. -/
def tableReset (k : PageKind) (off : Nat) : Nat :=
  ((fieldsOf k).map fun f =>
    match f.at? off with
    | some _ => f.rst <<< f.lo
    | none => 0).foldr (· + ·) 0

/-- The reset window of guard monitor `m` (R378), as GMN_WIN holds it (R379: HI above LO). -/
def gmnWinReset (m : Nat) : Nat :=
  if m < 32 then 50000 <<< 16
  else if m < 35 then (16711 <<< 16) + (65536 - 16711)
  else if m < 38 then (6500 <<< 16) + (65536 - 1500)
  else 15500 <<< 16

/-- What the register at a BAR0 offset reads as when nothing has written it: the reset column of the register tables, a
page's default vector in INT_VEC (R43), and the default windows of the guard monitors (R378). -/
def regReset (off : Nat) : Word :=
  match pageOf off with
  | none => 0
  | some r =>
    if r.off = 0x24 ∧ r.base = r.page ∧ r.kind ≠ .msixTab ∧ r.kind ≠ .msixPba ∧ r.kind ≠ .mceWin then
      BitVec.ofNat 32 (defaultVec r.kind r.inst)
    else if r.kind = .gmn ∧ 0x100 ≤ r.off ∧ r.off < 0x238 ∧ r.off % 8 = 0 then
      BitVec.ofNat 32 (gmnWinReset ((r.off - 0x100) / 8))
    else BitVec.ofNat 32 (tableReset r.kind r.off)

end Sys2Proof.Machine
end

