-- ==== Sys2Proof/Machine/State.lean ====
section
/-! DEFINITION. The state of the block as plain data: every register, buffer, queue, counter, mode and pin the spec gives it, the
queue of waiting commands, and the machine after power-on reset. -/

namespace Sys2Proof.Machine
open Sys2Proof

/-- DEVICE_STATE (R77). -/
inductive DevState where
  | off | boot | safe | ready | armed | run | hold | fault
  deriving DecidableEq, Repr

/-- The host role (R15, R47), in order. -/
inductive Role where
  | operator | owner | vendor
  deriving DecidableEq, Repr

/-- EPC_SRC.SOURCE (R80). -/
inductive ClkSource where
  | crystalStart | refclk | holdover
  deriving DecidableEq, Repr

/-- The mode of an armed alignment (R90). -/
inductive ArmMode where
  | start | load
  deriving DecidableEq, Repr

/-- One entry of a page's fault history (the fault history entry of R46). -/
structure FaultEntry where
  cls : Nat
  level : Nat
  base : Nat
  acked : Bool
  seq : BitVec 16
  f : BitVec 48
  p : Nat
  detail : Word
  deriving DecidableEq, Repr

/-- A page's fault history, newest first (R59); its next sequence number; its unacknowledged classes with the highest level
recorded since each was last acknowledged, the most recent first (R60); and the snapshot its cursor reads (R64). -/
structure PageFault where
  hist : List FaultEntry
  seq : BitVec 16
  unacked : List (Nat × Nat)
  snap : Option (List FaultEntry)
  deriving DecidableEq, Repr

/-- A page no fault has been raised in. -/
def PageFault.none : PageFault := ⟨[], 0, [], Option.none⟩

/-- What the last read of the host was answered with. -/
inductive Completion where
  /-- No read has completed. -/
  | nothing
  /-- Successful completion with data words. -/
  | words (ws : List Word)
  /-- Successful completion with data bytes. -/
  | bytes (bs : List Byte)
  /-- Unsupported Request (R39). -/
  | unsupported
  /-- Configuration Request Retry Status (R74). -/
  | crs
  /-- A poisoned completion (R65). -/
  | poisoned
  deriving DecidableEq, Repr

/-- The host interface: link, message signalling, configuration space, the shadows and buffers of 64-bit quantities. -/
structure HifSt where
  /-- PERST_N is low. -/
  perst : Bool
  linkUp : Bool
  msixEn : Bool
  funcMask : Bool
  busMaster : Bool
  d3hot : Bool
  /-- Writable configuration registers, by register number. -/
  cfg : SMap Word
  /-- Messages sent, by vector (R55). -/
  sent : SMap Nat
  /-- Latched high words, keyed 2 × offset for the host and 2 × offset + 1 for the Steward (R49). -/
  shadow : List (Nat × Word)
  /-- Buffered low words, by offset (R50). -/
  lowBuf : List (Nat × Word)
  /-- The answer to the host's last read. -/
  resp : Completion
  /-- An advisory non-fatal Unsupported Request has been logged through AER (R39). -/
  aerAdvisory : Bool
  deriving DecidableEq, Repr

/-- The Steward mailbox and what it reports: the running opcode and the RESULT it will complete with, a write refused while
it ran (R66), the recovery image received so far (R67), and the firmware in use. -/
structure MbxSt where
  running : Option Nat
  result : Nat
  busyWrite : Bool
  recovNext : Nat
  recov : List Byte
  /-- The last block has come: the image is to be checked and programmed at completion. -/
  recovLast : Bool
  /-- A recovery has completed with RESULT 0: a system reset follows (R67). -/
  resetDue : Bool
  /-- Flash slot the firmware came from, 0 A, 1 B; none before one is loaded. -/
  fwSlot : Option Nat
  fwVersion : Word
  fwDigest : List Word
  /-- Its SVN, and SVN_COMMIT (R496). -/
  fwSvn : Nat
  fwCommit : Bool
  /-- Timestamps of the start-up steps reached, step 1 first, in units the spec does not state. -/
  bootLog : List Word
  deriving DecidableEq, Repr

/-- How a marker failed the check of R93, with what it implies: the correction in frames and in cycles (R94). -/
structure MarkFail where
  frames : Int
  cycles : Int
  deriving DecidableEq, Repr

/-- The epoch controller. -/
structure EpcSt where
  f : BitVec 48
  p : Nat
  valid : Bool
  source : ClkSource
  /-- An alignment armed by EPC_ALIGN.ARM (R90), and whether it was armed while the epoch was valid (R92). -/
  armed : Option ArmMode
  armWait : Bool
  /-- The consecutive failing markers, newest first (R94). -/
  fails : List MarkFail
  /-- A realignment that waits for a frame boundary with no PSQ running (R94). -/
  realign : Option MarkFail
  /-- Consecutive missing markers (R95). -/
  missRun : Nat
  /-- The first marker after a return to REFCLK corrects the counter (R96). -/
  returnCheck : Bool
  /-- REFCLK has been present for 1 ms and the switch waits for the last running PSQ (R82). -/
  switchWait : Bool
  /-- The PLL relocks after a MULT change (R84). -/
  relocking : Bool
  /-- The TRIM the frame boundary is placed with; EPC_SKEW.TRIM holds the measured one (R99). -/
  trimUsed : Nat
  /-- A skew measurement runs, on this TMU (R99). -/
  skewTmu : Option Nat
  /-- A skew measurement waits for a free TMU. -/
  skewWait : Bool
  /-- The first alignment after start-up has been made (R99). -/
  aligned : Bool
  /-- MCLK cycles spent in the present or last holdover, which HOLD_ELAPSED_MS shows in milliseconds. -/
  heldFor : Nat
  deriving DecidableEq, Repr

/-- An entry of the Piste (the Piste entry table), with its slot, its slot's tag and the role that committed it (R105). -/
structure PstEntry where
  slot : Nat
  tag : Nat
  f : Nat
  p : Nat
  action : Nat
  sub : Nat
  target : Nat
  arg : Word
  role : Role
  deriving DecidableEq, Repr

/-- An entry of the execution log (R114). -/
structure PstLog where
  f : Nat
  p : Nat
  status : Nat
  handle : Nat
  word : Word
  deriving DecidableEq, Repr

/-- The Piste: its entries in the order they execute (position, then commit order), the tag of every slot, the execution log
newest first, and the snapshot its cursor reads. -/
structure PstSt where
  entries : List PstEntry
  tags : SMap Nat
  log : List PstLog
  snap : Option (List PstLog)
  deriving DecidableEq, Repr

/-- An entry on its way to the event recorder (R541), with the page that raised it. -/
structure EvrIn where
  page : Nat
  typ : Nat
  inst : Nat
  cls : Nat
  level : Nat
  base : Nat
  partner : Bool
  summary : Bool
  f : BitVec 48
  p : Nat
  detail : Word
  data : List Word
  deriving DecidableEq, Repr

/-- A committed event record: its sequence number, its severity and its sixteen words. -/
structure EvrRec where
  seq : Nat
  sev : Nat
  words : List Word
  deriving DecidableEq, Repr

/-- The event recorder: the ingress queue in arrival order, the entries pages hold back, the drop table (R542), the committed
records by slot, the highest committed sequence number, the operating seconds that NVM holds (R538), and the clear in progress with the role
that asked for it (R546). -/
structure EvrSt where
  queue : List EvrIn
  held : List EvrIn
  drops : List ((Nat × Nat) × Nat)
  dropOther : Nat
  since : Nat
  slots : SMap (Option EvrRec)
  /-- Slots a power loss left torn, found at the next scan (R544). -/
  torn : List Nat
  topSeq : Option Nat
  checkpoint : Nat
  clearing : Option (Nat × Role)
  deriving DecidableEq, Repr

/-! ### Pins, banks, supplies, guards and power domains -/

/-- A drive edge that a channel still has to apply: its time in 0.25 ps / MULT units from the burst's τ0, the vector it belongs
to, and what it does. -/
inductive DriveAct where
  /-- D1: the driver turns on if off, at the level it last drove; `level` where the format gives one (R169). -/
  | on (level : Option Bool)
  /-- The driver takes a level, true VIH. -/
  | to (level : Bool)
  /-- D4: the driver turns off. -/
  | off
  deriving DecidableEq, Repr

/-- A pending drive edge. -/
structure DriveEdge where
  time : Nat
  vec : Nat
  act : DriveAct
  deriving DecidableEq, Repr

/-- What a compare expects (R131), or a capture (R135). -/
inductive Expect where
  | lo | hi | mid | valid | capture
  deriving DecidableEq, Repr

/-- Where a compare interval stands (R173). -/
inductive CmpPhase where
  | placed | begun | lost
  deriving DecidableEq, Repr

/-- A vector's compare on a channel: its vector, the interval it occupies in the unit of a drive edge's time, whether its format
is WINDOW, what it expects (none: it reports NONE, the compare having been lost in transfer, R151), and where it stands. -/
structure Compare where
  vec : Nat
  first : Nat
  last : Nat
  window : Bool
  expect : Option Expect
  phase : CmpPhase
  deriving DecidableEq, Repr

/-- A pin channel beyond its registers. -/
structure PinSt where
  /-- The driver is on, and the level it drives or last drove, true VIH. -/
  drvOn : Bool
  drvHigh : Bool
  /-- The driver has driven since the channel last left SAFE (R169). -/
  driven : Bool
  /-- The action the last program vector performed, for KEEP (R132). -/
  lastAct : Nat
  edges : List DriveEdge
  compares : List Compare
  /-- The times of the last drive edge applied, with its vector (R172). -/
  lastEdge : Option (Nat × Nat)
  /-- DRV_COLLISION has been raised in this burst (R172). -/
  collided : Bool
  /-- The PPMU touches the pad. -/
  ppmuOn : Bool
  /-- Elements are disconnected until the PPMU has left for 200 ns (R118). -/
  exiting : Bool
  /-- A new deskew (drive, compare) that waits for the channel to leave ACTIVE (R166). -/
  deskew : Option (Nat × Nat)
  /-- The slot and DEBUG_ALLOW of the bundle that sealed the channel, and the PSQ it was loaded into (R152, R480, R488). -/
  sealedBy : Option (Nat × Bool × Nat)
  deriving DecidableEq, Repr

/-- A channel that has done nothing. -/
def PinSt.idle : PinSt := ⟨false, false, false, 7, [], [], none, false, false, false, none, none⟩

/-- Who makes a request (R29): the order of sources in one cycle is Piste, Steward, host. -/
inductive Src where
  | piste | steward | host
  deriving DecidableEq, Repr

/-- A charge-changing write that reached a bank whose domain was switching (R127, R368). -/
inductive StoredWrite where
  | mode (req : Nat)
  /-- EN of a supply: DPS by global index, HVC b as 72 + b. -/
  | en (u : Nat) (on : Bool)
  /-- DPS_CLAMP.ILIM of a DPS. -/
  | ilim (i : Nat) (v : Nat)
  | pmu (on : Bool)
  | acq (on : Bool)
  deriving DecidableEq, Repr

/-- The power phase of a switched domain (R558). -/
inductive PowerPhase where
  | off | rising | on | falling
  deriving DecidableEq, Repr

/-- A bank beyond its registers. -/
structure BankSt where
  phase : PowerPhase
  /-- What the Power Governor charges the bank, in mW (R25). -/
  charge : Nat
  /-- Held SAFE (R34): from its power-up, a Function Level Reset or a shutdown until a site is bound on it. -/
  held : Bool
  /-- The mode whose level and clamp limits apply (R128: they change at 25 µs of a transition). -/
  limMode : Nat
  /-- The mode whose calibration selections apply (R128: they change at 35 µs). -/
  calMode : Nat
  /-- Writes stored while the domain switched, in the order received (R127). -/
  stored : List (StoredWrite × Src)
  /-- A power-down that waits for a power-up to complete, with its source (R559). -/
  downWait : Option Src
  /-- The generation the bank's shadow took at its last power-down; none before the first (R520). -/
  shadowGen : Option Word
  /-- Outputs whose failed readback has been raised and not passed since (R361), by output code. -/
  dacBad : List Nat
  /-- Levels held by the deglitcher, by 8 × lane + level, with the code the output is held at (R357). -/
  levelHold : List (Nat × Nat)
  deriving DecidableEq, Repr

/-- A bank before start-up step 11. -/
def BankSt.down : BankSt := ⟨.off, 0, false, 2, 2, [], none, none, [], []⟩

/-- A DPS channel or an HVC beyond its registers. -/
structure SupplySt where
  /-- Setpoint entries not yet issued, oldest first: code and dwell in ticks (R369). -/
  queue : List (Nat × Nat)
  /-- The value issued at the last tick, applied at the next (R370). -/
  issued : Option Nat
  /-- Ticks until the queue is due to issue again. -/
  wait : Nat
  /-- A GO or SUPPLY_GO has come: draining starts at the next update tick. -/
  starting : Bool
  /-- The output is held by the deglitcher at this code (R357). -/
  hold : Option Nat
  /-- The range the Measurement Scheduler holds the channel in (R365). -/
  schedRange : Option Nat
  /-- PUV as NVM holds it: CODE and CONN (R374); a write in progress shows in PUV.BUSY. -/
  puvCode : Nat
  puvConn : Bool
  /-- The limits of the board settings image: ILIM_MAX and VMAX (R534). -/
  ilimMax : Option Nat
  vMax : Option Nat
  deriving DecidableEq, Repr

/-- A supply with nothing queued and the factory PUV code given. -/
def SupplySt.rest (puv : Nat) : SupplySt := ⟨[], none, 0, false, none, none, puv, false, none, none⟩

/-- A guard monitor's blanking: scheduled (R384) and after a level transition (R383). -/
structure GuardSt where
  sched : Bool
  level : Bool
  deriving DecidableEq, Repr

/-- A front-end die's common domain: held unpowered by temperature (R463), due to turn off after its last bank (R555). -/
structure FeSt where
  heldOff : Bool
  offDue : Bool
  deriving DecidableEq, Repr

/-! ### Pattern sequencers -/

/-- A stop request held by a running PSQ: PSQ_END.CAUSE it would give, the SYNC lane, and the position at which it is received, in
cycles from τ0 (R210). -/
structure StopReq where
  cause : Nat
  lane : Nat
  pos : Nat
  deriving DecidableEq, Repr

/-- A valid entry of the segment table (R188): its first byte's virtual address, LEN_M1, W_M1 and ATTR. -/
structure Segment where
  va : Nat
  lenM1 : Nat
  wM1 : Nat
  pausable : Bool
  deriving DecidableEq, Repr

/-- A loaded program: its registers as LOAD read them, the segment table as LOAD read it (R204), and the pages of its
footprint (R311), as ranges of a first page and a number of pages. -/
structure Program where
  va : Nat
  len : Nat
  tabVa : Nat
  segs : List (Option Segment)
  pages : List (Nat × Nat)
  deriving DecidableEq, Repr

/-- How a line of a vector cache was filled (R295, R297). -/
inductive LineMark where
  | good | unwritten | bad
  deriving DecidableEq, Repr

/-- A line of a vector cache: a 64-byte block. -/
structure Line where
  mark : LineMark
  bytes : List Byte
  deriving DecidableEq, Repr

/-- A SUBST under way (R276): its descriptor, the vectors it emits, the vector due, and for each site the value captured when it
acted: the source register, or OFF′. -/
structure SubRun where
  desc : Nat
  index : Nat
  vals : List (Nat × Nat)
  deriving DecidableEq, Repr

/-- The vectors a PSQ is emitting: how many it has emitted and how many it will, with what they are taken from. -/
inductive EmitSrc where
  /-- From VP on; `adv` advances VP past them at the end (R193, R236). -/
  | seg (adv : Bool) (sub : Option SubRun)
  /-- APG vectors of a step in a timing set, with their attribute and the phase due (R242). -/
  | apg (step ts : Nat) (cont : Bool) (phase : Nat)
  /-- Iterations of a MATCH, with REG and FAIL_TO (R199). -/
  | iter (reg : Nat) (failTo : Bool)
  /-- The last vector, repeated until a position in cycles from τ0 (R202). -/
  | again (target : Nat)
  deriving DecidableEq, Repr

/-- Vectors being emitted: `done` of `count` so far. -/
structure Emit where
  done : Nat
  count : Nat
  src : EmitSrc
  deriving DecidableEq, Repr

/-- Where a customer opcode's microroutine stands in its current microword (R238). -/
inductive MicroStage where
  /-- Before its load function and its vectors. -/
  | first
  /-- Its load function is done; its vectors come next. -/
  | loaded
  /-- Its vectors are done; its operations come next. -/
  | ops
  /-- Its function waits or runs. -/
  | func
  /-- Its next-address control comes next. -/
  | next
  deriving DecidableEq, Repr

/-- A microroutine under way: the microword's address, how many microwords have run, the stage, and the PC an ENDLOOP has set for the
next instruction. -/
structure Micro where
  u : Nat
  used : Nat
  stage : MicroStage
  nextPc : Option Nat
  deriving DecidableEq, Repr

/-- Why the output holds the pins. -/
inductive PsqHold where
  | none
  /-- The resolution point of the last vector (R200, R234, R271). -/
  | resolve
  /-- An EPOCHWAIT's target, in cycles from τ0 (R202). -/
  | epoch (target : Nat)
  /-- A pause at a PAUSEPT (R213). -/
  | pause
  /-- A stall in a pausable segment (R217). -/
  | stall
  /-- An MWAIT on a group, with the position at which it times out (R274). -/
  | mwait (group deadline : Nat)
  deriving DecidableEq, Repr

/-- The last vector emitted: its lane-words' symbols as one number, its timing set, and what an outcome needs of it. -/
structure LastVec where
  syms : Nat
  ts : Nat
  apg : Option (Nat × Nat × Nat)
  seg : Nat
  off : Nat
  sub : Option SubRun
  deriving DecidableEq, Repr

/-- A vector whose outcomes are awaited: what its fail record holds (R329), whether it is an iteration of a MATCH and which, and its
resolution point; and which of the events COMPARE_VECTORS (1) and FAIL_VECTORS (2) it has been counted for (R255). -/
structure VecInfo where
  idx : Nat
  cyc : Nat
  ts : Nat
  seg : Nat
  off : Nat
  pc : Nat
  apg : Option (Nat × Nat × Nat)
  iter : Option Nat
  rp : Nat
  counted : Nat
  deriving DecidableEq, Repr

/-- A MATCH whose outcomes are awaited or that was the last of the burst: REG, FAIL_TO, its first iteration, the number of
iterations emitted, whether it has ended, whether it reached its limit, and the resolution point of the iteration in which the last site
matched. -/
structure MatchSt where
  reg : Nat
  failTo : Bool
  first : VecInfo
  iters : Nat
  ended : Bool
  limit : Bool
  rp : Nat
  deriving DecidableEq, Repr

/-- What the start check of a PSQ came to. -/
inductive CheckSt where
  /-- No check has been made for the start at hand. -/
  | none
  /-- A host start is requested; its check is due. -/
  | due
  /-- The check is passed; the first vector is due at τ0. -/
  | passed
  deriving DecidableEq, Repr

/-- A bundle that a sequencer holds (R481, R486): its digest, the slot that signed it, DEBUG_ALLOW and ENC_RESULTS, its counter, template
and version, its SEALED object, the pages it mapped and those it pinned, and its overlay records by placement. -/
structure Bundle where
  digest : BitVec 384
  slot : Nat
  debug : Bool
  enc : Bool
  counter : Nat
  template : Nat
  version : Nat
  handle : Word
  pages : List Nat
  pins : List Nat
  ovl : List (Nat × List Byte)
  deriving DecidableEq, Repr

/-- A pattern sequencer beyond its registers. -/
structure PsqSt where
  stops : List StopReq
  check : CheckSt
  /-- The start at hand comes from the Piste (R207). -/
  fromPiste : Bool
  /-- The refusal of the start check made for a Piste entry that has not executed yet (R111). -/
  refused : Option Nat
  prog : Option Program
  /-- A LOAD that is under way (R204, R313): the program, whose segment table may still have to be read, and once it is admitted its D
  and H. -/
  load : Option (Program × Option (Nat × Nat))
  /-- D and H as last admitted, in MB/s (R320). -/
  needD : Nat
  needH : Nat
  cache : List (Nat × Line)
  /-- Blocks requested and not yet filled, by block number. -/
  asked : List Nat
  /-- The block whose absence has been counted as a miss (R315). -/
  missed : Option Nat
  /-- The cycle of `clock` at which that miss was (R315). -/
  missedAt : Nat
  /-- The start of the next vector's period, and of the one in progress, in MCLK cycles from τ0. -/
  t : Nat
  now : Nat
  /-- Slots in hand at the front end; negative while the output outruns it (R203). -/
  slots : Int
  /-- A decode stall is under way (R220). -/
  decoding : Bool
  emit : Option Emit
  micro : Option Micro
  hold : PsqHold
  last : Option LastVec
  /-- The start and period of the last four vectors, newest first (R200). -/
  recent : List (Nat × Nat)
  /-- The attribute of the segment of the last vector emitted: pausable (R216). -/
  lastPause : Option Bool
  vecs : List VecInfo
  mtch : Option MatchSt
  /-- Classes raised in this burst that are raised once per burst: 1 PATTERN_FAULT to 4 STALL, 5 STORE_CE, 6 PCN_DENIED, 7 WRITE_BUSY,
  8 BMAP_LOST, 9 SOLVE_ERR, 10 an active site has failed, 11 the last active site is gone. -/
  raised : List Nat
  /-- An asynchronous jump was received when PSQ_VCOUNT stood at `ajAt`, at position `ajT` (R225). -/
  ajAt : Nat
  ajT : Nat
  /-- The epoch position of τ0 of the start at hand or of the last burst. -/
  t0F : Nat
  t0P : Nat
  /-- The output stands at a segment boundary (R224). -/
  atEnd : Bool
  /-- The burst's end, once an event has fixed it: PSQ_END.CAUSE, FAULT and LANE. -/
  ending : Option (Nat × Nat × Nat)
  /-- Vectors still to be masked by an outbound frame that failed its CRC, by bank (R151). -/
  maskLeft : SMap Nat
  /-- Counters whose wrap is still to be signalled, with the count of completed instructions at the wrap (R256). -/
  wraps : List (Nat × Nat)
  /-- Instructions completed at the output. -/
  completed : Nat
  /-- VP.OFF stands at 2^32, one past what its register holds; and validity and this bit of the VP each loop entry holds, innermost
  first (R193, R195). -/
  vpOver : Bool
  loopVp : List (Bool × Bool)
  /-- FRE_NONCE as captured at the start check (R348), the burst was timed in holdover (R86), and the position of its end. -/
  nonce : List Word
  holdover : Bool
  endF : BitVec 48
  endP : Nat
  /-- The sites whose record of the last burst has not been issued (R345). -/
  awaiting : List Nat
  /-- FRE_CMD.ISSUE has been written since the burst ended (R345). -/
  issueGo : Bool
  /-- Blocks of bitmaps in the mark queue: site, block of the bitmap, and bits (R333). -/
  marks : List ((Nat × Nat) × Nat)
  /-- A bitmap clear runs (R334); a limit evaluation runs, over these entries (R342). -/
  clearing : Bool
  limiting : Option Nat
  /-- Sites still to solve, and those on a solver engine (R335, R339). -/
  solves : List Nat
  solving : List Nat
  /-- The bundle the program came from (R348, R480, R489). -/
  bundle : Option Bundle
  deriving DecidableEq, Repr

def PsqSt.idle : PsqSt where
  stops := []
  check := .none
  fromPiste := false
  refused := none
  prog := none
  load := none
  needD := 0
  needH := 0
  cache := []
  asked := []
  missed := none
  missedAt := 0
  t := 0
  now := 0
  slots := 32
  decoding := false
  emit := none
  micro := none
  hold := .none
  last := none
  recent := []
  lastPause := none
  vecs := []
  mtch := none
  raised := []
  ajAt := 0
  ajT := 0
  t0F := 0
  t0P := 0
  atEnd := false
  ending := none
  maskLeft := []
  wraps := []
  completed := 0
  vpOver := false
  loopVp := []
  nonce := []
  holdover := false
  endF := 0
  endP := 0
  awaiting := []
  issueGo := false
  marks := []
  clearing := false
  limiting := none
  solves := []
  solving := []
  bundle := none

/-- An area of a control store: the words of the image it was loaded from (R248, R249). -/
inductive StoreArea where
  | invalid
  | words (ws : List Word)
  deriving DecidableEq, Repr

/-- A microcode load under way (R249): its source, and the object and offset it names. -/
structure MceJob where
  src : Nat
  handle : Word
  off : Nat
  deriving DecidableEq, Repr

/-- A control store beyond its registers: its two areas, a load under way, and whether the idle check at hand has raised STORE_CE
(R253). -/
structure MceSt where
  vendor : StoreArea
  user : StoreArea
  job : Option MceJob
  ceNoted : Bool
  deriving DecidableEq, Repr

def MceSt.empty : MceSt := ⟨.invalid, .invalid, none, false⟩

/-! ### Sites -/

/-- A site template (R258): its pins, supplies, and for each placement the channels of its pins, its DPS channels and its HVC. -/
structure Template where
  pins : Nat
  ndps : Nat
  hv : Bool
  places : List (List Nat × List Nat × Option Nat)
  deriving DecidableEq, Repr

/-- A retirement or a change of mask that waits for a vector (R279, R280): what, and the position at which it was received. -/
inductive SiteChange where
  | mask (on : Bool)
  | retire (cause : Nat)
  deriving DecidableEq, Repr

/-- The repair account of a site (R335 to R338): status, reason, spare rows and columns used, regions, and the solution written. -/
structure Repair where
  status : Nat
  reason : Nat
  rows : Nat
  cols : Nat
  regions : Nat
  slot : Option (List Byte)
  deriving DecidableEq, Repr

def Repair.blank : Repair := ⟨0, 0, 0, 0, 0, Option.none⟩

/-- A site beyond its registers: what the fabric and the Fail Reduction Engine hold of it. -/
structure SiteSt where
  /-- The index of the next vector whose outcomes it delivers. -/
  nextVec : Nat
  changes : List (SiteChange × Nat)
  /-- The first matching iteration in the last MATCH (R199). -/
  matchIter : Option Nat
  /-- The site was active when the last MATCH began. -/
  inMatch : Bool
  taint : Nat
  failed : Bool
  fails : Nat
  cmps : Nat
  pinFails : SMap Nat
  pinMask : Nat
  ffr : List (List Word)
  nonrep : Bool
  matchTo : Bool
  bmapHandle : Word
  bmapOff : Word
  bmapOk : Bool
  bmapLost : Nat
  repair : Repair
  limFail : Nat
  /-- A record of the last burst is pending; the site was already retired at its first vector. -/
  pending : Bool
  retiredAtStart : Bool
  maskedAtEnd : Bool
  pass : Bool
  bin : Nat
  lostPrior : Bool
  /-- The slot and DEBUG_ALLOW of the bundle that sealed the overlay region (R283, R480). -/
  ovlBy : Option (Nat × Bool)
  deriving DecidableEq, Repr

def SiteSt.fresh : SiteSt where
  nextVec := 0
  changes := []
  matchIter := none
  inMatch := false
  taint := 0
  failed := false
  fails := 0
  cmps := 0
  pinFails := []
  pinMask := 0
  ffr := []
  nonrep := false
  matchTo := false
  bmapHandle := 0
  bmapOff := 0
  bmapOk := false
  bmapLost := 0
  repair := Repair.blank
  limFail := 0
  pending := false
  retiredAtStart := false
  maskedAtEnd := false
  pass := false
  bin := 0
  lostPrior := false
  ovlBy := none

/-- A command of the site allocator in progress (R260, R262, R263), as latched, and its outcome once it has taken effect. -/
inductive SfbCmd where
  | bind (template psq count first : Nat)
  | releasePsq (n : Nat)
  | releaseSites (sel : Nat)
  deriving DecidableEq, Repr

/-- The site allocator: the command in progress, and the templates held. -/
structure SfbSt where
  cmd : Option SfbCmd
  templates : SMap (Option Template)
  deriving DecidableEq, Repr

/-- An overlay DMA in progress (R278). -/
structure OvlDma where
  handle : Word
  off : Nat
  first : Nat
  countM1 : Nat
  deriving DecidableEq, Repr

/-! ### The Vector Store and the Lift -/

/-- Who asks the Vector Store for an object (R291, R293). -/
inductive VsKind where
  | plain | sealedObj
  deriving DecidableEq, Repr

/-- An object of the Vector Store (R289): its kind and its granules in order. -/
structure VsObj where
  kind : VsKind
  granules : List Nat
  deriving DecidableEq, Repr

/-- An allocation or a free of the host in progress (R289, R292). -/
inductive VsJob where
  | alloc (granules : Nat)
  | free (handle : Word)
  deriving DecidableEq, Repr

/-- An entry of the page table (R308). -/
structure Pte where
  v : Bool
  host : Bool
  isSealed : Bool
  present : Bool
  failed : Bool
  granule : Nat
  haddr : Nat
  deriving DecidableEq, Repr

def Pte.blank : Pte := ⟨false, false, false, false, false, 0, 0⟩

/-- A map command of the Lift in progress, as latched (R309). -/
inductive MapCmd where
  | mapVs (vpn count : Nat) (handle : Word) (groff : Nat)
  | mapHost (vpn count haddr : Nat)
  | unmap (vpn count : Nat)
  deriving DecidableEq, Repr

/-- A host-backed page on its way into a staging granule (R316, R317): the page, the granule, and the retries made. -/
structure HostFetch where
  vpn : Nat
  granule : Nat
  tries : Nat
  deriving DecidableEq, Repr

/-- The Vector Store and the Lift: bytes by physical address, written 4 KiB regions, poisoned 64-bit words, the object table, the
page table, and what is in progress. -/
structure VsSt where
  bytes : SMap Byte
  written : SMap Bool
  poison : SMap Bool
  gens : SMap Nat
  objs : SMap (Option VsObj)
  job : Option VsJob
  /-- Consecutive uncorrectable reads of each channel (R300). -/
  ueRun : SMap Nat
  /-- The bucket has overflowed since LEVEL was last 0, and the ticks since its last fall (R299). -/
  overflowed : Bool
  leak : Nat
  pte : SMap Pte
  mapCmd : Option MapCmd
  fetches : List HostFetch
  /-- The staged host pages, least recently used first (R316). -/
  staged : List Nat
  /-- The pages whose entries the Lift's translation cache holds (R309). -/
  xlat : List Nat
  deriving DecidableEq, Repr

/-! ### Records -/

/-- The Fail Reduction Engine beyond its pages: the records stored, oldest first (R350), the ring as the host's memory holds it, by
slot, and the snapshots its cursors read (R64). -/
structure FreSt where
  store : List (List Byte)
  ring : SMap (List Byte)
  ffrSnap : Option (List (List Word))
  pinSnap : Option (SMap Nat)
  deriving DecidableEq, Repr

/-! ### Writes on their way to NVM -/

/-- A write that the Steward makes to NVM and that NVM_WRITE_DONE completes (R536). -/
inductive NvmJob where
  /-- The power-up/fault value of a supply (R374). -/
  | puv (u code : Nat) (conn : Bool)
  /-- A checkpoint of the operating seconds (R538). -/
  | opsec (value : Nat)
  /-- FW_SVN (R496). -/
  | fwSvn (value : Nat)
  deriving DecidableEq, Repr

/-! ### Measurement -/

/-- One measurement of a request (R402): the site it is for, and what it measures: a lane of the bank, a DPS by its global index, or
the bank's HVC as 72 + b. -/
structure MsrItem where
  site : Option Nat
  unit : Nat
  deriving DecidableEq, Repr

/-- A request of a bank's queue (R399): its slot and generation, its descriptor, the time of its release with the number of that
release, its items still to be dispatched, how many it had, and whether one has been dispatched. -/
structure MsrReq where
  slot : Nat
  gen : Nat
  words : List Word
  released : Option Nat
  relNo : Nat
  items : List MsrItem
  total : Nat
  started : Bool
  deriving DecidableEq, Repr

/-- Where a capture stands (R411 to R417). -/
inductive CapStage where
  /-- Admitted while an item ran, at this time (R409). -/
  | waiting (since : Nat)
  /-- Waits for its PAUSEPT. -/
  | pending
  | armed
  /-- Collects post-trigger results. -/
  | post
  /-- Between segments: ready or not, and the time at which the segment ended. -/
  | rearm (ready : Bool) (since : Nat)
  deriving DecidableEq, Repr

/-- A result as a capture keeps it: its value R, its word in the capture memory, and its epoch position. -/
structure CapResult where
  r : Int
  word : Word
  f : BitVec 48
  p : Nat
  deriving DecidableEq, Repr

/-- A capture that holds the ACQ (R411): its class (0 host, 1 Piste, 2 sequencer), its descriptor, its stage, the position in the ring
at which the next pre-trigger result goes and how many are kept, the result before the present one, whether the hysteresis of RISE or FALL
has been met, the segments completed, the entry of the segment at hand, its post-trigger results so far, and the triggers still to pass by
in an event hold-off. -/
structure Capture where
  cls : Nat
  words : List Word
  stage : CapStage
  ringNext : Nat
  kept : Nat
  prev : Option CapResult
  primed : Bool
  segs : Nat
  entry : List Word
  posts : Nat
  hold : Nat
  deriving DecidableEq, Repr

/-- A bank's measuring instruments beyond their registers: requests in commit order, the item that runs with the time of its dispatch,
slot generations, source and range dispatched last, the host result FIFO, the releases so far, the groups whose lateness has been raised
with their release, the capture, its segment entries with the snapshot the cursor reads, and the capture memory. -/
structure MeasSt where
  reqs : List MsrReq
  run : Option (MsrReq × MsrItem × Nat)
  gens : SMap Nat
  lastSel : Option (Nat × Nat)
  fifo : List (List Word)
  rels : Nat
  lateNoted : List (Nat × Nat)
  cap : Option Capture
  segs : List (List Word)
  snap : Option (List (List Word))
  mem : SMap Word
  deriving DecidableEq, Repr

def MeasSt.idle : MeasSt := ⟨[], none, [], none, [], 0, [], none, [], none, []⟩

/-! ### Time measurement -/

/-- A time-measurement unit beyond its registers. Times are in 1/(256 · MULT) LSB (R427). `bins` is the bin table by code; `back` the STATE
a device use returns to (R433). While it is ARMED: the edges seen since the arm, newest first, as source and time, and the merges; `count`
the qualifying edges of the start. While it is RUNNING: the time of the start edge and the edges counted by each stop; `last` the last counted
edge of each source; `lost` the sources with merged edges, and whether EDGE_LOST has been raised; `hold` whether SOURCE has been HOLDOVER
since the arm (R429). -/
structure TmuSt where
  bins : SMap Nat
  back : Nat
  count : Nat
  edges : List (Nat × Int)
  merges : List (Nat × Int)
  start : Int
  counts : SMap Nat
  last : List (Nat × Int)
  lost : List Nat
  lostRaised : Bool
  hold : Bool
  deriving DecidableEq, Repr

def TmuSt.idle : TmuSt := ⟨[], 0, 0, [], [], 0, [], [], [], false, false⟩

/-! ### Calibration and temperature -/

/-- The five temperature sets of a record (R438): its trims and its selections, where they differ from the factory set. -/
structure CalData where
  trims : SMap Int
  sels : SMap Nat
  deriving DecidableEq, Repr

/-- A stored copy of a record (R450). -/
structure CalCopy where
  gen : Nat
  intact : Bool
  data : CalData
  deriving DecidableEq, Repr

/-- A step in progress (R444): its item, its index, the bank mode it measures, and the TMU it holds. -/
structure CalStep where
  item : Nat
  index : Nat
  mode : Nat
  tmu : Option Nat
  deriving DecidableEq, Repr

/-- A write of a copy on its way to NVM: the copy, its generation, its content, and whether it belongs to a commit (R450) or a rewrite
(R452). -/
structure CalWrite where
  copy : Nat
  gen : Nat
  data : CalData
  commit : Bool
  deriving DecidableEq, Repr

/-- A calibration record beyond its registers: its sets, the copy they come from (3: the factory set), its three copies, the steps completed
in the current run (mode, item, index), the steps passed over in this gap, the step in progress, LAST_T by mode, the operating second of its
last completed run, whether it became due again while it ran, whether CAL_OVERDUE has been raised, the set in force, the set pending, the
temperature of the last interpolation, and the copy writes not yet done. -/
structure CalRec where
  data : CalData
  source : Nat
  copies : List CalCopy
  steps : List (Nat × Nat × Nat)
  passed : List (Nat × Nat)
  step : Option CalStep
  lastT : SMap (Option Int)
  ran : Option Nat
  again : Bool
  overdue : Bool
  set : Nat
  next : Option Nat
  compT : Option Int
  writes : List CalWrite
  deriving DecidableEq, Repr

def CalData.factory : CalData := ⟨[], []⟩

/-- A record as shipped: three equal copies of generation 1, no run since power-on. -/
def CalRec.fresh : CalRec where
  data := CalData.factory
  source := 0
  copies := [⟨1, true, CalData.factory⟩, ⟨1, true, CalData.factory⟩, ⟨1, true, CalData.factory⟩]
  steps := []
  passed := []
  step := none
  lastT := []
  ran := none
  again := false
  overdue := false
  set := 0
  next := none
  compT := none
  writes := []

/-- The thermal manager beyond its registers: the last hundred samples, newest first; the consecutive bad samples of each sensor; the dwell
counts, by 16 × region + 2 × state + (1 for leaving); and whether a CORE shutdown has dropped every domain but AON (R461). -/
structure ThmSt where
  hist : List (List Int)
  bad : SMap Nat
  dwell : SMap Nat
  coreDown : Bool
  deriving DecidableEq, Repr

def ThmSt.idle : ThmSt := ⟨[], [], [], false⟩

/-! ### Pairs -/

/-- What a partner's mirrored frame marker says (R505). -/
structure PartnerFrame where
  f : Nat
  dev : Nat
  gen : Word
  chFail : Nat
  admitted : Nat
  deriving DecidableEq, Repr

/-- What a partner reports of one of its sequencers (R509, R511): a program is loaded, the digest of its bundle where it is sealed, and
its PLK_FEED_TAG. -/
structure PartnerPsq where
  loaded : Bool
  bundle : Option (BitVec 384)
  tag : Word
  deriving DecidableEq, Repr

/-- A mirrored item as last received (R505, R506): the frames it had waited, the partner's sequencer it belongs to, and its words. -/
structure MirrorItem where
  wait : Nat
  psq : Option Nat
  words : List Word
  deriving DecidableEq, Repr

/-- The Pairs Link beyond its registers. -/
structure PlkSt where
  /-- FEED_EN was 1 on both devices when the link became PAIRED (R510). -/
  feedEn : Bool
  /-- The partner's EPC_STATUS.N, where it reports VALID (R505). -/
  partnerN : Option Nat
  frame : Option PartnerFrame
  psqs : SMap PartnerPsq
  /-- The mirrored items, by 256 × kind + index, and the snapshot that PLK_MDATA reads (R509); an item never sent is none. -/
  items : SMap (Option MirrorItem)
  snap : Option (Option MirrorItem)
  /-- SEQ of the next flit to send, and of the next expected; none before the first. -/
  txSeq : Nat
  rxSeq : Option Nat
  /-- Flits sent and not acknowledged, oldest first (R503). -/
  unacked : List Nat
  /-- The flit last replayed, and how often in succession. -/
  replays : Option (Nat × Nat)
  /-- Received flits are discarded until the sender replays (R503). -/
  discarding : Bool
  /-- The flit counts of the two directions (R502). -/
  txCount : Nat
  rxCount : Nat
  /-- The last feed request served: its data, or none for a feed error (R511). -/
  served : Option (Option (List Byte))
  deriving DecidableEq, Repr

def PlkSt.idle : PlkSt where
  feedEn := false
  partnerN := none
  frame := none
  psqs := []
  items := []
  snap := none
  txSeq := 0
  rxSeq := none
  unacked := []
  replays := none
  discarding := false
  txCount := 0
  rxCount := 0
  served := none

/-! ### The serial master and the flash -/

/-- A page transfer in progress, as its GO found the registers (R523 to R525), and the attempts made. -/
structure SpmJob where
  len : Nat
  framed : Bool
  wordBits : Nat
  statusFirst : Bool
  limit : Nat
  tries : Nat
  deriving DecidableEq, Repr

/-- A flash operation: a page program of a part of BAR4 write `id`, or an erase (R529, R530). -/
inductive XipOp where
  | program (id addr : Nat) (bytes : List Byte)
  | erase (addr size : Nat)
  deriving DecidableEq, Repr

/-- The serial master: the page transfer, the flash operations in order, the number of BAR4 writes accepted, the BAR4 reads that wait for a
program (address and length), the flash behind CS0, by byte address, and the bits that the last completed page transfer sent. -/
structure SpmSt where
  job : Option SpmJob
  ops : List XipOp
  writes : Nat
  reads : List (Nat × Nat)
  flash : SMap Byte
  mosi : List Bool
  deriving DecidableEq, Repr

def SpmSt.idle : SpmSt := ⟨none, [], 0, [], [], []⟩

/-! ### The Security Engine -/

/-- An Owner slot (R474): its P-384 public key as an uncompressed point, and PERMS. -/
structure OwnerKey where
  key : List Byte
  perms : Nat
  deriving DecidableEq, Repr

/-- A session (R472): whether its handshake is complete, and the Owner slot it is on or asks for. -/
structure SpdmSession where
  id : Nat
  open_ : Bool
  owner : Option Nat
  deriving DecidableEq, Repr

/-- What the SPDM responder answered last (R468 to R472): the content of the message, whose wire form is that of SPDM 1.2. -/
inductive SpdmReply where
  /-- No request has been answered. -/
  | nothing
  /-- ERROR with its code. -/
  | error (code : Nat)
  | version (versions : List Nat)
  /-- The flags that are 1, MEAS_CAP with its value, CTExponent, DataTransferSize and MaxSPDMmsgSize. -/
  | capabilities (flags : List String) (meas ct transfer msg : Nat)
  | algorithms (chosen : AlgSet)
  /-- The mask of the slots that hold a chain, and the digest of slot 0's. -/
  | digests (mask : Nat) (digest : BitVec 384)
  /-- A portion of the chain, and the bytes that remain after it. -/
  | certificate (portion : List Byte) (remainder : Nat)
  | challengeAuth (signature : BitVec 768)
  /-- The number of blocks asked for by index 0, or the blocks, by index with DMTF value type and content; the signature where one was
  asked for. -/
  | measurements (count : Nat) (blocks : List (Nat × Nat × List Byte)) (signature : Option (BitVec 768))
  /-- The session, MutAuthRequested bit 0, and the signature. -/
  | keyExchange (session : Nat) (mutAuth : Bool) (signature : BitVec 768)
  | finish
  | endSession
  deriving DecidableEq, Repr

/-- A bundle load past its checks (R486): the sequencer, the bundle, and whether its header has ADVANCE. -/
structure SecJob where
  psq : Nat
  bundle : Bundle
  advance : Bool
  deriving DecidableEq, Repr

/-- The Security Engine beyond its pages: the Owner slots, the slot of the Owner whose session exists, how far the connection has come
(0 none, 1 VERSION, 2 CAPABILITIES, 3 ALGORITHMS), what ALGORITHMS selected, the sessions, the last answer, the current nonce, the
permissions of the Vendor role where it is held, and the bundle load in progress. -/
structure SecSt where
  slots : SMap (Option OwnerKey)
  owner : Option Nat
  conn : Nat
  algs : AlgSet
  sessions : List SpdmSession
  reply : SpdmReply
  nonce : Option (List Word)
  vendor : Option Nat
  job : Option SecJob
  deriving DecidableEq, Repr

def SecSt.idle : SecSt where
  slots := []
  owner := none
  conn := 0
  algs := ⟨false, false, false, false, false, false, false⟩
  sessions := []
  reply := .nothing
  nonce := none
  vendor := none
  job := none

/-- Why the machine stops. The block has no command whose effect the spec leaves without any outcome, so no meaning raises one. -/
inductive Fault where
  /-- Raised by no meaning: the spec gives every command an effect. Safe: stopping proves nothing false. -/
  | unreachable
  deriving DecidableEq, Repr

/-- Why the model refuses a command. -/
inductive Refusal where
  /-- A command the model gives no meaning yet, by its mnemonic; raised by exec's arms only. Safe. -/
  | notModelled (mnemonic : String)
  deriving DecidableEq, Repr

/-- The whole block. -/
structure State where
  /-- Commands waiting, first in, first out. -/
  pending : List Instr
  /-- Every register behind BAR0, by byte offset; an unlisted one reads as `regReset` says. -/
  regs : SMap Word
  dev : DevState
  /-- DEVICE_STATE.CAUSE and CAUSE_TYPE (R77). -/
  cause : Nat
  causeType : Nat
  /-- The host role the Security Engine holds (R47). -/
  role : Role
  /-- Fault state of each page, by page base (R59). -/
  faults : SMap PageFault
  hif : HifSt
  mbx : MbxSt
  epc : EpcSt
  pst : PstSt
  evr : EvrSt
  /-- Pin channels, by PEC number. -/
  pins : SMap PinSt
  /-- Banks, by number. -/
  banks : SMap BankSt
  /-- Supplies: DPS by global index 0 to 71, HVC b at 72 + b. -/
  sups : SMap SupplySt
  /-- Guard monitors, by 39 × bank + m. -/
  guards : SMap GuardSt
  /-- Front-end dies, by number. -/
  fes : SMap FeSt
  /-- The switched power domains that are on: bit i is domain i (R554). -/
  domains : BitVec 40
  /-- The PSQ clusters whose power-up is in progress (R557): 0 PSQA, 1 PSQB. -/
  clusterRise : List Nat
  /-- Pattern sequencers, by number. -/
  psqs : SMap PsqSt
  /-- Control stores, by sequencer. -/
  mces : SMap MceSt
  /-- Edge tables: word w of set t of channel k at 2048 k + 8 t + w (R178). -/
  edgeTab : SMap Word
  /-- Scramble tables: entry i of sequencer n at 4096 n + i (R243). -/
  scramble : SMap Nat
  /-- Topology maps: entry (m, k) of sequencer n at 2048 n + 128 m + k (R244). -/
  topo : SMap Nat
  /-- Sites, by number. -/
  sites : SMap SiteSt
  sfb : SfbSt
  /-- The overlay store, by byte address (R276). -/
  overlay : SMap Byte
  ovlDma : Option OvlDma
  vs : VsSt
  fre : FreSt
  /-- Measuring instruments, by bank. -/
  meas : SMap MeasSt
  /-- Time-measurement units, by number. -/
  tmus : SMap TmuSt
  /-- Calibration records, by number: 0 to 23 the banks, 24 the core (R437). -/
  cal : SMap CalRec
  thm : ThmSt
  plk : PlkSt
  spm : SpmSt
  sec : SecSt
  /-- Chip-wide counters whose wrap is still to be signalled (R256). -/
  chipWraps : List Nat
  /-- Subsystem ID and Subsystem Vendor ID of the NVM identity; none where NVM holds no board values (R37). -/
  boardIds : Option Word
  /-- The board settings image as loaded (R531, R471); none where it is missing or failed its check. -/
  settings : Option (List Byte)
  /-- Writes on their way to NVM, oldest first (R536). -/
  nvmJobs : List NvmJob
  /-- The vectors signalled in the cycle of the running command (R55: one message a cycle); empty between commands. -/
  sig : List Nat
  /-- An entry at Critical or above recorded by the running command (R61, R446): whether it is Fatal, and the page type of the first such
  entry; none between commands. -/
  grave : Option (Bool × Nat)
  /-- MCLK cycles that have passed (the model's own field: what delays and deadlines are measured with). -/
  clock : Nat
  /-- How many free values a run has drawn (the model's own field; see `Config.freeNat`). -/
  free : Nat
  deriving DecidableEq, Repr

/-- The machine right after power-on reset. -/
def State.reset : State where
  pending := []
  regs := []
  dev := .off
  cause := 0
  causeType := 0
  role := .operator
  faults := []
  hif := ⟨false, false, false, false, false, false, [], [], [], [], .nothing, false⟩
  mbx := ⟨none, 0, false, 0, [], false, false, none, 0, [], 0, false, []⟩
  epc := ⟨0, 0, false, .crystalStart, none, false, [], none, 0, false, false, false, 0, none, false, false, 0⟩
  pst := ⟨[], [], [], none⟩
  evr := ⟨[], [], [], 0, 0, [], [], none, 0, none⟩
  pins := []
  banks := []
  sups := []
  guards := []
  fes := []
  domains := 0
  clusterRise := []
  psqs := []
  mces := []
  edgeTab := []
  scramble := []
  topo := []
  sites := []
  sfb := ⟨none, []⟩
  overlay := []
  ovlDma := none
  vs := ⟨[], [], [], [], [], none, [], false, 0, [], none, [], [], []⟩
  fre := ⟨[], [], none, none⟩
  meas := []
  tmus := []
  cal := []
  thm := ThmSt.idle
  plk := PlkSt.idle
  spm := SpmSt.idle
  sec := SecSt.idle
  chipWraps := []
  boardIds := none
  settings := none
  nvmJobs := []
  sig := []
  grave := none
  clock := 0
  free := 0

end Sys2Proof.Machine
end

