-- ==== Sys2Proof/Machine/Ops.lean ====
section
/-! DEFINITION. The shared operations over the state: registers and their fields, free values, counters, interrupts and
messages, the event recorder's ingress, and the outcome of a command. -/

namespace Sys2Proof.Machine
open Sys2Proof

/-! ### Registers -/

/-- The word held at a BAR0 offset. -/
def State.rd (s : State) (off : Nat) : Word := mapGet regReset s.regs off

/-- The state with a word at a BAR0 offset. -/
def State.wr (s : State) (off : Nat) (w : Word) : State := { s with regs := mapSet regReset s.regs off w }

/-- The BAR0 offset of element `j` of a field of page kind `k`, instance `i`. -/
def fldOff (k : PageKind) (i : Nat) (f : Fld) (j : Nat) : Nat := baseOf k i + (f.off + f.stride * j)

/-- Element `j` of an array field. -/
def State.fldAt (s : State) (k : PageKind) (i : Nat) (f : Fld) (j : Nat) : Nat :=
  bitsOf (s.rd (fldOff k i f j)) f.hi f.lo

/-- A field of a page. -/
def State.fld (s : State) (k : PageKind) (i : Nat) (f : Fld) : Nat := s.fldAt k i f 0

/-- A one-bit field as a flag. -/
def State.flag (s : State) (k : PageKind) (i : Nat) (f : Fld) : Bool := s.fld k i f == 1

/-- The state with element `j` of an array field set. -/
def State.putAt (s : State) (k : PageKind) (i : Nat) (f : Fld) (j v : Nat) : State :=
  s.wr (fldOff k i f j) (putBits (s.rd (fldOff k i f j)) f.hi f.lo v)

/-- The state with a field of a page set. -/
def State.put (s : State) (k : PageKind) (i : Nat) (f : Fld) (v : Nat) : State := s.putAt k i f 0 v

/-- A counter field advanced by `n`; its sticky overflow bit is set when it wraps (R53). -/
def State.bumpBy (s : State) (k : PageKind) (i : Nat) (cnt ovf : Fld) (n : Nat) : State :=
  let v := s.fld k i cnt + n
  let s := s.put k i cnt v
  if 2 ^ (cnt.hi + 1 - cnt.lo) ≤ v then s.put k i ovf 1 else s

/-- A counter field advanced by one. -/
def State.bump (s : State) (k : PageKind) (i : Nat) (cnt ovf : Fld) : State := s.bumpBy k i cnt ovf 1

/-- The state with every register of a page back at its reset value, the common header (offsets below 0x040) apart. -/
def State.clearBlock (s : State) (page : Nat) (keep : Nat → Bool) : State :=
  { s with regs := mapDrop (fun o => decide (page + 0x40 ≤ o) && decide (o < page + 0x1000) && !keep (o - page)) s.regs }

/-! ### 64-bit quantities -/

/-- The low word of a 64-bit quantity at an offset is held in its buffer (R50). -/
def State.holdLow (s : State) (off : Nat) (v : Word) : State :=
  { s with hif := { s.hif with lowBuf := (off, v) :: s.hif.lowBuf.filter fun e => e.1 != off } }

/-- The high word of the 64-bit quantity whose low word lies at `off` is written: both words apply, or the high word alone where none is
buffered (R50). -/
def State.applyHigh (s : State) (off : Nat) (v : Word) : State :=
  let s' := match lookupKey s.hif.lowBuf off with
    | some lo => s.wr off lo
    | none => s
  { s'.wr (off + 4) v with hif := { s'.hif with lowBuf := s'.hif.lowBuf.filter fun e => e.1 != off } }

/-! ### Free values -/

/-- A fresh free value. -/
def State.freeVal (s : State) : Nat := Config.freeNat s.free

/-- The state after one free value has been drawn. -/
def State.drawn (s : State) : State := { s with free := s.free + 1 }

/-- A fresh free word. -/
def State.freeWord (s : State) : Word := BitVec.ofNat 32 s.freeVal

/-! ### Interrupts and messages -/

/-- Whether the function can send messages at all (R57, and the power-management passage after R38). -/
def State.canSend (s : State) : Bool :=
  s.hif.msixEn && s.hif.busMaster && s.hif.linkUp && !s.hif.perst && !s.hif.d3hot

/-- Whether a vector is masked, by its own mask or by the function mask (R57). -/
def State.vectorMasked (s : State) (v : Nat) : Bool :=
  s.hif.funcMask || s.fldAt .msixTab 0 Reg.MSIX_MASK v == 1

/-- Sets a vector's pending bit in the PBA. -/
def State.pend (s : State) (v : Nat) : State :=
  let o := fldOff .msixPba 0 Reg.MSIX_PBA_PENDING (v / 32)
  s.wr o (s.rd o ||| BitVec.ofNat 32 (2 ^ (v % 32)))

/-- Sends the message of a vector, or sets its pending bit where it cannot be sent (R55, R57). -/
def State.sendOrPend (s : State) (v : Nat) : State :=
  if s.canSend && !s.vectorMasked v then
    { s with hif := { s.hif with sent := mapSet (fun _ => 0) s.hif.sent v (mapGet (fun _ => 0) s.hif.sent v + 1) } }
  else s.pend v

/-- Signals a vector, once in one cycle whatever the number of its causes (R55). -/
def State.signal (s : State) (v : Nat) : State :=
  if s.sig.contains v then s else { s.sendOrPend v with sig := v :: s.sig }

/-- INT_STAT of a page. -/
def State.intStat (s : State) (page : Nat) : Word := s.rd (page + 0x18)

/-- INT_EN of a page. -/
def State.intEn (s : State) (page : Nat) : Word := s.rd (page + 0x1C)

/-- INT_VEC.VECTOR of a page. -/
def State.intVec (s : State) (page : Nat) : Nat := bitsOf (s.rd (page + 0x24)) 7 0

/-- A hardware set of INT_STAT bits: each bit that goes from 0 to 1 while enabled signals the page's vector (R55). -/
def State.intSet (s : State) (page : Nat) (mask : Word) : State :=
  let old := s.intStat page
  let s' := s.wr (page + 0x18) (old ||| mask)
  if mask &&& ~~~old &&& s.intEn page = 0 then s' else s'.signal (s.intVec page)

/-- A hardware set of one INT_STAT bit of a page. -/
def State.int (s : State) (k : PageKind) (i bitNo : Nat) : State :=
  s.intSet (pageBase k i) (BitVec.ofNat 32 (2 ^ bitNo))

/-- INT_STAT.ACCESS_DENIED of the page (R11). -/
def State.denied (s : State) (page : Nat) : State := s.intSet page 0x40000000

/-! ### Roles -/

/-- The encoding of a role (PAGE_PRIV): 0 Operator, 1 Owner, 2 Vendor. -/
def Role.code : Role → Nat
  | .operator => 0
  | .owner => 1
  | .vendor => 2

/-- Whether a role meets a minimum (R47). -/
def Role.meets (r : Role) (min : Nat) : Bool := decide (min ≤ r.code)

/-! ### The event recorder's ingress -/

/-- One more drop of a class in the drop table of 16 classes, further classes counted in OTHER (R542). -/
def EvrSt.countDrop (e : EvrSt) (tc : Nat × Nat) : EvrSt :=
  if e.drops.any fun d => d.1 == tc then
    { e with drops := e.drops.map fun d => if d.1 == tc then (d.1, d.2 + 1) else d, since := e.since + 1 }
  else if e.drops.length < 16 then { e with drops := e.drops ++ [(tc, 1)], since := e.since + 1 }
  else { e with dropOther := e.dropOther + 1, since := e.since + 1 }

/-- An entry is dropped at the ingress: counted in the drop table and EVR_DROPPED, and INT_STAT.DROPPED set (R541). -/
def State.evrDrop (s : State) (x : EvrIn) : State :=
  let s := { s with evr := s.evr.countDrop (x.typ, x.cls) }
  (s.bump .evr 0 Reg.EVR_DROPPED_COUNT Reg.EVR_DROPPED_OVF).int .evr 0 1

/-- The list without the last entry that satisfies `p`. -/
def dropLastWhere {α : Type} (p : α → Bool) (l : List α) : List α := (l.reverse.eraseP p).reverse

/-- An entry is offered to the ingress queue of 32 entries (R541). -/
def State.evrOffer (s : State) (x : EvrIn) : State :=
  if s.evr.held.any fun h => h.page == x.page then { s with evr := { s.evr with held := s.evr.held ++ [x] } }
  else if s.evr.queue.length < 32 then { s with evr := { s.evr with queue := s.evr.queue ++ [x] } }
  else if x.level < 3 then s.evrDrop x
  else
    match s.evr.queue.reverse.find? fun q => decide (q.level < 3) with
    | some y =>
      let s := s.evrDrop y
      { s with evr := { s.evr with queue := dropLastWhere (fun q => decide (q.level < 3)) s.evr.queue ++ [x] } }
    | none => { s with evr := { s.evr with held := s.evr.held ++ [x] } }

/-- An entry of the device itself, at the present epoch position. -/
def State.evrEntry (s : State) (k : PageKind) (i cls level base : Nat) (detail : Word) : EvrIn :=
  ⟨pageBase k i, typeOf k, instanceOf k i, cls, level, base, false, false, s.epc.f, s.epc.p, detail, []⟩

end Sys2Proof.Machine
end

