-- ==== Sys2Proof/Machine/Device.lean ====
section
/-! DEFINITION. What every block shares: the pin state of a channel (R116), bank and supply lookups, stop requests (R210), device
states (R78), the fault values of the supplies (R376), and the raising of faults with their escalation (R59 to R63). -/

namespace Sys2Proof.Machine
open Sys2Proof Reg

/-! ### Lookups -/

/-- What an unwritten supply record is: the factory PUV code of a DPS or of an HVC (R374). -/
def supRest (u : Nat) : SupplySt := SupplySt.rest (if u < 72 then 0x3C3C4 else 0)

def State.pin (s : State) (k : Nat) : PinSt := mapGet (fun _ => PinSt.idle) s.pins k
def State.setPin (s : State) (k : Nat) (v : PinSt) : State := { s with pins := mapSet (fun _ => PinSt.idle) s.pins k v }
def State.bank (s : State) (b : Nat) : BankSt := mapGet (fun _ => BankSt.down) s.banks b
def State.setBank (s : State) (b : Nat) (v : BankSt) : State := { s with banks := mapSet (fun _ => BankSt.down) s.banks b v }
def State.sup (s : State) (u : Nat) : SupplySt := mapGet supRest s.sups u
def State.setSup (s : State) (u : Nat) (v : SupplySt) : State := { s with sups := mapSet supRest s.sups u v }
def State.guard (s : State) (i : Nat) : GuardSt := mapGet (fun _ => ⟨false, false⟩) s.guards i
def State.setGuard (s : State) (i : Nat) (v : GuardSt) : State :=
  { s with guards := mapSet (fun _ => ⟨false, false⟩) s.guards i v }
def State.fe (s : State) (n : Nat) : FeSt := mapGet (fun _ => ⟨false, false⟩) s.fes n
def State.setFe (s : State) (n : Nat) (v : FeSt) : State := { s with fes := mapSet (fun _ => ⟨false, false⟩) s.fes n v }
def State.psq (s : State) (n : Nat) : PsqSt := mapGet (fun _ => PsqSt.idle) s.psqs n
def State.setPsq (s : State) (n : Nat) (v : PsqSt) : State := { s with psqs := mapSet (fun _ => PsqSt.idle) s.psqs n v }
def State.fault (s : State) (page : Nat) : PageFault := mapGet (fun _ => PageFault.none) s.faults page
def State.setFault (s : State) (page : Nat) (v : PageFault) : State :=
  { s with faults := mapSet (fun _ => PageFault.none) s.faults page v }

/-- The page kind of supply `u`: DPS below 72, HVC b at 72 + b. The two pages give the fields they share the same offsets
and bits, so the names of the DPS page serve for both. -/
def supKind (u : Nat) : PageKind := if u < 72 then .dps else .hvc

/-- The instance of supply `u` on its kind of page. -/
def supInst (u : Nat) : Nat := if u < 72 then u else u - 72

/-- The bank of supply `u` (R5). -/
def supBank (u : Nat) : Nat := if u < 72 then u / 3 else u - 72

/-- Whether a bank's power domain is on (R554). -/
def State.bankOn (s : State) (b : Nat) : Bool := s.domains.getLsbD (16 + b)

/-! ### Sealed content -/

/-- Whether a role opens content sealed by a bundle of this slot and DEBUG_ALLOW: the Owner whose session is on that slot (R480). -/
def State.opens (s : State) (r : Role) (origin : Option (Nat × Bool)) : Bool :=
  match origin with
  | some (slot, debug) => r == .owner && s.sec.owner == some slot && debug
  | none => false

/-- The slot and DEBUG_ALLOW of the bundle a PSQ holds. -/
def State.psqOrigin (s : State) (n : Nat) : Option (Nat × Bool) := (s.psq n).bundle.map fun b => (b.slot, b.debug)

/-! ### Sequencers and device states -/

/-- Whether a PSQ is running: from its start check until its burst has ended (R206). -/
def State.psqRunning (s : State) (n : Nat) : Bool := s.fld .psq n PSQ_STAT_RUNSTATE != 0

/-- Whether a PSQ's first vector period has begun (R206, R78). -/
def State.psqBurst (s : State) (n : Nat) : Bool := decide (2 ≤ s.fld .psq n PSQ_STAT_RUNSTATE)

/-- Whether any PSQ is running. -/
def State.anyRunning (s : State) : Bool := (List.range 8).any s.psqRunning

/-- Whether a PSQ holds bound sites and a loaded program (R78). -/
def State.psqQualifies (s : State) (n : Nat) : Bool := s.flag .psq n PSQ_STAT_BOUND && s.flag .psq n PSQ_STAT_LOADED

/-- READY, ARMED and RUN follow from the sequencers (R78). -/
def State.settle (s : State) : State :=
  match s.dev with
  | .ready | .armed | .run =>
    { s with dev :=
        if (List.range 8).any s.psqBurst then .run
        else if (List.range 8).any s.psqQualifies then .armed else .ready }
  | _ => s

/-- The frame length N in MCLK cycles (R88). -/
def State.frameN (s : State) : Nat := s.fld .epcCtl 0 EPC_FRAME_LEN * s.fld .epcSrc 0 EPC_SRC_MULT

/-- The cycles from the present epoch position to a position; negative where it has passed (R12). -/
def State.cyclesTo (s : State) (f p : Nat) : Int := ((f : Int) - s.epc.f.toNat) * s.frameN + ((p : Int) - s.epc.p)

/-- MCLK cycles from τ0 to the present epoch position; negative before τ0. -/
def State.fromT0 (s : State) (n : Nat) : Int := -(s.cyclesTo (s.psq n).t0F (s.psq n).t0P)

/-- MCLK cycles from τ0 to the present epoch position; 0 before τ0. -/
def State.sinceT0 (s : State) (n : Nat) : Nat := (s.fromT0 n).toNat

/-- The position at which something reaches a PSQ, in cycles from τ0: the epoch counter's, and no earlier than the vector in
progress. -/
def State.psqNow (s : State) (n : Nat) : Nat := max (s.psq n).now (s.sinceT0 n)

/-- A stop request reaches a PSQ; it has no effect on one that is not running (R210). One of the Piste is received 24 cycles after
its position. -/
def State.requestStop (s : State) (n cause lane : Nat) : State :=
  let pos := if cause = 5 then max ((s.psq n).now + bit (s.psqBurst n) * 24) (s.fromT0 n + 24).toNat else s.psqNow n
  if s.psqRunning n then s.setPsq n { s.psq n with stops := (s.psq n).stops ++ [⟨cause, lane, pos⟩] } else s

/-- PSQ_TAINT bits set (R223). -/
def State.taintPsq (s : State) (n bitNo : Nat) : State :=
  (s.put .psq n PSQ_TAINT (s.fld .psq n PSQ_TAINT ||| 2 ^ bitNo)).put .psq n PSQ_STAT_TAINTED 1

/-! ### Pins -/

/-- The PSQ of the site a channel belongs to. -/
def State.pinPsq (s : State) (k : Nat) : Option Nat :=
  if s.flag .pec k PEC_SITE_BOUND then some (s.fld .site (s.fld .pec k PEC_SITE) SITE_BIND_PSQ) else none

/-- Whether a channel is in SAFE: the first row of R116. -/
def State.pinSafe (s : State) (k : Nat) : Bool :=
  !s.flag .pec k PEC_SITE_BOUND || !s.bankOn (k / 32) || (s.bank (k / 32)).held
    || decide ((s.bank (k / 32)).phase ≠ .on) || s.flag .bnk (k / 32) BNK_MODE_TRANSITION
    || decide (s.dev = .boot) || decide (s.dev = .safe) || decide (s.dev = .fault) || decide (s.dev = .off)
    || s.flag .pec k PEC_STAT_SELFCHK_FAIL

/-- PEC_PPMU.HELD: a connection request waits while the channel is in SAFE or the bank PMU holds the pad (R120). -/
def State.ppmuHeld (s : State) (k : Nat) : Bool :=
  s.flag .pec k PEC_PPMU_CONN && (s.pinSafe k || s.flag .pec k PEC_STAT_PMU_ON)

/-- PEC_STAT.PIN_STATE: 0 SAFE, 1 IDLE, 2 ACTIVE, 3 MEASURE (R116). -/
def State.pinState (s : State) (k : Nat) : Nat :=
  if s.pinSafe k then 0
  else if s.flag .pec k PEC_STAT_PMU_ON || (s.flag .pec k PEC_PPMU_CONN && !s.ppmuHeld k) then 3
  else
    match s.pinPsq k with
    | some n => if s.psqRunning n then 2 else 1
    | none => 1

/-- A channel that is in SAFE drives nothing and has its PPMU off; pending edges are gone (R34, R116). -/
def PinSt.safe (p : PinSt) : PinSt :=
  { p with drvOn := false, driven := false, edges := [], compares := [], ppmuOn := false, exiting := false }

/-- Every channel of a bank that is now in SAFE takes up the SAFE elements. -/
def State.safeBankPins (s : State) (b : Nat) : State :=
  { s with pins := s.pins.filterMap fun e =>
      if e.1 / 32 = b then
        (if e.2.safe = PinSt.idle then none else some (e.1, e.2.safe))
      else some e }

/-- Every channel of the device takes up the SAFE elements. -/
def State.safeAllPins (s : State) : State :=
  { s with pins := s.pins.filterMap fun e => if e.2.safe = PinSt.idle then none else some (e.1, e.2.safe) }

/-! ### Supplies -/

/-- A level transition of the source of monitor `m` of bank `b`: the monitor is blanked where LVL_BLANK is 1 (R383). -/
def State.levelBlank (s : State) (b m : Nat) : State :=
  if s.fldAt .gmn b GMN_CFG_LVL_BLANK m == 1 then
    s.setGuard (39 * b + m) { s.guard (39 * b + m) with level := true }
  else s

/-- A level transition of a supply: its current and voltage monitors (R378, R383). -/
def State.supTransition (s : State) (u : Nat) : State :=
  if u < 72 then (s.levelBlank (u / 3) (32 + u % 3)).levelBlank (u / 3) (35 + u % 3) else s.levelBlank (u - 72) 38

/-- The master of a DPS channel: b.0 where the channel follows in a gang (R367). -/
def State.supMaster (s : State) (u : Nat) : Nat :=
  if u < 72 && s.flag .dps u DPS_STAT_FOLLOWER then u / 3 * 3 else u

/-- The fault values of one supply (R376). -/
def State.supFault (s : State) (u : Nat) : State :=
  let x := s.sup u
  let m := s.sup (s.supMaster u)
  let k := supKind u
  let i := supInst u
  let s := s.setSup u { x with queue := [], issued := none, wait := 0, starting := false, hold := none }
  let s := s.put k i DPS_Q_STAT_RUNNING 0
  let s := if m.puvConn then s else s.put k i DPS_STAT_CONNECTED 0
  let s := s.put k i DPS_V_CODE m.puvCode
  let s := s.put k i DPS_STAT_FAULT_HELD 1
  (s.int k i 5).supTransition u

/-- Every DPS and HVC goes to its power-up/fault value (R376). -/
def State.allSupFault (s : State) : State := (List.range 96).foldl State.supFault s

/-! ### Faults -/

/-- The level an entry is recorded at (R60). -/
def recordedLevel (pf : PageFault) (cls base : Nat) : Nat :=
  if base < 2 then base
  else
    match lookupKey pf.unacked cls with
    | some h => max base (min 5 (h + 1))
    | none => base

/-- The unacknowledged classes after an entry at Warning or higher is recorded (R60): the class with its highest level,
moved to the front when it reaches that level again. -/
def noteUnacked (un : List (Nat × Nat)) (cls level : Nat) : List (Nat × Nat) :=
  (cls, level) :: un.filter fun e => e.1 != cls

/-- An entry at Critical or above is noted for the end of the command: the first of the highest level. -/
def State.noteGrave (s : State) (fatal : Bool) (typ : Nat) : State :=
  match s.grave with
  | none => { s with grave := some (fatal, typ) }
  | some (f, _) => if fatal && !f then { s with grave := some (true, typ) } else s

/-- A page records a fault entry (R59 to R61), and passes it on to the event recorder where `offer` says so (R462); the entry's DETAIL is
given. At Critical and above every supply goes to its
fault value; DEVICE_STATE becomes FAULT for an entry at Fatal when the command ends (`done`). -/
def State.recordFault (s : State) (offer : Bool) (k : PageKind) (i cls base : Nat) (detail : Word) : State :=
  let page := pageBase k i
  let pf := s.fault page
  let level := recordedLevel pf cls base
  let e : FaultEntry := ⟨cls, level, base, false, pf.seq, s.epc.f, s.epc.p, detail⟩
  let lost := decide (8 ≤ pf.hist.length)
  let s := s.setFault page
    { pf with
      hist := (e :: pf.hist).take 8
      seq := pf.seq + 1
      unacked := if base < 2 then pf.unacked else noteUnacked pf.unacked cls level }
  let s := if lost then s.intSet page 0x20000000 else s
  let s := if level < 2 then s else s.intSet page 0x80000000
  let s := if offer then s.evrOffer (s.evrEntry k i cls level base detail) else s
  if level < 4 then s
  else
    s.allSupFault.noteGrave (level == 5) (typeOf k)

/-- A page records a fault entry and passes it on. -/
def State.raise (s : State) (k : PageKind) (i cls base : Nat) (detail : Word) : State := s.recordFault true k i cls base detail

/-- A fault entry whose DETAIL the spec does not state: a free value. -/
def State.raiseOpen (s : State) (k : PageKind) (i cls base : Nat) : State :=
  (s.raise k i cls base s.freeWord).drawn

/-- Whether any page holds an unacknowledged class at Critical or higher, or the device is in FAULT: ALERT_N low (R58). -/
def State.alert (s : State) : Bool :=
  decide (s.dev = .fault) || s.faults.any fun e => e.2.unacked.any fun c => decide (4 ≤ c.2)

end Sys2Proof.Machine
end

