-- ==== Sys2Proof/Machine/Lookups.lean ====
section
/-! DEFINITION. What several blocks look up: time, gating, sites with their pins and registers, gangs and the ranges of supplies. -/

namespace Sys2Proof.Machine
open Sys2Proof Reg

/-! ### Time -/

/-- EPC_SRC.MULT. -/
def State.mult (s : State) : Nat := s.fld .epcSrc 0 EPC_SRC_MULT

/-- MCLK cycles in `x` × 50 ns, and in `x` × 0.1 µs: MCLK runs at MULT × 100 MHz. -/
def State.cycles50 (s : State) (x : Nat) : Nat := 5 * s.mult * x
def State.cyclesTenth (s : State) (x : Nat) : Nat := 10 * s.mult * x

/-- Whole nanoseconds in a number of MCLK cycles. -/
def State.nsOf (s : State) (c : Nat) : Nat := min (2 ^ 32 - 1) (10 * c / s.mult)

/-! ### Banks -/

/-- Whether a bank counts as gated for R127: from the admission of a power-down to the completion of the next power-up. -/
def State.gatedSpan (s : State) (b : Nat) : Bool := decide ((s.bank b).phase ≠ .on)

/-! ### Sites -/

def State.site (s : State) (i : Nat) : SiteSt := mapGet (fun _ => SiteSt.fresh) s.sites i
def State.setSite (s : State) (i : Nat) (v : SiteSt) : State := { s with sites := mapSet (fun _ => SiteSt.fresh) s.sites i v }

def State.siteBound (s : State) (i : Nat) : Bool := s.flag .site i SITE_BIND_BOUND

/-- The sites bound to a PSQ, in ascending order. -/
def State.sitesOf (s : State) (n : Nat) : List Nat :=
  (List.range 256).filter fun i => s.siteBound i && s.fld .site i SITE_BIND_PSQ == n

/-- The PSQ a site is bound to. -/
def State.sitePsq (s : State) (i : Nat) : Option Nat := if s.siteBound i then some (s.fld .site i SITE_BIND_PSQ) else none

/-- Whether the PSQ a site is bound to is running. -/
def State.siteRunning (s : State) (i : Nat) : Bool :=
  match s.sitePsq i with
  | some n => s.psqRunning n
  | none => false

def State.siteMasked (s : State) (i : Nat) : Bool := s.flag .site i SITE_STATE_MASKED
def State.siteRetired (s : State) (i : Nat) : Bool := s.flag .site i SITE_STATE_RETIRED

/-- Whether a site is active (R265). -/
def State.siteActive (s : State) (i : Nat) : Bool := s.siteBound i && !s.siteMasked i && !s.siteRetired i

/-- The active sites of a PSQ. -/
def State.activeSites (s : State) (n : Nat) : List Nat := (s.sitesOf n).filter s.siteActive

/-- The channel of site pin `k` (SITE_PINMAP). -/
def State.pinChannel (s : State) (i k : Nat) : Option Nat :=
  if k % 2 = 0 then
    (if s.fldAt .site i SITE_PINMAP_VALID0 (k / 2) = 1 then some (s.fldAt .site i SITE_PINMAP_PEC0 (k / 2)) else none)
  else
    (if s.fldAt .site i SITE_PINMAP_VALID1 (k / 2) = 1 then some (s.fldAt .site i SITE_PINMAP_PEC1 (k / 2)) else none)

/-- The pins of a site with their channels, in ascending pin order. -/
def State.sitePins (s : State) (i : Nat) : List (Nat × Nat) :=
  (List.range (s.fld .site i SITE_BIND_PINS_M1 + 1)).filterMap fun k => (s.pinChannel i k).map fun c => (k, c)

/-- The banks that hold a channel of a site. -/
def State.siteBanks (s : State) (i : Nat) : List Nat := ((s.sitePins i).map fun p => p.2 / 32).eraseDups

/-- Supplies of a site, by unified number (SITE_SUPPLY). -/
def State.siteSupplies (s : State) (i : Nat) : List Nat :=
  let w := s.fld .site i SITE_SUPPLY_DPS
  let dps := (List.range 4).filterMap fun j =>
    let x := w / 2 ^ (8 * j) % 256
    if 128 ≤ x then some (x % 128) else none
  let h := s.fld .site i SITE_SUPPLY_HVC
  if 128 ≤ h then dps ++ [72 + h % 32] else dps

/-- Site register `r` of a site. -/
def State.siteReg (s : State) (i r : Nat) : Nat := s.fldAt .site i SITE_S r
def State.setSiteReg (s : State) (i r v : Nat) : State := s.putAt .site i SITE_S r v

/-- Whether a site's registers are sealed (R283). -/
def State.regSealed (s : State) (i : Nat) : Bool :=
  match s.sitePsq i with
  | some n => s.flag .psq n PSQ_STAT_SEALED
  | none => false

/-! ### Supplies -/

/-- One more hold of a bank's deglitcher begins (R357). -/
def State.countHold (s : State) (b : Nat) : State := s.bump .lde b LDE_DGL_COUNT LDE_DGL_COUNT_OVF

/-- STAT.HOLDING of a bank's LDE page: an output of the bank is held. -/
def State.noteHolding (s : State) (b : Nat) : State :=
  let any := !(s.bank b).levelHold.isEmpty
    || [3 * b, 3 * b + 1, 3 * b + 2, 72 + b].any fun u => (s.sup u).hold.isSome
  s.put .lde b LDE_STAT_HOLDING (bit any)

/-- A supply output makes a major transition. -/
def State.holdSupply (s : State) (u old : Nat) : State :=
  let b := supBank u
  if s.gatedSpan b then s
  else if (s.sup u).hold.isSome then s
  else ((s.setSup u { s.sup u with hold := some old }).countHold b).noteHolding b

/-- The members of the gang that a supply is in, master first; the supply alone where it is in none (R367). -/
def State.gang (s : State) (u : Nat) : List Nat :=
  if u < 72 then
    let b := u / 3
    match s.fld .dps (3 * b) DPS_GANG_MODE with
    | 1 => if u % 3 < 2 then [3 * b, 3 * b + 1] else [u]
    | 2 => [3 * b, 3 * b + 1, 3 * b + 2]
    | _ => [u]
  else [u]

/-- Whether a supply follows the master of its gang. -/
def State.follower (s : State) (u : Nat) : Bool := decide (u < 72) && s.flag .dps u DPS_STAT_FOLLOWER

/-- The range in force of a DPS: the scheduler's while it holds one, else RANGE (R365). A change is a range switch (R357). -/
def State.rangeNow (s : State) (i : Nat) : State :=
  let r := (s.sup i).schedRange.getD (s.fld .dps i DPS_RANGE)
  if r = s.fld .dps i DPS_STAT_RANGE_NOW then s
  else
    let s := (s.put .dps i DPS_STAT_RANGE_NOW r).supTransition i
    if s.flag .dps i DPS_CTRL_EN then s.holdSupply i (s.fld .dps i DPS_V_CODE) else s

end Sys2Proof.Machine
end

