-- ==== Sys2Proof/Machine/Requests.lean ====
section
/-! DEFINITION. The requests of the Measurement Scheduler (R399 to R409): their fields, their items, the connections an item makes,
delivery of results, and cancellation. -/

namespace Sys2Proof.Machine
open Sys2Proof Reg

/-! ### Lookups -/

def State.measOf (s : State) (b : Nat) : MeasSt := mapGet (fun _ => MeasSt.idle) s.meas b
def State.setMeas (s : State) (b : Nat) (v : MeasSt) : State := { s with meas := mapSet (fun _ => MeasSt.idle) s.meas b v }

/-- Bits [hi:lo] of word `w` of a descriptor. -/
def wordBits (ws : List Word) (w hi lo : Nat) : Nat := bitsOf (ws.getD w 0) hi lo

def MsrReq.bits (r : MsrReq) (w hi lo : Nat) : Nat := wordBits r.words w hi lo
def MsrReq.source (r : MsrReq) : Nat := r.bits 0 31 28
def MsrReq.kind (r : MsrReq) : Nat := r.bits 0 27 26
def MsrReq.psq (r : MsrReq) : Nat := r.bits 0 24 22
def MsrReq.index (r : MsrReq) : Nat := r.bits 0 21 15
def MsrReq.range (r : MsrReq) : Nat := r.bits 1 31 29
def MsrReq.exp (r : MsrReq) : Nat := r.bits 1 28 24
def MsrReq.group (r : MsrReq) : Nat := r.bits 1 23 16
def MsrReq.settle (r : MsrReq) : Nat := r.bits 1 15 0
def MsrReq.rel (r : MsrReq) : Nat := r.bits 2 31 30
def MsrReq.toSite (r : MsrReq) : Bool := r.bits 2 29 28 == 1
def MsrReq.handle (r : MsrReq) : Nat := 256 * r.gen + r.slot

/-- Whether two records are of the same request. -/
def MsrReq.same (r q : MsrReq) : Bool := r.slot == q.slot && r.gen == q.gen

/-- MSR_FILL.USED follows the queue. -/
def State.putReqs (s : State) (b : Nat) (rs : List MsrReq) : State :=
  (s.setMeas b { s.measOf b with reqs := rs }).put .acq b MSR_FILL_USED rs.length

/-- A request record replaced in its queue. -/
def State.putReq (s : State) (b : Nat) (r : MsrReq) : State :=
  s.putReqs b ((s.measOf b).reqs.map fun q => if q.same r then r else q)

/-- The unit a SUPPLY request or a capture of supplies measures (R395, R399): the HVC for the HVC sources, else DPS b.`i`. -/
def supplyUnit (b source i : Nat) : Nat := if 6 ≤ source then 72 + b else 3 * b + i

/-- The items of a request at its release (R402). -/
def State.itemsOf (s : State) (b : Nat) (r : MsrReq) : List MsrItem :=
  let sites := (s.sitesOf r.psq).filter fun i => !s.siteRetired i
  match r.kind with
  | 0 => [⟨none, r.index⟩]
  | 1 => sites.filterMap fun i =>
      match s.pinChannel i r.index with
      | some k => if k / 32 = b then some ⟨some i, k % 32⟩ else none
      | none => none
  | 2 => [⟨none, supplyUnit b r.source r.index⟩]
  | _ => sites.filterMap fun i =>
      let x := s.fld .site i SITE_SUPPLY_DPS / 2 ^ (8 * r.index) % 256
      if 128 ≤ x ∧ x % 128 / 3 = b then some ⟨some i, if 6 ≤ r.source then 72 + b else x % 128⟩ else none

/-! ### Delivery -/

/-- The deadline of a released request, in the units of the clock; none where it has none (R407). -/
def State.dueAt (s : State) (r : MsrReq) : Option Nat :=
  match r.released with
  | some t => if r.bits 3 31 0 = 0 then none else some (t + r.bits 3 31 0 * s.frameN)
  | none => none

/-- Whether a result delivered now comes after its request's deadline (R407). -/
def State.isLate (s : State) (r : MsrReq) : Bool :=
  match s.dueAt r with
  | some d => decide (d < s.clock)
  | none => false

/-- The ADC LSB of a source in µV or pA; that of a gang's master takes in every member (R395). -/
def State.lsb (s : State) (b source unit range : Nat) : Nat :=
  match source with
  | 0 => if s.fld .pec (32 * b + unit) PEC_PPMU_MODE = 0
      then [80, 800, 8000, 80000, 1280000].getD (s.fld .pec (32 * b + unit) PEC_PPMU_RANGE) 0 else 200
  | 1 => [8, 80, 800, 8000, 80000, 800000, 2560000].getD (if range = 7 then s.fld .pmu b PMU_STAT_RANGE_NOW else range) 0
  | 4 => 240 * 10 ^ (if range = 7 then s.fld .dps unit DPS_STAT_RANGE_NOW else range)
      * (if s.follower unit then 1 else (s.gang unit).length)
  | 6 => 500
  | 7 => 400000
  | _ => 200

/-- Whether a source measures a current (R395). -/
def State.isCurrent (s : State) (b source unit : Nat) : Bool :=
  source == 1 || source == 4 || source == 7 || (source == 0 && s.fld .pec (32 * b + unit) PEC_PPMU_MODE == 0)

/-- `num / den` rounded to nearest; a tie, which R397 does not settle, goes up where `up` says so. -/
def roundNear (num : Int) (den : Nat) (up : Bool) : Int :=
  let q := num / (den : Int)
  let r2 := 2 * (num % (den : Int))
  if (den : Int) < r2 then q + 1 else if r2 = (den : Int) then (if up then q + 1 else q) else q

/-- A value limited to −2^31 to 2^31 − 1 (R397). -/
def sat32 (v : Int) : Int := max (-2147483648) (min 2147483647 v)

/-- A result converted as UNIT selects (R397). -/
def State.convert (s : State) (b : Nat) (r : MsrReq) (unit : Nat) (v : Int) : Int :=
  let u := r.bits 2 18 17
  let den := 256 * (if u = 1 && s.isCurrent b r.source unit then 1000 else 1)
  if u = 0 then v else sat32 (roundNear (v * s.lsb b r.source unit r.range) den (s.freeVal % 2 == 1))

/-- Whether a status comes with a value (R398). -/
def statusHasValue (st : Nat) : Bool := decide (st < 3)

/-- An entry joins the host result FIFO, or is discarded where it is full (R406). The spec gives no VALUE for a status without one: a
free value. -/
def State.hostResult (s : State) (b : Nat) (r : MsrReq) (site : Option Nat) (st : Nat) (late : Bool) (v : Int) : State :=
  let x := s.measOf b
  if 64 ≤ x.fifo.length then ((s.bump .acq b MSR_RES_LOST_COUNT MSR_RES_LOST_OVF).int .acq b 3).raiseOpen .acq b 3 2
  else
    let w0 : Word := if statusHasValue st then BitVec.ofInt 32 v else s.freeWord
    let w1 : Word := BitVec.ofNat 32 (2 ^ 31 + st * 2 ^ 28 + bit late * 2 ^ 27
      + (match site with | some i => 2 ^ 24 + i * 2 ^ 16 | none => 0) + r.handle)
    (s.setMeas b { x with fifo := x.fifo ++ [[w0, w1, r.words.getD 5 0]] }).drawn

/-- A result is written to the registers of its site (R406). -/
def State.siteResult (s : State) (b : Nat) (r : MsrReq) (i unit st : Nat) (late : Bool) (v : Int) : State :=
  let val := if statusHasValue st then (BitVec.ofInt 32 (s.convert b r unit v)).toNat else 0xFFFFFFFF
  let s := (s.setSiteReg i (r.bits 2 27 24) val).drawn
  if r.bits 2 19 19 = 1 then s.setSiteReg i (r.bits 2 23 20) (st + 256 * bit late) else s

/-- A result is delivered (R406). -/
def State.deliver (s : State) (b : Nat) (r : MsrReq) (it : MsrItem) (st : Nat) (v : Int) : State :=
  let late := s.isLate r
  let s := match r.toSite, it.site with
    | true, some i => s.siteResult b r i it.unit st late v
    | _, _ => s.hostResult b r it.site st late v
  s.int .acq b 0

/-- A request whose last item delivers after its deadline is counted once, and raised once for its group and release (R407). -/
def State.noteLate (s : State) (b : Nat) (r : MsrReq) : State :=
  if s.isLate r then
    let s := s.bump .acq b MSR_LATE_COUNT MSR_LATE_OVF
    let x := s.measOf b
    if x.lateNoted.contains (r.group, r.relNo) then s
    else
      let s := s.setMeas b { x with lateNoted := (r.group, r.relNo) :: x.lateNoted }
      (s.int .acq b 2).raiseOpen .acq b 2 1
  else s

/-- A request is complete and leaves the queue; GROUP_DONE where it was the last released one of its group (R406). -/
def State.reqDone (s : State) (b : Nat) (r : MsrReq) : State :=
  let s := s.putReqs b ((s.measOf b).reqs.filter fun q => !q.same r)
  if (s.measOf b).reqs.any fun q => q.group == r.group && q.released.isSome then s else s.int .acq b 1

/-- The request is complete if no item of it is left to run. -/
def State.reqCheck (s : State) (b : Nat) (r : MsrReq) : State :=
  match (s.measOf b).reqs.find? fun q => q.same r with
  | some q =>
    if q.released.isSome && q.items.isEmpty && !((s.measOf b).run.any fun x => x.1.same q) then (s.noteLate b q).reqDone b q else s
  | none => s

/-- A site is released: its items that have not been dispatched are dropped and write nothing (R402). -/
def State.dropItems (s : State) (i : Nat) : State :=
  (List.range 24).foldl (fun s b =>
    ((s.measOf b).reqs.filter fun r => r.items.any fun it => it.site == some i).foldl (fun s r =>
      let r := { r with items := r.items.filter fun it => it.site != some i }
      (s.putReq b r).reqCheck b r) s) s

/-! ### Connections -/

/-- BNK_MBUS shows a connection: 1 the bank PMU, 2 the PPMU of a lane. -/
def State.busTo (s : State) (b src lane : Nat) : State :=
  ((s.put .bnk b BNK_MBUS_BUSY (bit (src != 0))).put .bnk b BNK_MBUS_SRC src).put .bnk b BNK_MBUS_LANE lane

/-- The PMU leaves its pad (R118, R404); a PPMU connection that was held may then be made (R120). -/
def State.pmuOff (s : State) (b : Nat) : State :=
  if s.flag .pmu b PMU_STAT_CONNECTED then
    let k := 32 * b + s.fld .pmu b PMU_STAT_LANE
    let s := (s.put .pec k PEC_STAT_PMU_ON 0).setPin k { s.pin k with exiting := true }
    ((s.put .pmu b PMU_STAT_CONNECTED 0).put .pmu b PMU_STAT_COMPLIANCE 0).busTo b 0 0
  else s

/-- The PMU takes mode, range and force, and goes on a pad, which enters MEASURE; a PPMU there is disconnected (R391, R392, R404). -/
def State.pmuOn (s : State) (b lane mode range : Nat) : State :=
  let k := 32 * b + lane
  let s := if s.flag .pmu b PMU_STAT_CONNECTED && s.fld .pmu b PMU_STAT_LANE != lane then s.pmuOff b else s
  let p := s.pin k
  let s := s.setPin k { p with drvOn := false, edges := [], compares := [], ppmuOn := false, exiting := false }
  let s := (s.put .pec k PEC_STAT_PPMU_ON 0).put .pec k PEC_STAT_PMU_ON 1
  let s := (s.put .pmu b PMU_STAT_CONNECTED 1).put .pmu b PMU_STAT_MODE_NOW mode
  let s := if range = 7 then s else s.put .pmu b PMU_STAT_RANGE_NOW range
  ((s.put .pmu b PMU_STAT_LANE lane).bump .pmu b PMU_COUNT PMU_COUNT_OVF).busTo b 1 lane

/-- The scheduler holds a DPS in a range, or gives it back (R365, R404); followers take their master's (R367). -/
def State.schedRange (s : State) (u : Nat) (r : Option Nat) : State :=
  (if s.follower u then [u] else s.gang u).foldl (fun s v => (s.setSup v { s.sup v with schedRange := r }).rangeNow v) s

/-- The source of a measurement is connected (R404). -/
def State.connect (s : State) (b source unit range : Nat) : State :=
  match source with
  | 0 => (s.pmuOff b).busTo b 2 unit
  | 1 | 2 | 3 => s.pmuOn b unit (source - 1) range
  | 4 | 5 => ((if range < 5 then s.schedRange unit (some range) else s).pmuOff b).busTo b 0 0
  | _ => (s.pmuOff b).busTo b 0 0

/-- A measurement's own hold on its source ends: a DPS range goes back, the bus leaves a PPMU (R404). -/
def State.unhold (s : State) (b source unit : Nat) : State :=
  match source with
  | 0 => s.busTo b 0 0
  | 4 | 5 => if (s.sup unit).schedRange.isSome then s.schedRange unit none else s
  | _ => s

/-- Whether a source cannot be measured (R405). -/
def State.noSource (s : State) (b source unit : Nat) : Bool :=
  let k := 32 * b + unit
  match source with
  | 0 => !(s.pin k).ppmuOn
  | 1 | 2 | 3 => !s.flag .pmu b PMU_CTRL_EN || s.pinSafe k
  | _ => !s.flag (supKind unit) (supInst unit) DPS_CTRL_EN
      || ((source == 4 || source == 7) && !s.flag (supKind unit) (supInst unit) DPS_STAT_CONNECTED)

/-! ### Cancellation -/

/-- The running item stops at once, its connections open, and it delivers CANCELLED (R408). -/
def State.stopRun (s : State) (b : Nat) : State :=
  match (s.measOf b).run with
  | none => s
  | some (r, it, _) =>
    let s := ((s.unhold b r.source it.unit).pmuOff b).put .acq b ACQ_STAT_USE 0
    let s := (s.setMeas b { s.measOf b with run := none }).put .acq b MSR_CUR_BUSY 0
    (s.deliver b r it 5 0).reqCheck b r

/-- A request is cancelled: its items that are not dispatched deliver CANCELLED; one that is not released has the items it would have at
its release. The running item is not touched here. -/
def State.cancelReq (s : State) (b : Nat) (r : MsrReq) : State :=
  let items := if r.released.isSome then r.items else s.itemsOf b r
  let s := items.foldl (fun s it => s.deliver b r it 5 0) s
  let s := s.putReqs b ((s.measOf b).reqs.filter fun q => !q.same r)
  if r.released.isSome && !((s.measOf b).reqs.any fun q => q.group == r.group && q.released.isSome) then s.int .acq b 1 else s

/-- Every request of a bank that satisfies `p` is cancelled, with its running item (R408). -/
def State.cancelWhere (s : State) (b : Nat) (p : MsrReq → Bool) : State :=
  let s := match (s.measOf b).run with
    | some (r, _, _) => if p r then s.stopRun b else s
    | none => s
  ((s.measOf b).reqs.filter p).foldl (fun s r => s.cancelReq b r) s

/-- Whether a request of a group has an item of a site of PSQ `n` still to deliver (R274). -/
def State.awaits (s : State) (b n g : Nat) (r : MsrReq) : Bool :=
  r.group == g && (r.kind == 1 || r.kind == 3) && r.psq == n
    && (if r.released.isSome then !r.items.isEmpty || (s.measOf b).run.any (fun x => x.1.same r)
        else !(s.itemsOf b r).isEmpty)

/-- Whether a group has a request that an MWAIT of PSQ `n` waits for (R274). -/
def State.outstanding (s : State) (n g : Nat) : Bool :=
  (List.range 24).any fun b => (s.measOf b).reqs.any (s.awaits b n g)

/-- The sites of the items a request still has to deliver. -/
def State.sitesLeft (s : State) (b : Nat) (r : MsrReq) : List Nat :=
  let left := if r.released.isSome then r.items else s.itemsOf b r
  let running := match (s.measOf b).run with
    | some (q, it, _) => if q.same r then [it] else []
    | none => []
  (left ++ running).filterMap fun it => it.site

/-- An MWAIT times out (R274): what is outstanding is cancelled, and each site it addresses takes SF 1. -/
def State.mwaitCancel (s : State) (n g : Nat) : State :=
  (List.range 24).foldl (fun s b =>
    let sites := ((s.measOf b).reqs.filter (s.awaits b n g)).flatMap (s.sitesLeft b)
    let s := s.cancelWhere b (s.awaits b n g)
    sites.foldl (fun s i => s.put .site i SITE_STATE_SF 1) s) s

/-! ### Release -/

/-- One request is released (R401, R402). -/
def State.releaseReq (s : State) (b : Nat) (at_ : Nat) (r : MsrReq) : State :=
  let items := s.itemsOf b r
  let r := { r with released := some at_, relNo := (s.measOf b).rels, items := items, total := items.length }
  (s.putReq b r).reqCheck b r

/-- The held requests of a bank that satisfy `p` are released at a time (R401). -/
def State.releaseWhere (s : State) (b at_ : Nat) (p : MsrReq → Bool) : State :=
  let s := s.setMeas b { s.measOf b with rels := (s.measOf b).rels + 1 }
  ((s.measOf b).reqs.filter fun r => r.released.isNone && p r).foldl (fun s r => s.releaseReq b at_ r) s

/-- The requests released at the end of a burst of PSQ `n` (R401). -/
def State.releaseBurstEnd (s : State) (n : Nat) : State :=
  (List.range 24).foldl (fun s b => s.releaseWhere b s.clock fun r => r.rel == 2 && r.psq == n) s

end Sys2Proof.Machine
end

