-- ==== Sys2Proof/Machine/CalBase.lean ====
section
/-! DEFINITION. What the other blocks use of calibration: the TMUs the device takes (R433), temperatures and temperature sets (R438 to
R440), the deskew in force (R165, R166), and the abandoning of steps (R446). -/

namespace Sys2Proof.Machine
open Sys2Proof Reg

/-! ### TMUs -/

def State.tmu (s : State) (t : Nat) : TmuSt := mapGet (fun _ => TmuSt.idle) s.tmus t
def State.setTmu (s : State) (t : Nat) (v : TmuSt) : State := { s with tmus := mapSet (fun _ => TmuSt.idle) s.tmus t v }

/-- TMU_STAT.STATE: 0 IDLE, 1 ARMED, 2 RUNNING, 3 DONE, 4 DEVICE. -/
def State.tmuState (s : State) (t : Nat) : Nat := s.fld .tmu t TMU_STAT_STATE

/-- Whether a TMU measures: ARMED or RUNNING. -/
def State.tmuBusy (s : State) (t : Nat) : Bool := s.tmuState t == 1 || s.tmuState t == 2

/-- The TMU the device takes: the highest-numbered one that qualifies (R433). -/
def State.deviceTmu (s : State) : Option Nat :=
  (List.range 16).reverse.find? fun t =>
    (s.tmuState t == 0 || s.tmuState t == 3) && !s.flag .tmu t TMU_CTRL_HOST_RESERVE && s.flag .tmu t TMU_STAT_BINTAB_VALID

/-- The device holds a TMU for an owner (R432, R433): 2 CAL, 3 EPC. -/
def State.holdTmu (s : State) (t owner : Nat) : State :=
  ((s.setTmu t { s.tmu t with back := s.tmuState t }).put .tmu t TMU_STAT_STATE 4).put .tmu t TMU_STAT_OWNER owner

/-- The device gives a TMU back. -/
def State.freeTmu (s : State) (t : Nat) : State :=
  if s.tmuState t = 4 then s.put .tmu t TMU_STAT_STATE (s.tmu t).back else s

/-! ### Temperatures and sets -/

def State.calRec (s : State) (r : Nat) : CalRec := mapGet (fun _ => CalRec.fresh) s.cal r
def State.setCal (s : State) (r : Nat) (v : CalRec) : State := { s with cal := mapSet (fun _ => CalRec.fresh) s.cal r v }

/-- A sensor's reading as THM_SENSOR shows it, in 1/16 °C. -/
def State.sensorT (s : State) (i : Nat) : Int := signedOf 16 (s.fldAt .thm 0 THM_SENSOR_TEMP i)

def State.sensorBroken (s : State) (i : Nat) : Bool := s.fldAt .thm 0 THM_SENSOR_BROKEN i == 1

/-- The temperature of a record (R438): its bank's sensor, or the mean of the valid core sensors, in 1/16 °C rounded down. -/
def State.recordT (s : State) (r : Nat) : Int :=
  if r < 24 then s.sensorT r
  else
    let ts := ((List.range 8).filter fun i => !s.sensorBroken (24 + i)).map fun i => s.sensorT (24 + i)
    ts.foldl (· + ·) 0 / (ts.length : Int)

/-- The key of a trim of set `k` of a mode: item, index, and which trim of the item. -/
def trimKey (mode k item index sub : Nat) : Nat := ((5 * mode + k) * 11 + item) * 2048 + index * 64 + sub

/-- The numerator over 320 of a trim interpolated at a temperature between the sets `v` (R439); the sets lie 20 °C = 320/16 °C apart. -/
def interp320 (v : Nat → Int) (t : Int) : Int :=
  if t ≤ 400 then 320 * v 0
  else if 1680 ≤ t then 320 * v 4
  else
    let k := ((t - 400) / 320).toNat
    320 * v k + (v (k + 1) - v k) * (t - 400 - 320 * (k : Int))

/-- `num / den` rounded to nearest, halves away from zero (R439). -/
def roundAway (num : Int) (den : Nat) : Int :=
  if num < 0 then -((2 * -num + (den : Int)) / ((2 * den : Nat) : Int)) else (2 * num + (den : Int)) / ((2 * den : Nat) : Int)

/-- The sets a record applies: the factory set while USE_FACTORY is 1 (R452). -/
def State.calData (s : State) (r : Nat) : CalData :=
  if s.flag .cal 0 CAL_FACT_USE_FACTORY then CalData.factory else (s.calRec r).data

/-- The value of a trim in a set. -/
def CalData.trim (d : CalData) (r key : Nat) : Int := mapGet (Config.factoryTrim r) d.trims key

/-- The value of a trim at a temperature (R439). -/
def State.trimAt (s : State) (r mode item index sub : Nat) (t : Int) : Int :=
  roundAway (interp320 (fun k => (s.calData r).trim r (trimKey mode k item index sub)) t) 320

/-- The temperature a record's values are interpolated at: that of the last computation (R441). -/
def State.calT (s : State) (r : Nat) : Int := ((s.calRec r).compT).getD (s.recordT r)

/-- The set in force moves with the temperature, with its hysteresis about the midpoints (R440). -/
def setFor (k : Nat) (t : Int) : Nat → Nat
  | 0 => k
  | n + 1 =>
    if k < 4 ∧ 560 + 320 * (k : Int) + 32 ≤ t then setFor (k + 1) t n
    else if 0 < k ∧ t ≤ 560 + 320 * ((k : Int) - 1) - 32 then setFor (k - 1) t n
    else k

/-! ### Due records -/

/-- The mode a record is calibrated in: the bank's active mode; the core has one. -/
def State.calModeOf (s : State) (r : Nat) : Nat := if r < 24 then s.fld .bnk r BNK_MODE_ACTIVE else 0

def State.calDue (s : State) (r : Nat) : Bool := bitAt (s.fld .cal 0 CAL_DUE) r
def State.calRunning (s : State) (r : Nat) : Bool := bitAt (s.fld .cal 0 CAL_RUNNING) r

/-- A bit of CAL_DUE or CAL_RUNNING. -/
def State.calBit (s : State) (f : Fld) (r : Nat) (on : Bool) : State :=
  let v := s.fld .cal 0 f
  if bitAt v r = on then s else s.put .cal 0 f (if on then v + 2 ^ r else v - 2 ^ r)

/-- A record becomes due (R442). -/
def State.makeDue (s : State) (r : Nat) : State :=
  if s.calDue r then s else (s.setCal r { s.calRec r with overdue := false }).calBit CAL_DUE r true

/-- LAST_T of a record in a mode (R442, R447). -/
def State.lastT (s : State) (r mode : Nat) : Option Int := mapGet (fun _ => none) (s.calRec r).lastT mode

/-! ### Gaps and what new values reach -/

/-- Whether a bank is in a gap (R443). -/
def State.inGap (s : State) (b : Nat) : Bool :=
  !s.gatedSpan b && (s.rd (fldOff .bnk b BNK_BOUND 0) == 0 || bitAt (s.fld .pst 0 PST_QUIET_OPEN) b)

/-- Whether a channel of a bank is ACTIVE. -/
def State.bankActive (s : State) (b : Nat) : Bool := (List.range 32).any fun l => s.pinState (32 * b + l) == 2

/-- A pending selection takes effect (R440): INT_STAT.SEL_SWITCH. -/
def State.selectNow (s : State) (r : Nat) : State :=
  match (s.calRec r).next with
  | some k => (s.setCal r { s.calRec r with set := k, next := none }).int .cal 0 4
  | none => s

/-- A pending selection takes effect where its condition holds (R441). -/
def State.trySelect (s : State) (r : Nat) : State :=
  if r < 24 then (if s.inGap r && !s.bankActive r then s.selectNow r else s)
  else if s.anyRunning then s else s.selectNow r

/-- A deskew that waits is applied (R166). -/
def State.applyDeskew (s : State) (k : Nat) : State :=
  match (s.pin k).deskew with
  | some (d, c) =>
    let s := ((s.put .pec k PEC_DESKEW_DRV d).put .pec k PEC_DESKEW_CMP c).put .pec k PEC_DESKEW_STAT_PENDING 0
    s.setPin k { s.pin k with deskew := none }
  | none => s

/-- A new deskew comes for a channel (R165, R166): applied at once unless the channel is ACTIVE. -/
def State.newDeskew (s : State) (k drv cmp : Nat) : State :=
  let s := s.setPin k { s.pin k with deskew := some (drv, cmp) }
  if s.pinState k = 2 then s.put .pec k PEC_DESKEW_STAT_PENDING 1 else s.applyDeskew k

/-- The deskew of a channel of a bank is brought to its calibrated values (R165, R166): those of the mode whose selections apply, at the
record's temperature. -/
def State.refreshDeskew (s : State) (k : Nat) : State :=
  let b := k / 32
  let v := fun sub => cutInt 16 (s.trimAt b (s.bank b).calMode 5 (k % 32) sub (s.calT b))
  if s.fld .pec k PEC_DESKEW_DRV = v 0 ∧ s.fld .pec k PEC_DESKEW_CMP = v 1 then
    (s.setPin k { s.pin k with deskew := none }).put .pec k PEC_DESKEW_STAT_PENDING 0
  else s.newDeskew k (v 0) (v 1)

/-- The interpolated values of a record are computed anew at its present temperature (R441). -/
def State.recompute (s : State) (r : Nat) : State :=
  let s := s.setCal r { s.calRec r with compT := some (s.recordT r) }
  if r < 24 then (List.range 32).foldl (fun s l => s.refreshDeskew (32 * r + l)) s else s

/-- At 35 µs of a mode transition the selections and trims of the new mode apply (R128, R441). -/
def State.calModeSelect (s : State) (b : Nat) : State := (s.recompute b).selectNow b

/-! ### Abandoning -/

/-- A record's step in progress is abandoned and what it holds is free (R446); the steps passed over are tried again in the next gap. -/
def State.calAbandon (s : State) (r : Nat) : State :=
  let c := s.calRec r
  let s := match c.step with
    | some ⟨_, _, _, some t⟩ => s.freeTmu t
    | _ => s
  s.setCal r { c with step := none, passed := [] }

/-- A bank's gap ends: what was passed over in it is tried again in the next (R444). -/
def State.gapEnds (s : State) (b : Nat) : State := s.setCal b { s.calRec b with passed := [] }

/-- Every record's step is abandoned (R446). -/
def State.calAbandonAll (s : State) : State := (List.range 25).foldl State.calAbandon s

/-- Whether the measurement lever of throttling holds a bank's scheduler (R459): its region, or the core, is in the pending part. -/
def State.msrThrottled (s : State) (b : Nat) : Bool :=
  s.flag .thm 0 THM_THR_CFG_MSR_EN && (s.fldAt .thm 0 THM_REGION_PAUSING (b / 6) == 1 || s.fldAt .thm 0 THM_REGION_PAUSING 4 == 1)

/-- Whether a step in progress holds a bank's ACQ (R444). -/
def State.calHasAcq (s : State) (b : Nat) : Bool :=
  match (s.calRec b).step with
  | some st => [2, 3, 7, 8].contains st.item
  | none => false

end Sys2Proof.Machine
end

