-- ==== Sys2Proof/Machine/Faults.lean ====
section
/-! DEFINITION. The entry into FAULT (R35, R61, R78), and the outcome of a command. -/

namespace Sys2Proof.Machine
open Sys2Proof Reg

/-- A PSQ that a fault of the device cuts short: FAULT runs only the Steward and the always-on domain (R35). The spec names no
PSQ_END.CAUSE for it, so that field takes a free value. -/
def State.cutPsq (s : State) (n : Nat) : State :=
  if s.psqRunning n then
    let s := (s.put .psq n PSQ_END_CAUSE s.freeVal).drawn
    (s.put .psq n PSQ_STAT_RUNSTATE 0).setPsq n { s.psq n with stops := [] }
  else s

/-- DEVICE_STATE becomes FAULT (R35, R61, R78): every supply at its fault value, every bank held SAFE, sequencers ended, measurement
requests cancelled (R408) and calibration steps abandoned (R446). -/
def State.enterFault (s : State) (cause typ : Nat) : State :=
  let s := { s with dev := .fault, cause := cause, causeType := typ }
  let s := s.allSupFault
  let s := (List.range 24).foldl (fun s b => s.setBank b { s.bank b with held := true }) s
  let s := (List.range 8).foldl State.cutPsq s
  let s := (List.range 24).foldl (fun s b => s.cancelWhere b fun _ => true) s
  s.calAbandonAll.safeAllPins

/-- An entry at Critical or above recorded in the running command abandons every calibration step (R446); one at Fatal sets DEVICE_STATE to
FAULT (R61, R78). -/
def State.fall (s : State) : State :=
  match s.grave with
  | none => s
  | some (fatal, typ) =>
    let s := { s with grave := none }.calAbandonAll
    if !fatal || decide (s.dev = .off) || decide (s.dev = .boot) || decide (s.dev = .fault) then s
    else { s.enterFault 1 typ with grave := none }

/-- The command is done: a Fatal entry takes effect, READY, ARMED and RUN follow the sequencers (R78), and what was signalled in its cycle is
forgotten. -/
def done (s : State) : Host.Outcome State Fault Refusal := .next { s.fall.settle with sig := [] }

end Sys2Proof.Machine
end

