-- ==== Sys2Proof/Machine/Host.lean ====
section
/-! DEFINITION. The host link and the common page header: refused accesses (R39), interrupts and their messages (R46, R51, R55 to
R57), fault acknowledgement and history (R59 to R64), configuration requests (R36, R37, R74), link and PERST_N (R57, R69). -/

namespace Sys2Proof.Machine
open Sys2Proof Reg

/-! ### What a host access meets first -/

/-- Whether memory accesses of the host act: not in BOOT (R42), not in OFF, where nothing runs, and not after a shutdown of the core
(R461). -/
def State.live (s : State) : Bool := !(decide (s.dev = .off) || decide (s.dev = .boot) || s.thm.coreDown)

/-- A host write to a register of a page that needs role `min` (R11, R42, R47). -/
def State.asHost (s : State) (page min : Nat) (f : State → State) : State :=
  if !s.live then s else if s.role.meets min then f s else s.denied page

/-- A host write to a register of instance `i` of a page kind, in the role the page needs. -/
def State.asHostOn (s : State) (k : PageKind) (i : Nat) (f : State → State) : State := s.asHost (pageBase k i) (wrMin k) f

/-- Whether a page kind begins with the common header (R46). -/
def hasHeader (k : PageKind) : Bool := !(k == .msixTab || k == .msixPba || k == .mceWin)

/-- The page that begins at this BAR0 offset, where it has a header; a reserved offset has none (R45). -/
def headerPage (page : Nat) : Option PageRef :=
  match pageOf page with
  | some r => if page % 0x1000 = 0 && hasHeader r.kind then some r else none
  | none => none

/-- A host write to a header register that needs the page's WR_MIN (R47). -/
def State.header (s : State) (page : Nat) (f : State → State) : State :=
  match headerPage page with
  | some r => s.asHost page (wrMin r.kind) f
  | none => s

/-- A read of the host is answered with one word. -/
def State.answer (s : State) (w : Word) : State := { s with hif := { s.hif with resp := .words [w] } }

/-- A read of the host is answered with several words. -/
def State.answers (s : State) (ws : List Word) : State := { s with hif := { s.hif with resp := .words ws } }

/-! ### Messages -/

/-- The pending bit of a vector in the PBA. -/
def State.pbaBit (s : State) (v : Nat) : Bool := bitAt (s.fldAt .msixPba 0 MSIX_PBA_PENDING (v / 32)) (v % 32)

/-- The pending bit of a vector cleared. -/
def State.unpend (s : State) (v : Nat) : State :=
  let o := fldOff .msixPba 0 MSIX_PBA_PENDING (v / 32)
  s.wr o (s.rd o &&& ~~~ BitVec.ofNat 32 (2 ^ (v % 32)))

/-- One message for a vector whose pending bit is set and that can now be sent; the bit clears (R57). -/
def State.releaseVec (s : State) (v : Nat) : State :=
  if s.pbaBit v && s.canSend && !s.vectorMasked v then (s.unpend v).sendOrPend v else s

/-- Every vector whose pending bit is set and that can be sent (R57). -/
def State.release (s : State) : State := (List.range 256).foldl State.releaseVec s

/-- The pages whose INT_STAT holds a set bit. -/
def State.intPages (s : State) : List Nat :=
  s.regs.filterMap fun e => if e.1 % 0x1000 = 0x18 && (headerPage (e.1 - 0x18)).isSome then some (e.1 - 0x18) else none

/-- Each enabled INT_STAT bit that is 1 sets the pending bit of its page's vector (R57: at PERST_N or a Function Level Reset). -/
def State.pendCauses (s : State) : State :=
  s.intPages.foldl (fun s page => if s.intStat page &&& s.intEn page = 0 then s else s.pend (s.intVec page)) s

/-- The function's own reset: configuration space, MSI-X table and PBA, the HIF logic with its read shadows and write buffers,
and HIF_BADACC; then the pending bits of R57 (R68, R69). -/
def State.functionReset (s : State) : State :=
  let s := { s with
    regs := mapDrop (fun o => decide (0x4000 ≤ o) && decide (o < 0x6000) || o == 0x4C) s.regs
    hif := { s.hif with
      msixEn := false, funcMask := false, busMaster := false, d3hot := false, cfg := [], shadow := [], lowBuf := [],
      resp := .nothing, aerAdvisory := false } }
  s.pendCauses

/-! ### Meanings -/

/-- BAR0_BAD_ACCESS (R39). -/
def badAccess (write : Bool) (s : State) : State :=
  let s := s.bump .hifId 0 HIF_BADACC_COUNT HIF_BADACC_OVF
  { s with hif := if write then { s.hif with aerAdvisory := true } else { s.hif with resp := .unsupported } }

def execBar0BadAccess (write : Bool) (s : State) : Host.Outcome State Fault Refusal :=
  if s.live then done (badAccess write s)
  else if write then done s
  else done (s.answer 0)

/-- INT_STAT_CLEAR (R51): `hwSet` is what hardware sets in the same cycle. -/
def intStatClear (page : Nat) (value hwSet : Word) (s : State) : State :=
  (s.wr (page + 0x18) (s.intStat page &&& (~~~ value ||| hwSet))).intSet page hwSet

def execIntStatClear (page : Nat) (value hwSet : Word) (s : State) : Host.Outcome State Fault Refusal :=
  if s.live && (headerPage page).isSome && !(s.role.meets (((headerPage page).map fun r => wrMin r.kind).getD 0)) then
    done ((s.denied page).intSet page hwSet)
  else if s.live && (headerPage page).isSome then done (intStatClear page value hwSet s)
  else done s

/-- INT_SET (R46): each 1 sets the bit of INT_STAT as a hardware set would. -/
def execIntSet (page : Nat) (value : Word) (s : State) : Host.Outcome State Fault Refusal :=
  done (s.header page fun s => s.intSet page value)

/-- INT_EN_WRITE (R56). -/
def intEnWrite (page : Nat) (value : Word) (s : State) : State :=
  let news := value &&& ~~~ s.intEn page &&& s.intStat page
  let s := s.wr (page + 0x1C) value
  if news = 0 then s else s.signal (s.intVec page)

def execIntEnWrite (page : Nat) (value : Word) (s : State) : Host.Outcome State Fault Refusal :=
  done (s.header page (intEnWrite page value))

/-- INT_VEC_WRITE (R56). -/
def intVecWrite (page : Nat) (value : Word) (s : State) : State :=
  let s := s.wr (page + 0x24) (value &&& 0xFF)
  if s.intStat page &&& s.intEn page = 0 then s else s.signal (s.intVec page)

def execIntVecWrite (page : Nat) (value : Word) (s : State) : Host.Outcome State Fault Refusal :=
  done (s.header page (intVecWrite page value))

/-- The mask or enable that an unmasking write changes. -/
def msixChange (c : MsixChange) (s : State) : State :=
  match c with
  | .vectorMask v masked => if s.live then s.putAt .msixTab 0 MSIX_MASK v.val (bit masked) else s
  | .functionMask m => { s with hif := { s.hif with funcMask := m } }
  | .msixEnable on => { s with hif := { s.hif with msixEn := on } }
  | .busMaster on => { s with hif := { s.hif with busMaster := on } }
  | .d3hot on => { s with hif := { s.hif with d3hot := on } }

/-- MSIX_UNMASK (R57). -/
def execMsixUnmask (change : MsixChange) (s : State) : Host.Outcome State Fault Refusal :=
  done (msixChange change s).release

/-- FLT_ACK (R62): ALL in [31], CLASS in [7:0]. -/
def fltAck (page : Nat) (value : Word) (s : State) : State :=
  let pf := s.fault page
  let hit : Nat → Bool := fun c => value.getLsbD 31 || c == bitsOf value 7 0
  s.setFault page
    { pf with
      hist := pf.hist.map fun e => if hit e.cls then { e with acked := true } else e
      unacked := pf.unacked.filter fun e => !hit e.1 }

def execFltAck (page : Nat) (value : Word) (s : State) : Host.Outcome State Fault Refusal :=
  done (s.header page (fltAck page value))

/-- FLT_HIST_CURSOR_WRITE (R64); readable and writable in every role (R47 names it with no minimum). -/
def fltHistCursorWrite (page : Nat) (value : Word) (s : State) : State :=
  let pf := s.fault page
  (s.wr (page + 0x30) (value &&& 0x73)).setFault page { pf with snap := some pf.hist }

def execFltHistCursorWrite (page : Nat) (value : Word) (s : State) : Host.Outcome State Fault Refusal :=
  done (if s.live && (headerPage page).isSome then fltHistCursorWrite page value s else s)

/-- Word `w` of a fault history entry (the fault history entry table after R46). -/
def FaultEntry.word (e : FaultEntry) (w : Nat) : Word :=
  match w with
  | 0 => BitVec.ofNat 32 (e.cls % 256 * 2 ^ 24 + e.level % 8 * 2 ^ 21 + e.base % 8 * 2 ^ 18 + bit e.acked * 2 ^ 17 + 2 ^ 16
      + e.seq.toNat)
  | 1 => e.f.extractLsb' 0 32
  | 2 => BitVec.ofNat 32 (e.f.toNat / 2 ^ 32 * 2 ^ 16 + e.p % 2 ^ 16)
  | _ => e.detail

/-- The word of the fault history at the cursor: the snapshot, or the live queue before the first cursor write (R64). -/
def State.histWord (s : State) (page : Nat) : Word :=
  let c := s.rd (page + 0x30)
  let l := (s.fault page).snap.getD (s.fault page).hist
  match l[bitsOf c 6 4]? with
  | some e => e.word (bitsOf c 1 0)
  | none => 0

/-- FLT_HIST_DATA_READ (R64): the word at the cursor; WORD advances, and after word 3, ENTRY. -/
def fltHistDataRead (page : Nat) (s : State) : State :=
  let c := s.rd (page + 0x30)
  let n := bitsOf c 6 4 * 4 + bitsOf c 1 0 + 1
  (s.answer (s.histWord page)).wr (page + 0x30) (BitVec.ofNat 32 (n / 4 % 8 * 16 + n % 4))

def execFltHistDataRead (page : Nat) (s : State) : Host.Outcome State Fault Refusal :=
  done (if s.live && (headerPage page).isSome then fltHistDataRead page s else s.answer 0)

/-! ### Configuration space and link -/

/-- What a configuration register reads as when no configuration write has reached it: the header values of R37, and a free
value for what the spec does not give. Register 2 holds the class code in [31:8], register 15 the interrupt pin (0) in [15:8]. -/
def cfgReset (r : Nat) : Word :=
  match r with
  | 0 => 0x76801E9D
  | 2 => 0x12000000 ||| BitVec.ofNat 32 (Config.cfgWord 2 % 256)
  | 15 => BitVec.ofNat 32 (Config.cfgWord 15) &&& 0xFFFF00FF
  | r => BitVec.ofNat 32 (Config.cfgWord r)

/-- A configuration request that is served (R36, R37): the identity registers do not change; Bus Master Enable is bit 2 of the
Command register, register 1. -/
def configServe (req : CfgReq) (s : State) : State :=
  match req with
  | .read r =>
    let w : Word := if r.val = 11 then s.boardIds.getD 0x00011E9D else mapGet cfgReset s.hif.cfg r.val
    s.answer w
  | .write r v =>
    if r.val = 0 || r.val = 2 || r.val = 11 then s
    else
      let s := { s with hif := { s.hif with cfg := mapSet cfgReset s.hif.cfg r.val v } }
      if r.val = 1 then ({ s with hif := { s.hif with busMaster := v.getLsbD 2 } }).release else s

/-- CONFIG_REQUEST (R74): `ready` says that the device completes configuration requests by now; CRS before. -/
def execConfigRequest (req : CfgReq) (ready : Bool) (s : State) : Host.Outcome State Fault Refusal :=
  if s.hif.perst || decide (s.dev = .off) then done s
  else if ready then done (configServe req s)
  else done { s with hif := { s.hif with resp := .crs } }

/-- HIF_LINK.WIDTH of a link width. -/
def LinkWidth.lanes : LinkWidth → Nat
  | .x1 => 1
  | .x2 => 2
  | .x4 => 4
  | .x8 => 8

/-- HIF_LINK_TRAINED (R74, R57): the link is up, HIF_LINK is rewritten, and what waits is sent. -/
def linkTrained (width : LinkWidth) (speed : Fin 5) (s : State) : State :=
  let s := (s.put .hifId 0 HIF_LINK_WIDTH (LinkWidth.lanes width)).put .hifId 0 HIF_LINK_SPEED (speed.val + 1)
  ({ s with hif := { s.hif with linkUp := true } }).release

def execHifLinkTrained (width : LinkWidth) (speed : Fin 5) (s : State) : Host.Outcome State Fault Refusal :=
  if s.hif.perst || decide (s.dev = .off) then done s else done (linkTrained width speed s)

/-- The link goes down: WIDTH and SPEED read 0. -/
def linkDown (s : State) : State :=
  let s := (s.put .hifId 0 HIF_LINK_WIDTH 0).put .hifId 0 HIF_LINK_SPEED 0
  { s with hif := { s.hif with linkUp := false } }

/-- HIF_LINK_DOWN (R57). -/
def execHifLinkDown (s : State) : Host.Outcome State Fault Refusal := done (linkDown s)

end Sys2Proof.Machine
end

