-- ==== Sys2Proof/Machine/Epoch.lean ====
section
/-! DEFINITION. The epoch controller: clock sources (R80 to R86), the frame marker and the epoch counter (R87 to R96), skew
calibration (R97 to R100), the SYNC lanes (R101 to R103), and the Piste table with its log (R104 to R115). -/

namespace Sys2Proof.Machine
open Sys2Proof Reg

/-! ### Epoch positions -/

/-- Whether the present epoch position has reached a position. -/
def State.reached (s : State) (f p : Nat) : Bool := decide (s.cyclesTo f p ≤ 0)

/-- A step saturated at ±(2^31 − 1), as EPC_REALIGN.STEP holds it (R92). -/
def satStep (i : Int) : Nat := cutInt 32 (max (-2147483647) (min 2147483647 i))

/-- The counter moved by a number of cycles, in whole frames of N. -/
def State.shiftEpoch (s : State) (cycles : Int) : State :=
  let n : Int := s.frameN
  let t : Int := s.epc.f.toNat * n + s.epc.p + cycles
  { s with epc := { s.epc with f := BitVec.ofInt 48 (t / n), p := (t % n).toNat } }

/-! ### The Piste's log -/

/-- An entry leaves the table and is written to the execution log (R114): status 0 DONE, 1 REFUSED, 2 DEGRADED, 3 DROPPED. -/
def State.retire (s : State) (e : PstEntry) (status : Nat) (word : Word) : State :=
  let full := decide (256 ≤ s.pst.log.length)
  let l : PstLog := ⟨e.f, e.p, status, e.tag * 0x1000 + e.slot, word⟩
  let s := { s with pst := { s.pst with
    entries := s.pst.entries.filter fun x => x.slot != e.slot, log := (l :: s.pst.log).take 256 } }
  if full then s.int .pst 0 2 else s

/-- The entries that satisfy `p` are retired DROPPED as one batch; the Piste window page raises ENTRY_DROPPED once for it
(R108, R110, R92). -/
def State.dropBatch (s : State) (p : PstEntry → Bool) : State :=
  match s.pst.entries.filter p with
  | [] => s
  | es =>
    let s := es.foldl (fun s e => s.retire e 3 0) s
    (s.int .pst 0 1).raiseOpen .pst 0 6 2

/-- Whether an entry would fail the LATE check of R107 now: less than 512 cycles ahead, or 300 µs for QUIET_CLOSE. -/
def State.late (s : State) (action f p : Nat) : Bool :=
  let lead : Nat := if action = 4 then 300 * 100 * s.fld .epcSrc 0 EPC_SRC_MULT else 512
  decide (s.cyclesTo f p < lead)

/-! ### Clock sources -/

/-- EPC_SRC.SOURCE of a source. -/
def ClkSource.code : ClkSource → Nat
  | .crystalStart => 0
  | .refclk => 1
  | .holdover => 2

/-- The burst of a running PSQ is timed in holdover (R86). -/
def State.inHoldover (s : State) (n : Nat) : State :=
  if s.psqRunning n then s.setPsq n { s.psq n with holdover := true } else s

/-- The results of the TMUs that are ARMED or RUNNING carry HOLDOVER from now on (R429). -/
def State.tmusInHoldover (s : State) : State :=
  (List.range 16).foldl (fun s t => if s.tmuBusy t then s.setTmu t { s.tmu t with hold := true } else s) s

/-- SOURCE changes (R83): counted, signalled, and an Info entry passed to the event recorder with the old and the new source. -/
def State.setSource (s : State) (src : ClkSource) : State :=
  let old := s.epc.source
  let s := { s with epc := { s.epc with source := src } }
  let s := if src = .holdover then ((List.range 8).foldl State.inHoldover s).tmusInHoldover else s
  let s := (s.bump .epcSrc 0 EPC_SRCSTAT_SWITCH_COUNT EPC_SRCSTAT_OVF).int .epcSrc 0 0
  let x := s.evrEntry .epcSrc 0 0 0 0 s.freeWord
  (s.evrOffer { x with data := [BitVec.ofNat 32 old.code, BitVec.ofNat 32 src.code] }).drawn

/-- The PLL leaves the crystal for REFCLK (R82); the first marker then corrects the counter (R96). LEARNED is measured anew
while REFCLK is locked: a free value. -/
def State.takeRefclk (s : State) : State :=
  let back := decide (s.epc.source = .holdover) && s.epc.valid
  let s := s.setSource .refclk
  let s := (s.put .epcSrc 0 EPC_LEARNED s.freeVal).drawn
  { s with epc := { s.epc with returnCheck := back, switchWait := false, missRun := 0 } }

/-- A switch to REFCLK that waits takes place once no PSQ is running and FORCE_XTAL is 0 (R82). -/
def State.trySwitch (s : State) : State :=
  if s.epc.switchWait && !s.anyRunning && !s.flag .epcSrc 0 EPC_SRC_FORCE_XTAL && s.flag .epcSrc 0 EPC_SRCSTAT_REF_PRESENT
      && !decide (s.epc.source = .refclk) then s.takeRefclk
  else s

/-- The PLL leaves REFCLK for the crystal: a holdover begins. -/
def State.enterHoldover (s : State) : State :=
  let s := (s.setSource .holdover).put .epcSrc 0 EPC_HOLD_ELAPSED_MS 0
  { s with epc := { s.epc with heldFor := 0 } }

/-- REFCLK_LOST (R81, R83, R85). -/
def refclkLost (s : State) : State :=
  if s.flag .epcSrc 0 EPC_SRCSTAT_REF_PRESENT then
    let s := { s.put .epcSrc 0 EPC_SRCSTAT_REF_PRESENT 0 with epc := { s.epc with switchWait := false } }
    let s :=
      if s.epc.source = .refclk then s.enterHoldover else s
    (s.int .epcSrc 0 1).raiseOpen .epcSrc 0 1 (if s.anyRunning then 2 else 1)
  else s

def execRefclkLost (s : State) : Host.Outcome State Fault Refusal := done (refclkLost s)

/-- REFCLK_RETURN (R82): REFCLK has been present for 1 ms. -/
def refclkReturn (s : State) : State :=
  let s := s.put .epcSrc 0 EPC_SRCSTAT_REF_PRESENT 1
  if s.epc.source = .refclk then s
  else ({ s with epc := { s.epc with switchWait := true } }).trySwitch

def execRefclkReturn (s : State) : Host.Outcome State Fault Refusal :=
  done (if s.dev = .off then s else refclkReturn s)

/-- HOLD_EXPIRED (R85): holdover has lasted longer than HOLD_MAX_MS. -/
def holdExpired (s : State) : State :=
  if s.epc.source = .holdover then
    let s := s.put .epcSrc 0 EPC_HOLD_ELAPSED_MS (s.fld .epcSrc 0 EPC_HOLD_HOLD_MAX_MS)
    let s := { s with epc := { s.epc with valid := false, heldFor := 100000 * s.mult * s.fld .epcSrc 0 EPC_HOLD_HOLD_MAX_MS } }
    (s.int .epcSrc 0 2).raiseOpen .epcSrc 0 2 3
  else s

def execHoldExpired (s : State) : Host.Outcome State Fault Refusal := done (holdExpired s)

/-- Whether EPC_SRC.MULT may change (R84). -/
def State.multFree (s : State) : Bool :=
  (decide (s.dev = .safe) || decide (s.dev = .ready)) && s.pst.entries.isEmpty

/-- MULT_WRITE (R84, R432): a value outside 16 to 20 is ignored; writing the present value changes nothing; a change makes every bin table
invalid. -/
def multWrite (value : Nat) (s : State) : State :=
  if value < 16 || 20 < value then s
  else if !s.multFree then s.raiseOpen .epcSrc 0 7 1
  else if value = s.fld .epcSrc 0 EPC_SRC_MULT then s
  else
    let s := (s.put .epcSrc 0 EPC_SRC_MULT value).put .epcSrc 0 EPC_SRCSTAT_PLL_LOCK 0
    let s := (List.range 16).foldl (fun s t => s.put .tmu t TMU_STAT_BINTAB_VALID 0) s
    { s with epc := { s.epc with valid := false, relocking := true } }

/-! ### The epoch counter -/

/-- The counter goes to p = 0 of the next frame (R89). -/
def State.nextFrame (s : State) : State :=
  let s := if s.epc.f = BitVec.allOnes 48 then s.put .epcCtl 0 EPC_STATUS_F_WRAP 1 else s
  { s with epc := { s.epc with f := s.epc.f + 1, p := 0 } }

/-- A realignment that waits is made at a frame boundary at which no PSQ is running (R94). -/
def State.tryRealign (s : State) : State :=
  match s.epc.realign with
  | some m =>
    if s.anyRunning then s
    else
      let step : Int := m.frames * s.frameN + m.cycles
      let s := (s.shiftEpoch step).put .epcCtl 0 EPC_REALIGN_STEP (satStep step)
      ({ s with epc := { s.epc with realign := none, fails := [] } }).int .epcSrc 0 3
  | none => s

/-- FMK_REALIGN (R94): the frame boundary at which the device realigns. -/
def execFmkRealign (s : State) : Host.Outcome State Fault Refusal := done s.tryRealign

/-- A skew measurement that waits starts once a TMU qualifies (R99, R433). -/
def State.trySkew (s : State) : State :=
  if s.epc.skewWait then
    match s.deviceTmu with
    | some t => let s := s.holdTmu t 3; { s with epc := { s.epc with skewWait := false, skewTmu := some t } }
    | none => s
  else s

/-- A skew measurement is asked for (R99, R433): one that runs or waits already serves. -/
def State.wantSkew (s : State) : State :=
  if s.epc.skewTmu.isSome then s
  else
    let s := s.put .epcCtl 0 EPC_SKEW_CAL_BUSY 1
    ({ s with epc := { s.epc with skewWait := true } }).trySkew

/-- An armed alignment is applied at a marker that gives F = `f` and p = 0 (R90, R92). -/
def State.alignApply (s : State) (f : BitVec 48) : State :=
  let was := s.epc.valid
  let same := decide (s.epc.f = f) && s.epc.p == 0
  let step : Int := ((f.toNat : Int) - s.epc.f.toNat) * s.frameN - s.epc.p
  let first := !s.epc.aligned
  let s := { s with epc := { s.epc with
    f := f, p := 0, valid := true, armed := none, armWait := false, fails := [], realign := none, missRun := 0, aligned := true,
    returnCheck := false } }
  let s := s.int .epcCtl 0 8
  let s :=
    if was then
      let s := s.put .epcCtl 0 EPC_REALIGN_STEP (satStep step)
      if same then s else (s.int .epcSrc 0 3).dropBatch fun e => decide (s.cyclesTo e.f e.p < 0)
    else s.dropBatch fun e => s.late e.action e.f e.p
  if first then s.wantSkew else s

/-- The kinds of marker (R87). -/
inductive Marker where
  | frame | superframe | start
  deriving DecidableEq, Repr

/-- The marker of a pulse width in REFCLK cycles (R87). -/
def markerOf : Nat → Option Marker
  | 1 => some .frame
  | 2 => some .superframe
  | 4 => some .start
  | _ => none

/-- The correction a marker implies: to the nearest frame boundary, and for a SUPERFRAME to the nearest frame number that is a
multiple of 65,536 (R93, R94). -/
def State.implied (s : State) (m : Marker) : MarkFail :=
  let n : Int := s.frameN
  let p : Int := s.epc.p
  let near : Int := if 2 * p ≤ n then -p else n - p
  let f : Int := s.epc.f.toNat + (if 2 * p ≤ n then 0 else 1)
  let r := f % 65536
  ⟨if m = .superframe then (if r ≤ 32768 then -r else 65536 - r) else 0, near⟩

/-- Whether a marker passes the checks of R93. -/
def State.markerGood (s : State) (m : Marker) : Bool :=
  let i := s.implied m
  decide (i.cycles.natAbs ≤ s.fld .epcSrc 0 EPC_SRC_MULT) && decide (i.frames = 0)

/-- A marker is checked against the counter (R93 to R95). -/
def State.checkMarker (s : State) (m : Marker) : State :=
  if s.markerGood m then
    let s := s.put .epcSrc 0 EPC_SRCSTAT_FMK_PRESENT 1
    { s with epc := { s.epc with fails := [], missRun := 0 } }
  else
    let fails := (s.implied m :: s.epc.fails).take 3
    let s := (s.int .epcCtl 0 10).raiseOpen .epcCtl 0 4 2
    let s := { s with epc := { s.epc with fails := fails } }
    match fails with
    | [a, b, c] => if a = b && b = c then { s with epc := { s.epc with realign := some a } } else s
    | _ => s

/-- The first marker after a return to REFCLK corrects the counter, or invalidates the epoch (R96). -/
def State.returnMarker (s : State) (m : Marker) : State :=
  let i := s.implied m
  let step : Int := i.frames * s.frameN + i.cycles
  let s := { s with epc := { s.epc with returnCheck := false, missRun := 0 } }
  if s.frameN < 2 * step.natAbs then
    let s := { s with epc := { s.epc with valid := false } }
    (s.int .epcCtl 0 10).raiseOpen .epcCtl 0 4 2
  else ((s.shiftEpoch step).put .epcCtl 0 EPC_REALIGN_STEP (satStep step)).put .epcSrc 0 EPC_SRCSTAT_FMK_PRESENT 1

/-- The frame number an armed alignment takes at a marker; none where the armed mode does not name the marker (R90). -/
def State.alignAt (s : State) (m : Marker) : Option (BitVec 48) :=
  match s.epc.armed, m with
  | some _, .start => some 0
  | some .load, .superframe => some (BitVec.ofNat 48 ((s.rd 0x10048).toNat * 65536))
  | _, _ => none

/-- A marker of a valid width (R90 to R96). -/
def State.marker (s : State) (m : Marker) : State :=
  match s.alignAt m with
  | some f => if s.epc.valid && s.anyRunning then s.checkMarker (if m = .start then .frame else m) else s.alignApply f
  | none =>
    if !s.epc.valid then s
    else
      let s := if m = .start && s.epc.armed.isNone then s.int .epcCtl 0 9 else s
      let m := if m = .start then .frame else m
      if s.epc.returnCheck then s.returnMarker m else s.checkMarker m

/-- FMK_MARKER (R87): `width` in REFCLK cycles. -/
def fmkMarker (width : Nat) (s : State) : State :=
  if s.epc.source ≠ .refclk then s
  else
    match markerOf width with
    | some m => s.marker m
    | none => s.bump .epcCtl 0 EPC_MISSED_BADWIDTH EPC_MISSED_OVF

def execFmkMarker (width : Nat) (s : State) : Host.Outcome State Fault Refusal := done (fmkMarker width s)

/-- FMK_MISSING (R95). -/
def fmkMissing (s : State) : State :=
  if s.epc.valid then
    let s := s.bump .epcCtl 0 EPC_MISSED_COUNT EPC_MISSED_OVF
    let s := { s with epc := { s.epc with missRun := s.epc.missRun + 1 } }
    if s.epc.missRun = 8 then
      ((s.put .epcSrc 0 EPC_SRCSTAT_FMK_PRESENT 0).int .epcSrc 0 4).raiseOpen .epcSrc 0 3 1
    else s
  else s

def execFmkMissing (s : State) : Host.Outcome State Fault Refusal := done (fmkMissing s)

/-- FRAME_LEN_WRITE (R88). -/
def frameLenWrite (value : Nat) (s : State) : State :=
  if s.epc.valid || value < 100 || 3200 < value then s else s.put .epcCtl 0 EPC_FRAME_LEN value

def execFrameLenWrite (value : Nat) (s : State) : Host.Outcome State Fault Refusal :=
  done (s.asHostOn .epcCtl 0 (frameLenWrite value))

/-- ARM (R90, R92): a second arm replaces the first. -/
def epcArm (s : State) : State :=
  { s with epc := { s.epc with
    armed := some (if s.flag .epcCtl 0 EPC_ALIGN_MODE then .load else .start), armWait := s.epc.valid } }

def execArm (s : State) : Host.Outcome State Fault Refusal := done (s.asHostOn .epcCtl 0 epcArm)

/-! ### Skew -/

/-- EPC_SKEW_SEED.SEED_PS is stored, clipped at 7,000 (R98). -/
def State.setSeed (s : State) (value : Nat) : State :=
  if 7000 < value then (s.put .epcCtl 0 EPC_SKEW_SEED_SEED_PS 7000).put .epcCtl 0 EPC_SKEW_SEED_CLIPPED 1
  else s.put .epcCtl 0 EPC_SKEW_SEED_SEED_PS value

/-- SEED_PS_WRITE (R98). -/
def execSeedPsWrite (value : Nat) (s : State) : Host.Outcome State Fault Refusal :=
  done (s.asHostOn .epcCtl 0 fun s => s.setSeed (value % 0x2000))

/-- SKEW_TRIM_APPLY (R99): a changed TRIM is applied at a frame boundary at which no PSQ is running. -/
def execSkewTrimApply (s : State) : Host.Outcome State Fault Refusal :=
  done (if s.anyRunning then s else { s with epc := { s.epc with trimUsed := s.fld .epcCtl 0 EPC_SKEW_TRIM } })

/-! ### SYNC lanes -/

/-- The role of a lane: 1 STOP, 2 MARKER, 3 ALERT; the reserved values are treated as UNUSED (R101). -/
def State.laneRole (s : State) (n : Nat) : Nat :=
  let r := s.fldAt .epcCtl 0 SYNC_CFG_ROLE n
  if r < 4 then r else 0

/-- A bit of SYNC_STAT.LEVEL. -/
def State.setLevel (s : State) (n : Nat) (b : Bool) : State :=
  s.put .epcCtl 0 SYNC_STAT_LEVEL (bitsOf (putBits (BitVec.ofNat 32 (s.fld .epcCtl 0 SYNC_STAT_LEVEL)) n n (bit b)) 7 0)

/-- A bit of SYNC_STAT.DRIVING. -/
def State.setDriving (s : State) (n : Nat) (b : Bool) : State :=
  s.put .epcCtl 0 SYNC_STAT_DRIVING (bitsOf (putBits (BitVec.ofNat 32 (s.fld .epcCtl 0 SYNC_STAT_DRIVING)) n n (bit b)) 7 0)

/-- The device drives a lane high for its pulse time; its own drive raises the level at its ball (R102, R103). -/
def State.syncDrive (s : State) (n : Nat) : State := (s.setDriving n true).setLevel n true

/-- SYNC_EDGE (R102): an assertion of `width` MCLK cycles on a lane. -/
def syncEdge (lane : Fin 8) (width : Nat) (s : State) : State :=
  let n := lane.val
  let s := if s.laneRole n = 0 then s else s.setLevel n true
  if width < s.fldAt .epcCtl 0 SYNC_CFG_FILTER n then s
  else if s.laneRole n = 0 then s
  else if s.laneRole n = 3 then s.int .epcCtl 0 n
  else
    let s := s.putAt .epcCtl 0 SYNC_CAP_F_LO n (s.epc.f.toNat % 2 ^ 32)
    let s := (s.putAt .epcCtl 0 SYNC_CAP_P n s.epc.p).putAt .epcCtl 0 SYNC_CAP_F_HI n (s.epc.f.toNat / 2 ^ 32)
    let s := s.int .epcCtl 0 n
    if s.laneRole n = 1 then
      (List.range 8).foldl
        (fun s q => if bitAt (s.fldAt .epcCtl 0 SYNC_CFG_PSQ_MASK n) q then s.requestStop q 6 n else s) s
    else s

def execSyncEdge (lane : Fin 8) (width : Nat) (s : State) : Host.Outcome State Fault Refusal :=
  done (syncEdge lane width s)

/-- SYNC_PULSE_END (R103): `held` says that another device still asserts the lane. -/
def syncPulseEnd (lane : Fin 8) (held : Bool) (s : State) : State :=
  if bitAt (s.fld .epcCtl 0 SYNC_STAT_DRIVING) lane.val then (s.setDriving lane.val false).setLevel lane.val held else s

def execSyncPulseEnd (lane : Fin 8) (held : Bool) (s : State) : Host.Outcome State Fault Refusal :=
  done (syncPulseEnd lane held s)

/-! ### The Piste: commit and cancel -/

/-- The page kinds a REG_WRITE entry may target (R105). -/
def pisteTarget (k : PageKind) : Bool :=
  match k with
  | .bnk | .dps | .hvc | .pmu | .acq | .gmn | .lde | .pec | .pgv => true
  | _ => false

/-- The page a REG_WRITE entry names. -/
def pistePage (target : Nat) : Option PageRef := pageOf (target * 0x1000)

/-- The role a field at this offset of a page kind needs (R11, R44). -/
def needAt (k : PageKind) (off : Nat) : Nat :=
  (fieldsOf k).foldl (fun m f => match f.at? off with | some _ => max m f.need | none => m) (wrMin k)

/-- Whether a staged action is well-formed (R107: BAD_ACTION). -/
def actionOk (action sub target : Nat) : Bool :=
  if 0x0A < action then false
  else if action = 5 then decide (target < 8)
  else if action = 0x0A then
    decide (0x10 ≤ sub) && (match pistePage target with | some r => pisteTarget r.kind | none => false)
  else true

/-- The slots that hold no entry. -/
def State.freeSlots (s : State) : List Nat :=
  (List.range 4096).filter fun k => !s.pst.entries.any fun e => e.slot == k

/-- The tag after one more commit in a slot: 1 to 15, skipping 0 (R107). -/
def nextTag (t : Nat) : Nat := if 15 ≤ t then 1 else t + 1

/-- The staged entry's position and fields. -/
def State.staged (s : State) : PstEntry :=
  let w := fun i => s.fldAt .pst 0 PST_W i
  ⟨0, 0, w 0 + w 1 % 2 ^ 16 * 2 ^ 32, w 1 / 2 ^ 16, w 2 / 2 ^ 24, w 2 / 2 ^ 16 % 256, w 2 % 2 ^ 16, BitVec.ofNat 32 (w 3), s.role⟩

/-- What a commit of an entry is answered with: the first failing check in the order of R107, else STORED. -/
def State.commitResult (s : State) (e : PstEntry) : Nat :=
  if !actionOk e.action e.sub e.target then 5
  else if s.frameN ≤ e.p then 6
  else if e.action = 0x0A && !(match pistePage e.target with
      | some r => s.role.meets (needAt r.kind (4 * e.sub)) | none => true) then 7
  else if s.epc.valid && s.late e.action e.f e.p then 2
  else if 4096 ≤ s.pst.entries.length then 3
  else if 16 ≤ (s.pst.entries.filter fun x => x.f == e.f && x.p == e.p).length then 4
  else 1

/-- An entry placed in epoch order, after those at its own position (R109: commit order). -/
def placeEntry (e : PstEntry) : List PstEntry → List PstEntry
  | [] => [e]
  | x :: r => if e.f < x.f ∨ (e.f = x.f ∧ e.p < x.p) then e :: x :: r else x :: placeEntry e r

/-- PST_RESP takes a result and a handle. -/
def State.pstResp (s : State) (result handle : Nat) : State :=
  (s.put .pst 0 PST_RESP_RESULT result).put .pst 0 PST_RESP_HANDLE handle

/-- The staged entry is stored in a free slot, which the spec does not choose: a free value picks it. -/
def State.storeEntry (s : State) (e : PstEntry) : State :=
  let fs := s.freeSlots
  let slot := fs.getD (s.freeVal % fs.length) 0
  let tag := nextTag (mapGet (fun _ => 0) s.pst.tags slot)
  let s := s.drawn
  let s := { s with pst := { s.pst with
    entries := placeEntry { e with slot := slot, tag := tag } s.pst.entries
    tags := mapSet (fun _ => 0) s.pst.tags slot tag } }
  s.pstResp 1 (tag * 0x1000 + slot)

/-- GO (R107). -/
def pstGo (s : State) : State :=
  let r := s.commitResult s.staged
  if r = 1 then s.storeEntry s.staged else s.pstResp r 0

def execGo (s : State) : Host.Outcome State Fault Refusal := done (s.asHostOn .pst 0 pstGo)

/-- CANCEL (R107): the entry named by PST_W0[15:0]. -/
def pstCancel (s : State) : State :=
  let h := s.fldAt .pst 0 PST_W 0 % 2 ^ 16
  match s.pst.entries.find? fun e => e.tag * 0x1000 + e.slot == h with
  | none => s.pstResp 9 0
  | some e =>
    if s.epc.valid && decide (s.cyclesTo e.f e.p ≤ 512) then s.pstResp 2 0
    else ({ s with pst := { s.pst with entries := s.pst.entries.filter fun x => x.slot != e.slot } }).pstResp 8 h

def execCancel (s : State) : Host.Outcome State Fault Refusal := done (s.asHostOn .pst 0 pstCancel)

/-! ### The Piste: execution -/

/-- The entry that executes next, where it has the action, the epoch is valid (R108), its position is reached, and the
device is not in HOLD or FAULT (R110). -/
def State.dueEntry (s : State) (action : Nat) : Option PstEntry :=
  match s.pst.entries with
  | e :: _ =>
    if e.action = action && s.epc.valid && s.reached e.f e.p && !(decide (s.dev = .hold) || decide (s.dev = .fault)) then some e
    else none
  | [] => none

/-- How an executed entry ends: done, with the log word, or refused with a reason (R111, R114). -/
inductive PstEnd where
  | took (word : Word)
  | refused (reason : Word)
  deriving DecidableEq, Repr

/-- A due entry of an action executes and is retired: DONE, or DEGRADED in holdover (R86), or REFUSED (R111). -/
def State.pisteAct (s : State) (action : Nat) (f : PstEntry → State → State × PstEnd) : State :=
  match s.dueEntry action with
  | none => s
  | some e =>
    match f e s with
    | (s', .took w) => s'.retire e (if s.epc.source = .holdover then 2 else 0) w
    | (s', .refused w) => (s'.retire e 1 w).int .pst 0 0

/-- MARK (R104). -/
def execMark (s : State) : Host.Outcome State Fault Refusal := done (s.pisteAct 0 fun e s => (s, .took e.arg))

/-- PSQ_STOP (R104, R109): a stop request to each masked PSQ that is running. -/
def execPsqStop (s : State) : Host.Outcome State Fault Refusal :=
  done (s.pisteAct 2 fun e s =>
    ((List.range 8).foldl (fun s n => if bitAt e.target n then s.requestStop n 5 0 else s) s, .took 0))

/-- PST_QUIET.OPEN. -/
def State.quietOpen (s : State) : Nat := s.fld .pst 0 PST_QUIET_OPEN

/-- QUIET_OPEN (R104, R112). -/
def execQuietOpen (s : State) : Host.Outcome State Fault Refusal :=
  done (s.pisteAct 3 fun e s =>
    let s := s.put .pst 0 PST_QUIET_OPEN (s.quietOpen ||| e.arg.toNat % 2 ^ 24)
    ((List.range 24).foldl State.trySelect s, .took 0))

/-- QUIET_CLOSE (R104, R112). -/
def execQuietClose (s : State) : Host.Outcome State Fault Refusal :=
  done (s.pisteAct 4 fun e s =>
    let s := s.put .pst 0 PST_QUIET_OPEN ((BitVec.ofNat 24 s.quietOpen &&& ~~~ BitVec.ofNat 24 e.arg.toNat).toNat)
    ((List.range 24).foldl (fun s b => if e.arg.getLsbD b then s.gapEnds b else s) s, .took 0))

/-- SYNC_PULSE (R104): the lane is driven in the roles STOP and MARKER; reason 1, ROLE, otherwise. -/
def execSyncPulse (s : State) : Host.Outcome State Fault Refusal :=
  done (s.pisteAct 5 fun e s =>
    if s.laneRole e.target = 1 || s.laneRole e.target = 2 then (s.syncDrive e.target, .took 0) else (s, .refused 1))

/-- PISTE_DROP (R110): in HOLD or FAULT, the entries at the next position that has passed. -/
def execPisteDrop (s : State) : Host.Outcome State Fault Refusal :=
  if decide (s.dev = .hold) || decide (s.dev = .fault) then
    match s.pst.entries with
    | e :: _ =>
      done (if s.epc.valid && s.reached e.f e.p then s.dropBatch fun x => x.f == e.f && x.p == e.p else s)
    | [] => done s
  else done s

/-- PST_LOG_CURSOR_WRITE (R114, R64): ENTRY in [11:4], WORD in [1:0]. -/
def execPstLogCursorWrite (value : Word) (s : State) : Host.Outcome State Fault Refusal :=
  done (s.asHostOn .pst 0 fun s =>
    { s.put .pst 0 PST_LOG_CURSOR (value &&& 0xFF3).toNat with pst := { s.pst with snap := some s.pst.log } })

/-- Word `w` of an execution log entry (R114). -/
def PstLog.wordAt (l : PstLog) (w : Nat) : Word :=
  match w with
  | 0 => BitVec.ofNat 32 l.f
  | 1 => BitVec.ofNat 32 (l.p % 2 ^ 16 * 2 ^ 16 + l.f / 2 ^ 32 % 2 ^ 16)
  | 2 => BitVec.ofNat 32 (l.status * 2 ^ 28 + l.handle)
  | _ => l.word

/-- The word of the execution log at the cursor: the snapshot, or the live log before the first cursor write. -/
def State.logWord (s : State) : Word :=
  let c := BitVec.ofNat 32 (s.fld .pst 0 PST_LOG_CURSOR)
  match (s.pst.snap.getD s.pst.log)[bitsOf c 11 4]? with
  | some l => l.wordAt (bitsOf c 1 0)
  | none => 0

/-- PST_LOG_DATA_READ (R114): the word at the cursor, which advances. -/
def pstLogDataRead (s : State) : State :=
  let c := BitVec.ofNat 32 (s.fld .pst 0 PST_LOG_CURSOR)
  let n := bitsOf c 11 4 * 4 + bitsOf c 1 0 + 1
  (s.answer s.logWord).put .pst 0 PST_LOG_CURSOR (n / 4 % 256 * 16 + n % 4)

def execPstLogDataRead (s : State) : Host.Outcome State Fault Refusal :=
  done (if s.live then pstLogDataRead s else s.answer 0)

end Sys2Proof.Machine
end

