-- ==== Sys2Proof/Machine/Power.lean ====
section
/-! DEFINITION. The Power Governor (R25 to R33): what each bank is charged, the evaluation of charge-changing writes, and the
ceiling; and what every register write of a bank page answers its writer (R105). -/

namespace Sys2Proof.Machine
open Sys2Proof Reg

/-! ### Writers and refusals -/

/-- Who writes a register, in which role: the host, the Steward, or a Piste entry in its committing role (R29, R105). -/
structure Asker where
  src : Src
  role : Role
  deriving DecidableEq, Repr

/-- The host in the role it holds. -/
def State.host (s : State) : Asker := ⟨.host, s.role⟩

/-- The outcome of a register write: the state, and the reason word of R105 (0 where the target takes the write). -/
abbrev Wrote := State × Nat

/-- The reason word of a write that a page ignored with a fault class (R105). -/
def classReason (k : PageKind) (cls : Nat) : Nat := typeOf k * 2 ^ 16 + cls

/-- A write is ignored and its page raises a class at Notice. -/
def State.ignored (s : State) (k : PageKind) (i cls : Nat) : Wrote := (s.raiseOpen k i cls 1, classReason k cls)

/-- A write is ignored for its role: ACCESS_DENIED (R11). -/
def State.deniedAt (s : State) (k : PageKind) (i : Nat) : Wrote := (s.denied (pageBase k i), typeOf k * 2 ^ 16)

/-- A write the target takes. -/
def State.took (s : State) : Wrote := (s, 0)

/-- A host write to a page's register: discarded in BOOT, else made in the host's role. -/
def State.hostOp (s : State) (f : Asker → State → Wrote) : State := if s.live then (f s.host s).1 else s

/-! ### Charges -/

/-- The pin-electronics charge of a mode, in mW (R25). -/
def modeCharge : Nat → Nat
  | 0 => 2496
  | 1 => 1216
  | _ => 448

/-- The charge of a DPS channel whose clamp is `ilim` × 0.1 mA, rounded up (R25). -/
def dpsCharge (ilim : Nat) : Nat := 12 + ceilDiv (8 * ilim) 100

/-- The charge of supply `u` where it is enabled. -/
def State.supCharge (s : State) (u : Nat) : Nat :=
  if s.flag (supKind u) (supInst u) DPS_CTRL_EN then
    (if u < 72 then dpsCharge (s.fld .dps u DPS_CLAMP_ILIM) else 42)
  else 0

/-- The charge of a bank whose domain is on, as its registers configure it, in the mode that REQ holds (R25). -/
def State.bankDraw (s : State) (b : Nat) : Nat :=
  modeCharge (s.fld .bnk b BNK_MODE_REQ) + s.supCharge (3 * b) + s.supCharge (3 * b + 1) + s.supCharge (3 * b + 2)
    + s.supCharge (72 + b) + (if s.flag .pmu b PMU_CTRL_EN then 58 else 0) + (if s.flag .acq b ACQ_CTRL_EN then 42 else 0)

/-- The functions that are always charged, and the Pairs Link while its domain is on (R25). -/
def State.fixedCharge (s : State) : Nat := 15800 + (if s.domains.getLsbD 10 then 1200 else 0)

/-- The charged total, in mW (R25). -/
def State.charged (s : State) : Nat :=
  s.fixedCharge + ((List.range 24).map fun b => (s.bank b).charge).foldr (· + ·) 0

/-- A bank's charge brought in step with its registers; a bank whose domain is off, or that goes off, keeps its charge. -/
def State.recharge (s : State) (b : Nat) : State :=
  if (s.bank b).phase = .on then s.setBank b { s.bank b with charge := s.bankDraw b } else s

/-! ### Evaluation -/

/-- PGV_RESP.SOURCE of a writer. -/
def Src.code : Src → Nat
  | .host => 0
  | .steward => 1
  | .piste => 2

/-- PGV_RESP takes an outcome (R27, R32). -/
def State.pgvResp (s : State) (result : Nat) (src : Src) (total : Nat) : State :=
  ((s.put .pgv 0 PGV_RESP_RESULT result).put .pgv 0 PGV_RESP_SOURCE src.code).put .pgv 0 PGV_RESP_TOTAL_MW total

/-- A refusal of the Governor: reported, counted, signalled and raised at Notice (R33); classes 1 to 3 go with results 2 to 4. -/
def State.pgvRefuse (s : State) (result : Nat) (src : Src) (total : Nat) : State :=
  let s := (s.pgvResp result src total).bump .pgv 0 PGV_REFUSED_COUNT PGV_REFUSED_OVF
  (s.int .pgv 0 0).raiseOpen .pgv 0 (result - 1) 1

/-- What the Governor decides. -/
inductive Verdict where
  | admitted | ceiling | busy | dryRun
  deriving DecidableEq, Repr

/-- The evaluation of a charge-changing write that would change the charged total to `total` (R27, R28, R32): the busy check
of a mode write first; in a dry run the outcome is reported and nothing else happens. -/
def State.evaluate (s : State) (src : Src) (busy : Bool) (total : Nat) : State × Verdict :=
  let dry := s.flag .pgv 0 PGV_MODE_DRYRUN
  let fits := decide (total ≤ s.fld .pgv 0 PGV_CEIL_CEIL_MW) || decide (total ≤ s.charged)
  if busy then (if dry then (s.pgvResp 3 src total, .dryRun) else (s.pgvRefuse 3 src total, .busy))
  else if dry then (s.pgvResp (if fits then 5 else 6) src total, .dryRun)
  else if fits then (s.pgvResp 1 src total, .admitted)
  else (s.pgvRefuse 2 src total, .ceiling)

/-- A charge-changing write of bank `b`: `change` is what the write does to the registers and `apply` what it does beside once
it is admitted; the outcome of R105 is answered. -/
def State.govern (s : State) (who : Asker) (b : Nat) (busy : Bool) (change apply : State → State) : Wrote :=
  let total := s.charged - (s.bank b).charge + (change s).bankDraw b
  match s.evaluate who.src busy total with
  | (s, .admitted) => ((apply (change s)).recharge b, 0)
  | (s, .ceiling) => (s, 0x20002)
  | (s, .busy) => (s, 0x20003)
  | (s, .dryRun) => (s, 0)

/-- A write to a page of a bank that is not on reaches the shadow, whose generation becomes GEN (R45, R520). -/
def State.touchShadow (s : State) (b : Nat) : State :=
  if s.gatedSpan b then s.setBank b { s.bank b with shadowGen := some (s.rd (fldOff .plk 0 PLK_GEN 0)) } else s

/-- A write to a bank that counts as gated (R127, R368): into the shadow, whose generation becomes GEN (R520); during a power-up
it is kept in order to be evaluated when the power-up completes. -/
def State.storeGated (s : State) (who : Asker) (b : Nat) (w : StoredWrite) (shadow : State → State) : State :=
  if (s.bank b).phase = .rising then s.setBank b { s.bank b with stored := (s.bank b).stored ++ [(w, who.src)] }
  else (shadow s).touchShadow b

/-! ### Meanings -/

/-- The ceiling write of a writer (R30): refused below the charged total; above 60,000 stored as 60,000. -/
def State.ceilWrite (s : State) (who : Asker) (value : Nat) : Wrote :=
  if s.flag .pgv 0 PGV_CEIL_LOCK then s.took
  else if value < s.charged then (s.pgvRefuse 4 who.src s.charged, 0x20004)
  else (s.put .pgv 0 PGV_CEIL_CEIL_MW (min value 60000)).took

/-- CEIL_MW_WRITE (R30). -/
def execCeilMwWrite (value : Nat) (s : State) : Host.Outcome State Fault Refusal :=
  done (s.hostOp fun who s => s.ceilWrite who (value % 0x10000))

/-- CEIL_LOCK (R9): LOCK is set until a power-on or system reset. -/
def execCeilLock (s : State) : Host.Outcome State Fault Refusal :=
  done (s.asHostOn .pgv 0 fun s => s.put .pgv 0 PGV_CEIL_LOCK 1)

end Sys2Proof.Machine
end

