-- ==== Sys2Proof/Machine/Supplies.lean ====
section
/-! DEFINITION. The level DACs and the supplies of a bank: level codes, clipping and the deglitcher (R121 to R124, R354 to R361),
device supplies and high-voltage channels (R362 to R368, R373), setpoint queues (R369 to R372), power-up and fault values (R374 to
R377). -/

namespace Sys2Proof.Machine
open Sys2Proof Reg

/-! ### Codes and limits -/

/-- Whether a level code lies outside the voltages `lo` to `hi`, given in half volts above −2.0 V: code × 17 against
half-volts × 2^20 (R354). -/
def codeOutside (lo hi code : Nat) : Bool := decide (code * 17 < lo * 2 ^ 20) || decide (hi * 2 ^ 20 < code * 17)

/-- Whether a pin level code lies outside the swing range of a mode (R121): −0.5 to +3.0 V in Performance, −1.0 to +5.5 V else. -/
def levelOutside (mode code : Nat) : Bool := if mode = 0 then codeOutside 3 10 code else codeOutside 2 15 code

/-- Whether a clamp code lies outside the clamp range of a mode (R143): −1.0 to +3.5 V, or −1.5 to +6.0 V. -/
def clampOutside (mode code : Nat) : Bool :=
  if mode = 0 then decide (code < 20) || decide (110 < code) else decide (code < 10) || decide (160 < code)

/-- Whether a supply's setpoint is clipped: −1.0 to +6.0 V for a DPS (R363), 15.000 V for an HVC (R355), and VMAX (R534). -/
def State.setpointClipped (s : State) (u code : Nat) : Bool :=
  (if u < 72 then codeOutside 2 16 code else decide (0xF0000 < code))
    || (match (s.sup u).vMax with | some v => decide (v < code) | none => false)

/-- Whether a change of code is a major transition (R357). -/
def majorStep (old new : Nat) : Bool := decide (16384 < ((new : Int) - old).natAbs)

/-! ### Pin levels -/

/-- The code of level `j` of a lane: 0 VIH, 1 VIL, 2 VOH, 3 VOL, 4 VT, 5 VCOM (R359). -/
def lvlFld : Nat → Fld
  | 0 => LDE_LVL0
  | 1 => LDE_LVL1
  | 2 => LDE_LVL2
  | 3 => LDE_LVL3
  | 4 => LDE_LVL4
  | _ => LDE_LVL5

/-- The level code as written. -/
def State.level (s : State) (k j : Nat) : Nat := s.fldAt .lde (k / 32) (lvlFld j) (k % 32)

/-- What PEC_LSTAT shows for a channel (R121, R122, R143): nothing while its bank is off. -/
def State.lstatNow (s : State) (k : Nat) : Nat :=
  let b := k / 32
  if s.gatedSpan b then 0
  else
    let m := (s.bank b).limMode
    let lv := ((List.range 6).map fun j => bit (levelOutside m (s.level k j)) * 2 ^ (5 - j)).foldr (· + ·) 0
    let cl := bit (clampOutside m (s.fld .pec k PEC_CLAMP_CLH) || clampOutside m (s.fld .pec k PEC_CLAMP_CLL))
    let pp := bit (s.fld .pec k PEC_PPMU_MODE == 0 && codeOutside 2 15 (s.fld .pec k PEC_PPMU_FORCE_VALUE))
    lv + cl * 64 + pp * 256

/-- PEC_LSTAT of a channel brought up to date; each rising bit sets INT_STAT.CLIP and raises LEVEL_CLIP (R123). -/
def State.relimit (s : State) (k : Nat) : State :=
  let o := baseOf .pec k + 0x58
  let old := (s.rd o).toNat
  let new := s.lstatNow k
  let s := s.wr o (BitVec.ofNat 32 new)
  (List.range 9).foldl
    (fun s i => if bitAt new i && !bitAt old i then (s.int .pec k 0).raiseOpen .pec k 1 1 else s) s

/-- PEC_LSTAT of every channel of a bank at its power-up: the bits the bank comes up with, none of them an edge (assumption log). -/
def State.clipBank (s : State) (b : Nat) : State :=
  (List.range 32).foldl (fun s l => s.wr (baseOf .pec (32 * b + l) + 0x58) (BitVec.ofNat 32 (s.lstatNow (32 * b + l)))) s

/-- Every channel of a bank. -/
def State.relimitBank (s : State) (b : Nat) : State := (List.range 32).foldl (fun s l => s.relimit (32 * b + l)) s

/-! ### The deglitcher -/

/-- A pin output (8 × lane + level, level 6 the PPMU force) makes a major transition: its hold begins at the old code, or
restarts (R357, R358). -/
def State.holdLevel (s : State) (b key old : Nat) : State :=
  if s.gatedSpan b then s
  else if (s.bank b).levelHold.any fun h => h.1 == key then s
  else ((s.setBank b { s.bank b with levelHold := (s.bank b).levelHold ++ [(key, old)] }).countHold b).noteHolding b

/-- Whether a channel's settings are sealed against a role (R152, R360). -/
def State.sealedTo (s : State) (k : Nat) (r : Role) : Bool := 
  s.flag .pec k PEC_STAT_SEALED && !s.opens r ((s.pin k).sealedBy.map fun x => (x.1, x.2.1))

/-- A level code takes effect (R356 to R359). -/
def State.levelStore (s : State) (k j code : Nat) : State :=
  let b := k / 32
  let old := s.level k j
  let s := (s.putAt .lde b (lvlFld j) (k % 32) code).touchShadow b
  (if majorStep old code then s.holdLevel b (8 * (k % 32) + j) old else s).relimit k

/-- A level code is written (R359, R360). -/
def State.levelWrite (s : State) (who : Asker) (k j code : Nat) : Wrote :=
  if s.sealedTo k who.role then s.deniedAt .lde (k / 32) else (s.levelStore k j code).took

/-- LEVEL_WRITE (R359). -/
def execLevelWrite (k : Fin 768) (j : Fin 6) (code : Nat) (s : State) : Host.Outcome State Fault Refusal :=
  done (s.hostOp fun who s => s.levelWrite who k.val j.val (code % 2 ^ 20))

/-- The supply or pin output of a bank that an output names. -/
def outSupply (b : Nat) : LdeOut → Option Nat
  | .dps i => some (3 * b + i.val)
  | .hvc => some (72 + b)
  | _ => none

/-- The key of a pin output in a bank's holds: 8 × lane + level, level 6 the PPMU force. -/
def outKey : LdeOut → Nat
  | .pin lane j => 8 * lane.val + j.val
  | .ppmu lane => 8 * lane.val + 6
  | .dps i => 256 + i.val
  | .hvc => 259

/-- DEGLITCH_RELEASE (R358): the output tracks the code in force. -/
def deglitchRelease (b : Nat) (out : LdeOut) (s : State) : State :=
  match outSupply b out with
  | some u => (s.setSup u { s.sup u with hold := none }).noteHolding b
  | none =>
    (s.setBank b { s.bank b with levelHold := (s.bank b).levelHold.filter fun h => h.1 != outKey out }).noteHolding b

def execDeglitchRelease (b : Fin 24) (out : LdeOut) (s : State) : Host.Outcome State Fault Refusal :=
  done (deglitchRelease b.val out s)

/-- LDE_CHECK.SRC of an output (R361). -/
def outSrc : LdeOut → Nat
  | .pin _ j => j.val
  | .ppmu _ => 6
  | .dps i => 7 + i.val
  | .hvc => 10

/-- LDE_CHECK.LANE of an output. -/
def outLane : LdeOut → Nat
  | .pin lane _ => lane.val
  | .ppmu lane => lane.val
  | _ => 0

/-- Whether the readback skips an output: it is held, or its channel or bank is gated (R361). -/
def State.readbackSkips (s : State) (b : Nat) (out : LdeOut) : Bool :=
  s.gatedSpan b ||
    (match outSupply b out with
     | some u => (s.sup u).hold.isSome || !s.flag (supKind u) (supInst u) DPS_CTRL_EN
     | none => (s.bank b).levelHold.any fun h => h.1 == outKey out)

/-- DAC_READBACK (R361): `good` says that the output agrees with its code. -/
def dacReadback (b : Nat) (out : LdeOut) (good : Bool) (s : State) : State :=
  let key := outKey out
  let x := s.bank b
  if s.readbackSkips b out then s
  else if good then s.setBank b { x with dacBad := x.dacBad.filter fun k => k != key }
  else if x.dacBad.contains key then s
  else
    let s := s.setBank b { x with dacBad := key :: x.dacBad }
    let s := ((s.put .lde b LDE_CHECK_VALID 1).put .lde b LDE_CHECK_SRC (outSrc out)).put .lde b LDE_CHECK_LANE (outLane out)
    (s.int .lde b 0).raiseOpen .lde b 1 3

def execDacReadback (b : Fin 24) (out : LdeOut) (good : Bool) (s : State) : Host.Outcome State Fault Refusal :=
  done (dacReadback b.val out good s)

/-! ### Gangs -/

/-- Whether a supply is held at its fault value (R377). -/
def State.faultHeld (s : State) (u : Nat) : Bool := s.flag (supKind u) (supInst u) DPS_STAT_FAULT_HELD

/-- A write that a held supply ignores (R377), or a follower (R367); otherwise `f`. -/
def State.supWrite (s : State) (u : Nat) (held : Bool) (f : State → Wrote) : Wrote :=
  if held && s.faultHeld u then s.ignored (supKind u) (supInst u) 4
  else if s.follower u then s.ignored .dps u 7
  else f (s.touchShadow (supBank u))

/-! ### Setpoints -/

/-- The setpoint in force of one supply becomes `code`: clipping is reported (R363, R355, R534), a major transition is held
(R357), and the change is a level transition (R383). -/
def State.setOne (s : State) (code u : Nat) : State :=
  let old := s.fld (supKind u) (supInst u) DPS_V_CODE
  let s := s.put (supKind u) (supInst u) DPS_V_CODE code
  let s := s.put (supKind u) (supInst u) DPS_STAT_CLIP (bit (s.setpointClipped u code))
  let s := if majorStep old code && s.flag (supKind u) (supInst u) DPS_CTRL_EN then s.holdSupply u old else s
  if old = code then s else s.supTransition u

/-- The setpoint of a supply and of every member of its gang (R367). -/
def State.setpoint (s : State) (u code : Nat) : State := (s.gang u).foldl (fun s v => s.setOne code v) s

/-- A write of DPS_V or HVC_V (R363, R371, R373, R377). -/
def State.voltWrite (s : State) (u code : Nat) : Wrote :=
  s.supWrite u true fun s =>
    if s.flag (supKind u) (supInst u) DPS_Q_STAT_RUNNING then s.ignored (supKind u) (supInst u) 5
    else (s.setpoint u code).took

/-- DPS_V (R363). -/
def execDpsV (i : Fin 72) (code : Nat) (s : State) : Host.Outcome State Fault Refusal :=
  done (s.hostOp fun _ s => s.voltWrite i.val (code % 2 ^ 20))

/-- HVC_V_WRITE (R373). -/
def execHvcVWrite (b : Fin 24) (code : Nat) (s : State) : Host.Outcome State Fault Refusal :=
  done (s.hostOp fun _ s => s.voltWrite (72 + b.val) (code % 2 ^ 20))

/-! ### Enable, connect, limit -/

/-- A supply's switch opens: CONNECTED falls, which is a level transition (R362, R383). -/
def State.openSwitch (s : State) (u : Nat) : State :=
  if s.flag (supKind u) (supInst u) DPS_STAT_CONNECTED then
    (s.put (supKind u) (supInst u) DPS_STAT_CONNECTED 0).supTransition u
  else s

/-- EN goes to 0: the switch opens first, then the stage unbiases (R362). -/
def State.disableSup (s : State) (u : Nat) : State :=
  let s := s.put (supKind u) (supInst u) DPS_CTRL_EN 0
  let s := (s.openSwitch u).put (supKind u) (supInst u) DPS_STAT_READY 0
  s.recharge (supBank u)

/-- A write of EN of a supply: charge-changing where it enables (R362, R368, R373). -/
def State.enWrite (s : State) (who : Asker) (u : Nat) (on : Bool) : Wrote :=
  let b := supBank u
  let change : State → State := fun s => s.put (supKind u) (supInst u) DPS_CTRL_EN (bit on)
  if s.gatedSpan b then (s.storeGated who b (.en u on) change).took
  else if on then s.govern who b false change id
  else (s.disableSup u).took

/-- DPS_EN (R362). -/
def execDpsEn (i : Fin 72) (on : Bool) (s : State) : Host.Outcome State Fault Refusal :=
  done (s.hostOp fun who s => s.enWrite who i.val on)

/-- HVC_EN (R373). -/
def execHvcEn (b : Fin 24) (on : Bool) (s : State) : Host.Outcome State Fault Refusal :=
  done (s.hostOp fun who s => s.enWrite who (72 + b.val) on)

/-- DPS_READY (R362): the stage of an enabled channel of a powered bank has biased. -/
def execDpsReady (u : Fin 96) (s : State) : Host.Outcome State Fault Refusal :=
  done (if s.flag (supKind u.val) (supInst u.val) DPS_CTRL_EN && !s.gatedSpan (supBank u.val) then
    s.put (supKind u.val) (supInst u.val) DPS_STAT_READY 1 else s)

/-- A write of CONN of a supply (R362, R367, R377). -/
def State.connWrite (s : State) (u : Nat) (on : Bool) : Wrote :=
  s.supWrite u on fun s =>
    let s := (s.gang u).foldl (fun s v => s.put (supKind v) (supInst v) DPS_CTRL_CONN (bit on)) s
    (if on then s else (s.gang u).foldl State.openSwitch s).took

/-- DPS_CONN (R362). -/
def execDpsConn (i : Fin 72) (on : Bool) (s : State) : Host.Outcome State Fault Refusal :=
  done (s.hostOp fun _ s => s.connWrite i.val on)

/-- HVC_CONN_WRITE (R373). -/
def execHvcConnWrite (b : Fin 24) (on : Bool) (s : State) : Host.Outcome State Fault Refusal :=
  done (s.hostOp fun _ s => s.connWrite (72 + b.val) on)

/-- A supply's switch closes. -/
def State.closeSwitch (s : State) (u : Nat) : State :=
  if s.flag (supKind u) (supInst u) DPS_CTRL_EN && !s.flag (supKind u) (supInst u) DPS_STAT_CONNECTED then
    (s.put (supKind u) (supInst u) DPS_STAT_CONNECTED 1).supTransition u
  else s

/-- DPS_SWITCH_CLOSED (R362, R367): CONN is 1 and every enabled member of the gang is READY. -/
def dpsSwitchClosed (u : Nat) (s : State) : State :=
  let g := s.gang u
  let ready := g.all fun v =>
    !s.flag (supKind v) (supInst v) DPS_CTRL_EN || s.flag (supKind v) (supInst v) DPS_STAT_READY
  if s.flag (supKind u) (supInst u) DPS_CTRL_CONN && ready && !s.gatedSpan (supBank u) then g.foldl State.closeSwitch s else s

def execDpsSwitchClosed (u : Fin 96) (s : State) : Host.Outcome State Fault Refusal := done (dpsSwitchClosed u.val s)

/-- DPS_CLAMP.ILIM as it is stored (R364, R534): 0 as 1, above 600 as 600, above ILIM_MAX as ILIM_MAX. -/
def State.ilimStored (s : State) (i v : Nat) : Nat :=
  let v := if v = 0 then 1 else min v 600
  match (s.sup i).ilimMax with
  | some m => min v m
  | none => v

/-- A write of DPS_CLAMP.ILIM: a raise is charge-changing (R364, R368). -/
def State.ilimWrite (s : State) (who : Asker) (i value : Nat) : Wrote :=
  let b := i / 3
  let v := s.ilimStored i value
  let change : State → State := fun s => s.put .dps i DPS_CLAMP_ILIM v
  if s.gatedSpan b then (s.storeGated who b (.ilim i v) change).took
  else if s.fld .dps i DPS_CLAMP_ILIM < v then s.govern who b false change id
  else ((change s).recharge b).took

/-- ILIM (R364). -/
def execIlim (i : Fin 72) (value : Nat) (s : State) : Host.Outcome State Fault Refusal :=
  done (s.hostOp fun who s => s.ilimWrite who i.val (value % 1024))

/-- CLAMPED (R364): limiting begins or ends; each onset is signalled and raised. -/
def clamped (u : Nat) (on : Bool) (s : State) : State :=
  let was := s.flag (supKind u) (supInst u) DPS_STAT_CLAMPED
  let s := s.put (supKind u) (supInst u) DPS_STAT_CLAMPED (bit on)
  if on && !was then (s.int (supKind u) (supInst u) 0).raiseOpen (supKind u) (supInst u) 1 1 else s

def execClamped (u : Fin 96) (on : Bool) (s : State) : Host.Outcome State Fault Refusal := done (clamped u.val on s)

/-- A write of DPS_RANGE (R365): 5 to 7 leave it unchanged. -/
def State.rangeWrite (s : State) (i value : Nat) : Wrote :=
  s.supWrite i true fun s =>
    if 4 < value then s.took
    else ((s.gang i).foldl (fun s v => (s.put .dps v DPS_RANGE value).rangeNow v) s).took

/-- DPS_RANGE (R365). -/
def execDpsRange (i : Fin 72) (value : Nat) (s : State) : Host.Outcome State Fault Refusal :=
  done (s.hostOp fun _ s => s.rangeWrite i.val (value % 8))

/-- A write of DPS_CTRL.SENSE (R366, R367, R377). -/
def State.senseWrite (s : State) (i : Nat) (on : Bool) : Wrote :=
  s.supWrite i true fun s => ((s.gang i).foldl (fun s v => s.put .dps v DPS_CTRL_SENSE (bit on)) s).took

/-- SENSE_LOST (R366): the channel regulates remotely and its sense has failed. -/
def execSenseLost (i : Fin 72) (s : State) : Host.Outcome State Fault Refusal :=
  done (if s.flag .dps i.val DPS_CTRL_SENSE && !s.flag .dps i.val DPS_STAT_SENSE_LOST then
    ((s.put .dps i.val DPS_STAT_SENSE_LOST 1).int .dps i.val 1).raiseOpen .dps i.val 2 2 else s)

/-- SENSE_RETRY (R366). -/
def execSenseRetry (i : Fin 72) (s : State) : Host.Outcome State Fault Refusal :=
  done (s.hostOp fun _ s => (s.put .dps i.val DPS_STAT_SENSE_LOST 0).took)

/-- The channels of bank `b` that a gang mode joins (R367). -/
def gangOf (b mode : Nat) : List Nat :=
  match mode with
  | 1 => [3 * b, 3 * b + 1]
  | 2 => [3 * b, 3 * b + 1, 3 * b + 2]
  | _ => []

/-- A follower takes the master's setpoint, range, SENSE and CONN (R367). -/
def State.follow (s : State) (m u : Nat) : State :=
  let s := s.put .dps u DPS_CTRL_CONN (s.fld .dps m DPS_CTRL_CONN)
  let s := s.put .dps u DPS_CTRL_SENSE (s.fld .dps m DPS_CTRL_SENSE)
  let s := (s.put .dps u DPS_RANGE (s.fld .dps m DPS_RANGE)).rangeNow u
  s.setOne (s.fld .dps m DPS_V_CODE) u

/-- A write of DPS_GANG.MODE (R367): 3 leaves it; a change is ignored while a member of the old or the new gang is connected. -/
def State.gangWrite (s : State) (b mode : Nat) : Wrote :=
  let old := s.fld .dps (3 * b) DPS_GANG_MODE
  if mode = 3 ∨ mode = old then s.took
  else if (gangOf b old ++ gangOf b mode).any fun u => s.flag .dps u DPS_STAT_CONNECTED then s.ignored .dps (3 * b) 6
  else
    let s := (s.put .dps (3 * b) DPS_GANG_MODE mode).touchShadow b
    let s := [1, 2].foldl
      (fun s i => s.put .dps (3 * b + i) DPS_STAT_FOLLOWER (bit ((gangOf b mode).contains (3 * b + i)))) s
    (((gangOf b mode).drop 1).foldl (fun s u => s.follow (3 * b) u) s).took

/-- DPS_GANG (R367). -/
def execDpsGang (b : Fin 24) (mode : Fin 4) (s : State) : Host.Outcome State Fault Refusal :=
  done (s.hostOp fun _ s => s.gangWrite b.val mode.val)

/-! ### Setpoint queues -/

/-- Q_STAT.LEVEL and ISSUED brought up to date. -/
def State.queueStat (s : State) (u : Nat) : State :=
  let x := s.sup u
  (s.put (supKind u) (supInst u) DPS_Q_STAT_LEVEL x.queue.length).put (supKind u) (supInst u) DPS_Q_STAT_ISSUED
    (bit x.issued.isSome)

/-- A push (R369): CODE in [19:0], DWELL_M1 in [31:20]. -/
def State.pushWrite (s : State) (u : Nat) (value : Word) : Wrote :=
  s.supWrite u true fun s =>
    let x := s.sup u
    if 64 ≤ x.queue.length then
      ((s.bump (supKind u) (supInst u) DPS_Q_OVF_COUNT DPS_Q_OVF).int (supKind u) (supInst u) 4).ignored
        (supKind u) (supInst u) 3
    else
      ((s.setSup u { x with queue := x.queue ++ [(bitsOf value 19 0, bitsOf value 31 20 + 1)] }).queueStat u).took

/-- Q_PUSH (R369). -/
def execQPush (u : Fin 96) (value : Word) (s : State) : Host.Outcome State Fault Refusal :=
  done (s.hostOp fun _ s => s.pushWrite u.val value)

/-- Draining is to start at the next update tick; no effect on a running or empty queue (R370). -/
def State.startQueue (s : State) (u : Nat) : State :=
  if s.flag (supKind u) (supInst u) DPS_Q_STAT_RUNNING || (s.sup u).queue.isEmpty then s
  else s.setSup u { s.sup u with starting := true }

/-- Q_GO (R370, R377). -/
def execQGo (u : Fin 96) (s : State) : Host.Outcome State Fault Refusal :=
  done (s.hostOp fun _ s => s.supWrite u.val true fun s => (s.startQueue u.val).took)

/-- Every entry not yet issued is discarded; an issued one is still applied (R371). -/
def State.flushQueue (s : State) (u : Nat) : State :=
  let s := s.setSup u { s.sup u with queue := [], wait := 0, starting := false }
  (s.put (supKind u) (supInst u) DPS_Q_STAT_RUNNING 0).queueStat u

/-- FLUSH (R371). -/
def execFlush (u : Fin 96) (s : State) : Host.Outcome State Fault Refusal :=
  done (s.hostOp fun _ s => s.supWrite u.val false fun s => (s.flushQueue u.val).took)

/-- A write of Q_CTRL: GO in [31], FLUSH in [30]; written together they flush only (R371). -/
def State.qctrlWrite (s : State) (u : Nat) (value : Word) : Wrote :=
  if value.getLsbD 30 then s.supWrite u false fun s => (s.flushQueue u).took
  else if value.getLsbD 31 then s.supWrite u true fun s => (s.startQueue u).took
  else s.took

/-- One supply at an update tick (R370): what was issued is applied; a queue that is to start runs; and where it is due it issues
its oldest entry, or finds itself empty. -/
def State.updateOne (s : State) (u : Nat) : State :=
  let x := s.sup u
  let s := match x.issued with
    | some c => (s.setSup u { x with issued := none }).setpoint u c
    | none => s
  let x := s.sup u
  let s := if x.starting then s.put (supKind u) (supInst u) DPS_Q_STAT_RUNNING 1 else s
  if s.flag (supKind u) (supInst u) DPS_Q_STAT_RUNNING then
    let wait := if x.starting then 0 else x.wait - 1
    if wait = 0 then
      match x.queue with
      | (c, d) :: r =>
        (s.setSup u { x with queue := r, issued := some c, wait := d, starting := false }).queueStat u
      | [] =>
        let s := (s.setSup u { x with wait := 0, starting := false }).put (supKind u) (supInst u) DPS_Q_STAT_RUNNING 0
        (s.int (supKind u) (supInst u) 3).queueStat u
    else s.setSup u { x with wait := wait }
  else s.queueStat u

/-- UPDATE_TICK (R370). -/
def execUpdateTick (s : State) : Host.Outcome State Fault Refusal :=
  done ((List.range 96).foldl State.updateOne s)

/-- The supplies that a SUPPLY_GO entry selects (R104): SUB [2:0] the DPS, [3] the HVC, of each bank in the mask. -/
def supplyGoSel (sub : Nat) (mask : Word) : List Nat :=
  (List.range 24).flatMap fun b =>
    if mask.getLsbD b then
      ((List.range 3).filterMap fun i => if bitAt sub i then some (3 * b + i) else none)
        ++ (if bitAt sub 3 then [72 + b] else [])
    else []

/-- SUPPLY_GO (R372): refused as a whole with reason 1, FAULT_HELD, where any selected channel is held. -/
def execSupplyGo (s : State) : Host.Outcome State Fault Refusal :=
  done (s.pisteAct 6 fun e s =>
    let sel := supplyGoSel e.sub e.arg
    if sel.any s.faultHeld then (s, .refused 1)
    else (sel.foldl (fun s u => if s.follower u then s else s.startQueue u) s, .took 0))

/-! ### Power-up and fault values -/

/-- RELEASE (R377): only a host write ends FAULT_HELD. -/
def State.releaseWrite (s : State) (who : Asker) (u : Nat) : Wrote :=
  if who.src = .host then (s.put (supKind u) (supInst u) DPS_STAT_FAULT_HELD 0).took else s.took

def execRelease (u : Fin 96) (s : State) : Host.Outcome State Fault Refusal :=
  done (s.hostOp fun who s => s.releaseWrite who u.val)

/-- A write of a PUV register (R374): Owner role; ignored while BUSY; the NVM write starts. -/
def State.puvWrite (s : State) (who : Asker) (u : Nat) (value : Word) : Wrote :=
  let k := supKind u
  let i := supInst u
  if !who.role.meets 1 then s.deniedAt k i
  else if s.flag k i DPS_PUV_BUSY then s.took
  else
    let s := (s.put k i DPS_PUV_CODE (bitsOf value 19 0)).put k i DPS_PUV_CONN (bitsOf value 31 31)
    let s := s.put k i DPS_PUV_BUSY 1
    ({ s with nvmJobs := s.nvmJobs ++ [NvmJob.puv u (bitsOf value 19 0) (value.getLsbD 31)] }).took

/-- PUV_WRITE (R374). -/
def execPuvWrite (u : Fin 96) (value : Word) (s : State) : Host.Outcome State Fault Refusal :=
  done (s.hostOp fun who s => s.puvWrite who u.val value)

end Sys2Proof.Machine
end

