-- ==== Sys2Proof/Machine/Banks.lean ====
section
/-! DEFINITION. Bank modes and their transitions (R125 to R130), the PPMU's connection and a channel's pin states (R116 to R120,
R148), and the symbol maps (R139, R140). -/

namespace Sys2Proof.Machine
open Sys2Proof Reg

/-! ### Bank modes -/

/-- Whether a channel of a bank belongs to a site bound to a running PSQ (R28). -/
def State.bankBusy (s : State) (b : Nat) : Bool :=
  (List.range 32).any fun l =>
    match s.pinPsq (32 * b + l) with
    | some n => s.psqRunning n
    | none => false

/-- A mode change has been admitted (R128): TRANSITION is 1, every channel is in SAFE, the pin monitors see a level transition
(R383), and a calibration step of the bank is abandoned (R446). -/
def State.startTransition (s : State) (b : Nat) : State :=
  let s := (s.put .bnk b BNK_MODE_TRANSITION 1).put .bnk b BNK_STAT_TRANSITION 1
  let s := (List.range 32).foldl (fun s m => s.levelBlank b m) (s.safeBankPins b)
  s.calAbandon b

/-- A write of BNK_MODE.REQ (R125 to R128). -/
def State.modeWrite (s : State) (who : Asker) (b mode : Nat) : Wrote :=
  let change : State → State := fun s => s.put .bnk b BNK_MODE_REQ mode
  if mode = 3 then s.took
  else if s.flag .bnk b BNK_MODE_TRANSITION then (s.int .bnk b 3).ignored .bnk b 3
  else if s.gatedSpan b then (s.storeGated who b (.mode mode) change).took
  else if mode = s.fld .bnk b BNK_MODE_ACTIVE then s.govern who b false id id
  else s.govern who b (s.bankBusy b) change fun s => s.startTransition b

/-- REQ (R125). -/
def execReq (b : Fin 24) (mode : Fin 4) (s : State) : Host.Outcome State Fault Refusal :=
  done (s.hostOp fun who s => s.modeWrite who b.val mode.val)

/-- A range switch of the pin levels holds all six levels of every lane (R357). -/
def State.holdAllLevels (s : State) (b : Nat) : State :=
  (List.range 32).foldl
    (fun s l => (List.range 6).foldl (fun s j => s.holdLevel b (8 * l + j) (s.level (32 * b + l) j)) s) s

/-- MODE_LIMITS_APPLY (R128): at 25 µs the limits of the new mode take effect; a move between Performance and the other modes is
a range switch (R357). -/
def modeLimitsApply (b : Nat) (s : State) : State :=
  if s.flag .bnk b BNK_MODE_TRANSITION then
    let new := s.fld .bnk b BNK_MODE_REQ
    let cross := decide (((s.bank b).limMode = 0) ≠ (new = 0))
    let s := (s.setBank b { s.bank b with limMode := new }).put .lde b LDE_STAT_RANGE (bit (new != 0))
    (if cross then s.holdAllLevels b else s).relimitBank b
  else s

def execModeLimitsApply (b : Fin 24) (s : State) : Host.Outcome State Fault Refusal := done (modeLimitsApply b.val s)

/-- The self-check of every bound channel of a bank, `fails` being the lanes that fail (R129). -/
def State.selfCheck (s : State) (b : Nat) (fails : Word) : State :=
  let bound := s.rd (fldOff .bnk b BNK_BOUND 0)
  let bad := fails &&& bound
  let s := (List.range 32).foldl
    (fun s l => if bound.getLsbD l then s.put .pec (32 * b + l) PEC_STAT_SELFCHK_FAIL (bit (bad.getLsbD l)) else s) s
  if bad = 0 then s else (s.int .bnk b 2).raise .bnk b 2 3 bad

/-- MODE_CAL_APPLY (R128, R129): at 35 µs the calibration selections and deskew of the new mode apply; the self-check follows. -/
def modeCalApply (b : Nat) (fails : Word) (s : State) : State :=
  if s.flag .bnk b BNK_MODE_TRANSITION then
    let s := s.setBank b { s.bank b with calMode := s.fld .bnk b BNK_MODE_REQ }
    ((s.calModeSelect b).selfCheck b fails)
  else s

def execModeCalApply (b : Fin 24) (fails : Word) (s : State) : Host.Outcome State Fault Refusal :=
  done (modeCalApply b.val fails s)

/-- MODE_DONE (R128): a mode that has no completed run is due (R442). -/
def modeDone (b : Nat) (s : State) : State :=
  if s.flag .bnk b BNK_MODE_TRANSITION then
    let s := s.put .bnk b BNK_MODE_ACTIVE (s.fld .bnk b BNK_MODE_REQ)
    let s := ((s.put .bnk b BNK_MODE_TRANSITION 0).put .bnk b BNK_STAT_TRANSITION 0).int .bnk b 0
    if (s.lastT b (s.calModeOf b)).isNone then s.makeDue b else s
  else s

def execModeDone (b : Fin 24) (s : State) : Host.Outcome State Fault Refusal := done (modeDone b.val s)

/-! ### The PPMU -/

/-- A channel enters MEASURE: its driver, load and termination are disconnected and nothing is compared (R116, R118). -/
def PinSt.measure (p : PinSt) : PinSt := { p with drvOn := false, edges := [], compares := [] }

/-- A write of PEC_PPMU.CONN (R118, R120): while the channel is in SAFE, or the bank PMU holds the pad, the request is held; in the
second case PPMU_BLOCKED is raised. -/
def State.ppmuWrite (s : State) (k : Nat) (on : Bool) : Wrote :=
  let s := (s.put .pec k PEC_PPMU_CONN (bit on)).touchShadow (k / 32)
  if on then
    if s.flag .pec k PEC_STAT_PMU_ON && !s.pinSafe k then ((s.int .pec k 3).raiseOpen .pec k 4 1).took
    else if s.ppmuHeld k then s.took
    else (s.setPin k (s.pin k).measure).took
  else
    let p := s.pin k
    (s.setPin k { p with ppmuOn := false, exiting := p.ppmuOn || p.exiting }).took

/-- CONN (R120). -/
def execConn (k : Fin 768) (on : Bool) (s : State) : Host.Outcome State Fault Refusal :=
  done (s.hostOp fun _ s => s.ppmuWrite k.val on)

/-- PPMU_CONNECT (R118): 200 ns after the channel's elements have disconnected. -/
def ppmuConnect (k : Nat) (s : State) : State :=
  if s.flag .pec k PEC_PPMU_CONN && !s.ppmuHeld k then
    (s.setPin k { (s.pin k).measure with ppmuOn := true, exiting := false }).put .pec k PEC_STAT_PPMU_ON 1
  else s

def execPpmuConnect (k : Fin 768) (s : State) : Host.Outcome State Fault Refusal := done (ppmuConnect k.val s)

/-- MEASURE_EXIT (R118): the channel takes up the elements of its new state, its driver off until its next drive action. -/
def measureExit (k : Nat) (s : State) : State :=
  if (s.pin k).exiting then
    (s.setPin k { s.pin k with exiting := false, drvOn := false }).put .pec k PEC_STAT_PPMU_ON 0
  else s

def execMeasureExit (k : Fin 768) (s : State) : Host.Outcome State Fault Refusal := done (measureExit k.val s)

/-- A write of PEC_CFG.IDLE_HOLD (R117, R152): 0 turns off a driver that still drives in IDLE. -/
def State.idleHoldWrite (s : State) (who : Asker) (k : Nat) (on : Bool) : Wrote :=
  if s.sealedTo k who.role then s.deniedAt .pec k
  else
    let s := (s.put .pec k PEC_CFG_IDLE_HOLD (bit on)).touchShadow (k / 32)
    (if !on && s.pinState k == 1 then s.setPin k { s.pin k with drvOn := false } else s).took

/-- IDLE_HOLD (R117). -/
def execIdleHold (k : Fin 768) (on : Bool) (s : State) : Host.Outcome State Fault Refusal :=
  done (s.hostOp fun who s => s.idleHoldWrite who k.val on)

/-- PPMU_COMPLIANCE (R148): the PPMU, connected and forcing, enters or leaves compliance. -/
def ppmuCompliance (k : Nat) (on : Bool) (s : State) : State :=
  let was := s.flag .pec k PEC_PPMU_COMPLIANCE
  if (s.pin k).ppmuOn && s.fld .pec k PEC_PPMU_MODE != 2 then
    let s := s.put .pec k PEC_PPMU_COMPLIANCE (bit on)
    if on && !was then (s.int .pec k 2).raiseOpen .pec k 3 1 else s
  else s.put .pec k PEC_PPMU_COMPLIANCE 0

def execPpmuCompliance (k : Fin 768) (on : Bool) (s : State) : Host.Outcome State Fault Refusal :=
  done (ppmuCompliance k.val on s)

/-! ### Symbol maps -/

/-- Whether the PSQ bound to a channel's site is running. -/
def State.pinRunning (s : State) (k : Nat) : Bool :=
  match s.pinPsq k with
  | some n => s.psqRunning n
  | none => false

/-- A write of word `w` of the symbol-map window (R139, R140, R152). -/
def mapWrite (k w : Nat) (value : Word) (s : State) : State :=
  if s.sealedTo k s.role then s.denied (baseOf .pec k)
  else if s.pinRunning k then (s.int .pec k 1).raiseOpen .pec k 2 1
  else (s.putAt .pec k PEC_MAP w value.toNat).touchShadow (k / 32)

/-- MAP (R140). -/
def execMap (k : Fin 768) (w : Fin 128) (value : Word) (s : State) : Host.Outcome State Fault Refusal :=
  done (s.asHostOn .pec k.val (mapWrite k.val w.val value))

end Sys2Proof.Machine
end

