-- ==== Sys2Proof/Machine/Counters.lean ====
section
/-! DEFINITION. The performance counters (R255, R256). -/

namespace Sys2Proof.Machine
open Sys2Proof Reg

/-- A 48-bit counter of a PCN page (R255). -/
def State.pcnCnt (s : State) (k : PageKind) (n i : Nat) : Nat :=
  s.fldAt k n PCN_CNT_LO i + 2 ^ 32 * s.fldAt k n PCN_CNT_HI i

/-- Whether counter `i` counts an event now (R255); `run` says that its PSQ is running. -/
def State.pcnCounts (s : State) (k : PageKind) (n ev : Nat) (run : Bool) (i : Nat) : Bool :=
  s.fldAt k n PCN_CFG_EN i == 1 && !s.flag k n PCN_CTRL_FREEZE && s.fldAt k n PCN_CFG_EVENT i == ev
    && (run || s.fldAt k n PCN_CFG_RUN_ONLY i == 0)

/-- Counter `i` advances by `d`; a wrap sets its sticky bit (R53). -/
def State.pcnAdd (s : State) (k : PageKind) (n i d : Nat) : State :=
  let v := s.pcnCnt k n i + d
  let s := (s.putAt k n PCN_CNT_LO i (v % 2 ^ 32)).putAt k n PCN_CNT_HI i (v / 2 ^ 32)
  if 2 ^ 48 ≤ v then s.put k n PCN_OVF_CNT (s.fld k n PCN_OVF_CNT ||| 2 ^ i) else s

/-- Whether adding `d` wraps a counter whose wrap interrupts (R256). -/
def State.pcnWraps (s : State) (k : PageKind) (n i d : Nat) : Bool :=
  decide (2 ^ 48 ≤ s.pcnCnt k n i + d) && s.fldAt k n PCN_CFG_INT i == 1

/-- `d` events of a PSQ happen. -/
def State.pcn (s : State) (n ev d : Nat) : State :=
  (List.range 8).foldl (fun s i =>
    if s.pcnCounts .pcn n ev (s.psqRunning n) i && decide (0 < d) then
      let w := s.pcnWraps .pcn n i d
      let s := s.pcnAdd .pcn n i d
      if w then s.setPsq n { s.psq n with wraps := (s.psq n).wraps ++ [(i, (s.psq n).completed)] } else s
    else s) s

/-- `d` chip-wide events happen. -/
def State.pcnChip (s : State) (ev d : Nat) : State :=
  (List.range 8).foldl (fun s i =>
    if s.pcnCounts .pcnChip 0 ev true i && decide (0 < d) then
      let w := s.pcnWraps .pcnChip 0 i d
      let s := s.pcnAdd .pcnChip 0 i d
      if w then { s with chipWraps := s.chipWraps ++ [i] } else s
    else s) s

/-- PCN_WRAP (R256): the wrap of counter `i` of a PSQ's page is signalled; the record of the skid is kept until it is cleared. -/
def pcnWrap (n i : Nat) (s : State) : State :=
  match (s.psq n).wraps.find? fun w => w.1 == i with
  | none => s
  | some w =>
    let s := s.setPsq n { s.psq n with wraps := (s.psq n).wraps.erase w }
    let s := s.int .pcn n 0
    if s.flag .pcn n PCN_SKID_VALID then s
    else
      let s := s.put .pcn n PCN_SKID (min 8 ((s.psq n).completed - w.2))
      (s.put .pcn n PCN_SKID_PC (s.fld .psq n PSQ_PC)).put .pcn n PCN_SKID_VALID 1

/-- PCN_WRAP on the chip-wide page (R256). -/
def pcnWrapChip (i : Nat) (s : State) : State :=
  if s.chipWraps.contains i then ({ s with chipWraps := s.chipWraps.erase i }).int .pcnChip 0 0 else s

def execPcnWrap (n : Option (Fin 8)) (i : Fin 8) (s : State) : Host.Outcome State Fault Refusal :=
  done (match n with
    | some n => pcnWrap n.val i.val s
    | none => pcnWrapChip i.val s)

end Sys2Proof.Machine
end

