-- ==== Sys2Proof/Machine/Store.lean ====
section
/-! DEFINITION. The Vector Store's memory (R285 to R300): bytes, the written-map, poison and error handling, objects and handles;
the Lift's page table (R308) and the reads a sequencer makes of its vector cache. -/

namespace Sys2Proof.Machine
open Sys2Proof Reg

/-! ### Bytes and the written-map -/

def State.vsByte (s : State) (a : Nat) : Byte := mapGet (fun _ => 0) s.vs.bytes a
def State.vsWritten (s : State) (region : Nat) : Bool := mapGet (fun _ => false) s.vs.written region
def State.vsPoison (s : State) (word : Nat) : Bool := mapGet (fun _ => false) s.vs.poison word

/-- `n` bytes from a physical address; a never-written region reads as zeros (R295). -/
def State.vsRead (s : State) (a n : Nat) : List Byte := (List.range n).map fun i => s.vsByte (a + i)

/-- Whether any byte read lies in a never-written region. -/
def State.vsUnwritten (s : State) (a n : Nat) : Bool := (List.range n).any fun i => !s.vsWritten ((a + i) / 4096)

/-- Channel of a physical address (R285). -/
def vsChannel (a : Nat) : Nat := a / 4096 % 8

/-- Whether a channel is marked failed (R300). -/
def State.chFailed (s : State) (c : Nat) : Bool := bitAt (s.fld .vmc 0 VMC_STAT_CH_FAIL) c

/-- A region becomes never-written: its bytes and its poison are forgotten (R294, R334). -/
def State.vsForget (s : State) (region : Nat) : State :=
  { s with vs := { s.vs with
    bytes := mapDrop (fun a => a / 4096 == region) s.vs.bytes
    written := mapDel s.vs.written region
    poison := mapDrop (fun w => w / 512 == region) s.vs.poison } }

/-- Bytes stored with no check: the region they fall in becomes written (R294). -/
def State.vsPoke (s : State) (a : Nat) : List Byte → State
  | [] => s
  | b :: r =>
    let s := { s with vs := { s.vs with
      bytes := mapSet (fun _ => 0) s.vs.bytes a b, written := mapSet (fun _ => false) s.vs.written (a / 4096) true } }
    s.vsPoke (a + 1) r

/-- Poison of a word, set or cleared. -/
def State.setPoison (s : State) (word : Nat) (p : Bool) : State :=
  { s with vs := { s.vs with poison := mapSet (fun _ => false) s.vs.poison word p } }

/-- A write that covers part of one 64-bit word, or all of it (R298). -/
def State.vsWriteWord (s : State) (a : Nat) (bs : List Byte) : State :=
  if bs.length = 8 then (s.vsPoke a bs).setPoison (a / 8) false
  else if s.vsPoison (a / 8) || s.chFailed (vsChannel a) then
    ((s.bump .vmc 0 VMC_RMW_FAIL_COUNT VMC_RMW_FAIL_OVF).int .vmc 0 4).raiseOpen .vmc 0 4 1
  else (s.vsPoke a bs).pcnChip 3 1

/-- A write of bytes from a physical address, word by word; `fuel` is at least the number of words. -/
def State.vsWriteAux (s : State) (a : Nat) (bs : List Byte) : Nat → State
  | 0 => s
  | fuel + 1 =>
    if bs.isEmpty then s
    else
      let k := 8 - a % 8
      (s.vsWriteWord a (bs.take k)).vsWriteAux (a + k) (bs.drop k) fuel

/-- A write of bytes from a physical address (R294, R298), counted by block (R255). -/
def State.vsWrite (s : State) (a : Nat) (bs : List Byte) : State :=
  (s.vsWriteAux a bs (bs.length + 1)).pcnChip 2 (if bs.isEmpty then 0 else (a + bs.length - 1) / 64 + 1 - a / 64)

/-! ### Objects -/

/-- GEN and SLOT of a handle (R290). -/
def handleGen (h : Word) : Nat := bitsOf h 31 16
def handleSlot (h : Word) : Nat := bitsOf h 15 0

def State.genOf (s : State) (slot : Nat) : Nat := mapGet (fun _ => 0) s.vs.gens slot
def State.slotObj (s : State) (slot : Nat) : Option VsObj := mapGet (fun _ => none) s.vs.objs slot

/-- The object a handle names (R290). -/
def State.objAt (s : State) (h : Word) : Option VsObj :=
  if handleSlot h < 16384 ∧ s.genOf (handleSlot h) = handleGen h then s.slotObj (handleSlot h) else none

/-- Bytes of an object. -/
def VsObj.size (o : VsObj) : Nat := 65536 * o.granules.length

/-- Physical address of byte `x` of an object. -/
def VsObj.phys (o : VsObj) (x : Nat) : Nat := 65536 * o.granules.getD (x / 65536) 0 + x % 65536

/-- The PLAIN object a handle names, where it holds bytes `off` to `off + n − 1`. -/
def State.plainRange (s : State) (h : Word) (off n : Nat) : Option VsObj :=
  match s.objAt h with
  | some o => if o.kind = .plain ∧ off + n ≤ o.size then some o else none
  | none => none

/-- Bytes of an object, read across its granules. -/
def State.objRead (s : State) (o : VsObj) (x n : Nat) : List Byte := (List.range n).map fun i => s.vsByte (o.phys (x + i))

/-- Whether any of these bytes of an object is never-written. -/
def State.objUnwritten (s : State) (o : VsObj) (x n : Nat) : Bool :=
  (List.range n).any fun i => !s.vsWritten (o.phys (x + i) / 4096)

/-- Whether a read of these bytes of an object meets a poisoned word or a failed channel (R297, R300). -/
def State.objBad (s : State) (o : VsObj) (x n : Nat) : Bool :=
  (List.range n).any fun i => s.vsPoison (o.phys (x + i) / 8)
    || (s.chFailed (vsChannel (o.phys (x + i))) && s.vsWritten (o.phys (x + i) / 4096))

/-- Bytes written to an object, word by word; an object's granules are aligned, so no word spans two. -/
def State.objWriteAux (s : State) (o : VsObj) (x : Nat) (bs : List Byte) : Nat → State
  | 0 => s
  | fuel + 1 =>
    if bs.isEmpty then s
    else
      let k := 8 - x % 8
      (s.vsWriteWord (o.phys x) (bs.take k)).objWriteAux o (x + k) (bs.drop k) fuel

def State.objWrite (s : State) (o : VsObj) (x : Nat) (bs : List Byte) : State :=
  (s.objWriteAux o x bs (bs.length + 1)).pcnChip 2 (if bs.isEmpty then 0 else (x + bs.length - 1) / 64 + 1 - x / 64)

/-- The slot whose object holds a granule. -/
def State.slotOfGranule (s : State) (g : Nat) : Option Nat :=
  (s.vs.objs.find? fun e => match e.2 with | some o => o.granules.contains g | none => false).map (·.1)

/-- VMC_UE_LOC of a physical word address: the handle of the object that holds it and the word in the object, or handle 0 and the
physical word (R297). -/
def State.ueLoc (s : State) (word : Nat) : Nat × Nat :=
  let a := 8 * word
  match s.slotOfGranule (a / 65536) with
  | some slot =>
    match s.slotObj slot with
    | some o => (65536 * s.genOf slot + slot, (65536 * o.granules.idxOf (a / 65536) + a % 65536) / 8)
    | none => (0, word)
  | none => (0, word)

/-- VMC_UE_LOC records a word (R297, R302). -/
def State.putUeLoc (s : State) (word : Nat) (scrub : Bool) : State :=
  let (h, w) := s.ueLoc word
  ((s.put .vmc 0 VMC_UE_LOC_HANDLE h).put .vmc 0 VMC_UE_LOC_SCRUB (bit scrub)).put .vmc 0 VMC_UE_LOC_WORD w

/-! ### Errors -/

/-- The correctable-error bucket rises by one (R299). -/
def State.bucketRise (s : State) : State :=
  let level := s.fld .vmc 0 VMC_BUCKET_LEVEL
  if level < s.fld .vmc 0 VMC_BUCKET_DEPTH then s.put .vmc 0 VMC_BUCKET_LEVEL (level + 1)
  else if s.vs.overflowed then s
  else (({ s with vs := { s.vs with overflowed := true } }).int .vmc 0 3).raiseOpen .vmc 0 3 2

/-- A word read with a single-bit error: corrected and written back (R296). -/
def State.corrected (s : State) : State :=
  ((s.bump .vmc 0 VMC_CE_COUNT VMC_CE_OVF).bucketRise).pcnChip 4 1

/-- A channel is marked failed (R300). -/
def State.failChannel (s : State) (c : Nat) : State :=
  if s.chFailed c then s
  else
    let s := s.put .vmc 0 VMC_STAT_CH_FAIL (s.fld .vmc 0 VMC_STAT_CH_FAIL ||| 2 ^ c)
    (s.int .vmc 0 7).raiseOpen .vmc 0 6 3

/-- A demand read meets an uncorrectable word (R297): the first time it is poisoned, located and raised; four consecutive
uncorrectable reads of a channel fail it (R300). -/
def State.uncorrected (s : State) (word : Nat) : State :=
  let c := vsChannel (8 * word)
  let s := s.bump .vmc 0 VMC_UE_COUNT VMC_UE_OVF
  if s.vsPoison word || s.chFailed c then s
  else
    let s := ((s.setPoison word true).putUeLoc word false).int .vmc 0 6
    let s := s.raiseOpen .vmc 0 2 2
    let run := mapGet (fun _ => 0) s.vs.ueRun c + 1
    let s := { s with vs := { s.vs with ueRun := mapSet (fun _ => 0) s.vs.ueRun c run } }
    if run = 4 then s.failChannel c else s

/-- A good read of a channel ends a run of uncorrectable ones (R300). -/
def State.goodRead (s : State) (c : Nat) : State := { s with vs := { s.vs with ueRun := mapDel s.vs.ueRun c } }

/-- A demand read of one word, which `hit` may find in error: the state, and whether the word is delivered (R296, R297). A word of a
never-written region has no error (R295). -/
def State.readWord (s : State) (word : Nat) (hit : Option Bool) : State × Bool :=
  if !s.vsWritten (word / 512) then (s, true)
  else if s.vsPoison word || s.chFailed (vsChannel (8 * word)) || hit = some true then (s.uncorrected word, false)
  else if hit = some false then ((s.goodRead (vsChannel (8 * word))).corrected, true)
  else (s.goodRead (vsChannel (8 * word)), true)

/-- Demand reads of the words of a list of physical word addresses; the i-th may be found in error. -/
def State.readWords (s : State) (words : List Nat) (hits : List EccHit) : State × Bool :=
  let s := s.pcnChip 1 ((words.map (· / 8)).eraseDups.length)
  (words.zipIdx).foldl
    (fun (r : State × Bool) w =>
      let h := (hits.find? fun x => x.word == w.2).map (·.uncorrectable)
      let (s, ok) := r.1.readWord w.1 h
      (s, r.2 && ok)) (s, true)

/-- The physical words that bytes `x` to `x + n − 1` of an object lie in. -/
def VsObj.words (o : VsObj) (x n : Nat) : List Nat :=
  if n = 0 then [] else (List.range ((x + n - 1) / 8 + 1 - x / 8)).map fun i => o.phys (8 * (x / 8 + i)) / 8

/-! ### The page table and footprints -/

def State.pteAt (s : State) (vpn : Nat) : Pte := mapGet (fun _ => Pte.blank) s.vs.pte vpn
def State.setPte (s : State) (vpn : Nat) (e : Pte) : State :=
  { s with vs := { s.vs with pte := mapSet (fun _ => Pte.blank) s.vs.pte vpn e } }

/-- The granule a page's data can be read from: a mapped page, staged where it is host-backed. -/
def Pte.backing (e : Pte) : Option Nat := if e.v && e.present then some e.granule else none

/-- Whether a page lies in a footprint (R311). -/
def Program.holds (p : Program) (vpn : Nat) : Bool := p.pages.any fun r => decide (r.1 ≤ vpn) && decide (vpn < r.1 + r.2)

/-- Whether a loaded PSQ has this page in its footprint; one whose LOAD is admitted counts. -/
def State.inFootprint (s : State) (n vpn : Nat) : Bool :=
  match (s.psq n).prog, (s.psq n).load with
  | some p, _ => p.holds vpn
  | none, some (p, some _) => p.holds vpn
  | _, _ => false

/-- Whether an LFT_PIN range of PSQ `n` that is enabled holds a page (R312). -/
def State.inPinRange (s : State) (n vpn : Nat) : Bool :=
  (List.range 8).any fun r =>
    s.fldAt .lft n LFT_PIN_EN r == 1 && decide (s.fldAt .lft n LFT_PIN_VPN r ≤ vpn)
      && decide (vpn ≤ s.fldAt .lft n LFT_PIN_VPN r + s.fldAt .lft n LFT_PIN_COUNT_M1 r)

/-- Whether a page holds bytes of the segment table of a program. -/
def Program.inTable (p : Program) (vpn : Nat) : Bool :=
  decide (0 < p.segs.length) && decide (p.tabVa / 65536 ≤ vpn) && decide (vpn ≤ (p.tabVa + 16 * p.segs.length - 1) / 65536)

/-- Whether a footprint page is pinned (R312), or was by its bundle (R486). -/
def State.pinnedPage (s : State) (n : Nat) (p : Program) (vpn : Nat) : Bool :=
  p.holds vpn && (s.inPinRange n vpn || p.inTable vpn || (s.psq n).bundle.any fun b => b.pins.contains vpn)

/-- The pages of a footprint, each once, in ascending order of their ranges. -/
def Program.pageList (p : Program) : List Nat :=
  ((p.pages.map fun r => (List.range r.2).map fun i => r.1 + i).flatten).eraseDups

/-! ### Vector caches -/

/-- What a sequencer gets of its vector cache (R215, R221, R295, R297). -/
inductive Got where
  | bytes (bs : List Byte)
  | miss (block : Nat)
  | unwritten
  | bad
  deriving DecidableEq, Repr

/-- `len` bytes of one block from a virtual address, for PSQ `n`. -/
def State.fetch (s : State) (n va len : Nat) : Got :=
  match lookupKey (s.psq n).cache (va / 64) with
  | some l =>
    match l.mark with
    | .good => .bytes ((l.bytes.drop (va % 64)).take len)
    | .unwritten => .unwritten
    | .bad => .bad
  | none => if (s.pteAt (va / 65536)).failed then .bad else .miss (va / 64)

/-- Several fetches in order: the bytes of all, or the first that gives none. -/
def State.fetchAll (s : State) (n : Nat) : List (Nat × Nat) → Got
  | [] => .bytes []
  | r :: rest =>
    match s.fetch n r.1 r.2 with
    | .bytes bs =>
      match s.fetchAll n rest with
      | .bytes more => .bytes (bs ++ more)
      | g => g
    | g => g

/-- Where vector word `i` of a segment lies (R189, R286). -/
def Segment.slotVa (g : Segment) (i : Nat) : Nat := g.va + 64 * (i / 7) + 9 * (i % 7)

/-- The vector words of vector `v` of a segment, each 9 bytes (R189). -/
def State.fetchVector (s : State) (n : Nat) (g : Segment) (v : Nat) : Got :=
  s.fetchAll n ((List.range (g.wM1 + 1)).map fun w => (g.slotVa ((g.wM1 + 1) * v + w), 9))

/-- Instruction `pc` of a program: 64 bits (R191). -/
def State.fetchInstr (s : State) (n : Nat) (p : Program) (pc : Nat) : Got := s.fetch n (p.va + 8 * pc) 8

/-- The block is the most recently used of its cache (R312). -/
def State.touchLine (s : State) (n block : Nat) : State :=
  let x := s.psq n
  match lookupKey x.cache block with
  | some l => s.setPsq n { x with cache := x.cache.filter (fun e => e.1 != block) ++ [(block, l)] }
  | none => s

/-- A miss is counted once for the block it is of, and the block is requested (R215, R315). -/
def State.missed (s : State) (n block : Nat) : State :=
  let x := s.psq n
  if x.missed = some block then s
  else
    let asked := if x.asked.contains block then x.asked else x.asked ++ [block]
    let s := s.setPsq n { x with missed := some block, missedAt := s.clock, asked := asked }
    (s.bump .lft n LFT_MISS_COUNT LFT_MISS_OVF).pcn n 0x10 1

end Sys2Proof.Machine
end

