-- ==== Sys2Proof/Machine/Sites.lean ====
section
/-! DEFINITION. Sites: which are bound to a sequencer, their pins and registers, taint (R223), the site flag and fail latch, masking
and retirement (R265 to R269, R279 to R283), and the stop conditions of a sequencer (R211). -/

namespace Sys2Proof.Machine
open Sys2Proof Reg

/-! ### Sequencer time and taint -/

/-- PSQ_VCOUNT. -/
def State.vcount (s : State) (n : Nat) : Nat := s.fld .psq n PSQ_VCOUNT_LO + 2 ^ 32 * s.fld .psq n PSQ_VCOUNT_HI

/-- A site's taint bit, with the PSQ's (R223). -/
def State.taintSite (s : State) (i bitNo : Nat) : State :=
  let s := s.setSite i { s.site i with taint := (s.site i).taint ||| 2 ^ bitNo }
  match s.sitePsq i with
  | some n => s.taintPsq n bitNo
  | none => s

/-- Every site bound to a PSQ is tainted (R223). -/
def State.taintAll (s : State) (n bitNo : Nat) : State :=
  (s.sitesOf n).foldl (fun s i => s.taintSite i bitNo) (s.taintPsq n bitNo)

/-! ### Stop conditions -/

/-- A selected condition of PSQ_STOPCFG occurs (R211): the PSQ requests its own stop, and asks for its SYNC lane. -/
def State.stopCond (s : State) (n cond : Nat) : State :=
  if bitAt (s.fld .psq n PSQ_STOPCFG_COND) cond && s.psqRunning n then
    let s := s.requestStop n 7 0
    if s.flag .psq n PSQ_STOPCFG_DRIVE then
      let lane := s.fld .psq n PSQ_STOPCFG_LANE
      if s.laneRole lane = 1 then s.syncDrive lane else s.raiseOpen .psq n 10 1
    else s
  else s

/-- Whether a fault that is raised once per burst has been raised in this one. -/
def State.raisedOnce (s : State) (n what : Nat) : Bool := (s.psq n).raised.contains what

def State.noteRaised (s : State) (n what : Nat) : State := s.setPsq n { s.psq n with raised := what :: (s.psq n).raised }

/-- The condition NO_ACTIVE: the last active site of a running PSQ is masked or retired (R211). -/
def State.checkNoActive (s : State) (n : Nat) : State :=
  if s.psqRunning n && (s.activeSites n).isEmpty then s.stopCond n 3 else s

/-! ### Masking and retirement -/

/-- A site is masked or unmasked. -/
def State.maskNow (s : State) (i : Nat) (on : Bool) : State :=
  let was := s.siteActive i
  let s := s.put .site i SITE_STATE_MASKED (bit on)
  match s.sitePsq i with
  | some n => if was && on then s.checkNoActive n else s
  | none => s

/-- An entry of the site page for the event recorder, at Info (R280). -/
def State.retireEntry (s : State) (i : Nat) : State := (s.evrOffer (s.evrEntry .site i 0 0 0 s.freeWord)).drawn

/-- A site is retired with a cause, the first of them recorded (R280). -/
def State.retireNow (s : State) (i cause : Nat) : State :=
  if s.siteRetired i then s
  else
    let was := s.siteActive i
    let s := (s.put .site i SITE_STATE_RETIRED 1).put .site i SITE_STATE_CAUSE cause
    let v := match s.sitePsq i with
      | some n => s.vcount n
      | none => 0
    let s := (s.put .site i SITE_RETIRE_AT_LO v).put .site i SITE_RETIRE_AT_HI (v / 2 ^ 32)
    let s := (s.int .site i 0).retireEntry i
    let s := if s.flag .site i SITE_CFG_RETIRE_SUPPLY then (s.siteSupplies i).foldl State.disableSup s else s
    match s.sitePsq i with
    | some n => if was then s.checkNoActive n else s
    | none => s

/-- A change of mask or a retirement takes effect. -/
def State.changeNow (s : State) (i : Nat) : SiteChange → State
  | .mask on => s.maskNow i on
  | .retire c => s.retireNow i c

/-- The changes of a site that satisfy `p`, given the position at which each was received, take effect in order. -/
def State.applyChanges (s : State) (i : Nat) (p : Nat → Bool) : State :=
  let due := (s.site i).changes.filter fun c => p c.2
  let s := s.setSite i { s.site i with changes := (s.site i).changes.filter fun c => !p c.2 }
  due.foldl (fun s c => s.changeNow i c.1) s

/-- A change of mask or a retirement comes for a site: at once while its PSQ is not running, else from the first vector period that
begins at least 16 cycles later (R279, R280). -/
def State.siteChange (s : State) (i : Nat) (c : SiteChange) : State :=
  match s.sitePsq i with
  | some n =>
    if s.psqRunning n then s.setSite i { s.site i with changes := (s.site i).changes ++ [(c, s.psqNow n)] } else s.changeNow i c
  | none => s.changeNow i c

/-- A host write is ignored because the site's PSQ is running: SITE_BUSY (R267, R281). -/
def State.siteBusy (s : State) (i : Nat) : State := (s.int .site i 2).raiseOpen .site i 1 1

/-- MASK (R279). -/
def siteMask (i : Nat) (on : Bool) (s : State) : State := (s.put .site i SITE_CTRL_MASK (bit on)).siteChange i (.mask on)

def execMask (site : Fin 256) (on : Bool) (s : State) : Host.Outcome State Fault Refusal :=
  done (s.asHostOn .site site.val (siteMask site.val on))

/-- RETIRE (R280). -/
def execRetire (site : Fin 256) (s : State) : Host.Outcome State Fault Refusal :=
  done (s.asHostOn .site site.val fun s => s.siteChange site.val (.retire 1))

/-- UNRETIRE (R281): a site that is also masked stays masked. -/
def siteUnretire (i : Nat) (s : State) : State :=
  if s.siteRunning i then s.siteBusy i
  else (s.put .site i SITE_STATE_RETIRED 0).put .site i SITE_STATE_CAUSE 0

def execUnretire (site : Fin 256) (s : State) : Host.Outcome State Fault Refusal :=
  done (s.asHostOn .site site.val (siteUnretire site.val))

/-! ### Site registers and state -/

/-- A host write to a site register (R267, R283). -/
def siteRegWrite (i r : Nat) (value : Word) (s : State) : State :=
  if s.regSealed i && !s.opens s.role (((s.sitePsq i).map s.psqOrigin).getD none) then s.denied (baseOf .site i)
  else if s.siteRunning i then s.siteBusy i
  else s.setSiteReg i r value.toNat

def execSiteRegWrite (site : Fin 256) (r : Fin 16) (value : Word) (s : State) : Host.Outcome State Fault Refusal :=
  done (s.asHostOn .site site.val (siteRegWrite site.val r.val value))

/-- The W1C bits of a SITE_STATE write. -/
def siteClear (i : Nat) (value : Word) (s : State) : State :=
  let s := if value.getLsbD 23 then s.put .site i SITE_STATE_CAP_MID 0 else s
  if value.getLsbD 22 then s.put .site i SITE_STATE_OVL_RANGE 0 else s

/-- A host write to SITE_STATE (R267). -/
def siteStateWrite (i : Nat) (value : Word) (s : State) : State :=
  let sf := bitsOf value 25 25
  let lf := bitsOf value 24 24
  let s := siteClear i value s
  if sf = s.fld .site i SITE_STATE_SF ∧ lf = s.fld .site i SITE_STATE_LF then s
  else if s.siteRunning i then s.siteBusy i
  else (s.put .site i SITE_STATE_SF sf).put .site i SITE_STATE_LF lf

def execSiteStateWrite (site : Fin 256) (value : Word) (s : State) : Host.Outcome State Fault Refusal :=
  done (s.asHostOn .site site.val (siteStateWrite site.val value))

/-- One capture of a site is shifted into S15 (R268). -/
def State.captureBit (s : State) (i : Nat) (hi : Bool) : State := s.setSiteReg i 15 (2 * s.siteReg i 15 % 2 ^ 32 + bit hi)

end Sys2Proof.Machine
end

