-- ==== Sys2Proof/Machine/Repair.lean ====
section
/-! DEFINITION. The repair solver (R336 to R338): must-repair, bound and search over the regions of an address-fail bitmap, and the
solution slot it writes. -/

namespace Sys2Proof.Machine
open Sys2Proof Reg

/-- A failing cell: its row and its bit-column. -/
abbrev Cell := Nat × Nat

/-- How a search ends (R337). -/
inductive SearchEnd where
  | found (rows cols : List Nat)
  | exhausted
  | spent
  deriving DecidableEq, Repr

/-- Depth-first search (R337): at each node the lowest uncovered fail, a spare row first, then a spare column. `cells` is not empty
and ascends; the first argument bounds the spares left. Answers how it ended and the nodes still unspent. -/
def search : Nat → List Cell → Nat → Nat → List Nat → List Nat → Nat → SearchEnd × Nat
  | 0, _, _, _, _, _, left => (.exhausted, left)
  | d + 1, cells, r, c, rows, cols, left =>
    match cells with
    | [] => (.found rows cols, left)
    | (row, col) :: _ =>
      let tryCol : Nat → SearchEnd × Nat := fun left =>
        if c = 0 then (.exhausted, left)
        else if left = 0 then (.spent, 0)
        else
          let rest := cells.filter fun x => x.2 != col
          if rest.isEmpty then (.found rows (cols ++ [col]), left - 1)
          else search d rest r (c - 1) rows (cols ++ [col]) (left - 1)
      if r = 0 then tryCol left
      else if left = 0 then (.spent, 0)
      else
        let rest := cells.filter fun x => x.1 != row
        if rest.isEmpty then (.found (rows ++ [row]) cols, left - 1)
        else
          match search d rest (r - 1) c (rows ++ [row]) cols (left - 1) with
          | (.exhausted, left) => tryCol left
          | e => e

/-- A region under must-repair: the spares left, what is uncovered, the rows and columns assigned, and the witness cells of the rows and of
the columns it took, in the order taken. -/
structure Must where
  r : Nat
  c : Nat
  cells : List Cell
  rows : List Nat
  cols : List Nat
  rowWit : List Cell
  colWit : List Cell
  /-- 0 while it goes on; 1 MUST_ROW or 2 MUST_COL once a line finds no spare. -/
  stop : Nat
  deriving DecidableEq, Repr

/-- A number placed in an ascending list that holds each number once. -/
def placeAsc (x : Nat) : List Nat → List Nat
  | [] => [x]
  | y :: r => if x < y then x :: y :: r else if x = y then y :: r else y :: placeAsc x r

/-- Distinct numbers in ascending order. -/
def ascending (l : List Nat) : List Nat := l.foldr placeAsc []

/-- One must-repair row: a spare row is assigned, or the region has none left. -/
def Must.takeRow (m : Must) (row : Nat) : Must :=
  if m.stop ≠ 0 then m
  else
    let wit := (m.cells.filter fun x => x.1 == row).take 1
    if m.r = 0 then { m with stop := 1, rowWit := m.rowWit ++ wit }
    else { m with r := m.r - 1, cells := m.cells.filter (fun x => x.1 != row), rows := m.rows ++ [row], rowWit := m.rowWit ++ wit }

/-- One must-repair column. -/
def Must.takeCol (m : Must) (col : Nat) : Must :=
  if m.stop ≠ 0 then m
  else
    let wit := (m.cells.filter fun x => x.2 == col).take 1
    if m.c = 0 then { m with stop := 2, colWit := m.colWit ++ wit }
    else { m with c := m.c - 1, cells := m.cells.filter (fun x => x.2 != col), cols := m.cols ++ [col], colWit := m.colWit ++ wit }

/-- One round of must-repair: rows with more uncovered fails than spare columns, then columns with more than spare rows (R337). -/
def Must.round (m : Must) : Must :=
  let rows := (ascending (m.cells.map (·.1))).filter fun row => decide (m.c < (m.cells.filter fun x => x.1 == row).length)
  let m := rows.foldl Must.takeRow m
  let cols := (ascending (m.cells.map (·.2))).filter fun col => decide (m.r < (m.cells.filter fun x => x.2 == col).length)
  cols.foldl Must.takeCol m

/-- Rounds until one assigns nothing; every other one uses a spare, so the number of spares bounds them. -/
def Must.rounds : Nat → Must → Must
  | 0, m => m
  | k + 1, m =>
    let m' := m.round
    if m'.stop ≠ 0 ∨ (m'.r = m.r ∧ m'.c = m.c) then m' else m'.rounds k

/-- A region's result: STATUS, REASON, rows and columns assigned, failing cells, witness cells, nodes spent. -/
structure RegionEnd where
  status : Nat
  reason : Nat
  rows : List Nat
  cols : List Nat
  fails : Nat
  witness : List Cell
  nodes : Nat
  deriving DecidableEq, Repr

/-- One region solved (R337). -/
def solveRegion (nsr nsc limit : Nat) (cells : List Cell) : RegionEnd :=
  if cells.isEmpty then ⟨1, 0, [], [], 0, [], 0⟩
  else
    let m := Must.rounds (nsr + nsc + 1) ⟨nsr, nsc, cells, [], [], [], [], 0⟩
    let no : Nat → List Cell → Nat → RegionEnd :=
      fun reason wit nodes => ⟨3, reason, m.rows, m.cols, cells.length, wit.take 16, nodes⟩
    if m.stop = 1 then no 1 m.rowWit 0
    else if m.stop = 2 then no 2 m.colWit 0
    else if 2 * m.r * m.c < m.cells.length then no 3 m.cells 0
    else if m.cells.isEmpty then ⟨2, 0, m.rows, m.cols, cells.length, [], 0⟩
    else
      match search (m.r + m.c) m.cells m.r m.c m.rows m.cols limit with
      | (.found rows cols, left) => ⟨2, 0, rows, cols, cells.length, [], limit - left⟩
      | (.exhausted, left) => no 4 m.cells (limit - left)
      | (.spent, left) => ⟨4, 0, m.rows, m.cols, cells.length, [], limit - left⟩

/-- The geometry of a PSQ's bitmaps and regions (R330, R336). -/
structure Geometry where
  xbits : Nat
  ybits : Nat
  dbits : Nat
  rr : Nat
  rc : Nat
  nsr : Nat
  nsc : Nat
  deriving DecidableEq, Repr

def State.geometry (s : State) (n : Nat) : Geometry :=
  ⟨s.fld .fre n FRE_CFG_XBITS, s.fld .fre n FRE_CFG_YBITS, s.fld .fre n FRE_CFG_DBITS, s.fld .fre n FRE_REPAIR_RROWS_LOG2,
    s.fld .fre n FRE_REPAIR_RCOLS_LOG2, s.fld .fre n FRE_REPAIR_NSR, s.fld .fre n FRE_REPAIR_NSC⟩

/-- Bytes of a site's bitmap (R332); a bitmap of fewer than eight bits takes one. -/
def Geometry.bytes (g : Geometry) : Nat := ceilDiv (2 ^ (g.xbits + g.ybits + g.dbits)) 8

/-- The number of regions (R336). -/
def Geometry.regions (g : Geometry) : Nat := 2 ^ (g.xbits - g.rr) * 2 ^ (g.ybits + g.dbits - g.rc)

/-- Whether the solve can be made (R336). -/
def Geometry.ok (g : Geometry) : Bool :=
  decide (g.rr ≤ g.xbits) && decide (g.rc ≤ g.ybits + g.dbits) && decide (g.regions ≤ 16) && decide (g.nsr ≤ 64)
    && decide (g.nsc ≤ 64)

/-- The failing cells of a bitmap, ascending in b. -/
def Geometry.cells (g : Geometry) (bitmap : List Byte) : List Cell :=
  (bitmap.zipIdx.map fun e =>
    (List.range 8).filterMap fun j =>
      let b := 8 * e.2 + j
      if e.1.getLsbD j && decide (b < 2 ^ (g.xbits + g.ybits + g.dbits)) then
        some (b / 2 ^ (g.ybits + g.dbits), b % 2 ^ (g.ybits + g.dbits))
      else none).flatten

/-- The region of a cell (R336). -/
def Geometry.regionOf (g : Geometry) (x : Cell) : Nat := x.1 / 2 ^ g.rr * 2 ^ (g.ybits + g.dbits - g.rc) + x.2 / 2 ^ g.rc

/-- Every region solved, in number order. -/
def Geometry.solve (g : Geometry) (limit : Nat) (bitmap : List Byte) : List RegionEnd :=
  let cells := g.cells bitmap
  (List.range g.regions).map fun j => solveRegion g.nsr g.nsc limit (cells.filter fun x => g.regionOf x == j)

/-- The site's status and reason: the first status any region has, in the order UNREPAIRABLE, UNRESOLVED, REPAIRED, NO_FAIL, with
the reason of the lowest-numbered region that has it (R337). -/
def siteStatus (rs : List RegionEnd) : Nat × Nat :=
  match [3, 4, 2, 1].filterMap fun st => rs.find? fun r => r.status == st with
  | r :: _ => (r.status, r.reason)
  | [] => (1, 0)

/-- 64 words, unused ones 0xFFFF_FFFF. -/
def wordList (n : Nat) (l : List Nat) : List Byte :=
  ((List.range n).map fun i => natBytes 4 (l.getD i 0xFFFFFFFF)).flatten

/-- The 656 bytes of a region in a solution slot (R338). -/
def RegionEnd.bytes (r : RegionEnd) (g : Nat) : List Byte :=
  natBytes 4 (g * 2 ^ 24 + r.rows.length * 2 ^ 16 + r.cols.length * 2 ^ 8 + r.status * 2 ^ 4 + r.reason)
    ++ natBytes 4 (min r.fails (2 ^ 32 - 1)) ++ natBytes 8 0 ++ wordList 64 (ascending r.rows) ++ wordList 64 (ascending r.cols)
    ++ wordList 32 ((r.witness.map fun x => [x.1, x.2]).flatten)

/-- The 10,560 bytes of a solution slot (R338). -/
def slotBytes (rs : List RegionEnd) : List Byte :=
  let st := siteStatus rs
  natBytes 4 (st.1 * 2 ^ 28 + st.2 * 2 ^ 24 + rs.length * 2 ^ 16)
    ++ natBytes 4 ((rs.map (·.nodes)).foldr (· + ·) 0) ++ List.replicate 56 0
    ++ ((rs.zipIdx.map fun e => e.1.bytes e.2).flatten) ++ List.replicate (656 * (16 - rs.length)) 0

end Sys2Proof.Machine
end

