-- ==== Sys2Proof/Machine/Fre.lean ====
section
/-! DEFINITION. The Fail Reduction Engine: accumulation (R323 to R333), the end of a burst and the solver (R334 to R340), limit
tables (R341 to R343), verdicts and result records (R344 to R351), and its windows (R64, R352). -/

namespace Sys2Proof.Machine
open Sys2Proof Reg

/-! ### Phases of a PSQ's account -/

def State.frePhase (s : State) (n : Nat) : Nat := s.fld .fre n FRE_STATE_PHASE
def State.setPhase (s : State) (n ph : Nat) : State := s.put .fre n FRE_STATE_PHASE ph

/-- Whether accumulation has closed and records wait (R328). -/
def State.freClosed (s : State) (n : Nat) : Bool := decide (2 ≤ s.frePhase n)

/-- The phase that follows from what is left to do after a burst (FRE_STATE). -/
def State.freSettle (s : State) (n : Nat) : State :=
  let x := s.psq n
  if !s.freClosed n then s
  else if !x.marks.isEmpty then s.setPhase n 2
  else if !(x.solves.isEmpty && x.solving.isEmpty) then s.setPhase n 3
  else if x.awaiting.isEmpty then s.setPhase n 0
  else if s.flag .fre n FRE_CFG_HOLD_ISSUE && !x.issueGo then s.setPhase n 4
  else s.setPhase n 5

/-! ### Accumulation -/

/-- A count of 48 bits that saturates (R324). -/
def satCount (c d : Nat) : Nat := min (c + d) (2 ^ 48 - 1)

/-- The word of a fail record that holds a vector's timing set, its APG phase and the high part of its cycles (R329). -/
def failWord3 (v : VecInfo) : Nat :=
  let phase := match v.apg with
    | some (_, _, p) => p
    | none => 0
  v.ts * 2 ^ 24 + phase * 2 ^ 16 + v.cyc / 2 ^ 32 % 2 ^ 16

/-- A fail record (R329): `pins` is the set of failing pins. -/
def failRecord (v : VecInfo) (kind pins : Nat) : List Word :=
  let seg := if kind = 2 then 0 else v.seg
  let addr := match kind, v.apg with
    | 2, some (x, y, _) => (x, y)
    | _, _ => (v.off, v.pc)
  [v.idx, kind * 2 ^ 28 + seg * 2 ^ 16 + v.idx / 2 ^ 32 % 2 ^ 16, v.cyc, failWord3 v, addr.1, addr.2, pins, pins / 2 ^ 32,
    pins / 2 ^ 64, pins / 2 ^ 96, 0, 0].map (BitVec.ofNat 32)

/-- A fail record is held where fewer than 64 are (R329). -/
def State.addFailRecord (s : State) (i : Nat) (r : List Word) : State :=
  let x := s.site i
  if x.ffr.length < 64 then s.setSite i { x with ffr := x.ffr ++ [r] } else s

/-- The data bit that FRE_DMAP gives a site pin (R330). -/
def State.dmap (s : State) (n k : Nat) : Option Nat :=
  let b := s.fldAt .fre n FRE_DMAP (k / 4) / 2 ^ (8 * (k % 4)) % 256
  if 128 ≤ b ∧ b % 128 < 2 ^ s.fld .fre n FRE_CFG_DBITS then some (b % 128) else none

/-- The cell a FAIL on pin `k` of an APG vector marks; none where it marks none (R331). -/
def State.cellOf (s : State) (n k : Nat) (apg : Option (Nat × Nat × Nat)) : Option Nat :=
  match apg, s.dmap n k with
  | some (x, y, _), some d =>
    let g := s.geometry n
    if s.flag .fre n FRE_CFG_BMAP_EN ∧ x < 2 ^ g.xbits ∧ y < 2 ^ g.ybits then
      some (x * 2 ^ (g.ybits + g.dbits) + y * 2 ^ g.dbits + d)
    else none
  | _, _ => none

/-- Entries in the mark queue, over every PSQ (R333). -/
def State.markCount (s : State) : Nat := ((List.range 8).map fun n => (s.psq n).marks.length).foldr (· + ·) 0

/-- `d` marks of a site are lost (R333). -/
def State.loseMarks (s : State) (n i d : Nat) : State :=
  let x := s.site i
  let s := s.setSite i { x with bmapLost := min (x.bmapLost + d) (2 ^ 32 - 1), nonrep := true }
  if s.raisedOnce n 8 then s else (s.noteRaised n 8).raiseOpen .fre n 1 2

/-- A mark of cell `b` of a site enters the queue, merges into its block's entry, or is lost (R333). -/
def State.mark (s : State) (n i b : Nat) : State :=
  let x := s.psq n
  let key := (i, b / 512)
  if x.marks.any fun m => m.1 == key then
    s.setPsq n { x with marks := x.marks.map fun m => if m.1 == key then (key, m.2 ||| 2 ^ (b % 512)) else m }
  else if s.markCount < 8192 then s.setPsq n { x with marks := x.marks ++ [(key, 2 ^ (b % 512))] }
  else s.loseMarks n i 1

/-- A FAIL outcome on pin `k` of a site marks its cell, or sets NONREP (R331, R332). -/
def State.markFail (s : State) (n i k : Nat) (v : VecInfo) : State :=
  match s.cellOf n k v.apg, (s.site i).bmapOk with
  | some b, true => s.mark n i b
  | _, _ => s.setSite i { s.site i with nonrep := true }

/-- The outcomes of one vector at one site are counted (R324, R329, R331): the pins that report PASS and those that report FAIL. -/
def State.freVector (s : State) (n i : Nat) (v : VecInfo) (passed failing : List Nat) : State :=
  if passed.isEmpty && failing.isEmpty then s
  else
    let x := s.site i
    let s := s.setSite i { x with cmps := satCount x.cmps 1 }
    if failing.isEmpty then s
    else
      let mask := failing.foldl (fun m k => m ||| 2 ^ k) 0
      let x := s.site i
      let s := s.setSite i { x with
        fails := satCount x.fails 1
        pinMask := x.pinMask ||| mask
        pinFails := failing.foldl (fun m k => mapSet (fun _ => 0) m k (satCount (mapGet (fun _ => 0) m k) 1)) x.pinFails }
      let s := s.addFailRecord i (failRecord v (if v.apg.isSome then 2 else 1) mask)
      failing.foldl (fun s k => s.markFail n i k v) s

/-- A MATCH timeout of a site (R327). -/
def State.matchTimeout (s : State) (i : Nat) (v : VecInfo) : State :=
  let x := s.site i
  (s.setSite i { x with matchTo := true, fails := satCount x.fails 1 }).addFailRecord i (failRecord v 3 0)

/-! ### Bitmaps -/

/-- The bitmap object of a site, where its bitmap is valid (R332). -/
def State.bitmapOf (s : State) (n i : Nat) : Option VsObj :=
  let x := s.site i
  s.plainRange x.bmapHandle (x.bmapOff.toNat / 64 * 64) (s.geometry n).bytes

/-- Ones among the low `k` bits of a number. -/
def onesIn (k v : Nat) : Nat := ((List.range k).filter fun j => v.testBit j).length

/-- MARK_DRAIN (R333): the oldest entry of a PSQ's mark queue is drained by read-modify-write; `bad` says that the read meets an
uncorrectable error. Marks wait while a clear runs (R334). -/
def markDrain (n : Nat) (bad : Bool) (s : State) : State :=
  let x := s.psq n
  match x.marks with
  | [] => s
  | ((i, blk), bits) :: rest =>
    if x.clearing then s
    else
      let s := s.setPsq n { x with marks := rest }
      let off := (s.site i).bmapOff.toNat / 64 * 64 + 64 * blk
      match s.objAt (s.site i).bmapHandle with
      | none => s.freSettle n
      | some o =>
        let len := min 64 (o.size - off)
        let (s, ok) := s.readWords (o.words off len) (if bad then [⟨0, true⟩] else [])
        if ok then
          let old := s.objRead o off len
          let new := (old.zipIdx).map fun e => e.1 ||| BitVec.ofNat 8 (bits / 2 ^ (8 * e.2))
          ((s.objWrite o off new).pcnChip 3 1).freSettle n
        else (s.loseMarks n i (onesIn 512 bits)).freSettle n

def execMarkDrain (n : Fin 8) (bad : Bool) (s : State) : Host.Outcome State Fault Refusal := done (markDrain n.val bad s)

/-- FRE_BUSY (R334, R343, R345). -/
def State.freBusy (s : State) (n : Nat) : State := (s.int .fre n 4).raiseOpen .fre n 4 1

/-- BMAP_CLR (R334). -/
def bmapClr (n : Nat) (s : State) : State :=
  let x := s.psq n
  if s.psqRunning n || x.clearing || !(x.solves.isEmpty && x.solving.isEmpty) then s.freBusy n
  else s.setPsq n { x with clearing := true }

def execBmapClr (n : Fin 8) (s : State) : Host.Outcome State Fault Refusal := done (s.asHostOn .fre n.val (bmapClr n.val))

/-- One site's bitmap is cleared: its whole regions become never-written, the rest of it zeros (R334). -/
def State.clearBitmap (s : State) (n i : Nat) : State :=
  match s.bitmapOf n i with
  | none => s
  | some o =>
    let off := (s.site i).bmapOff.toNat / 64 * 64
    let len := (s.geometry n).bytes
    (List.range ((off + len - 1) / 4096 + 1 - off / 4096)).foldl (fun s j =>
      let r := 4096 * (off / 4096 + j)
      if off ≤ r ∧ r + 4096 ≤ off + len then s.vsForget (o.phys r / 4096)
      else
        let a := max off r
        s.objWrite o a (List.replicate (min (off + len) (r + 4096) - a) 0)) s

/-- BMAP_CLR_DONE (R334). -/
def bmapClrDone (n : Nat) (s : State) : State :=
  if (s.psq n).clearing then
    let s := (s.sitesOf n).foldl (fun s i => s.clearBitmap n i) s
    s.setPsq n { s.psq n with clearing := false }
  else s

def execBmapClrDone (n : Fin 8) (s : State) : Host.Outcome State Fault Refusal := done (bmapClrDone n.val s)

/-! ### The solver -/

/-- Solver engines in use, of four (R339). -/
def State.enginesBusy (s : State) : Nat := ((List.range 8).map fun n => (s.psq n).solving.length).foldr (· + ·) 0

def State.setRepair (s : State) (i : Nat) (r : Repair) : State := s.setSite i { s.site i with repair := r }

/-- Sites left to solve are counted (R335). -/
def State.putSolves (s : State) (n : Nat) : State :=
  s.put .fre n FRE_STATE_SOLVES_LEFT ((s.psq n).solves.length + (s.psq n).solving.length)

/-- A site leaves the sites to solve; at zero SOLVE_DONE is set (R335). -/
def State.solveLeft (s : State) (n i : Nat) : State :=
  let x := s.psq n
  let s := s.setPsq n { x with solves := x.solves.erase i, solving := x.solving.erase i }
  let s := s.putSolves n
  if s.fld .fre n FRE_STATE_SOLVES_LEFT = 0 then (s.int .fre n 1).freSettle n else s.freSettle n

/-- A solve ends with status ERROR (R336, R338): SOLVE_ERR is raised once per burst. -/
def State.solveError (s : State) (n i reason : Nat) : State :=
  let s := s.setRepair i { Repair.blank with status := 6, reason := reason }
  if s.raisedOnce n 9 then s else (s.noteRaised n 9).raiseOpen .fre n 3 2

/-- The repair status of a site when accumulation closes, and whether the solver runs for it (R335). -/
def State.solveAtClose (s : State) (n i : Nat) : State :=
  if !s.flag .fre n FRE_CFG_REPAIR_EN || s.siteRetired i then s.setRepair i Repair.blank
  else if !(s.site i).bmapOk then s.setRepair i { Repair.blank with status := 6, reason := 5 }
  else s.setPsq n { s.psq n with solves := (s.psq n).solves ++ [i] }

/-- SOLVE_START (R335, R339): once the mark queue has drained, a free engine takes the next site; a site that lost marks is
INCOMPLETE. -/
def solveStart (n : Nat) (s : State) : State :=
  let x := s.psq n
  match x.solves with
  | [] => s
  | i :: rest =>
    if s.freClosed n && x.marks.isEmpty then
      if (s.site i).bmapLost ≠ 0 then (s.setRepair i { Repair.blank with status := 5 }).solveLeft n i
      else if s.enginesBusy < 4 then s.setPsq n { x with solves := rest, solving := x.solving ++ [i] }
      else s
    else s

def execSolveStart (n : Fin 8) (s : State) : Host.Outcome State Fault Refusal := done (solveStart n.val s)

/-- The solution of a site's bitmap is written to its slot (R337, R338). -/
def State.solveSite (s : State) (n i : Nat) (o : VsObj) : State :=
  let g := s.geometry n
  let rs := g.solve (2 ^ s.fld .fre n FRE_NODES_NODE_LOG2) (s.objRead o ((s.site i).bmapOff.toNat / 64 * 64) g.bytes)
  let st := siteStatus rs
  let off := s.fld .fre n FRE_SOL_OFF * 2 ^ 14 + 16384 * i
  match s.plainRange (BitVec.ofNat 32 (s.fld .fre n FRE_SOL_HANDLE)) off 10560 with
  | none => s.solveError n i 8
  | some so =>
    let slot := slotBytes rs
    let s := s.objWrite so off slot
    s.setRepair i ⟨st.1, st.2, (rs.map (·.rows.length)).foldr (· + ·) 0, (rs.map (·.cols.length)).foldr (· + ·) 0, rs.length, some slot⟩

/-- SOLVE_DONE (R337, R338): `hits` are the errors that reading the bitmap meets. -/
def solveDone (i : Nat) (hits : List EccHit) (s : State) : State :=
  match s.sitePsq i with
  | none => s
  | some n =>
    if !(s.psq n).solving.contains i then s
    else if !(s.geometry n).ok then (s.solveError n i 6).solveLeft n i
    else
      match s.bitmapOf n i with
      | none => (s.solveError n i 5).solveLeft n i
      | some o =>
        let (s, ok) := s.readWords (o.words ((s.site i).bmapOff.toNat / 64 * 64) (s.geometry n).bytes) hits
        if ok then (s.solveSite n i o).solveLeft n i else (s.solveError n i 7).solveLeft n i

def execSolveDone (site : Fin 256) (hits : List EccHit) (s : State) : Host.Outcome State Fault Refusal :=
  done (solveDone site.val hits s)

/-! ### Limit tables -/

/-- Word `w` of limit entry `e` (R341). -/
def State.limWord (s : State) (n e w : Nat) : Word := BitVec.ofNat 32 (s.fldAt .fre n FRE_LIMIT_WORD (4 * e + w))

/-- Whether a register value lies outside a limit entry's bounds (R342). -/
def outside (lo hi v : Word) (isSigned : Bool) : Bool :=
  if isSigned then decide (v.toInt < lo.toInt) || decide (hi.toInt < v.toInt)
  else decide (v.toNat < lo.toNat) || decide (hi.toNat < v.toNat)

/-- Limit entry `e` is evaluated for a site (R342). -/
def State.evalLimit (s : State) (n i e : Nat) : State :=
  let w := s.limWord n e 2
  if !w.getLsbD 31 then s
  else if outside (s.limWord n e 0) (s.limWord n e 1) (BitVec.ofNat 32 (s.siteReg i (bitsOf w 27 24))) (w.getLsbD 30) then
    let s := s.setSite i { s.site i with limFail := (s.site i).limFail ||| 2 ^ e }
    if bitsOf w 29 28 = 1 && !s.siteRetired i then s.siteChange i (.retire 4) else s
  else s

/-- LIM_GO (R342, R343). -/
def limGo (n : Nat) (s : State) : State :=
  let x := s.psq n
  if x.limiting.isSome then s.freBusy n
  else s.setPsq n { x with limiting := some (s.fld .fre n FRE_LIM_MASK_LO + 2 ^ 32 * s.fld .fre n FRE_LIM_MASK_HI) }

def execLimGo (n : Fin 8) (s : State) : Host.Outcome State Fault Refusal := done (s.asHostOn .fre n.val (limGo n.val))

/-- LIM_DONE (R342): the named entries have been evaluated for every bound site. -/
def limDone (n : Nat) (s : State) : State :=
  match (s.psq n).limiting with
  | none => s
  | some mask =>
    let s := (s.sitesOf n).foldl (fun s i =>
      (List.range 64).foldl (fun s e => if bitAt mask e then s.evalLimit n i e else s) s) s
    (s.setPsq n { s.psq n with limiting := none }).int .fre n 3

def execLimDone (n : Fin 8) (s : State) : Host.Outcome State Fault Refusal := done (limDone n.val s)

/-- A write to a word of the limit table (R341, R343, R352). -/
def limitEntryWrite (n e w : Nat) (value : Word) (s : State) : State :=
  if s.flag .psq n PSQ_STAT_SEALED && !s.opens s.role (s.psqOrigin n) then s.denied (baseOf .fre n)
  else if s.psqRunning n || (s.psq n).limiting.isSome then s.freBusy n
  else s.putAt .fre n FRE_LIMIT_WORD (4 * e + w) value.toNat

def execLimitEntryWrite (n : Fin 8) (e : Fin 64) (w : Fin 4) (value : Word) (s : State) : Host.Outcome State Fault Refusal :=
  done (s.asHostOn .fre n.val (limitEntryWrite n.val e.val w.val value))

/-! ### Verdicts -/

/-- The lowest failing limit entry whose ACTION is `action` (R344). -/
def State.failingEntry (s : State) (n i action : Nat) : Option Nat :=
  (List.range 64).find? fun e => bitAt (s.site i).limFail e && bitsOf (s.limWord n e 2) 29 28 == action

/-- BIN of a limit entry. -/
def State.entryBin (s : State) (n e : Nat) : Nat := bitsOf (s.limWord n e 2) 15 0

/-- PASS and the soft bin of a site (R344). -/
def State.verdict (s : State) (n i : Nat) : Bool × Nat :=
  let x := s.site i
  let repairEn := s.flag .fre n FRE_CFG_REPAIR_EN
  if s.siteRetired i then
    match s.fld .site i SITE_STATE_CAUSE, s.failingEntry n i 1 with
    | 4, some e => (false, s.entryBin n e)
    | _, _ => (false, s.fld .fre n FRE_BIN_RETIRE)
  else if x.taint ≠ 0 ∨ s.fld .psq n PSQ_END_CAUSE ≠ 1 then (false, s.fld .fre n FRE_BIN_ABORT)
  else
    match s.failingEntry n i 0 with
    | some e => (false, s.entryBin n e)
    | none =>
      if x.matchTo || x.nonrep || (!repairEn && x.fails != 0) then (false, s.fld .fre n FRE_BIN_FAIL)
      else if repairEn && x.fails != 0 && x.repair.status != 2 then (false, s.fld .fre n FRE_BIN_UNREP)
      else if x.repair.status = 2 then (true, s.fld .fre n FRE_BIN_REPAIR)
      else (true, s.fld .fre n FRE_BIN_PASS)

/-! ### Records -/

/-- A flag at a place of a word. -/
def flagAt (b : Bool) (i : Nat) : Nat := bit b * 2 ^ i

/-- MARKS of a record (R348); `forced` for a forced issue. -/
def State.recordMarks (s : State) (n i : Nat) (forced : Bool) : Nat :=
  let x := s.site i
  flagAt (s.psq n).holdover 0 + flagAt (s.flag .psq n PSQ_STAT_T0_VALID) 1 + flagAt (s.siteRetired i) 2
    + s.fld .site i SITE_STATE_CAUSE * 2 ^ 3 + flagAt x.retiredAtStart 6 + flagAt x.maskedAtEnd 7 + flagAt x.lostPrior 8
    + flagAt (s.flag .fre n FRE_CFG_ENC) 9 + flagAt (s.flag .psq n PSQ_STAT_SEALED) 10 + flagAt forced 11 + flagAt x.nonrep 12
    + flagAt x.matchTo 13

/-- The bytes of a 384-bit digest, as the digest spells them (most significant first). -/
def digestBytes (d : BitVec 384) : List Byte := (natBytes 48 d.toNat).reverse

/-- Bytes 0x040 to 0x0EF of a record: what encryption covers (R348, R349). -/
def State.recordBody (s : State) (n i : Nat) (pass : Bool) (bin use : Nat) : List Byte :=
  let x := s.site i
  natBytes 4 (flagAt pass 31 + x.repair.status * 2 ^ 20 + x.repair.reason * 2 ^ 16 + bin) ++ natBytes 4 0
    ++ natBytes 8 x.fails ++ natBytes 8 x.cmps
    ++ natBytes 8 (if s.siteRetired i then s.fld .site i SITE_RETIRE_AT_LO + 2 ^ 32 * s.fld .site i SITE_RETIRE_AT_HI else 0)
    ++ natBytes 8 x.limFail ++ natBytes 4 use ++ natBytes 4 x.bmapLost ++ natBytes 16 x.pinMask
    ++ ((x.ffr.headD (List.replicate 12 0)).map bytesOf).flatten
    ++ ((List.range 16).map fun r => natBytes 4 (s.siteReg i r)).flatten

/-- Bytes 0x000 to 0x03F of a record. -/
def State.recordHead (s : State) (n i seq : Nat) (forced : Bool) : List Byte :=
  natBytes 4 0x46520100 ++ natBytes 4 512 ++ natBytes 8 seq ++ natBytes 4 (s.fld .evr 0 EVR_BOOTS)
    ++ natBytes 4 (i + n * 2 ^ 8 + s.fld .site i SITE_BIND_TEMPLATE * 2 ^ 12 + s.fld .site i SITE_BIND_PLACEMENT * 2 ^ 16)
    ++ natBytes 4 (s.fld .fre n FRE_BURST) ++ natBytes 4 0
    ++ natBytes 8 (s.fld .psq n PSQ_T0_F_LO + 2 ^ 32 * s.fld .psq n PSQ_T0_F_HI + 2 ^ 48 * s.fld .psq n PSQ_T0_P)
    ++ natBytes 8 ((s.psq n).endF.toNat + 2 ^ 48 * (s.psq n).endP) ++ natBytes 8 (s.vcount n % 2 ^ 48)
    ++ natBytes 4 (s.fld .psq n PSQ_END_CAUSE * 2 ^ 28 + s.fld .psq n PSQ_END_FAULT * 2 ^ 16 + s.fld .psq n PSQ_END_LANE * 2 ^ 8
        + (s.site i).taint)
    ++ natBytes 4 (s.recordMarks n i forced)

/-- Bytes 0x0F0 to 0x17F of a record. -/
def State.recordTail (s : State) (n i : Nat) : List Byte :=
  (match (s.site i).repair.slot with
    | some b => digestBytes (Config.sha384 b)
    | none => List.replicate 48 0)
    ++ (match (s.psq n).bundle with
      | some b => digestBytes b.digest
      | none => List.replicate 48 0)
    ++ ((List.range 8).map fun j => bytesOf ((s.psq n).nonce.getD j 0)).flatten
    ++ ((List.range 4).map fun j => natBytes 4 (s.fldAt .secCtl 0 SEC_SERIAL j)).flatten

/-- A result record of 512 bytes (R348, R349): the body in clear, or encrypted with its IV and TAG; then the signature over all that
precedes it. -/
def State.buildRecord (s : State) (n i seq : Nat) (pass : Bool) (bin use : Nat) (forced : Bool) : List Byte :=
  let head := s.recordHead n i seq forced
  let body := s.recordBody n i pass bin use
  let tail := s.recordTail n i
  let (body, iv, tag) :=
    if s.flag .fre n FRE_CFG_ENC then
      let e := natBytes 204 (Config.encryptRecord (s.fld .fre n FRE_CFG_ENC_SLOT) (head ++ body ++ tail)).toNat
      (e.take 176, (e.drop 176).take 12, e.drop 188)
    else (body, List.replicate 12 0, List.replicate 16 0)
  let r := head ++ body ++ tail ++ iv ++ natBytes 4 0 ++ tag
  let sig := (Config.signIdentity r).toNat
  r ++ (natBytes 48 (sig / 2 ^ 384)).reverse ++ (natBytes 48 sig).reverse

/-- FRE_SEQ, and its next value. -/
def State.freSeq (s : State) : Nat := s.fld .freG 0 FRE_SEQ_LO + 2 ^ 32 * s.fld .freG 0 FRE_SEQ_HI
def State.nextSeq (s : State) : State :=
  (s.put .freG 0 FRE_SEQ_LO (s.freSeq + 1)).put .freG 0 FRE_SEQ_HI ((s.freSeq + 1) / 2 ^ 32)

/-- A built record enters the store of 1,024, or is discarded and counted (R350, R351). -/
def State.storeRecord (s : State) (i : Nat) (r : List Byte) : State :=
  if s.fre.store.length < 1024 then
    let s := { s with fre := { s.fre with store := s.fre.store ++ [r] } }
    (s.put .freG 0 FRE_STORE_PENDING s.fre.store.length).setSite i { s.site i with lostPrior := false }
  else
    let s := ((s.bump .freG 0 FRE_LOST_COUNT FRE_LOST_OVF).int .freG 0 1).raiseOpen .freG 0 1 3
    s.setSite i { s.site i with lostPrior := true }

/-- REPAIR_USE of a record; a count beyond its eight bits, for which the spec gives no value, is a free value. -/
def State.repairUse (s : State) (i : Nat) : Nat :=
  let r := (s.site i).repair
  let cut : Nat → Nat := fun v => if v < 256 then v else s.freeVal % 256
  cut r.rows * 2 ^ 24 + cut r.cols * 2 ^ 16 + r.regions * 2 ^ 8

/-- A site's pending record is issued (R345): CLOSE entries, bin, record, LIMFAIL. -/
def State.issueRecord (s : State) (n i : Nat) (forced : Bool) : State :=
  if !(s.site i).pending then s
  else
    let s := (List.range 64).foldl (fun s e => if (s.limWord n e 2).getLsbD 23 then s.evalLimit n i e else s) s
    let (pass, bin) := s.verdict n i
    let r := s.buildRecord n i s.freSeq pass bin (s.repairUse i) forced
    let s := ((s.drawn).nextSeq).storeRecord i r
    let s := s.setSite i { s.site i with limFail := 0, pending := false, pass := pass, bin := bin }
    let s := s.setPsq n { s.psq n with awaiting := (s.psq n).awaiting.erase i }
    if (s.psq n).awaiting.isEmpty then (s.int .fre n 2).freSettle n else s

/-- A pending record is issued at once; a solve in progress is aborted (R340, R347). -/
def State.forceIssue (s : State) (n i : Nat) : State :=
  if !(s.site i).pending then s
  else
    let x := s.psq n
    let s :=
      if x.solves.contains i || x.solving.contains i then
        let s := s.setRepair i { Repair.blank with status := 7 }
        let s := s.setPsq n { x with solves := x.solves.erase i, solving := x.solving.erase i }
        (s.putSolves n).raiseOpen .fre n 5 1
      else s
    s.issueRecord n i true

/-- Every pending record of a PSQ is forced, in ascending site order. -/
def State.forceAll (s : State) (n : Nat) : State := (s.psq n).awaiting.foldl (fun s i => s.forceIssue n i) s

/-- RECORD_ISSUE (R345, R346): the record of the lowest waiting site, once its solve has ended and, where HOLD_ISSUE is 1, ISSUE has
been written since the end of the burst. -/
def recordIssue (n : Nat) (s : State) : State :=
  let x := s.psq n
  match x.awaiting with
  | [] => s
  | i :: _ =>
    if s.freClosed n && x.marks.isEmpty && !x.solves.contains i && !x.solving.contains i
        && (!s.flag .fre n FRE_CFG_HOLD_ISSUE || x.issueGo) then
      (s.setPhase n 5).issueRecord n i false
    else s

def execRecordIssue (n : Fin 8) (s : State) : Host.Outcome State Fault Refusal := done (recordIssue n.val s)

/-- ISSUE (R345): ignored with FRE_BUSY before the burst has ended. -/
def freIssue (n : Nat) (s : State) : State :=
  if s.psqRunning n then s.freBusy n
  else (s.setPsq n { s.psq n with issueGo := true }).freSettle n

def execIssue (n : Fin 8) (s : State) : Host.Outcome State Fault Refusal := done (s.asHostOn .fre n.val (freIssue n.val))

/-! ### The start check and the close -/

/-- What the FRE does when a start check begins (R325, R332, R348). -/
def State.freStartCheck (s : State) (n : Nat) : State :=
  let s := s.forceAll n
  let s := (s.sitesOf n).foldl (fun s i =>
    let s := s.setSite i { s.site i with
      taint := 0, failed := false, fails := 0, cmps := 0, pinFails := [], pinMask := 0, ffr := [], nonrep := false
      matchTo := false, bmapLost := 0, matchIter := none, inMatch := false, nextVec := 0, repair := Repair.blank }
    let ok := (s.bitmapOf n i).isSome
    let s := s.setSite i { s.site i with bmapOk := ok }
    if ok then s
    else ((s.setRepair i { Repair.blank with status := 6, reason := 5 }).int .fre n 5).raiseOpen .fre n 2 2) s
  s.setPsq n { s.psq n with nonce := (List.range 8).map fun j => BitVec.ofNat 32 (s.fldAt .fre n FRE_NONCE j) }

/-- What the FRE does when the first vector period of a burst begins (R325, R345). -/
def State.freFirstVector (s : State) (n : Nat) : State :=
  let s := (s.put .fre n FRE_BURST (s.fld .fre n FRE_BURST + 1)).setPhase n 1
  let s := (s.sitesOf n).foldl (fun s i =>
    s.setSite i { s.site i with pending := true, retiredAtStart := s.siteRetired i }) s
  s.setPsq n { s.psq n with awaiting := s.sitesOf n, issueGo := false }

/-- Accumulation closes at the end of a burst (R328, R335). -/
def State.freClose (s : State) (n : Nat) : State :=
  let s := (s.setPhase n 2).int .fre n 0
  let s := (s.sitesOf n).foldl (fun s i => (s.setSite i { s.site i with maskedAtEnd := s.siteMasked i }).solveAtClose n i) s
  (s.putSolves n).freSettle n

/-! ### Delivery -/

/-- RING_WRITE (R350): the oldest stored record goes to the host ring. -/
def ringWrite (s : State) : State :=
  match s.fre.store with
  | [] => s
  | r :: rest =>
    let head := s.fld .freG 0 FRE_HEAD
    let size := 2 ^ s.fld .freG 0 FRE_RING_CFG_SIZE_LOG2
    let used := (head + 2 ^ 32 - s.fld .freG 0 FRE_TAIL) % 2 ^ 32
    if s.flag .freG 0 FRE_RING_CFG_EN && s.hif.busMaster && s.hif.linkUp && decide (used < size) then
      let s := { s with fre := { s.fre with store := rest, ring := mapPut s.fre.ring (head % size) r } }
      (((s.put .freG 0 FRE_STORE_PENDING rest.length).put .freG 0 FRE_HEAD (head + 1)).int .freG 0 0)
    else s

def execRingWrite (s : State) : Host.Outcome State Fault Refusal := done (ringWrite s)

/-- TAIL (R350). -/
def freTail (value : Word) (s : State) : State :=
  let used := (s.fld .freG 0 FRE_HEAD + 2 ^ 32 - value.toNat) % 2 ^ 32
  if 2 ^ s.fld .freG 0 FRE_RING_CFG_SIZE_LOG2 < used then (s.int .freG 0 2).raiseOpen .freG 0 2 2
  else s.put .freG 0 FRE_TAIL value.toNat

def execTail (value : Word) (s : State) : Host.Outcome State Fault Refusal := done (s.asHostOn .freG 0 (freTail value))

/-! ### The site window's cursors -/

/-- The site the window shows. -/
def State.freSite (s : State) : Nat := s.fld .freSite 0 FRE_SITE_SEL_SITE

/-- FFR_CURSOR_WRITE (R64): of the fail records, or of the per-pin counters. -/
def ffrCursorWrite (pins : Bool) (value : Word) (s : State) : State :=
  let x := s.site s.freSite
  if pins then
    let s := (s.put .freSite 0 FRE_PIN_CURSOR_PIN (bitsOf value 7 1)).put .freSite 0 FRE_PIN_CURSOR_WORD (bitsOf value 0 0)
    { s with fre := { s.fre with pinSnap := some x.pinFails } }
  else
    let s := (s.put .freSite 0 FRE_FFR_CURSOR_ENTRY (bitsOf value 9 4)).put .freSite 0 FRE_FFR_CURSOR_WORD (bitsOf value 3 0)
    { s with fre := { s.fre with ffrSnap := some x.ffr } }

def execFfrCursorWrite (pins : Bool) (value : Word) (s : State) : Host.Outcome State Fault Refusal :=
  done (s.asHostOn .freSite 0 (ffrCursorWrite pins value))

/-- The word FRE_FFR_DATA shows. -/
def State.ffrWord (s : State) : Word :=
  let l := s.fre.ffrSnap.getD (s.site s.freSite).ffr
  (l.getD (s.fld .freSite 0 FRE_FFR_CURSOR_ENTRY) []).getD (s.fld .freSite 0 FRE_FFR_CURSOR_WORD) 0

/-- The word FRE_PIN_DATA shows. -/
def State.pinWord (s : State) : Word :=
  let m := s.fre.pinSnap.getD (s.site s.freSite).pinFails
  let v := mapGet (fun _ => 0) m (s.fld .freSite 0 FRE_PIN_CURSOR_PIN)
  BitVec.ofNat 32 (if s.fld .freSite 0 FRE_PIN_CURSOR_WORD = 0 then v else v / 2 ^ 32)

/-- The fail-record cursor after a read: WORD, and after word 11 ENTRY. -/
def State.ffrAdvance (s : State) : State :=
  let w := s.fld .freSite 0 FRE_FFR_CURSOR_WORD
  if w < 11 then s.put .freSite 0 FRE_FFR_CURSOR_WORD (w + 1)
  else (s.put .freSite 0 FRE_FFR_CURSOR_WORD 0).put .freSite 0 FRE_FFR_CURSOR_ENTRY (s.fld .freSite 0 FRE_FFR_CURSOR_ENTRY + 1)

/-- The per-pin cursor after a read: WORD, then PIN. -/
def State.pinAdvance (s : State) : State :=
  if s.fld .freSite 0 FRE_PIN_CURSOR_WORD = 0 then s.put .freSite 0 FRE_PIN_CURSOR_WORD 1
  else (s.put .freSite 0 FRE_PIN_CURSOR_WORD 0).put .freSite 0 FRE_PIN_CURSOR_PIN (s.fld .freSite 0 FRE_PIN_CURSOR_PIN + 1)

/-- FFR_DATA_READ (R64). -/
def execFfrDataRead (pins : Bool) (s : State) : Host.Outcome State Fault Refusal :=
  done (if !s.live then s.answer 0
    else if pins then (s.answer s.pinWord).pinAdvance else (s.answer s.ffrWord).ffrAdvance)

end Sys2Proof.Machine
end

