-- ==== Sys2Proof/Machine/Timing.lean ====
section
/-! DEFINITION. Period tables (R156 to R160), edge tables and their window (R163, R178 to R180), deskew (R165, R166), and the
start-time checks of rate (R23) and of edges (R176, R177). -/

namespace Sys2Proof.Machine
open Sys2Proof Reg

/-! ### Time -/

/-- One MCLK cycle in the unit of edge times, 0.25 ps / MULT: T_MCLK is 1 / (MULT × 100 MHz). -/
def cycleUnits : Nat := 40000

/-- Whether timing set `t` may be used by a PSQ (R156). -/
def State.periodV (s : State) (n t : Nat) : Bool := s.fldAt .psq n PSQ_PERIOD_V t == 1

/-- The period of timing set `t`, in MCLK cycles (R156). -/
def State.period (s : State) (n t : Nat) : Nat := s.fldAt .psq n PSQ_PERIOD_PERIOD_M1 t + 1

/-- The timing sets whose entry has V at 1, ascending. -/
def State.validSets (s : State) (n : Nat) : List Nat := (List.range 256).filter (s.periodV n)

/-- Whether the timing content of a PSQ is sealed from the host (R160, R205). -/
def State.psqSealedTo (s : State) (n : Nat) : Bool := s.flag .psq n PSQ_STAT_SEALED && !s.opens s.role (s.psqOrigin n)

/-- PERIOD_WRITE (R160). -/
def periodWrite (n t : Nat) (value : Word) (s : State) : State :=
  if s.psqSealedTo n then s.denied (baseOf .psq n)
  else if s.psqRunning n then s.raiseOpen .psq n 8 1
  else (s.putAt .psq n PSQ_PERIOD_V t (bitsOf value 31 31)).putAt .psq n PSQ_PERIOD_PERIOD_M1 t (bitsOf value 15 0)

def execPeriodWrite (n : Fin 8) (t : Fin 256) (value : Word) (s : State) : Host.Outcome State Fault Refusal :=
  done (s.asHostOn .psq n.val (periodWrite n.val t.val value))

/-! ### Edge tables -/

/-- Word `w` of timing set `t` in the edge table of channel `k` (R178). -/
def State.edgeWord (s : State) (k t w : Nat) : Word := mapGet (fun _ => 0) s.edgeTab (2048 * k + 8 * t + w)

def State.setEdgeWord (s : State) (k t w : Nat) (v : Word) : State :=
  { s with edgeTab := mapSet (fun _ => 0) s.edgeTab (2048 * k + 8 * t + w) v }

/-- An edge code: 0 D1, 1 D2, 2 D3, 3 D4, 4 C1, 5 C2 (R163). -/
def State.edge (s : State) (k t e : Nat) : Nat := (s.edgeWord k t e).toNat % 2 ^ 24

def State.dfmt (s : State) (k t : Nat) : Nat := bitsOf (s.edgeWord k t 6) 3 0
def State.cfmt (s : State) (k t : Nat) : Nat := bitsOf (s.edgeWord k t 6) 7 4

/-- What a word of an edge-table entry keeps of a write (R178). -/
def edgeMask (w : Nat) (value : Word) : Word :=
  if w < 6 then value &&& 0xFFFFFF else if w = 6 then value &&& 0xFF else 0

/-- Set and word that an offset of the edge window shows (R178). -/
def State.edgeAt (s : State) (k off : Nat) : Nat × Nat :=
  (16 * s.fld .pec k PEC_TS_GROUP + (off - 0x500) / 0x20, (off - 0x500) % 0x20 / 4)

/-- EDGE_WINDOW_WRITE (R179, R180): the edge window, PEC_TS_GROUP or PEC_FIXTURE; other offsets are not of this command. -/
def edgeWindowWrite (k off : Nat) (value : Word) (s : State) : State :=
  let window := decide (0x500 ≤ off) && decide (off < 0x700) && off % 4 == 0
  if !(window || off == 0x400 || off == 0x40C) then s
  else if window && s.sealedTo k s.role then s.denied (baseOf .pec k)
  else if s.pinRunning k then (s.int .pec k 1).raiseOpen .pec k 2 1
  else
    let s := s.touchShadow (k / 32)
    if off = 0x400 then s.put .pec k PEC_TS_GROUP (bitsOf value 3 0)
    else if off = 0x40C then s.put .pec k PEC_FIXTURE_FIX (bitsOf value 15 0)
    else
      let (t, w) := s.edgeAt k off
      s.setEdgeWord k t w (edgeMask w value)

def execEdgeWindowWrite (k : Fin 768) (off : Nat) (value : Word) (s : State) : Host.Outcome State Fault Refusal :=
  done (s.asHostOn .pec k.val (edgeWindowWrite k.val off value))

/-- DESKEW_APPLY (R166). -/
def deskewApply (k : Nat) (s : State) : State := if s.pinState k = 2 then s else s.applyDeskew k

def execDeskewApply (k : Fin 768) (s : State) : Host.Outcome State Fault Refusal := done (deskewApply k.val s)

/-! ### Actions -/

/-- The action that channel `k` maps a symbol to in timing set `t` (R131, R139). -/
def State.mapped (s : State) (k t sym : Nat) : Nat :=
  s.fldAt .pec k PEC_MAP (t / 2) / 2 ^ (16 * (t % 2) + 4 * sym) % 16

/-- Whether an action has a compare part: CL to CV and the turnaround forms (R131). -/
def comparing (a : Nat) : Bool := (decide (3 ≤ a) && decide (a ≤ 6)) || (decide (8 ≤ a) && decide (a ≤ 0xB))

/-- Whether an action is a turnaround form. -/
def turning (a : Nat) : Bool := decide (8 ≤ a) && decide (a ≤ 0xB)

/-- Whether an action is CKP or CKN. -/
def clocking (a : Nat) : Bool := a == 0xC || a == 0xD

/-- Whether an action drives data in a format with a return edge (R167). -/
def returning (a dfmt : Nat) : Bool := decide (a < 2) && decide (1 ≤ dfmt) && decide (dfmt ≤ 3)

/-- Whether an action drives at D1 and D2. -/
def driving (a : Nat) : Bool := decide (a < 2) || turning a || clocking a

/-- The edges an action uses in its formats (R176). -/
def edgesUsed (a dfmt cfmt : Nat) : List Nat :=
  (if driving a then [0, 1] else []) ++ (if returning a dfmt || clocking a then [2] else [])
    ++ (if a == 2 || comparing a || a == 0xF then [3] else []) ++ (if comparing a || a == 0xF then [4] else [])
    ++ (if comparing a && cfmt == 1 then [5] else [])

/-- The minimum drive pulse width of a bank mode, in 0.25 ps (R176). -/
def minPulse (mode : Nat) : Nat := if mode = 0 then 1000 else if mode = 1 then 2500 else 10000

/-- The shortest period of a bank mode, in 0.25 ps (R23). -/
def minPeriod (mode : Nat) : Nat := if mode = 0 then 2000 else if mode = 1 then 5000 else 20000

/-! ### The start-time check -/

/-- Whether an action of channel `k` fails rule `r` in timing set `t` of period `p` cycles (R176, rules 1 to 6). -/
def State.failsRule (s : State) (k t p a r : Nat) : Bool :=
  let e : Nat → Int := fun i => s.edge k t i
  let w : Int := minPulse (s.fld .bnk (k / 32) BNK_MODE_ACTIVE)
  let m : Int := s.mult
  let pu : Int := p * cycleUnits
  let dfmt := s.dfmt k t
  match r with
  | 1 => (edgesUsed a dfmt (s.cfmt k t)).any fun i => decide (4 * pu ≤ e i * m)
  | 2 => driving a && decide (e 1 < e 0)
  | 3 => ((decide (a < 2) && (dfmt == 1 || dfmt == 2)) || clocking a) && decide (e 2 - e 1 < w)
  | 4 => decide (a < 2) && dfmt == 3 && (decide (e 1 - e 0 < w) || decide (e 2 - e 1 < w))
  | 5 => turning a && (decide (e 3 - e 1 < w) || decide (e 4 < e 3))
  | 6 => comparing a && s.cfmt k t == 1 && (decide (e 5 < e 4) || decide (2 * pu ≤ (e 5 - e 4) * m))
  | _ => false

/-- The lowest rule that a timing set of a channel fails (R176, R177). -/
def State.setFails (s : State) (n k t : Nat) : Option Nat :=
  let acts := (List.range 4).map (s.mapped k t)
  let p := s.period n t
  match [1, 2, 3, 4, 5, 6].find? fun r => acts.any fun a => s.failsRule k t p a r with
  | some r => some r
  | none => if 3 < s.dfmt k t ∨ 1 < s.cfmt k t then some 7 else none

/-- The lowest failing timing set of a channel with its lowest failing rule (R177). -/
def State.channelFails (s : State) (n k : Nat) : Option (Nat × Nat) :=
  (s.validSets n).findSome? fun t => (s.setFails n k t).map fun r => (t, r)

/-- One channel takes part in a start check: PEC_TCHK, and TIMING_INVALID where it fails (R177). -/
def State.checkChannel (s : State) (n k : Nat) : State :=
  match s.channelFails n k with
  | some (t, r) =>
    (((s.put .pec k PEC_TCHK_FAIL 1).put .pec k PEC_TCHK_RULE r).put .pec k PEC_TCHK_SET t).raiseOpen .pec k 7 1
  | none => ((s.put .pec k PEC_TCHK_FAIL 0).put .pec k PEC_TCHK_RULE 0).put .pec k PEC_TCHK_SET 0

/-- The channels of a PSQ's bound sites. -/
def State.psqPins (s : State) (n : Nat) : List Nat := ((s.sitesOf n).map fun i => (s.sitePins i).map (·.2)).flatten

/-- The banks that hold a channel of a PSQ's bound sites. -/
def State.psqBanks (s : State) (n : Nat) : List Nat := (List.range 24).filter fun b => (s.psqPins n).any fun k => k / 32 == b

/-- Whether a timing set with V at 1 is shorter than the slowest mode of the PSQ's banks allows (R23). -/
def State.rateFails (s : State) (n : Nat) : Bool :=
  let least := ((s.psqBanks n).map fun b => minPeriod (s.fld .bnk b BNK_MODE_ACTIVE)).foldr max 0
  (s.validSets n).any fun t => decide (s.period n t * cycleUnits < least * s.mult)

end Sys2Proof.Machine
end

