-- ==== Sys2Proof/Machine/Vector.lean ====
section
/-! DEFINITION. One vector at the pins: drive edges and compares (R162 to R175), pin actions (R131 to R138), fan-out with
substitution (R264, R276), the vector itself (R157, R200, R207), hold vectors (R158, R218), and the outcomes that come back (R134 to
R137, R171, R199, R268, R269). -/

namespace Sys2Proof.Machine
open Sys2Proof Reg

/-! ### Drive edges -/

/-- A drive edge acts on a channel (R131, R169). -/
def PinSt.drive (p : PinSt) : DriveAct → PinSt
  | .on level => { p with drvOn := true, drvHigh := level.getD (p.driven && p.drvHigh), driven := true }
  | .to level => { p with drvHigh := level, driven := true }
  | .off => { p with drvOn := false }

/-- An edge put among the pending ones in time order, after those of its own instant. -/
def placeEdge (e : DriveEdge) : List DriveEdge → List DriveEdge
  | [] => [e]
  | x :: r => if e.time < x.time ∨ (e.time = x.time ∧ e.vec < x.vec) then e :: x :: r else x :: placeEdge e r

/-- Whether an edge of a later vector falls in the same 0.25 ps step (R172); `m` is MULT, the length of a step. -/
def PinSt.beaten (p : PinSt) (m : Nat) (e : DriveEdge) : Bool :=
  (p.edges.any fun x => decide (e.vec < x.vec) && x.time / m == e.time / m)
    || (match p.lastEdge with | some (t, v) => decide (e.vec < v) && t / m == e.time / m | none => false)

/-- Whether an edge comes closer than `w` units to the last one, of another vector (R172). -/
def PinSt.tooClose (p : PinSt) (w : Nat) (e : DriveEdge) : Bool :=
  match p.lastEdge with
  | some (t, v) => v != e.vec && decide (e.time < t + w)
  | none => false

/-- The due edges are applied in time order; the drops and close pairs among them are counted (R172). -/
def PinSt.runEdges (p : PinSt) (m w c : Nat) : List DriveEdge → PinSt × Nat
  | [] => (p, c)
  | e :: r =>
    if p.beaten m e then p.runEdges m w (c + 1) r
    else { p.drive e.act with lastEdge := some (e.time, e.vec) }.runEdges m w (if p.tooClose w e then c + 1 else c) r

/-- Drive collisions of a channel: counted, and raised at the first in a burst (R172). -/
def State.countDrive (s : State) (k c : Nat) : State :=
  if c = 0 then s
  else
    let s := s.bumpBy .pec k PEC_TCOLL_DRV_COUNT PEC_TCOLL_DRV_OVF c
    if (s.pin k).collided then s else (s.setPin k { s.pin k with collided := true }).raiseOpen .pec k 5 1

/-! ### Compares -/

/-- A compare put among the others in the order in which their intervals begin. -/
def placeCompare (c : Compare) : List Compare → List Compare
  | [] => [c]
  | x :: r => if c.first < x.first ∨ (c.first = x.first ∧ c.vec < x.vec) then c :: x :: r else x :: placeCompare c r

/-- How many other intervals a channel holds at an instant (R173). -/
def heldAt (cs : List Compare) (time : Nat) : Nat :=
  (cs.filter fun c => decide (c.phase = .begun) && decide (c.first ≤ time) && decide (time ≤ c.last)).length

/-- The compares that begin before `upto` do so in order: a third while two are held is lost (R173). -/
def beginCompares (cs : List Compare) (upto : Nat) : List Compare × Nat :=
  cs.foldl
    (fun (r : List Compare × Nat) c =>
      if c.phase = .placed ∧ c.first < upto then
        let lost := decide (2 ≤ heldAt r.1 c.first)
        (r.1.map fun x => if x.vec == c.vec then { x with phase := if lost then .lost else .begun } else x, r.2 + bit lost)
      else r) (cs, 0)

/-- The site of a channel. -/
def State.pinSite (s : State) (k : Nat) : Nat := s.fld .pec k PEC_SITE

/-- Lost compares of a channel (R173): counted, raised, and the site tainted. -/
def State.loseCompares (s : State) (k c : Nat) : State :=
  if c = 0 then s
  else
    let s := s.bumpBy .pec k PEC_TCOLL_CMP_COUNT PEC_TCOLL_CMP_OVF c
    ((List.replicate c ()).foldl (fun s _ => s.raiseOpen .pec k 6 2) s).taintSite (s.pinSite k) 3

/-- Whether a pending edge of a vector is dropped as vector `idx` begins at `start` (R171). -/
def dropped (vec time start idx : Nat) : Bool := decide (vec + 4 ≤ idx) && decide (start < time)

/-- A channel's time goes on to `upto`: edges before it are applied, compares before it begin. -/
def State.pinRun (s : State) (k upto : Nat) : State :=
  let p := s.pin k
  let due := p.edges.filter fun e => decide (e.time < upto)
  let (q, c) := p.runEdges s.mult (minPulse (s.fld .bnk (k / 32) BNK_MODE_ACTIVE) * s.mult) 0 due
  let (cs, lost) := beginCompares p.compares upto
  let s := s.setPin k { q with edges := p.edges.filter fun e => !decide (e.time < upto), compares := cs }
  (s.countDrive k c).loseCompares k lost

/-- What R171 drops on a channel as vector `idx` begins at `start`. -/
def State.pinDrop (s : State) (k start idx : Nat) : State :=
  let p := s.pin k
  let edges := p.edges.filter fun e => dropped e.vec e.time start idx
  let cmps := p.compares.filter fun c => dropped c.vec c.last start idx && !decide (c.phase = .lost)
  let s := s.setPin k { p with
    edges := p.edges.filter fun e => !dropped e.vec e.time start idx
    compares := p.compares.map fun c => if dropped c.vec c.last start idx then { c with phase := .lost } else c }
  (s.countDrive k edges.length).loseCompares k cmps.length

/-! ### Pin actions -/

/-- Whether an action that drives takes VIH at D2 (R131). -/
def drivesHigh (a : Nat) : Bool := a == 1 || a == 9 || a == 0xB || a == 0xC

/-- What the edges of an action do, by edge code (R131, R167, R169, R170). -/
def actionEdges (a dfmt : Nat) : List (Nat × DriveAct) :=
  let h := drivesHigh a
  if a < 2 then
    [(0, .on (if dfmt = 3 then some !h else none)), (1, .to h)]
      ++ (if dfmt = 1 then [(2, .to false)] else if dfmt = 2 then [(2, .to true)] else if dfmt = 3 then [(2, .to !h)] else [])
  else if turning a then [(0, .on none), (1, .to h), (3, .off)]
  else if clocking a then [(0, .on none), (1, .to h), (2, .to !h)]
  else if a = 2 ∨ comparing a ∨ a = 0xF then [(3, .off)]
  else []

/-- What an action expects of the comparator (R131, R135). -/
def expects (a : Nat) : Option Expect :=
  match a with
  | 3 | 8 | 0xB => some .lo
  | 4 | 9 | 0xA => some .hi
  | 5 => some .mid
  | 6 => some .valid
  | 0xF => some .capture
  | _ => none

/-- A channel performs an action in vector `idx`, whose period begins at `start` (R131, R162, R173); FIX shifts every drive edge of a
channel alike and every compare edge alike, so it changes no order and stands in no time here. -/
def State.act (s : State) (k t a start idx : Nat) : State :=
  let at_ : Nat → Nat := fun e => start + s.edge k t e * s.mult
  let p := s.pin k
  let edges := (actionEdges a (s.dfmt k t)).foldl (fun es e => placeEdge ⟨at_ e.1, idx, e.2⟩ es) p.edges
  let compares :=
    match expects a with
    | some x =>
      let window := s.cfmt k t == 1 && !decide (x = .capture)
      placeCompare ⟨idx, at_ 4, if window then at_ 5 else at_ 4, window, some x, .placed⟩ p.compares
    | none => p.compares
  s.setPin k { p with edges := edges, compares := compares }

/-- One channel in one vector (R116, R119, R131, R132, R138): `sym` its symbol, `live` whether its site is active, `masked` whether its
bank lost the symbols in transfer (R151). -/
def State.pinVector (s : State) (k t sym start idx : Nat) (live masked : Bool) : State :=
  let s := (s.pinRun k start).pinDrop k start idx
  let m := s.mapped k t sym
  let m := if m = 0xE then (s.pin k).lastAct else m
  let a := if !live then (if s.flag .pec k PEC_CFG_SUPPRESS_ACT then 2 else 7) else if masked then 7 else m
  let s := s.setPin k { s.pin k with lastAct := a }
  match s.pinState k with
  | 2 => s.act k t a start idx
  | 3 => if comparing a then s.bump .pec k PEC_SUPPR_COUNT PEC_SUPPR_OVF else s
  | _ => s

/-! ### Substitution -/

/-- Word `w` of substitution descriptor `d`. -/
def State.descWord (s : State) (d w : Nat) : Word := BitVec.ofNat 32 (s.fldAt .ovl 0 OVL_DESC_WORD (8 * d + w))

/-- The pin mask of a descriptor, as one number. -/
def State.descMask (s : State) (d : Nat) : Nat :=
  (s.descWord d 0).toNat + 2 ^ 32 * (s.descWord d 1).toNat + 2 ^ 64 * (s.descWord d 2).toNat + 2 ^ 96 * (s.descWord d 3).toNat

/-- SRC of a descriptor: a site register rather than the overlay store. -/
def State.descReg (s : State) (d : Nat) : Bool := (s.descWord d 4).getLsbD 30

/-- Bit number of symbol `q` of a register source; none where it leaves 0 to 31 (R276). -/
def State.descBit (s : State) (d q : Nat) : Option Nat :=
  let w := s.descWord d 4
  let b := bitsOf w 20 16
  if w.getLsbD 29 then (if q ≤ b then some (b - q) else none) else if b + q < 32 then some (b + q) else none

/-- Symbol `q` of a SUBST at a site, from the value captured when it acted (R276). -/
def State.subSymbol (s : State) (d i v q : Nat) : Nat :=
  let w := s.descWord d 4
  if s.descReg d then
    match s.descBit d q with
    | some b => if v.testBit b then bitsOf w 3 2 else bitsOf w 1 0
    | none => 0
  else (mapGet (fun _ => (0 : Byte)) s.overlay (4096 * i + v + q / 4)).toNat / 4 ^ (q % 4) % 4

/-- The symbol of pin `j` of site `i` in a vector (R185, R264, R276). -/
def State.symbolAt (s : State) (syms i j : Nat) (sub : Option SubRun) : Nat :=
  let plain := syms / 4 ^ j % 4
  match sub with
  | none => plain
  | some r =>
    match lookupKey r.vals i with
    | none => plain
    | some v =>
      let mask := s.descMask r.desc
      if mask.testBit j then s.subSymbol r.desc i v (r.index * onesIn 128 mask + onesIn j mask) else plain

/-! ### A vector -/

/-- The resolution point of the last vector emitted (R200); 0 before any. -/
def resolution (recent : List (Nat × Nat)) : Nat := ((recent.take 4).map fun r => r.1 + 4 * r.2 + 64).foldr max 0

/-- Vectors still to be masked on a bank whose outbound frame failed (R151). -/
def PsqSt.masks (x : PsqSt) (b : Nat) : Bool := decide (0 < mapGet (fun _ => 0) x.maskLeft b)

/-- Whether a channel of a PSQ's sites compares in a vector. -/
def State.vectorCompares (s : State) (n idx : Nat) : Bool :=
  (s.psqPins n).any fun k => (s.pin k).compares.any fun c => c.vec == idx

/-- The 64-bit counters of a PSQ page advanced: VCOUNT and STALLCYC. -/
def State.addCount (s : State) (n : Nat) (lo hi : Fld) (d : Nat) : State :=
  let v := s.fld .psq n lo + 2 ^ 32 * s.fld .psq n hi + d
  (s.put .psq n lo v).put .psq n hi (v / 2 ^ 32)

/-- Cycles of a hold, a wait, a pause or a stall: S grows by them (R162), and the next vector begins so much later. -/
def State.delay (s : State) (n d : Nat) : State :=
  let x := s.psq n
  (s.setPsq n { x with t := x.t + d, slots := min 32 (x.slots + 2 * d) }).addCount n PSQ_STALLCYC_LO PSQ_STALLCYC_HI d

/-- A program vector to emit: its symbols and timing set, what its fail record holds, its attribute where it has one, and the symbols
substituted in it. -/
structure VectorOut where
  syms : Nat
  ts : Nat
  apg : Option (Nat × Nat × Nat)
  seg : Nat
  off : Nat
  iter : Option Nat
  pause : Option Bool
  sub : Option SubRun

/-- Every channel of a site takes part in a vector. -/
def State.siteVector (s : State) (n i : Nat) (v : VectorOut) (start idx : Nat) : State :=
  let live := s.siteActive i
  (s.sitePins i).foldl
    (fun s p => s.pinVector p.2 v.ts (s.symbolAt v.syms i p.1 v.sub) start idx live ((s.psq n).masks (p.2 / 32))) s

/-- A program vector's period begins (R157, R207, R264): changes of sites that are due act, every channel performs its action, and the
sequencer's time and counts go on. -/
def State.emitVector (s : State) (n : Nat) (v : VectorOut) : State :=
  let x := s.psq n
  let start := x.t
  let period := s.period n v.ts
  let idx := s.vcount n
  let s := (s.sitesOf n).foldl (fun s i => s.applyChanges i fun pos => decide (pos + 16 ≤ start)) s
  let s := (s.sitesOf n).foldl (fun s i => s.siteVector n i v (start * cycleUnits) idx) s
  let s := s.addCount n PSQ_VCOUNT_LO PSQ_VCOUNT_HI 1
  let s := s.pcn n 2 1
  let s := if v.apg.isSome then s.pcn n 3 1 else s
  let s := if v.iter.isSome then s.pcn n 0x13 1 else s
  let s := if x.last.any fun l => l.ts != v.ts then s.pcn n 0xE 1 else s
  let recent := ((start, period) :: x.recent).take 4
  let info : VecInfo := ⟨idx, start, v.ts, v.seg, v.off, s.fld .psq n PSQ_PC, v.apg, v.iter, resolution recent, 0⟩
  let y := s.psq n
  let s := s.setPsq n { y with
    now := start, t := start + period, slots := min 32 (y.slots + 2 * period), recent := recent, decoding := false
    last := some ⟨v.syms, v.ts, v.apg, v.seg, v.off, v.sub⟩
    lastPause := if v.pause.isSome then v.pause else y.lastPause
    vecs := if v.iter.isSome || s.vectorCompares n idx then y.vecs ++ [info] else y.vecs
    maskLeft := y.maskLeft.filterMap fun e => if 1 < e.2 then some (e.1, e.2 - 1) else none }
  s.put .psq n PSQ_STAT_RUNSTATE (if v.iter.isSome then 7 else 2)

/-- The timing set of a hold vector (R158). -/
def State.holdSet (s : State) (n : Nat) : Nat :=
  match (s.psq n).last with
  | some l => l.ts
  | none => (s.validSets n).headD 0

/-- DECODE_STALL is raised at the first decode stall of a burst (R227). -/
def State.raiseDecode (s : State) (n level : Nat) : State :=
  if s.raisedOnce n 12 then s else (s.noteRaised n 12).raiseOpen .psq n 3 level

/-- The first hold vector of a kind in a burst taints it and raises UNDERRUN, or DECODE_STALL at Error (R218, R220). -/
def State.firstHold (s : State) (n : Nat) (decode : Bool) : State :=
  let what := if decode then 3 else 2
  if s.raisedOnce n what then s
  else
    let first := !s.raisedOnce n 2 && !s.raisedOnce n 3
    let s := ((s.noteRaised n what).taintAll n (bit decode)).int .psq n 5
    let s := if decode then s.raiseDecode n 3 else s.raiseOpen .psq n 2 3
    if first then s.stopCond n 1 else s

/-- A hold vector (R158, R218): every channel performs MASK and reports NONE; its cycles count in S. One under a pending Pairs hold
taints the burst (R514). -/
def State.holdVector (s : State) (n : Nat) (decode : Bool) : State :=
  let period := s.period n (s.holdSet n)
  let start := (s.psq n).t
  let s := s.put .psq n PSQ_STAT_RUNSTATE 5
  let s := (s.bump .psq n PSQ_UNDERRUN_COUNT PSQ_UNDERRUN_OVF).pcn n 4 1
  let s := s.firstHold n decode
  let s := if s.flag .psq n PSQ_PAUSE_STAT_PAIRS then s.taintAll n 7 else s
  (s.setPsq n { s.psq n with now := start }).delay n period

/-! ### Outcomes -/

/-- Whether a comparator state meets an expectation at an instant (R124, R131, R134). -/
def meetsAt (x : Expect) (c : CmpState) : Bool :=
  match x with
  | .lo => c == .lo || c == .both
  | .hi => c == .hi || c == .both
  | .mid => c == .mid
  | .valid => c != .mid
  | .capture => false

/-- Whether the states seen in a window change between HI and LO (R134); a state of both is of either. -/
def changes (cs : List CmpState) : Bool := cs.contains .lo && cs.contains .hi

/-- An outcome (R136). -/
inductive Outcome where
  | none | pass | fail | capL | capH | capM
  deriving DecidableEq, Repr

/-- What a compare comes to, given what the comparator reported from C1 on (R134, R135, R173). -/
def judge (c : Compare) (seen : List CmpState) : Outcome :=
  let first := seen.headD .mid
  if c.phase = .lost then Outcome.none
  else
    match c.expect with
    | Option.none => Outcome.none
    | some .capture =>
      match first with
      | .lo => .capL
      | .hi => .capH
      | _ => .capM
    | some x =>
      let states := if c.window then (if seen.isEmpty then [CmpState.mid] else seen) else [first]
      if states.all (meetsAt x) && !(decide (x = .valid) && changes states) then .pass else .fail

/-- The vector whose outcomes a site delivers next: the first from `nextVec` on in which it has a compare, or which is an iteration of
a MATCH it takes part in. -/
def State.nextOutcome (s : State) (n i : Nat) : Option VecInfo :=
  let x := s.site i
  (s.psq n).vecs.find? fun v =>
    decide (x.nextVec ≤ v.idx)
      && ((v.iter.isSome && x.inMatch) || (s.sitePins i).any fun p => (s.pin p.2).compares.any fun c => c.vec == v.idx)

/-- Whether any site of a PSQ has outcomes still to deliver. -/
def State.outcomesDue (s : State) (n : Nat) : Bool := (s.sitesOf n).any fun i => (s.nextOutcome n i).isSome

/-- One channel reports its outcome of a vector, and forgets the compare. -/
def State.report (s : State) (k idx : Nat) (seen : List CmpState) : State × Outcome :=
  match (s.pin k).compares.find? fun c => c.vec == idx with
  | none => (s, .none)
  | some c =>
    let p := s.pin k
    let (cs, lost) := beginCompares p.compares (c.last + 1)
    let c := (cs.find? fun c => c.vec == idx).getD c
    ((s.setPin k { p with compares := cs.filter fun c => c.vec != idx }).loseCompares k lost, judge c seen)

/-- The outcomes of a site's pins in ascending order, with the pins. -/
def State.reports (s : State) (i idx : Nat) (obs : List PinObs) : State × List (Nat × Outcome) :=
  (s.sitePins i).foldl
    (fun (r : State × List (Nat × Outcome)) p =>
      let (s, o) := r.1.report p.2 idx (((obs.find? fun x => x.pin == p.1).map (·.states)).getD [])
      (s, r.2 ++ [(p.1, o)])) (s, [])

/-- Captures of a vector are shifted into S15 in ascending pin order (R268). -/
def State.capture (s : State) (i : Nat) (o : Outcome) : State :=
  match o with
  | .capH => s.captureBit i true
  | .capL => s.captureBit i false
  | .capM => (s.captureBit i false).put .site i SITE_STATE_CAP_MID 1
  | _ => s

/-- The PASS or FAIL outcomes of a vector at a site that is no iteration of a MATCH (R199, R211, R269, R280, R324). -/
def State.countOutcomes (s : State) (n i : Nat) (v : VecInfo) (passed failing : List Nat) : State :=
  let s := s.freVector n i v passed failing
  if failing.isEmpty then s
  else
    let s := (s.put .site i SITE_STATE_LF 1).setSite i { s.site i with failed := true }
    let s :=
      if s.siteActive i && !s.raisedOnce n 10 then (s.noteRaised n 10).stopCond n 2 else s
    if s.flag .site i SITE_CFG_RETIRE_ON_FAIL && !s.siteRetired i then s.siteChange i (.retire 3) else s

/-- An iteration of a MATCH resolves at a site (R199): its first match writes REG. -/
def State.matchOutcome (s : State) (n i : Nat) (v : VecInfo) (passed failing : List Nat) : State :=
  match v.iter, (s.psq n).mtch with
  | some it, some m =>
    let x := s.site i
    if x.inMatch && x.matchIter.isNone && !passed.isEmpty && failing.isEmpty then
      let s := (s.setSite i { x with matchIter := some it }).setSiteReg i m.reg it
      s.setPsq n { s.psq n with mtch := some { m with rp := max m.rp v.rp } }
    else s
  | _, _ => s

/-- A vector is counted once for a PASS or FAIL outcome and once for a FAIL outcome on an active site (R255). -/
def State.countVector (s : State) (n : Nat) (v : VecInfo) (live pass fail : Bool) : State :=
  if live && v.iter.isNone && (pass || fail) then
    let had := ((s.psq n).vecs.find? fun w => w.idx == v.idx).map (·.counted)
    let old := had.getD 0
    let new := old ||| (if fail then 3 else 1)
    let s := s.setPsq n { s.psq n with vecs := (s.psq n).vecs.map fun w => if w.idx == v.idx then { w with counted := new } else w }
    let s := if old.testBit 0 then s else s.pcn n 0x12 1
    if fail && !old.testBit 1 then s.pcn n 0x11 1 else s
  else s

/-- Whether a MATCH has ended and every site that took part has delivered its last iteration. -/
def State.matchSettled (s : State) (n : Nat) : Bool :=
  match (s.psq n).mtch with
  | some m => m.ended && (s.sitesOf n).all fun i => !(s.site i).inMatch || (s.site i).matchIter.isSome
      || decide (m.first.idx + m.iters ≤ (s.site i).nextVec)
  | none => false

/-- A MATCH that reached its limit is final (R199, R201): each site that did not match gets all ones in REG, and with FAIL_TO a
MATCH_TIMEOUT fail; MATCH_TIMEOUT is raised where a site is unmatched (R227). -/
def State.finishMatch (s : State) (n : Nat) : State :=
  match (s.psq n).mtch with
  | some m =>
    if s.matchSettled n && m.limit then
      let left := (s.sitesOf n).filter fun i => (s.site i).inMatch && (s.site i).matchIter.isNone
      let s := left.foldl (fun s i =>
        let s := s.setSiteReg i m.reg 0xFFFFFFFF
        if m.failTo then s.matchTimeout i m.first else s) s
      let s := s.setPsq n { s.psq n with mtch := some { m with limit := false } }
      if left.any s.siteActive then (s.int .psq n 7).raiseOpen .psq n 6 1 else s
    else s
  | none => s

/-- Vectors that every site has delivered are forgotten. -/
def State.dropVecs (s : State) (n : Nat) : State :=
  let least := (s.sitesOf n).map fun i => (s.site i).nextVec
  s.setPsq n { s.psq n with vecs := (s.psq n).vecs.filter fun v => least.any fun m => decide (m ≤ v.idx) }

/-- OUTCOME_DELIVERY (R137, R174): a site's outcomes of the next vector due reach the Fail Reduction Engine and the condition logic. -/
def outcomeDelivery (i : Nat) (obs : List PinObs) (s : State) : State :=
  match s.sitePsq i with
  | none => s
  | some n =>
    match s.nextOutcome n i with
    | none => s
    | some v =>
      let (s, rs) := s.reports i v.idx obs
      let passed := (rs.filter fun r => r.2 == .pass).map (·.1)
      let failing := (rs.filter fun r => r.2 == .fail).map (·.1)
      let s := s.countVector n v (s.siteActive i) (!passed.isEmpty) (!failing.isEmpty)
      let s := if v.iter.isSome then s else s.countOutcomes n i v passed failing
      let s := rs.foldl (fun s r => s.capture i r.2) s
      let s := if v.iter.isSome then s.matchOutcome n i v passed failing else s
      let s := s.setSite i { s.site i with nextVec := v.idx + 1 }
      (s.finishMatch n).dropVecs n

def execOutcomeDelivery (site : Fin 256) (obs : List PinObs) (s : State) : Host.Outcome State Fault Refusal :=
  done (outcomeDelivery site.val obs s)

end Sys2Proof.Machine
end

