-- ==== Sys2Proof/Machine/Apg.lean ====
section
/-! DEFINITION. The algorithmic pattern generator (R239 to R247): its working state, which the _NOW registers hold, its operations,
scrambling, topology, and the vectors it assembles. -/

namespace Sys2Proof.Machine
open Sys2Proof Reg

/-! ### Working state -/

/-- INDEX of the X generator, or of Y. -/
def State.genIndex (s : State) (n : Nat) (y : Bool) : Nat := s.fld .apg n (if y then APG_Y_NOW else APG_X_NOW)
def State.setIndex (s : State) (n : Nat) (y : Bool) (v : Nat) : State := s.put .apg n (if y then APG_Y_NOW else APG_X_NOW) v
def State.genLimit (s : State) (n : Nat) (y : Bool) : Nat := s.fld .apg n (if y then APG_Y_LIMIT else APG_X_LIMIT)
def State.genIncr (s : State) (n : Nat) (y : Bool) : Nat := s.fld .apg n (if y then APG_Y_INCR else APG_X_INCR)

/-- The address of a generator (R239). -/
def State.genAddr (s : State) (n : Nat) (y : Bool) : Nat :=
  (s.fld .apg n (if y then APG_Y_BASE else APG_X_BASE) + s.genIndex n y) % 2 ^ 32

def State.carry (s : State) (n : Nat) (y : Bool) : Bool := s.flag .apg n (if y then APG_STAT_CARRY_Y else APG_STAT_CARRY_X)
def State.setCarry (s : State) (n : Nat) (y b : Bool) : State := s.put .apg n (if y then APG_STAT_CARRY_Y else APG_STAT_CARRY_X) (bit b)

/-- A 64-bit value of data generator `g`, by its two register words. -/
def State.gen64 (s : State) (n g : Nat) (lo hi : Fld) : BitVec 64 :=
  BitVec.ofNat 64 (s.fldAt .apg n lo g + 2 ^ 32 * s.fldAt .apg n hi g)

def State.data (s : State) (n g : Nat) : BitVec 64 := s.gen64 n g APG_D_NOW_LO APG_D_NOW_HI
def State.setData (s : State) (n g : Nat) (v : BitVec 64) : State :=
  (s.putAt .apg n APG_D_NOW_LO g (v.toNat % 2 ^ 32)).putAt .apg n APG_D_NOW_HI g (v.toNat / 2 ^ 32)

/-- A start check copies the start values into the working state and clears both carries (R246). -/
def State.apgStart (s : State) (n : Nat) : State :=
  let s := (s.setIndex n false (s.fld .apg n APG_X_INDEX)).setIndex n true (s.fld .apg n APG_Y_INDEX)
  let s := (List.range 4).foldl (fun s g => s.setData n g (s.gen64 n g APG_D_LO APG_D_HI)) s
  ((s.setCarry n false false).setCarry n true false).put .apg n APG_STAT_PHASE 0

/-! ### Operations -/

/-- INC, or DEC, of a generator: the new INDEX and whether it carries (R239). -/
def State.moved (s : State) (n : Nat) (y up : Bool) : Nat × Bool :=
  let i := s.genIndex n y
  let l := s.genLimit n y
  let d := s.genIncr n y
  if up then ((i + d) % (l + 1), decide (l + 1 ≤ i + d))
  else ((((i : Int) - d) % ((l + 1 : Nat) : Int)).toNat, decide (i < d))

/-- A generator's own operation, the forms that wait for a carry apart (R239). -/
def State.genOp (s : State) (n : Nat) (y : Bool) (op : Nat) : State :=
  match op with
  | 1 => let (i, c) := s.moved n y true; (s.setIndex n y i).setCarry n y c
  | 2 => let (i, c) := s.moved n y false; (s.setIndex n y i).setCarry n y c
  | 5 => s.setIndex n y 0
  | _ => s

/-- INC_IF_CARRY and DEC_IF_CARRY, given whether the other generator carried in this application (R239). -/
def State.genIfOp (s : State) (n : Nat) (y : Bool) (op : Nat) (other : Bool) : State :=
  if !other then s
  else if op = 3 then s.genOp n y 1
  else if op = 4 then s.genOp n y 2
  else s

/-- Whether an address operation waits for the other generator's carry. -/
def ifCarry (op : Nat) : Bool := op == 3 || op == 4

/-- X and Y operations of one application (R239). -/
def State.addrOps (s : State) (n xop yop : Nat) : State :=
  let s := (s.setCarry n false false).setCarry n true false
  let s := (s.genOp n false xop).genOp n true yop
  if ifCarry xop && ifCarry yop then s
  else if ifCarry xop then s.genIfOp n false xop (s.carry n true)
  else if ifCarry yop then s.genIfOp n true yop (s.carry n false)
  else s

/-- A data operation (R240). -/
def dataOp (op : Nat) (d seed poly : BitVec 64) (xcarry : Bool) : BitVec 64 :=
  match op with
  | 1 => ~~~d
  | 2 => d.rotateLeft 1
  | 3 => d.rotateRight 1
  | 4 => d + 1
  | 5 => seed
  | 6 => if d.getLsbD 63 then (d <<< 1) ^^^ poly else d <<< 1
  | 7 => if xcarry then ~~~d else d
  | _ => d

/-- One application of operations: X, Y, then the data generators, DOP_g in bits [4g+3:4g] of `dop` (R239, R240). -/
def State.applyOps (s : State) (n xop yop dop : Nat) : State :=
  let s := s.addrOps n xop yop
  (List.range 4).foldl
    (fun s g => s.setData n g (dataOp (dop / 16 ^ g % 16) (s.data n g) (s.gen64 n g APG_SEED_LO APG_SEED_HI)
      (s.gen64 n g APG_POLY_LO APG_POLY_HI) (s.carry n false))) s

/-- Whether operations hold a reserved value (R239, R240). -/
def badOps (xop yop dop : Nat) : Bool :=
  decide (5 < xop) || decide (5 < yop) || (List.range 4).any fun g => decide (7 < dop / 16 ^ g % 16)

/-! ### Steps -/

/-- A step-table entry (R241). -/
def State.step64 (s : State) (n d : Nat) : Nat := s.fldAt .apg n APG_STEP_LO d + 2 ^ 32 * s.fldAt .apg n APG_STEP_HI d

/-- Field [hi:lo] of a number. -/
def natBits (w hi lo : Nat) : Nat := w / 2 ^ lo % 2 ^ (hi + 1 - lo)

/-- The parity of a number's low 32 bits. -/
def parity32 (v : Nat) : Bool := onesIn 32 v % 2 == 1

/-- An address after scrambling: entry A[11:0] of the table replaces A[11:0] of the selected generator (R243). -/
def State.scrambled (s : State) (n scr : Nat) (y : Bool) : Nat :=
  let a := s.genAddr n y
  if scr = (if y then 2 else 1) then
    a / 4096 * 4096 + mapGet (fun i => i % 4096) s.scramble (4096 * n + a % 4096) % 4096
  else a

/-- The bit a topology entry selects; none where its SRC is reserved (R244). -/
def State.topoBit (s : State) (n scr e : Nat) : Option Bool :=
  let b := natBits e 11 6
  let x := s.scrambled n scr false
  let y := s.scrambled n scr true
  match natBits e 15 12 with
  | 0 => some false
  | 1 => some (decide (b < 32) && x.testBit b)
  | 2 => some (decide (b < 32) && y.testBit b)
  | src =>
    if src < 7 then some ((s.data n (src - 3)).getLsbD b)
    else if src < 11 then
      let g := src - 7
      let p := xor (parity32 (x &&& s.fldAt .apg n APG_XMASK g)) (parity32 (y &&& s.fldAt .apg n APG_YMASK g))
      some (xor ((s.data n g).getLsbD b) p)
    else none

/-- The symbols of an APG vector with a map and a scramble, pin 0 lowest; none where a pin within the width has a reserved SRC. -/
def State.assemble (s : State) (n scr map : Nat) : Option Nat :=
  let pins := 32 * (s.fld .psq n PSQ_STAT_LW + 1)
  (List.range pins).foldl
    (fun acc k =>
      let e := mapGet (fun _ => 0) s.topo (2048 * n + 128 * map + k)
      match acc, s.topoBit n scr e with
      | some v, some b => some (v + (if b then natBits e 3 2 else natBits e 1 0) * 4 ^ k)
      | _, _ => none) (some 0)

/-- APG_FAULT records a cause and the step, and the page raises APG_FAULT (R247, R257). -/
def State.apgFault (s : State) (n cause step : Nat) : State :=
  let s := (s.put .apg n APG_FAULT_CAUSE cause).put .apg n APG_FAULT_STEP step
  (s.int .apg n 0).raiseOpen .apg n 1 1

/-- Why a step cannot begin: 1 STEP_INVALID, 2 BAD_OP (R247). -/
def stepFault (w : Nat) : Option Nat :=
  if natBits w 63 63 = 0 ∨ natBits w 60 59 = 3 then some 1
  else if badOps (natBits w 54 51) (natBits w 50 47) (natBits w 46 31) then some 2
  else none

/-- After an APG vector of a phase: the phase advances, and after the last one the step's operations are applied (R242). -/
def State.apgAdvance (s : State) (n w phase : Nat) : State × Nat :=
  if phase < natBits w 62 61 then (s.put .apg n APG_STAT_PHASE (phase + 1), phase + 1)
  else ((s.applyOps n (natBits w 54 51) (natBits w 50 47) (natBits w 46 31)).put .apg n APG_STAT_PHASE 0, 0)

/-! ### Registers and tables -/

/-- A write to an APG register or table is ignored while the PSQ is running (R247). -/
def State.apgBusy (s : State) (n : Nat) : State := (s.int .apg n 1).raiseOpen .apg n 2 1

/-- Whether the APG's start values and tables are sealed from the host (R247). -/
def State.apgSealed (s : State) (n : Nat) : Bool := s.flag .apg n APG_STAT_SEALED && !s.opens s.role (s.psqOrigin n)

/-- APG_REGISTER_WRITE (R246, R247): the start values, seeds, polynomials, masks and step table, at their offsets.
D, SEED and POLY are 64-bit quantities, written low word first (R50). -/
def apgRegisterWrite (n off : Nat) (value : Word) (s : State) : State :=
  if !(off % 4 == 0 && ((decide (0x40 ≤ off) && decide (off < 0xE0)) || (decide (0x800 ≤ off) && decide (off < 0x1000)))) then s
  else if s.apgSealed n then s.denied (baseOf .apg n)
  else if s.psqRunning n then s.apgBusy n
  else if off < 0xE0 ∧ 0x60 ≤ off ∧ (off - 0x60) % 0x20 < 0x18 then
    (if off % 8 = 0 then s.holdLow (baseOf .apg n + off) value else s.applyHigh (baseOf .apg n + off - 4) value)
  else s.wr (baseOf .apg n + off) value

def execApgRegisterWrite (n : Fin 8) (off : Nat) (value : Word) (s : State) : Host.Outcome State Fault Refusal :=
  done (s.asHostOn .apg n.val (apgRegisterWrite n.val off value))

/-- The host reads a register window's entry, or writes it; `denied` where it is sealed from the host, `busy` for a write while the PSQ
runs; the cursor advances with each access. -/
def State.scrAccess (s : State) (n : Nat) (write : Option Word) : State :=
  let i := s.fld .apg n APG_SCR_CUR_INDEX
  let next : State → State := fun s => s.put .apg n APG_SCR_CUR_INDEX ((i + 1) % 4096)
  match write with
  | none =>
    if s.apgSealed n then (next (s.denied (baseOf .apg n))).answer 0
    else next (s.answer (BitVec.ofNat 32 (mapGet (fun i => i % 4096) s.scramble (4096 * n + i))))
  | some v =>
    if s.apgSealed n then next (s.denied (baseOf .apg n))
    else if s.psqRunning n then next (s.apgBusy n)
    else next { s with scramble := mapSet (fun i => i % 4096) s.scramble (4096 * n + i) (bitsOf v 11 0) }

/-- APG_SCR_DATA_ACCESS (R243). -/
def execApgScrDataAccess (n : Fin 8) (write : Option Word) (s : State) : Host.Outcome State Fault Refusal :=
  done (if s.live then s.scrAccess n.val write else if write.isNone then s.answer 0 else s)

/-- The cursor of the topology window advances PIN, then MAP. -/
def State.topoNext (s : State) (n : Nat) : State :=
  let c := (128 * s.fld .apg n APG_TOPO_CUR_MAP + s.fld .apg n APG_TOPO_CUR_PIN + 1) % 2048
  (s.put .apg n APG_TOPO_CUR_PIN (c % 128)).put .apg n APG_TOPO_CUR_MAP (c / 128)

/-- An access to APG_TOPO_DATA: bits [5:4] of an entry are reserved (R244). -/
def State.topoAccess (s : State) (n : Nat) (write : Option Word) : State :=
  let i := 2048 * n + 128 * s.fld .apg n APG_TOPO_CUR_MAP + s.fld .apg n APG_TOPO_CUR_PIN
  match write with
  | none =>
    if s.apgSealed n then ((s.denied (baseOf .apg n)).topoNext n).answer 0
    else (s.answer (BitVec.ofNat 32 (mapGet (fun _ => 0) s.topo i))).topoNext n
  | some v =>
    if s.apgSealed n then (s.denied (baseOf .apg n)).topoNext n
    else if s.psqRunning n then (s.apgBusy n).topoNext n
    else ({ s with topo := mapSet (fun _ => 0) s.topo i (v &&& 0xFFCF).toNat }).topoNext n

/-- APG_TOPO_DATA_ACCESS (R244). -/
def execApgTopoDataAccess (n : Fin 8) (write : Option Word) (s : State) : Host.Outcome State Fault Refusal :=
  done (if s.live then s.topoAccess n.val write else if write.isNone then s.answer 0 else s)

end Sys2Proof.Machine
end

