-- ==== Sys2Proof/Machine/Seq.lean ====
section
/-! DEFINITION. What the functions of a sequence program do (R191 to R202, R209, R213): the vector pointer, loops, calls, conditions,
MATCH, PAUSEPT, EPOCHWAIT and HALT, for vendor opcodes and microwords alike. -/

namespace Sys2Proof.Machine
open Sys2Proof Reg

/-! ### Instructions -/

/-- How a function ends: its instruction goes on to the next one; to a PC; it emits; it waits, with RUNSTATE; or it faults. -/
inductive Act where
  | next
  | jump (pc : Nat)
  | emit (e : Emit)
  | wait (h : PsqHold) (runstate : Nat)
  | fault (code : Nat)
  deriving DecidableEq, Repr

/-- The functions of R192 and R237. -/
inductive Func where
  | nop | run | vset | loop | endloop | jump | call | ret | matchVec | pausept | epochwait | siteop | apg | halt
  deriving DecidableEq, Repr

/-- The vendor opcodes (R192). -/
def opFunc : Nat → Option Func
  | 0x00 => some .nop
  | 0x01 => some .run
  | 0x02 => some .vset
  | 0x04 => some .loop
  | 0x05 => some .endloop
  | 0x08 => some .jump
  | 0x09 => some .call
  | 0x0A => some .ret
  | 0x10 => some .matchVec
  | 0x11 => some .pausept
  | 0x12 => some .epochwait
  | 0x18 => some .siteop
  | 0x20 => some .apg
  | 0x3F => some .halt
  | _ => none

/-- The opcode of an instruction (R191). -/
def opcodeOf (w : Nat) : Nat := natBits w 63 56

/-! ### The vector pointer -/

def State.vpValid (s : State) (n : Nat) : Bool := s.flag .psq n PSQ_VP_SEG_VALID
def State.vpSeg (s : State) (n : Nat) : Nat := s.fld .psq n PSQ_VP_SEG
def State.vpOff (s : State) (n : Nat) : Nat := s.fld .psq n PSQ_VP_OFF + (if (s.psq n).vpOver then 2 ^ 32 else 0)

/-- VP is set; `past` is the bit of OFF beyond its register (R193). -/
def State.setVp (s : State) (n : Nat) (valid past : Bool) (seg off : Nat) : State :=
  let s := ((s.put .psq n PSQ_VP_SEG_VALID (bit valid)).put .psq n PSQ_VP_SEG seg).put .psq n PSQ_VP_OFF off
  s.setPsq n { s.psq n with vpOver := past }

/-- VP.OFF moves on by `d`. -/
def State.advanceVp (s : State) (n d : Nat) : State :=
  let o := s.vpOff n + d
  s.setVp n (s.vpValid n) (decide (2 ^ 32 ≤ o)) (s.vpSeg n) o

/-- Segment `i` of the loaded program, where its entry is valid (R188). -/
def State.segment (s : State) (n i : Nat) : Option Segment :=
  match (s.psq n).prog with
  | some p => (p.segs[i]?).join
  | none => none

/-- The segment VP names, where VP is valid and its OFF plus `d` lies in it (R193). -/
def State.vpSegment (s : State) (n d : Nat) : Option Segment :=
  if s.vpValid n then
    match s.segment n (s.vpSeg n) with
    | some g => if s.vpOff n + d ≤ g.lenM1 then some g else none
    | none => none
  else none

/-- VSET (R194). -/
def State.vsetFn (s : State) (n w : Nat) : State × Act :=
  let seg := natBits w 43 32
  let off := natBits w 31 0
  match s.segment n seg with
  | some g => if off ≤ g.lenM1 then (s.setVp n true false seg off, .next) else (s, .fault 4)
  | none => (s, .fault 4)

/-! ### Loops and calls -/

def State.loopDepth (s : State) (n : Nat) : Nat := s.fld .psq n PSQ_DEPTH_LOOP
def State.callDepth (s : State) (n : Nat) : Nat := s.fld .psq n PSQ_DEPTH_CALL

/-- The innermost loop entry is popped: entries at or above the depth read as zero. -/
def State.popLoop (s : State) (n : Nat) : State :=
  let i := s.loopDepth n - 1
  let o := fldOff .psq n PSQ_LOOP_START_PC i
  let s := (((s.wr o 0).wr (o + 4) 0).wr (o + 8) 0).wr (o + 12) 0
  let s := s.put .psq n PSQ_DEPTH_LOOP i
  s.setPsq n { s.psq n with loopVp := (s.psq n).loopVp.tail }

/-- `k` loop entries are popped. -/
def State.popLoops (s : State) (n : Nat) : Nat → State
  | 0 => s
  | k + 1 => (s.popLoop n).popLoops n k

/-- LOOP (R195). -/
def State.loopFn (s : State) (n w : Nat) : State × Act :=
  let d := s.loopDepth n
  if 16 ≤ d then (s, .fault 6)
  else
    let s := (s.putAt .psq n PSQ_LOOP_VPSAVE d (natBits w 48 48)).putAt .psq n PSQ_LOOP_START_PC d (s.fld .psq n PSQ_PC + 1)
    let s := s.putAt .psq n PSQ_LOOP_REMAIN_M1 d (natBits w 31 0)
    let s := (s.putAt .psq n PSQ_LOOP_VP_SEG d (s.vpSeg n)).putAt .psq n PSQ_LOOP_VP_OFF d (s.fld .psq n PSQ_VP_OFF)
    let x := s.psq n
    let s := s.setPsq n { x with loopVp := (s.vpValid n, x.vpOver) :: x.loopVp }
    (s.put .psq n PSQ_DEPTH_LOOP (d + 1), .next)

/-- ENDLOOP (R195). -/
def State.endloopFn (s : State) (n : Nat) : State × Act :=
  let d := s.loopDepth n
  if d = 0 then (s, .fault 7)
  else
    let i := d - 1
    let left := s.fldAt .psq n PSQ_LOOP_REMAIN_M1 i
    if left = 0 then (s.popLoop n, .next)
    else
      let s := (s.putAt .psq n PSQ_LOOP_REMAIN_M1 i (left - 1)).pcn n 0xC 1
      let (valid, past) := (s.psq n).loopVp.headD (false, false)
      let s :=
        if s.fldAt .psq n PSQ_LOOP_VPSAVE i = 1 then
          s.setVp n valid past (s.fldAt .psq n PSQ_LOOP_VP_SEG i) (s.fldAt .psq n PSQ_LOOP_VP_OFF i)
        else s
      (s, .jump (s.fldAt .psq n PSQ_LOOP_START_PC i))

/-- CALL (R196). -/
def State.callFn (s : State) (n w : Nat) : State × Act :=
  let d := s.callDepth n
  if 16 ≤ d then (s, .fault 8)
  else
    let s := (s.putAt .psq n PSQ_CALL_LOOP_DEPTH d (s.loopDepth n)).putAt .psq n PSQ_CALL_RET_PC d (s.fld .psq n PSQ_PC + 1)
    (s.put .psq n PSQ_DEPTH_CALL (d + 1), .jump (natBits w 23 0))

/-- RET (R196). -/
def State.retFn (s : State) (n : Nat) : State × Act :=
  let d := s.callDepth n
  if d = 0 then (s, .fault 9)
  else if s.fldAt .psq n PSQ_CALL_LOOP_DEPTH (d - 1) ≠ s.loopDepth n then (s, .fault 10)
  else
    let pc := s.fldAt .psq n PSQ_CALL_RET_PC (d - 1)
    ((s.wr (fldOff .psq n PSQ_CALL_RET_PC (d - 1)) 0).put .psq n PSQ_DEPTH_CALL (d - 1), .jump pc)

/-! ### Conditions and waits -/

/-- Whether something that waits for the last vector's resolution point has to wait now (R200, R271): the point lies ahead, or its
outcomes are still on their way. -/
def State.needWait (s : State) (n : Nat) : Bool :=
  let x := s.psq n
  !x.recent.isEmpty && (decide (x.t < resolution x.recent) || s.outcomesDue n)

/-- A condition of R198. -/
def State.condHolds (s : State) (n c : Nat) : Bool :=
  let act := s.activeSites n
  let failed : Nat → Bool := fun i => (s.site i).failed
  let matched : Nat → Bool := fun i => (s.site i).matchIter.isSome
  match c with
  | 0 => true
  | 1 => act.any failed
  | 2 => !act.isEmpty && act.all failed
  | 3 => !act.any failed
  | 4 => act.all matched
  | 5 => !act.any matched
  | _ => act.isEmpty

/-- JUMP (R197, R198). -/
def State.jumpFn (s : State) (n w : Nat) : State × Act :=
  let c := natBits w 55 52
  let lpop := natBits w 51 48
  if 6 < c then (s, .fault 2)
  else if c ≠ 0 ∧ s.needWait n then (s, .wait .resolve 6)
  else if !s.condHolds n c then (s, .next)
  else if s.loopDepth n < lpop then (s, .fault 7)
  else ((s.popLoops n lpop).pcn n 0xD 1, .jump (natBits w 23 0))

/-! ### MATCH -/

/-- MATCH begins (R199): each active site takes part, with no match yet. One that finds no active site emits nothing; VP.OFF still
advances by 1. -/
def State.matchFn (s : State) (n w : Nat) : State × Act :=
  let reg := natBits w 51 48
  let failTo := natBits w 52 52 == 1
  match s.vpSegment n 0 with
  | none => (s, .fault 5)
  | some _ =>
    let act := s.activeSites n
    let s := (s.sitesOf n).foldl (fun s i => s.setSite i { s.site i with matchIter := none, inMatch := act.contains i }) s
    let s := (s.put .psq n PSQ_MATCH_ITER 0).setPsq n { s.psq n with mtch := none }
    if act.isEmpty then (s.advanceVp n 1, .next)
    else (s, .emit ⟨0, natBits w 31 0 + 1, .iter reg failTo⟩)

/-- Whether every active site has matched and the iteration boundary at hand lies at or after the resolution point of the iteration in
which the last one did (R199). -/
def State.matchAll (s : State) (n : Nat) : Bool :=
  match (s.psq n).mtch with
  | some m => (s.activeSites n).all (fun i => (s.site i).matchIter.isSome) && decide (m.rp ≤ (s.psq n).t)
  | none => false

/-- Whether outcomes that have reached the condition logic by now are still to be delivered (R200). -/
def State.iterDue (s : State) (n : Nat) : Bool :=
  (s.sitesOf n).any fun i =>
    match s.nextOutcome n i with
    | some v => decide (v.rp ≤ (s.psq n).t)
    | none => false

/-! ### PAUSEPT, EPOCHWAIT, HALT -/

/-- A pause request is pending (R213). -/
def State.pauseAsked (s : State) (n : Nat) : Bool :=
  s.flag .psq n PSQ_PAUSE_STAT_HOST || s.flag .psq n PSQ_PAUSE_STAT_THROTTLE || s.flag .psq n PSQ_PAUSE_STAT_PAIRS

/-- The output reaches a PAUSEPT: sequencer-armed captures that wait for it become armed (R411). -/
def State.seqArm (s : State) (n id : Nat) : State :=
  (List.range 24).foldl (fun s b =>
    match (s.measOf b).cap with
    | some c =>
      if c.stage = .pending ∧ wordBits c.words 6 26 24 = n ∧ wordBits c.words 6 15 0 = id then
        (s.setMeas b { s.measOf b with cap := some { c with stage := .armed } }).put .acq b ACQ_CAP_STAT_STATE 2
      else s
    | none => s) s

/-- PAUSEPT (R213). -/
def State.pauseFn (s : State) (n w : Nat) : State × Act :=
  let id := natBits w 15 0
  let s := s.seqArm n id
  if s.pauseAsked n then ((s.put .psq n PSQ_PAUSE_STAT_LAST_ID id).int .psq n 4, .wait .pause 3) else (s, .next)

/-- The target of an EPOCHWAIT in cycles from τ0; negative where it lies before τ0 (R202). -/
def State.waitTarget (s : State) (n w : Nat) : Int :=
  if natBits w 48 48 = 1 then
    let f : Nat := s.fld .psq n PSQ_T0_F_LO + 2 ^ 32 * s.fld .psq n PSQ_T0_F_HI
    ((natBits w 47 0 : Int) - f) * s.frameN - s.fld .psq n PSQ_T0_P
  else natBits w 47 0

/-- EPOCHWAIT (R202). -/
def State.epochFn (s : State) (n w : Nat) : State × Act :=
  if natBits w 48 48 = 1 ∧ !s.epc.valid then (s, .fault 15)
  else
    let target := s.waitTarget n w
    if target ≤ (s.psq n).t then
      (((s.bump .psq n PSQ_LATEWAIT_COUNT PSQ_LATEWAIT_OVF).int .psq n 8).raiseOpen .psq n 7 1, .next)
    else if natBits w 49 49 = 1 ∧ (s.psq n).last.isSome then (s, .emit ⟨0, target.toNat - (s.psq n).t, .again target.toNat⟩)
    else (s, .wait (.epoch target.toNat) 6)

/-- HALT (R209): the burst's end is fixed; it ends once every vector before it has been applied. -/
def State.haltFn (s : State) (n : Nat) : State :=
  (s.put .psq n PSQ_STAT_RUNSTATE 8).setPsq n { s.psq n with ending := some (1, 0, 0) }

/-- RUN (R193): N_M1 + 1 vectors from VP on. -/
def runFn (w : Nat) : Act := .emit ⟨0, natBits w 31 0 + 1, .seg true none⟩

/-- The vendor opcode APG (R242). -/
def apgFn (w : Nat) : Act := .emit ⟨0, natBits w 31 0 + 1, .apg (natBits w 39 32) (natBits w 47 40) (natBits w 48 48 == 1) 0⟩

end Sys2Proof.Machine
end

