-- ==== Sys2Proof/Machine/Siteop.lean ====
section
/-! DEFINITION. SITEOP (R270 to R276): per-site register operations, outcome tests, masking and retirement from a program, the wait on
a measurement group, and substitution. -/

namespace Sys2Proof.Machine
open Sys2Proof Reg

/-! ### Sites acted on -/

/-- Whether a site's SF meets COND (R270). -/
def State.sfMeets (s : State) (c i : Nat) : Bool :=
  match c with
  | 1 => s.flag .site i SITE_STATE_SF
  | 2 => !s.flag .site i SITE_STATE_SF
  | _ => true

/-- The sites COND selects among the active ones (R270, R271). -/
def State.selected (s : State) (n c : Nat) : List Nat := (s.activeSites n).filter (s.sfMeets c)

/-- A SITEOP faults (R275): SFB_SOFAULT records cause, PSQ and PC. -/
def State.soFault (s : State) (n cause : Nat) : State × Act :=
  let s := (s.put .sfb 0 SFB_SOFAULT_CAUSE cause).put .sfb 0 SFB_SOFAULT_PSQ n
  (s.put .sfb 0 SFB_SOFAULT_PC (s.fld .psq n PSQ_PC), .fault 18)

/-- A SITEOP that waits for the last vector's resolution point, then acts (R271). -/
def State.afterWait (s : State) (n : Nat) (f : State → State × Act) : State × Act :=
  if s.needWait n then (s, .wait .resolve 6) else f s

/-! ### ALU, OUTCOME, STATE -/

/-- The value an ALU operation puts in D (R272). -/
def aluValue (op : Nat) (a b : Word) : Word :=
  match op with
  | 0 => b
  | 1 => a + b
  | 2 => a - b
  | 3 => a &&& b
  | 4 => a ||| b
  | 5 => a ^^^ b
  | 6 => a <<< (b.toNat % 32)
  | 7 => a >>> (b.toNat % 32)
  | 12 => if b.ult a then b else a
  | 13 => if a.ult b then b else a
  | _ => a &&& ~~~b

/-- The flag an ALU comparison gives (R272). -/
def aluFlag (op : Nat) (a b : Word) : Bool :=
  match op with
  | 8 => a.ult b
  | 9 => a.slt b
  | 10 => a == b
  | _ => a.getLsbD (b.toNat % 32)

/-- Whether an ALU operation writes SF rather than D. -/
def aluTests (op : Nat) : Bool := decide (8 ≤ op) && decide (op < 12)

/-- ALU at one site. -/
def State.aluSite (s : State) (w i : Nat) : State :=
  let op := natBits w 43 40
  let a := BitVec.ofNat 32 (s.siteReg i (natBits w 35 32))
  let b := if natBits w 48 48 = 1 then BitVec.ofNat 32 (natBits w 31 0) else BitVec.ofNat 32 (s.siteReg i (natBits w 3 0))
  if aluTests op then s.put .site i SITE_STATE_SF (bit (aluFlag op a b))
  else s.setSiteReg i (natBits w 39 36) (aluValue op a b).toNat

/-- SITEOP ALU (R272). -/
def State.aluFn (s : State) (n w : Nat) : State × Act :=
  s.afterWait n fun s =>
    if natBits w 50 49 = 3 ∨ natBits w 43 40 = 15 then s.soFault n 1
    else ((s.selected n (natBits w 50 49)).foldl (fun s i => s.aluSite w i) s, .next)

/-- SITEOP OUTCOME (R270). -/
def State.outcomeFn (s : State) (n w : Nat) : State × Act :=
  s.afterWait n fun s =>
    if natBits w 50 49 = 3 then s.soFault n 1
    else
      ((s.selected n (natBits w 50 49)).foldl (fun s i =>
        let s := s.put .site i SITE_STATE_SF (s.fld .site i SITE_STATE_LF)
        if natBits w 48 48 = 1 then s.put .site i SITE_STATE_LF 0 else s) s, .next)

/-- SITEOP STATE (R271, R273): UNMASK selects masked sites that are not retired. -/
def State.stateFn (s : State) (n w : Nat) : State × Act :=
  s.afterWait n fun s =>
    let c := natBits w 50 49
    let op := natBits w 43 40
    if c = 3 ∨ 2 < op then s.soFault n 1
    else
      let masked := (s.sitesOf n).filter fun i => s.siteMasked i && !s.siteRetired i && s.sfMeets c i
      match op with
      | 0 => ((s.selected n c).foldl (fun s i => s.maskNow i true) s, .next)
      | 1 => (masked.foldl (fun s i => s.maskNow i false) s, .next)
      | _ => ((s.selected n c).foldl (fun s i => s.retireNow i 2) s, .next)

/-! ### MWAIT -/

/-- SITEOP MWAIT (R274). -/
def State.mwaitFn (s : State) (n w : Nat) : State × Act :=
  let g := natBits w 39 32
  if s.outstanding n g then (s, .wait (.mwait g ((s.psq n).t + natBits w 31 0 + 1)) 6) else (s, .next)

/-! ### SUBST -/

/-- Why a descriptor cannot be used by a PSQ for `total` symbols (R275, R276): 2 invalid or not owned, 3 a pin mask beyond the width,
4 the static range. -/
def State.descFault (s : State) (n d total : Nat) : Option Nat :=
  let w4 := s.descWord d 4
  let w5 := s.descWord d 5
  if !w4.getLsbD 31 || bitsOf w5 22 20 != n then some 2
  else if 2 ^ (32 * (s.fld .psq n PSQ_STAT_LW + 1)) ≤ s.descMask d then some 3
  else if s.descReg d then (if 0 < total ∧ (s.descBit d (total - 1)).isNone then some 4 else none)
  else if !w5.getLsbD 31 && decide (4096 < bitsOf w5 11 0 + ceilDiv total 4) then some 4
  else none

/-- OFF′ of a site (R276). -/
def State.ovlOff (s : State) (d i : Nat) : Nat :=
  let w5 := s.descWord d 5
  bitsOf w5 11 0 + (if w5.getLsbD 31 then s.siteReg i (bitsOf w5 27 24) % 4096 else 0)

/-- A site fails the overlay range check and is retired (R276, R280, R284). -/
def State.ovlRange (s : State) (i : Nat) : State :=
  let s := (s.retireNow i 5).put .site i SITE_STATE_OVL_RANGE 1
  (s.int .site i 1).raiseOpen .site i 2 1

/-- SUBST acts on its descriptor once any wait is over: the values captured, and its vectors. -/
def State.substGo (s : State) (n w : Nat) : State × Act :=
  let d := natBits w 39 35
  let count := natBits w 31 0 + 1
  let total := count * onesIn 128 (s.descMask d)
  match s.descFault n d total with
  | some c => s.soFault n c
  | none =>
    if s.descReg d then
      if natBits w 50 49 = 3 then s.soFault n 1
      else
        let vals := (s.selected n (natBits w 50 49)).map fun i => (i, s.siteReg i (bitsOf (s.descWord d 4) 27 24))
        (s, .emit ⟨0, count, .seg true (some ⟨d, 0, vals⟩)⟩)
    else
      let fits : Nat → Bool := fun i => decide (s.ovlOff d i + ceilDiv total 4 ≤ 4096)
      let sites := (s.sitesOf n).filter fun i => !s.siteRetired i
      let vals := (sites.filter fits).map fun i => (i, s.ovlOff d i)
      ((sites.filter fun i => !fits i).foldl (fun s i => s.ovlRange i) s, .emit ⟨0, count, .seg true (some ⟨d, 0, vals⟩)⟩)

/-- SITEOP SUBST (R271, R276): one with a register source waits first. -/
def State.substFn (s : State) (n w : Nat) : State × Act :=
  if s.descReg (natBits w 39 35) then s.afterWait n fun s => s.substGo n w else s.substGo n w

/-- The subcode of a SITEOP (R270). -/
def subOf (w : Nat) : Nat := natBits w 47 44

/-- SITEOP (R270, R275). -/
def State.siteopFn (s : State) (n w : Nat) : State × Act :=
  match subOf w with
  | 0 => s.substFn n w
  | 1 => s.aluFn n w
  | 2 => s.outcomeFn n w
  | 3 => s.stateFn n w
  | 4 => s.mwaitFn n w
  | _ => s.soFault n 1

/-- What a function does (R192, R237). HALT is no case of its own here: it ends the burst, and what follows never acts. -/
def State.fn (s : State) (n w : Nat) (f : Func) : State × Act :=
  match f with
  | .nop => (s, .next)
  | .run => (s, runFn w)
  | .vset => s.vsetFn n w
  | .loop => s.loopFn n w
  | .endloop => s.endloopFn n
  | .jump => s.jumpFn n w
  | .call => s.callFn n w
  | .ret => s.retFn n
  | .matchVec => s.matchFn n w
  | .pausept => s.pauseFn n w
  | .epochwait => s.epochFn n w
  | .siteop => s.siteopFn n w
  | .apg => (s, apgFn w)
  | .halt => (s.haltFn n, .jump (s.fld .psq n PSQ_PC))

end Sys2Proof.Machine
end

