-- ==== Sys2Proof/Machine/Burst.lean ====
section
/-! DEFINITION. A burst under way: fetching instructions (R191, R192, R197), pattern faults (R222), asynchronous jumps (R224, R225),
stalls (R203, R215 to R220), the vectors a sequencer emits, and the vendor opcodes. -/

namespace Sys2Proof.Machine
open Sys2Proof Reg

/-! ### Ends and faults -/

/-- Whether a burst goes on: its first vector period has begun and no event has fixed its end. -/
def State.bursting (s : State) (n : Nat) : Bool := s.psqBurst n && (s.psq n).ending.isNone

/-- A pattern fault fixes the burst's end (R222, R227). -/
def State.patternFault (s : State) (n code : Nat) : State :=
  let s := s.setPsq n { s.psq n with ending := some (2, code, 0), emit := none, micro := none, hold := .none }
  let s := (s.put .psq n PSQ_FAULT_PC (s.fld .psq n PSQ_PC)).put .psq n PSQ_STAT_RUNSTATE 8
  let s := (s.taintAll n 2).int .psq n 6
  let s := if s.raisedOnce n 1 then s else (s.noteRaised n 1).raiseOpen .psq n 1 3
  s.stopCond n 0

/-- Whether a stop request ends the burst at the boundary at hand (R210, R214): received at least 8 cycles before it, or any at all
while the sequencer is paused. -/
def State.stopDue (s : State) (n : Nat) : Bool :=
  let x := s.psq n
  match x.hold with
  | .none => x.stops.any fun r => decide (r.pos + 8 ≤ x.t)
  | .pause => !x.stops.isEmpty
  | _ => x.stops.any fun r => decide (r.pos + 8 ≤ max x.t (s.sinceT0 n))

/-! ### Asynchronous jumps -/

/-- The front end discards what it had issued beyond the boundary. With 128 cycles' notice before the last vector's period no decode
stall follows; with less, the spec does not say how many slots are in hand: a free value (R225). -/
def State.reissue (s : State) (n : Nat) : State :=
  let x := s.psq n
  if x.ajT + 128 ≤ x.now then s else (s.setPsq n { x with slots := (s.freeVal % 33 : Nat) }).drawn

/-- The output stands at a segment boundary: a request received before the last vector's period began is taken (R224, R225). -/
def State.takeAjump (s : State) (n : Nat) : State :=
  let x := s.psq n
  if !x.atEnd then s
  else
    let s := s.setPsq n { x with atEnd := false }
    if s.flag .psq n PSQ_AJUMP_VALID && decide (x.ajAt < s.vcount n) then
      let s := (s.put .psq n PSQ_AJUMP_VALID 0).put .psq n PSQ_STAT_AJ_PEND 0
      let s := (s.int .psq n 9).pcn n 0xD 1
      if s.loopDepth n < s.fld .psq n PSQ_AJUMP_LPOP then s.patternFault n 7
      else
        let s := (s.popLoops n (s.fld .psq n PSQ_AJUMP_LPOP)).put .psq n PSQ_PC (s.fld .psq n PSQ_AJUMP_TARGET)
        let y := s.psq n
        let s := s.setPsq n { y with
          emit := none, micro := none
          mtch := y.mtch.map fun m => if m.ended then m else { m with ended := true, limit := true } }
        (s.finishMatch n).reissue n
    else s

/-! ### Instructions -/

/-- What a fetch of the instruction at PC gives (R197, R221). -/
inductive Fetched where
  | word (w : Nat)
  | fault (code : Nat)
  | miss (block : Nat)
  deriving DecidableEq, Repr

/-- The fault a vector-cache read stands for. -/
def Got.fetched : Got → Fetched
  | .bytes bs => .word (leNat bs)
  | .unwritten => .fault 13
  | .bad => .fault 14
  | .miss b => .miss b

/-- The instruction at PC. -/
def State.fetchPc (s : State) (n : Nat) : Fetched :=
  let pc := s.fld .psq n PSQ_PC
  match (s.psq n).prog with
  | none => .fault 3
  | some p => if p.len ≤ pc then .fault 3 else (s.fetchInstr n p pc).fetched

/-- An instruction is complete at the output, and `pc` is next. -/
def State.instrDone (s : State) (n pc : Nat) : State :=
  let s := s.put .psq n PSQ_PC pc
  (s.setPsq n { s.psq n with completed := (s.psq n).completed + 1 }).pcn n 8 1

/-- One microword takes one issue slot (R203, R230). -/
def State.takeSlot (s : State) (n : Nat) : State :=
  (s.setPsq n { s.psq n with slots := (s.psq n).slots - 1 }).pcn n 9 1

/-- How a vendor instruction ends. -/
def State.vendorEnd (s : State) (n : Nat) : Act → State
  | .next => s.instrDone n (s.fld .psq n PSQ_PC + 1)
  | .jump pc => s.instrDone n pc
  | .emit e => s.setPsq n { s.psq n with emit := some e }
  | .wait h rs => (s.put .psq n PSQ_STAT_RUNSTATE rs).setPsq n { s.psq n with hold := h }
  | .fault c => s.patternFault n c

/-- The function an instruction's opcode names for the vendor rows: none for a customer opcode; ILLEGAL_OP without a microroutine
(R192, R252). -/
def State.vendorFunc (s : State) (n w : Nat) : Option (Option Func) :=
  if 0xC0 ≤ opcodeOf w then none
  else if s.flag .mce n MCE_STAT_VENDOR_VALID then some (opFunc (opcodeOf w)) else some none

/-! ### Stalls -/

/-- A decode stall is counted once (R203). -/
def State.countDecode (s : State) (n : Nat) : State :=
  let x := s.psq n
  if x.decoding then s
  else ((s.setPsq n { x with decoding := true }).bump .psq n PSQ_DECODE_COUNT PSQ_DECODE_OVF).pcn n 0xA 1

/-- A stall in a pausable segment is counted, signalled and raised once per burst (R217). -/
def State.countStall (s : State) (n : Nat) : State :=
  let s := (s.bump .psq n PSQ_STALLS_COUNT PSQ_STALLS_OVF).int .psq n 10
  if s.raisedOnce n 4 then s else (s.noteRaised n 4).raiseOpen .psq n 4 1

/-- The output needs an item that is not ready, under an attribute (R217, R218). -/
def State.stallData (s : State) (n : Nat) (pausable : Bool) : State :=
  if pausable then
    let s := (s.countStall n).put .psq n PSQ_STAT_RUNSTATE 4
    s.setPsq n { s.psq n with hold := .stall }
  else s.holdVector n false

/-- The emitting instruction has not issued when its vector is due (R203, R220): in a pausable segment the vector begins in the first
cycle after it does. -/
def State.stallDecode (s : State) (n : Nat) (pausable : Bool) : State :=
  let s := s.countDecode n
  if pausable then
    let s := (s.countStall n).raiseDecode n 1
    (s.put .psq n PSQ_STAT_RUNSTATE 4).delay n ((1 - (s.psq n).slots).toNat / 2)
  else s.holdVector n true

/-- The attribute of a stall for an item that is no vector (R216). -/
def State.stallAttr (s : State) (n : Nat) : Bool := ((s.psq n).lastPause).getD true

/-- The missing block is asked for, and the output stalls (R215). -/
def State.stallMiss (s : State) (n block : Nat) (pausable : Bool) : State := (s.missed n block).stallData n pausable

/-! ### Emission -/

/-- A list of 9-byte vector words: their symbols as one number, word 0 lowest, and their timing sets (R184 to R186, R286). -/
def wordsOf : Nat → List Byte → Nat × List Nat
  | 0, _ => (0, [])
  | k + 1, bs =>
    let (syms, tss) := wordsOf k (bs.drop 9)
    (leNat (bs.take 8) + 2 ^ 64 * syms, (bs.getD 8 0).toNat :: tss)

/-- The stage of a microword after vectors: its operations come after those of its VSRC, its next-address control after those of a
function (R238). -/
def afterVectors : EmitSrc → MicroStage
  | .seg _ none | .apg _ _ _ _ => .ops
  | _ => .next

/-- The emission at hand is over: VP moves on where the function advances it, and the instruction, or its microword, goes on. -/
def State.emitDone (s : State) (n : Nat) (e : Emit) : State :=
  let s := match e.src with
    | .seg true _ => s.advanceVp n e.count
    | _ => s
  let s := s.setPsq n { s.psq n with emit := none }
  match (s.psq n).micro with
  | some m => s.setPsq n { s.psq n with micro := some { m with stage := afterVectors e.src } }
  | none => s.instrDone n (s.fld .psq n PSQ_PC + 1)

/-- One vector of an emission has been emitted; `src` is what the next ones are taken from. -/
def State.emitStep (s : State) (n : Nat) (e : Emit) (src : EmitSrc) : State :=
  let e : Emit := ⟨e.done + 1, e.count, src⟩
  let ends := match src with
    | .seg _ _ | .apg _ _ _ _ => true
    | _ => false
  if ends && decide (e.count ≤ e.done) then s.emitDone n e else s.setPsq n { s.psq n with emit := some e }

/-- The vector cache is used for a vector: the blocks it lies in are the most recently used, and counted as hits (R255, R312). -/
def State.useVector (s : State) (n : Nat) (g : Segment) (v : Nat) : State :=
  let blocks := ((List.range (g.wM1 + 1)).map fun w => g.slotVa ((g.wM1 + 1) * v + w) / 64).eraseDups
  (blocks.foldl (fun s b => s.touchLine n b) s).pcn n 0xF blocks.length

/-- A vector of a segment is due: emitted, or a fault or a stall (R159, R186, R215, R221). -/
def State.segVector (s : State) (n : Nat) (g : Segment) (off : Nat) (iter : Option Nat) (sub : Option SubRun)
    (after : State → State) : State :=
  match s.fetchVector n g off with
  | .miss b => s.stallMiss n b g.pausable
  | .unwritten => s.patternFault n 13
  | .bad => s.patternFault n 14
  | .bytes bs =>
    let (syms, tss) := wordsOf (g.wM1 + 1) bs
    let ts := tss.headD 0
    if tss.any fun t => t != ts then s.patternFault n 12
    else if !s.periodV n ts then s.patternFault n 11
    else
      let s := (s.useVector n g off).emitVector n ⟨syms, ts, none, s.vpSeg n, off, iter, some g.pausable, sub⟩
      after (s.setPsq n { s.psq n with missed := none, atEnd := sub.isNone && off == g.lenM1 })

/-- A vector from VP on is due (R193). -/
def State.emitSeg (s : State) (n : Nat) (e : Emit) (adv : Bool) (sub : Option SubRun) : State :=
  match s.vpSegment n e.done with
  | none => s.patternFault n 5
  | some g =>
    s.segVector n g (s.vpOff n + e.done) none (sub.map fun r => { r with index := e.done }) fun s => s.emitStep n e (.seg adv sub)

/-- A vector of the APG is due (R242, R247). -/
def State.emitApg (s : State) (n : Nat) (e : Emit) (step ts : Nat) (cont : Bool) (phase : Nat) : State :=
  let w := s.step64 n step
  let bad := if e.done = 0 then stepFault w else none
  match bad with
  | some c => (s.apgFault n c step).patternFault n 17
  | none =>
    if !s.periodV n ts then s.patternFault n 11
    else
      match s.assemble n (natBits w 60 59) ((natBits w 58 55 + phase) % 16) with
      | none => (s.apgFault n 3 step).patternFault n 17
      | some syms =>
        let s := s.put .apg n APG_STAT_PHASE phase
        let info := (s.genAddr n false, s.genAddr n true, phase)
        let s := s.emitVector n ⟨syms, ts, some info, 0, 0, none, some !cont, none⟩
        let s := s.setPsq n { s.psq n with atEnd := false }
        let (s, phase) := s.apgAdvance n w phase
        s.emitStep n e (.apg step ts cont phase)

/-- The record of a MATCH after one more iteration. -/
def State.noteIter (s : State) (n reg : Nat) (failTo : Bool) (it : Nat) : State :=
  let x := s.psq n
  let s := s.put .psq n PSQ_MATCH_ITER it
  match x.mtch, x.vecs.getLast? with
  | some m, _ => s.setPsq n { x with mtch := some { m with iters := it } }
  | none, some v => s.setPsq n { x with mtch := some ⟨reg, failTo, v, it, false, false, 0⟩ }
  | none, none => s

/-- An iteration of a MATCH is due: it waits for outcomes that have reached the condition logic, and for MATCH_END once the MATCH is
over (R199). -/
def State.emitIter (s : State) (n : Nat) (e : Emit) (reg : Nat) (failTo : Bool) : State :=
  if s.iterDue n || s.matchAll n || decide (e.count ≤ e.done) then s
  else
    match s.vpSegment n 0 with
    | none => s.patternFault n 5
    | some g =>
      s.segVector n g (s.vpOff n) (some (e.done + 1)) none fun s =>
        (s.noteIter n reg failTo (e.done + 1)).emitStep n e (.iter reg failTo)

/-- A repetition of the last vector is due, up to the target (R202). -/
def State.emitAgain (s : State) (n : Nat) (e : Emit) (target : Nat) : State :=
  match (s.psq n).last with
  | some l =>
    if target ≤ (s.psq n).t then s
    else
      let s := s.emitVector n ⟨l.syms, l.ts, l.apg, l.seg, l.off, none, none, l.sub⟩
      (s.setPsq n { s.psq n with atEnd := false }).emitStep n e (.again target)
  | none => s

/-- The next vector of the emission at hand is due. -/
def State.emitNext (s : State) (n : Nat) (e : Emit) : State :=
  match e.src with
  | .seg adv sub => s.emitSeg n e adv sub
  | .apg step ts cont phase => s.emitApg n e step ts cont phase
  | .iter reg failTo => s.emitIter n e reg failTo
  | .again target => s.emitAgain n e target

/-- VECTOR_PERIOD (R157): the next period of a burst is due. A vector begins, or the output stalls, or a hold vector is sent. -/
def vectorPeriod (n : Nat) (s : State) : State :=
  if !(s.bursting n && decide ((s.psq n).hold = .none) && !s.stopDue n) then s
  else
    let s := s.takeAjump n
    if !s.bursting n then s
    else
      match (s.psq n).emit with
      | some e => if (s.psq n).slots < 0 then s.stallDecode n (s.stallAttr n) else s.emitNext n e
      | none =>
        if (s.psq n).micro.isSome then s
        else
          match s.fetchPc n with
          | .miss b => s.stallMiss n b (s.stallAttr n)
          | _ => s

def execVectorPeriod (n : Fin 8) (s : State) : Host.Outcome State Fault Refusal := done (vectorPeriod n.val s)

/-! ### Vendor opcodes -/

/-- The next instruction of a PSQ acts, where it is the one that `f` names (and for SITEOP has the subcode `sub`). An instruction that
cannot be fetched faults or stalls; one without a microroutine is ILLEGAL_OP. -/
def State.asOp (s : State) (n : Nat) (f : Func) (sub : Option Nat) : State :=
  if !(s.bursting n && decide ((s.psq n).hold = .none) && (s.psq n).emit.isNone && (s.psq n).micro.isNone) then s
  else
    let s := s.takeAjump n
    if !s.bursting n then s
    else
      match s.fetchPc n with
      | .fault c => s.patternFault n c
      | .miss b => s.stallMiss n b (s.stallAttr n)
      | .word w =>
        match s.vendorFunc n w with
        | none => s
        | some none => s.patternFault n 1
        | some (some g) =>
          if g = f ∧ (sub.isNone ∨ sub = some (subOf w) ∨ (4 < subOf w)) then
            let (s, a) := (s.takeSlot n).fn n w f
            s.vendorEnd n a
          else s

def execNop (n : Fin 8) (s : State) : Host.Outcome State Fault Refusal := done (s.asOp n.val .nop none)
def execRun (n : Fin 8) (s : State) : Host.Outcome State Fault Refusal := done (s.asOp n.val .run none)
def execVset (n : Fin 8) (s : State) : Host.Outcome State Fault Refusal := done (s.asOp n.val .vset none)
def execLoop (n : Fin 8) (s : State) : Host.Outcome State Fault Refusal := done (s.asOp n.val .loop none)
def execEndloop (n : Fin 8) (s : State) : Host.Outcome State Fault Refusal := done (s.asOp n.val .endloop none)
def execJump (n : Fin 8) (s : State) : Host.Outcome State Fault Refusal := done (s.asOp n.val .jump none)
def execCall (n : Fin 8) (s : State) : Host.Outcome State Fault Refusal := done (s.asOp n.val .call none)
def execRet (n : Fin 8) (s : State) : Host.Outcome State Fault Refusal := done (s.asOp n.val .ret none)
def execMatchVec (n : Fin 8) (s : State) : Host.Outcome State Fault Refusal := done (s.asOp n.val .matchVec none)
def execPausept (n : Fin 8) (s : State) : Host.Outcome State Fault Refusal := done (s.asOp n.val .pausept none)
def execEpochwait (n : Fin 8) (s : State) : Host.Outcome State Fault Refusal := done (s.asOp n.val .epochwait none)
def execApg (n : Fin 8) (s : State) : Host.Outcome State Fault Refusal := done (s.asOp n.val .apg none)
def execHalt (n : Fin 8) (s : State) : Host.Outcome State Fault Refusal := done (s.asOp n.val .halt none)
def execSubst (n : Fin 8) (s : State) : Host.Outcome State Fault Refusal := done (s.asOp n.val .siteop (some 0))
def execAlu (n : Fin 8) (s : State) : Host.Outcome State Fault Refusal := done (s.asOp n.val .siteop (some 1))
def execOutcome (n : Fin 8) (s : State) : Host.Outcome State Fault Refusal := done (s.asOp n.val .siteop (some 2))
def execSiteState (n : Fin 8) (s : State) : Host.Outcome State Fault Refusal := done (s.asOp n.val .siteop (some 3))

end Sys2Proof.Machine
end

