-- ==== Sys2Proof/Machine/Micro.lean ====
section
/-! DEFINITION. Customer opcodes (R228 to R238, R255): the open area of a control store, microwords and nanowords, and how a burst goes
on after a wait, a pause, an EPOCHWAIT, a stall or a MATCH. -/

namespace Sys2Proof.Machine
open Sys2Proof Reg

/-! ### The open area -/

def State.mceOf (s : State) (n : Nat) : MceSt := mapGet (fun _ => MceSt.empty) s.mces n
def State.setMce (s : State) (n : Nat) (v : MceSt) : State := { s with mces := mapSet (fun _ => MceSt.empty) s.mces n v }

/-- Word `i` of the user image in a control store (R248). -/
def State.userWord (s : State) (n i : Nat) : Word :=
  match (s.mceOf n).user with
  | .words ws => ws.getD i 0
  | _ => 0

/-- The dispatch entry of a customer opcode (R229). -/
def State.dispatch (s : State) (n op : Nat) : Nat := (s.userWord n (16 + (op - 0xC0))).toNat

/-- The microword at an open micro address (R231). -/
def State.microword (s : State) (n u : Nat) : Nat := (s.userWord n (80 + (u - 12288))).toNat % 2 ^ 20

/-- The nanoword at an open nano address, as one number (R235). -/
def State.nanoword (s : State) (n a : Nat) : Nat :=
  ((List.range 6).map fun w => (s.userWord n (4176 + 6 * (a - 1536) + w)).toNat * 2 ^ (32 * w)).foldr (· + ·) 0

/-- The nanoword of the microword at hand. -/
def State.nano (s : State) (n : Nat) (m : Micro) : Nat := s.nanoword n (natBits (s.microword n m.u) 10 0)

/-- UCNT (R233). -/
def State.ucnt (s : State) (n : Nat) : Nat := s.fld .mce n MCE_UCNT
def State.setUcnt (s : State) (n v : Nat) : State := s.put .mce n MCE_UCNT v

/-! ### Starting a microroutine -/

/-- Whether a PSQ's front end can act now. -/
def State.frontFree (s : State) (n : Nat) : Bool :=
  s.bursting n && decide ((s.psq n).hold = .none) && (s.psq n).emit.isNone

/-- The instruction of a customer opcode, while its microroutine runs. -/
def State.instr (s : State) (n : Nat) : Nat :=
  match s.fetchPc n with
  | .word w => w
  | _ => 0

/-- The next instruction is taken where it is a customer opcode and no microroutine runs (R229). -/
def State.microBegin (s : State) (n : Nat) : State :=
  if !s.frontFree n || (s.psq n).micro.isSome then s
  else
    let s := s.takeAjump n
    if !s.bursting n then s
    else
      match s.fetchPc n with
      | .fault c => s.patternFault n c
      | .miss b => s.stallMiss n b (s.stallAttr n)
      | .word w =>
        if opcodeOf w < 0xC0 then s
        else
          let d := s.dispatch n (opcodeOf w)
          if s.flag .mce n MCE_STAT_USER_VALID && natBits d 31 31 == 1 then
            s.setPsq n { s.psq n with micro := some ⟨natBits d 13 0, 0, .first, none⟩ }
          else s.patternFault n 1

def State.setStage (s : State) (n : Nat) (m : Micro) (st : MicroStage) : State :=
  s.setPsq n { s.psq n with micro := some { m with stage := st } }

/-! ### Stages of a microword -/

/-- The LDSRC value (R235). -/
def State.ldsrc (s : State) (n w nw : Nat) : Nat :=
  match natBits nw 120 119 with
  | 0 => natBits w 31 0
  | 1 => natBits nw 118 87
  | _ => s.ucnt n

/-- The value PCN_RD loads (R255): a counter's, PCN_CYCLE's words, or zero; in the open area only with USER_EN. -/
def State.pcnRead (s : State) (n sel : Nat) : Nat :=
  if sel < 8 then s.fldAt .pcn n PCN_CNT_LO sel
  else if sel = 8 then s.fld .pcn n PCN_CYCLE_LO
  else if sel = 9 then s.fld .pcn n PCN_CYCLE_HI
  else 0

/-- PCN_RD in the open area (R255, R257). -/
def State.pcnRd (s : State) (n sel : Nat) : State :=
  if s.flag .pcn n PCN_CTRL_USER_EN then s.setUcnt n (s.pcnRead n sel)
  else
    let s := s.setUcnt n 0
    if s.raisedOnce n 6 then s else (s.noteRaised n 6).raiseOpen .pcn n 1 1

/-- A load function (R237); other functions do nothing here. -/
def State.loadFn (s : State) (n w nw : Nat) : State :=
  let v := s.ldsrc n w nw
  match natBits nw 177 172 with
  | 0x10 => s.setUcnt n v
  | 0x11 => s.setIndex n false (v % (s.genLimit n false + 1))
  | 0x12 => s.setIndex n true (v % (s.genLimit n true + 1))
  | 0x13 => s.setData n 0 (BitVec.ofNat 64 v)
  | 0x14 => s.setData n 1 (BitVec.ofNat 64 v)
  | 0x15 => s.setData n 2 (BitVec.ofNat 64 v)
  | 0x16 => s.setData n 3 (BitVec.ofNat 64 v)
  | 0x18 => s.pcnRd n (natBits nw 90 87)
  | _ => s

/-- Whether a nanoword holds a reserved encoding (R236, R237). -/
def nanoBad (nw : Nat) : Bool :=
  let f := natBits nw 177 172
  decide (2 < natBits nw 171 169) || natBits nw 165 164 == 3 || decide (1 < natBits nw 163 162) || natBits nw 120 119 == 3
    || !(decide (f ≤ 0x0B) || (decide (0x10 ≤ f) && decide (f ≤ 0x16)) || f == 0x18)

/-- A microword begins: it takes its slot, beyond its bound it is a fault (R230); reserved fields fault; its load function acts. -/
def State.microFirst (s : State) (n : Nat) (m : Micro) : State :=
  let w := s.instr n
  let nw := s.nano n m
  if natBits (s.dispatch n (opcodeOf w)) 28 24 + 1 ≤ m.used then s.patternFault n 16
  else if nanoBad nw then s.patternFault n 16
  else if badOps (natBits nw 144 141) (natBits nw 140 137) (natBits nw 136 121) then
    (s.apgFault n 2 (natBits nw 152 145)).patternFault n 17
  else ((s.takeSlot n).loadFn n w nw).setStage n { m with used := m.used + 1 } .loaded

/-- The vectors of a microword (R236, R242). -/
def State.microVectors (s : State) (n : Nat) (m : Micro) : State :=
  let w := s.instr n
  let nw := s.nano n m
  let count := match natBits nw 168 167 with
    | 0 => 1
    | 1 => natBits w 31 0 + 1
    | 2 => s.ucnt n + 1
    | _ => natBits nw 118 87 + 1
  let ts := if natBits nw 163 162 = 0 then natBits nw 161 154 else natBits w 47 40
  let step := if natBits nw 153 153 = 0 then natBits nw 152 145 else natBits w 39 32
  let cont := match natBits nw 165 164 with
    | 0 => natBits w 48 48 == 1
    | k => k == 2
  match natBits nw 171 169 with
  | 0 => s.setStage n m .ops
  | 1 => s.setPsq n { s.psq n with emit := some ⟨0, count, .seg (natBits nw 166 166 == 1) none⟩ }
  | _ => s.setPsq n { s.psq n with emit := some ⟨0, count, .apg step ts cont 0⟩ }

/-- XOP, YOP and DOP of a microword, where any is not HOLD: an application first clears the carries (R239). -/
def State.microOps (s : State) (n : Nat) (m : Micro) : State :=
  let nw := s.nano n m
  let x := natBits nw 144 141
  let y := natBits nw 140 137
  let d := natBits nw 136 121
  (s.applyOps n x y d).setStage n m .func

/-- A microroutine ends, and `pc` is next. -/
def State.microDone (s : State) (n pc : Nat) : State := (s.setPsq n { s.psq n with micro := none }).instrDone n pc

/-- The PC after a microroutine that no function has ended: what an ENDLOOP set, else the next instruction. -/
def State.pcAfter (s : State) (n : Nat) (m : Micro) : Nat := m.nextPc.getD (s.fld .psq n PSQ_PC + 1)

/-- The function of a FUNC value (R237). -/
def funcOf : Nat → Option Func
  | 0x01 => some .vset
  | 0x02 => some .loop
  | 0x03 => some .endloop
  | 0x04 => some .jump
  | 0x05 => some .call
  | 0x06 => some .ret
  | 0x07 => some .matchVec
  | 0x08 => some .pausept
  | 0x09 => some .epochwait
  | 0x0A => some .siteop
  | 0x0B => some .halt
  | _ => none

/-- Whether a function ends its microroutine (R237). -/
def endsMicro (f : Func) : Bool := f == .jump || f == .call || f == .ret || f == .halt

/-- The function of a microword (R237, R238). -/
def State.microFunc (s : State) (n : Nat) (m : Micro) : State :=
  match funcOf (natBits (s.nano n m) 177 172) with
  | none => s.setStage n m .next
  | some f =>
    let (s, a) := s.fn n (s.instr n) f
    match a with
    | .next => if endsMicro f then s.microDone n (s.pcAfter n m) else s.setStage n m .next
    | .jump pc => if endsMicro f then s.microDone n pc else s.setStage n { m with nextPc := some pc } .next
    | .emit e => s.setPsq n { s.psq n with emit := some e }
    | .wait h rs => (s.put .psq n PSQ_STAT_RUNSTATE rs).setPsq n { s.psq n with hold := h }
    | .fault c => s.patternFault n c

/-- Whether a condition of a microword holds; the Outcome class follows JUMP.COND (R234). -/
def State.microCond (s : State) (n w c : Nat) : Bool :=
  if c = 0 then true
  else if c ≤ 8 then w.testBit (47 + c)
  else
    match c with
    | 9 => natBits w 31 0 == 0
    | 10 => s.ucnt n == 0
    | 11 => s.carry n false
    | 12 => s.carry n true
    | 13 => s.genIndex n false == s.genLimit n false
    | 14 => s.genIndex n true == s.genLimit n true
    | 21 => s.loopDepth n == 0
    | 22 => s.callDepth n == 0
    | 23 => s.epc.valid
    | c => s.condHolds n (c - 14)

/-- An APG condition: the next vector's period begins no earlier than 4 cycles after the output has finished the vectors before it
(R234). -/
def State.apgWait (s : State) (n : Nat) : State :=
  let x := s.psq n
  let ended := match x.recent with
    | (st, p) :: _ => st + p
    | [] => 0
  s.delay n (ended + 4 - x.t)

/-- The next-address control of a microword, its condition settled (R232, R233). -/
def State.microSeq (s : State) (n : Nat) (m : Micro) (seq ubr : Nat) (holds : Bool) : State :=
  let go : State → Nat → Bool → State := fun s u taken =>
    let flow := !taken && (m.u == 12287 || m.u == 16383)
    if flow || (taken && decide ((m.u < 12288) ≠ (u < 12288))) then s.patternFault n 16
    else
      let s := if taken then s.pcn n 0xB 1 else s
      s.setStage n { m with u := u } .first
  let step := go s (m.u + 1) false
  let branch := go s ubr true
  let finish := s.microDone n (s.pcAfter n m)
  match seq with
  | 0 => step
  | 1 => if holds then branch else step
  | 2 => if holds then step else branch
  | 3 => if s.ucnt n = 0 then step else go (s.setUcnt n (s.ucnt n - 1)) ubr true
  | 4 => finish
  | 5 => if holds then finish else step
  | 6 => if holds then finish else branch
  | _ => s.patternFault n 16

/-- The last act of a microword: its condition is evaluated, after the wait of its class, and its next-address control acts
(R232, R234). -/
def State.microNext (s : State) (n : Nat) (m : Micro) : State :=
  let mw := s.microword n m.u
  let seq := natBits mw 19 17
  let c := natBits mw 16 11
  let ubr := natBits (s.nano n m) 191 178
  let uses := seq == 1 || seq == 2 || seq == 5 || seq == 6
  if !uses then s.microSeq n m seq ubr true
  else if 23 < c then s.patternFault n 16
  else if 15 ≤ c ∧ c ≤ 20 ∧ s.needWait n then (s.put .psq n PSQ_STAT_RUNSTATE 6).setPsq n { s.psq n with hold := .resolve }
  else
    let s := if 11 ≤ c ∧ c ≤ 14 then s.apgWait n else s
    s.microSeq n m seq ubr (s.microCond n (s.instr n) c)

/-- One stage of the microword at hand, where the front end is free and that stage is due. -/
def State.microStage (s : State) (n : Nat) (st : MicroStage) : State :=
  match (s.psq n).micro with
  | some m =>
    if s.frontFree n ∧ m.stage = st then
      match st with
      | .first => s.microFirst n m
      | .loaded => s.microVectors n m
      | .ops => s.microOps n m
      | .func => s.microFunc n m
      | .next => s.microNext n m
    else s
  | none => s

/-- MICROWORD (R238): the microword at hand acts, from the stage it stands at to its end or to where it has to wait. -/
def microGo (n : Nat) (s : State) : State :=
  let s := s.microBegin n
  ((((s.microStage n .first).microStage n .loaded).microStage n .ops).microStage n .func).microStage n .next

def execMicroword (n : Fin 8) (s : State) : Host.Outcome State Fault Refusal := done (microGo n.val s)

/-- The load function of the next microword, where its FUNC satisfies `p` (R237, R238). -/
def State.asLoad (s : State) (n : Nat) (p : Nat → Bool) : State :=
  let s := s.microBegin n
  match (s.psq n).micro with
  | some m => if p (natBits (s.nano n m) 177 172) then s.microStage n .first else s
  | none => s

def execUcntLd (n : Fin 8) (s : State) : Host.Outcome State Fault Refusal := done (s.asLoad n.val fun f => f == 0x10)
def execApgLdx (n : Fin 8) (s : State) : Host.Outcome State Fault Refusal := done (s.asLoad n.val fun f => f == 0x11)
def execApgLdy (n : Fin 8) (s : State) : Host.Outcome State Fault Refusal := done (s.asLoad n.val fun f => f == 0x12)
def execApgLdd (n : Fin 8) (s : State) : Host.Outcome State Fault Refusal :=
  done (s.asLoad n.val fun f => decide (0x13 ≤ f) && decide (f ≤ 0x16))
def execPcnRd (n : Fin 8) (s : State) : Host.Outcome State Fault Refusal := done (s.asLoad n.val fun f => f == 0x18)

/-! ### Going on after a hold -/

/-- A hold ends `d` cycles later than the next vector would have begun, and the sequencer runs again. -/
def State.endHold (s : State) (n d : Nat) : State :=
  let s := s.delay n d
  (s.setPsq n { s.psq n with hold := .none }).put .psq n PSQ_STAT_RUNSTATE 2

/-- A function whose wait is over without more to do is complete. -/
def State.goOn (s : State) (n : Nat) : State :=
  match (s.psq n).micro with
  | some m => s.setStage n m .next
  | none => s.instrDone n (s.fld .psq n PSQ_PC + 1)

/-- The instruction or microword that waited for a resolution point acts. -/
def State.actAgain (s : State) (n : Nat) : State :=
  match (s.psq n).micro with
  | some _ => (s.microStage n .func).microStage n .next
  | none =>
    match s.fetchPc n with
    | .word w =>
      match opFunc (opcodeOf w) with
      | some f => let (s, a) := s.fn n w f; s.vendorEnd n a
      | none => s
    | _ => s

/-- RESOLUTION_POINT (R200, R234, R271): reached once every outcome has been delivered. -/
def resolutionPoint (n : Nat) (s : State) : State :=
  let x := s.psq n
  if s.bursting n && decide (x.hold = .resolve) && !s.outcomesDue n && !s.stopDue n then
    (s.endHold n (resolution x.recent - x.t)).actAgain n
  else s

def execResolutionPoint (n : Fin 8) (s : State) : Host.Outcome State Fault Refusal := done (resolutionPoint n.val s)

/-- EPOCHWAIT_TARGET (R202): the next vector's period begins at the target, or at the repetition boundary that has reached it. -/
def epochwaitTarget (n : Nat) (s : State) : State :=
  let x := s.psq n
  if !s.bursting n || s.stopDue n then s
  else
    match x.hold, x.emit with
    | .epoch target, _ => (s.endHold n (target - x.t)).goOn n
    | .none, some ⟨_, _, .again target⟩ => if target ≤ x.t then (s.setPsq n { x with emit := none }).goOn n else s
    | _, _ => s

def execEpochwaitTarget (n : Fin 8) (s : State) : Host.Outcome State Fault Refusal := done (epochwaitTarget n.val s)

/-- Cycles from the next vector's due start to the present epoch position; 0 where it is not yet due. -/
def State.behind (s : State) (n : Nat) : Nat := s.sinceT0 n - (s.psq n).t

/-- MWAIT (R274): the instruction acts; or, while it holds the output and its group has delivered, the hold ends. -/
def mwait (n : Nat) (s : State) : State :=
  match (s.psq n).hold with
  | .mwait g _ => if s.bursting n && !s.outstanding n g && !s.stopDue n then (s.endHold n (s.behind n)).goOn n else s
  | _ => s.asOp n .siteop (some 4)

def execMwait (n : Fin 8) (s : State) : Host.Outcome State Fault Refusal := done (mwait n.val s)

/-- MWAIT_TIMEOUT (R274): what is outstanding is cancelled, and the hold ends. -/
def mwaitTimeout (n : Nat) (s : State) : State :=
  match (s.psq n).hold with
  | .mwait g deadline =>
    if s.bursting n && !s.stopDue n then
      let s := s.mwaitCancel n g
      (s.endHold n (deadline - (s.psq n).t)).goOn n
    else s
  | _ => s

def execMwaitTimeout (n : Fin 8) (s : State) : Host.Outcome State Fault Refusal := done (mwaitTimeout n.val s)

/-- PAUSE_RELEASE (R214): no source is pending; the next vector begins 16 cycles later. -/
def pauseRelease (n : Nat) (s : State) : State :=
  if s.bursting n && decide ((s.psq n).hold = .pause) && !s.pauseAsked n && !s.stopDue n then
    (s.endHold n (s.behind n + 16)).goOn n
  else s

def execPauseRelease (n : Fin 8) (s : State) : Host.Outcome State Fault Refusal := done (pauseRelease n.val s)

/-- Whether the item a stalled output needs is ready: the vector's words, or the instruction (R215). -/
def State.itemReady (s : State) (n : Nat) : Bool :=
  match (s.psq n).emit with
  | some e =>
    let vec : Nat → Bool := fun d =>
      match s.vpSegment n d with
      | some g => match s.fetchVector n g (s.vpOff n + d) with
        | .miss _ => false
        | _ => true
      | none => true
    match e.src with
    | .seg _ _ => vec e.done
    | .iter _ _ => vec 0
    | _ => true
  | none =>
    match s.fetchPc n with
    | .miss _ => false
    | _ => true

/-- STALL_RESUME (R217): 16 cycles after the missing item is ready, the next vector's period begins. -/
def stallResume (n : Nat) (s : State) : State :=
  if s.bursting n && decide ((s.psq n).hold = .stall) && s.itemReady n && !s.stopDue n then
    let s := s.endHold n (s.behind n + 16)
    s.setPsq n { s.psq n with missed := none }
  else s

def execStallResume (n : Fin 8) (s : State) : Host.Outcome State Fault Refusal := done (stallResume n.val s)

/-- MATCH_END (R199): the MATCH is over at this iteration boundary; VP.OFF advances by 1. -/
def matchEnd (n : Nat) (s : State) : State :=
  let x := s.psq n
  if !(s.bursting n && decide (x.hold = .none)) then s
  else
    match x.emit, x.mtch with
    | some e, some m =>
      match e.src with
      | .iter _ _ =>
        if !s.iterDue n && (s.matchAll n || decide (e.count ≤ e.done)) then
          let left := (s.sitesOf n).any fun i => (s.site i).inMatch && (s.site i).matchIter.isNone
          let s := s.setPsq n { x with emit := none, mtch := some { m with ended := true, limit := left } }
          let s := ((s.advanceVp n 1).put .psq n PSQ_STAT_RUNSTATE 2).finishMatch n
          s.goOn n
        else s
      | _ => s
    | _, _ => s

def execMatchEnd (n : Fin 8) (s : State) : Host.Outcome State Fault Refusal := done (matchEnd n.val s)

end Sys2Proof.Machine
end

