-- ==== Sys2Proof/Machine/Feed.lean ====
section
/-! DEFINITION. The Pairs vector feed as the sequencers meet it: capacity, match and assignment (R510 to R515). -/

namespace Sys2Proof.Machine
open Sys2Proof Reg

/-- The feed capacity in MB/s (R512). -/
def State.feedCap (s : State) : Nat :=
  min (s.fld .plk 0 PLK_CFG_FEED_MB) (400000 - ((s.plk.frame.map (·.admitted)).getD 0))

def State.partnerPsq (s : State) (n : Nat) : PartnerPsq := mapGet (fun _ => ⟨false, none, 0⟩) s.plk.psqs n

/-- Whether PSQ `n` matches the partner's (R511). -/
def State.feedMatch (s : State) (n : Nat) : Bool :=
  let p := s.partnerPsq n
  let tag := BitVec.ofNat 32 (s.fldAt .plk 0 PLK_FEED_TAG n)
  p.loaded &&
    (if s.flag .psq n PSQ_STAT_SEALED then p.bundle.isSome && p.bundle == (s.psq n).bundle.map (·.digest)
     else p.bundle.isNone && tag == p.tag && tag != 0)

/-- PLK_FEED of a PSQ: 0 NONE, 1 FED, 2 SHORT, 3 NOMATCH. -/
def State.feedState (s : State) (n : Nat) : Nat := s.fld .plk 0 PLK_FEED_STATE / 4 ^ n % 4

def State.setFeedState (s : State) (n v : Nat) : State :=
  s.put .plk 0 PLK_FEED_STATE (s.fld .plk 0 PLK_FEED_STATE - s.feedState n * 4 ^ n + v * 4 ^ n)

/-- The D_n sum of the PSQs that are FED, but for `n`. -/
def State.fedSum (s : State) (n : Nat) : Nat :=
  ((List.range 8).map fun m => if m != n && s.feedState m == 1 then (s.psq m).needD else 0).foldr (· + ·) 0

/-- What the assignment gives a PSQ now (R512): one that is FED stays so until its burst ends. -/
def State.feedFor (s : State) (n : Nat) : Nat :=
  let d := (s.psq n).needD
  if !s.psqRunning n || d = 0 then 0
  else if s.feedState n = 1 then 1
  else if !s.feedMatch n then 3
  else if s.fedSum n + d ≤ s.feedCap then 1
  else 2

/-- A PSQ is SHORT or NOMATCH (R514): a hold request or taint, and FEED_SHORT once per burst. -/
def State.feedShort (s : State) (n : Nat) : State :=
  let s := if s.flag .plk 0 PLK_CFG_SHORT_ACT then s.taintAll n 7 else s.put .psq n PSQ_PAUSE_STAT_PAIRS 1
  if s.raisedOnce n 13 then s else (s.noteRaised n 13).raiseOpen .plk 0 3 2

/-- Lines of a FED PSQ's cache that were filled uncorrectable are invalidated and asked for again (R513). -/
def State.feedRefetch (s : State) (n : Nat) : State :=
  let x := s.psq n
  let bad := (x.cache.filter fun e => e.2.mark == .bad).map (·.1)
  s.setPsq n { x with
    cache := x.cache.filter fun e => e.2.mark != .bad
    asked := x.asked ++ bad.filter fun b => !x.asked.contains b }

/-- One PSQ takes the state the assignment gives it. -/
def State.feedOne (s : State) (n : Nat) : State :=
  let v := s.feedFor n
  let was := s.feedState n
  let s := s.setFeedState n v
  let s := if v != was then s.int .plk 0 3 else s
  if v = 1 then (if was = 1 then s else (s.feedRefetch n).put .psq n PSQ_PAUSE_STAT_PAIRS 0)
  else if v = 2 then (if was = 2 then s else s.feedRefetch n).feedShort n
  else if v = 3 then s.feedShort n
  else s

/-- The assignment is made (R512); nothing is fed while FEEDING is 0. -/
def State.feedAssign (s : State) : State :=
  if s.flag .plk 0 PLK_STAT_FEEDING then
    let s := (List.range 8).foldl State.feedOne s
    (s.put .plk 0 PLK_FEED_CAP_CAP_MB s.feedCap).put .plk 0 PLK_FEED_CAP_USED_MB (s.fedSum 8)
  else s

/-- Whether the start check refuses a start because its vectors could not be had (R515). -/
def State.feedRefuses (s : State) (n : Nat) : Bool :=
  if (s.psq n).needD = 0 then false
  else if s.flag .plk 0 PLK_STAT_FEEDING then s.feedFor n != 1
  else s.fld .vmc 0 VMC_STAT_CH_FAIL != 0

/-- The burst of a PSQ has ended: its feed ends, with a Pairs hold on it, and the assignment is made again (R512). -/
def State.feedBurstEnd (s : State) (n : Nat) : State :=
  let s := s.put .psq n PSQ_PAUSE_STAT_PAIRS 0
  let s := if s.feedState n = 0 then s else (s.setFeedState n 0).int .plk 0 3
  s.feedAssign

/-! ### Engagement -/

/-- PLK_STAT.LSTATE is PAIRED (R500). -/
def State.paired (s : State) : Bool := s.fld .plk 0 PLK_STAT_LSTATE == 4

/-- The feed is taken, or served, where the failed channels on the two devices ask for it (R510): a device whose own channel has failed
never serves. -/
def State.engage (s : State) : State :=
  let own := s.fld .vmc 0 VMC_STAT_CH_FAIL != 0
  let s := if own then s.put .plk 0 PLK_STAT_SERVING 0 else s
  match s.plk.frame with
  | none => s
  | some p =>
    if !s.paired || !s.plk.feedEn then s
    else if own && p.chFail == 0 && !s.flag .plk 0 PLK_STAT_FEEDING then (s.put .plk 0 PLK_STAT_FEEDING 1).feedAssign
    else if !own && p.chFail != 0 then s.put .plk 0 PLK_STAT_SERVING 1
    else s

/-- Whether the fills of a PSQ go over the Pairs Link (R513, R514). -/
def State.fedByLink (s : State) (n : Nat) : Bool := s.feedState n == 1 || s.feedState n == 2

end Sys2Proof.Machine
end

