-- ==== Sys2Proof/Machine/Objects.lean ====
section
/-! DEFINITION. Allocating and freeing objects of the Vector Store (R288 to R294), and how a sealed program leaves its sequencer
(R488, R489). -/

namespace Sys2Proof.Machine
open Sys2Proof Reg

/-! ### Granules -/

/-- Whether the page table reserves a granule (R288). -/
def reservedGranule (g : Nat) : Bool := decide ((g + 262144 - Config.pageTableBase % 262144) % 262144 < 2048)

/-- Whether a granule may be allocated; `taken` are already part of the new object. -/
def State.granuleFree (s : State) (taken : List Nat) (g : Nat) : Bool :=
  !reservedGranule g && (s.slotOfGranule g).isNone && !taken.contains g

/-- The first number from `x` on, cyclic in `m`, that satisfies `p`, among the next `fuel`. -/
def firstFrom (p : Nat → Bool) (m x : Nat) : Nat → Option Nat
  | 0 => none
  | fuel + 1 => if p (x % m) then some (x % m) else firstFrom p m (x + 1) fuel

/-- `k` free granules; which, the spec leaves open (R289): each is the first from a free value on. -/
def State.pickGranules (s : State) (taken : List Nat) : Nat → State × List Nat
  | 0 => (s, taken)
  | k + 1 =>
    match firstFrom (s.granuleFree taken) 262144 s.freeVal 262144 with
    | some g => s.drawn.pickGranules (taken ++ [g]) k
    | none => (s, taken)

/-- Free granules, as VMC_FREEGR counts them. -/
def State.freeGranules (s : State) : Nat := s.fld .vmc 0 VMC_FREEGR_FREE

/-- The regions of a granule become never-written (R294). -/
def State.forgetGranule (s : State) (g : Nat) : State := (List.range 16).foldl (fun s r => s.vsForget (16 * g + r)) s

/-- A slot of the object table that holds no object; which, the spec leaves open. -/
def State.pickSlot (s : State) : Option Nat := firstFrom (fun i => (s.slotObj i).isNone) 16384 s.freeVal 16384

/-- GEN after one more allocation: 1 to 65,535, skipping 0 (R290). -/
def nextGen (g : Nat) : Nat := if 65535 ≤ g then 1 else g + 1

/-- An object of a kind is allocated: its handle; or NO_SPACE (3) or NO_SLOT (4), with nothing allocated (R289). -/
def State.allocObject (s : State) (kind : VsKind) (granules : Nat) : State × (Word ⊕ Nat) :=
  if s.freeGranules < granules then (s, .inr 3)
  else
    match s.pickSlot with
    | none => (s, .inr 4)
    | some slot =>
      let (s, gs) := s.drawn.pickGranules [] granules
      let gen := nextGen (s.genOf slot)
      let s := gs.foldl State.forgetGranule s
      let s := { s with vs := { s.vs with
        objs := mapSet (fun _ => none) s.vs.objs slot (some ⟨kind, gs⟩), gens := mapSet (fun _ => 0) s.vs.gens slot gen } }
      (s.put .vmc 0 VMC_FREEGR_FREE (s.freeGranules - granules), .inl (BitVec.ofNat 32 (65536 * gen + slot)))

/-- The object of a slot is freed: its granules return to the pool and become never-written (R292). -/
def State.freeSlot (s : State) (slot : Nat) : State :=
  match s.slotObj slot with
  | none => s
  | some o =>
    let s := o.granules.foldl State.forgetGranule s
    let s := { s with vs := { s.vs with objs := mapDel s.vs.objs slot } }
    s.put .vmc 0 VMC_FREEGR_FREE (s.freeGranules + o.granules.length)

/-- The object a handle names is freed. -/
def State.freeHandle (s : State) (h : Word) : State := if (s.objAt h).isSome then s.freeSlot (handleSlot h) else s

/-- A page is unmapped. -/
def State.unmapPage (s : State) (vpn : Nat) : State := { s with vs := { s.vs with pte := mapDel s.vs.pte vpn } }

/-! ### Unloading -/

/-- LFT_NEED and LFT_HNEED take D_n and H_n. -/
def State.putNeed (s : State) (n d h : Nat) : State :=
  ((s.setPsq n { s.psq n with needD := d, needH := h }).put .lft n LFT_NEED_NEED_MB d).put .lft n LFT_HNEED_NEED_MB h

/-- The sealed marks of a PSQ and of its APG (R205, R247). -/
def State.setSealed (s : State) (n : Nat) (on : Bool) : State :=
  (s.put .psq n PSQ_STAT_SEALED (bit on)).put .apg n APG_STAT_SEALED (bit on)

/-- The program is unloaded: no footprint, no cache, nothing sealed (R204, R311, R313). -/
def State.unloadPsq (s : State) (n : Nat) : State :=
  let s := s.setPsq n { s.psq n with prog := none, load := none, cache := [], asked := [], missed := none, bundle := none }
  let s := ((s.putNeed n 0 0).setSealed n false).put .lft n LFT_PINNED_PAGES 0
  (s.put .psq n PSQ_STAT_LOADED 0).settle

/-! ### Sealed programs -/

/-- Registers of a page back at their reset values, by offset in the page. -/
def State.resetRegs (s : State) (k : PageKind) (i : Nat) (p : Nat → Bool) : State :=
  let page := pageBase k i
  { s with regs := mapDrop (fun o => decide (page ≤ o) && decide (o < page + 0x1000) && p (o - page)) s.regs }

/-- Offsets from `a` to `b`. -/
def within (a b o : Nat) : Bool := decide (a ≤ o) && decide (o ≤ b)

/-- Every register that CHAN may write on a channel is back at its reset value, and its seal is gone (R484, R488). -/
def State.unsealChannel (s : State) (k : Nat) : State :=
  let b := k / 32
  let s := s.resetRegs .pec k fun o => within 0x40 0x4B o || within 0x400 0x403 o || within 0x800 0x9FF o
  let s := { s with edgeTab := mapDrop (fun e => e / 2048 == k) s.edgeTab }
  let s := s.resetRegs .lde b (within (0x100 + 32 * (k % 32)) (0x117 + 32 * (k % 32)))
  let s := (s.put .pec k PEC_STAT_SEALED 0).setPin k { s.pin k with sealedBy := none }
  (s.put .lde b LDE_SEALED (s.fld .lde b LDE_SEALED - (if bitAt (s.fld .lde b LDE_SEALED) (k % 32) then 2 ^ (k % 32) else 0))).relimit k

/-- The channels sealed by the bundle of PSQ `n` that are bound to none of its sites (R488). -/
def State.strayChannels (s : State) (n : Nat) : List Nat :=
  (s.pins.filter fun e => (e.2.sealedBy.map (·.2.2)) == some n && s.pinPsq e.1 != some n).map (·.1)

/-- The open area of a control store becomes invalid. -/
def State.dropUserArea (s : State) (n : Nat) : State :=
  let m := mapGet (fun _ => MceSt.empty) s.mces n
  let s := ({ s with mces := mapSet (fun _ => MceSt.empty) s.mces n { m with user := .invalid } }).put .mce n MCE_STAT_USER_VALID 0
  (s.put .mce n MCE_STAT_SEALED 0).put .mce n MCE_OWNER_VALID 0

/-- What a bundle wrote for a PSQ beyond its pages goes (R489): the open area, the period table, the APG's start values and tables, the
FRE registers of R484, and the channels that are bound to none of its sites. -/
def State.stripPsq (s : State) (n : Nat) : State :=
  let s := (s.dropUserArea n).resetRegs .psq n (within 0x800 0xBFF)
  let s := s.resetRegs .apg n fun o => within 0x40 0xEF o || within 0x800 0xFFF o
  let s := { s with
    scramble := mapDrop (fun e => e / 4096 == n) s.scramble, topo := mapDrop (fun e => e / 2048 == n) s.topo }
  let s := s.resetRegs .fre n fun o =>
    within 0x40 0x4B o || within 0x68 0x73 o || within 0x100 0x17F o || within 0x400 0x7FF o
  let seals := s.fld .secLoad 0 SECL_STAT_SEALED_PSQ
  let s := s.put .secLoad 0 SECL_STAT_SEALED_PSQ (seals - (if bitAt seals n then 2 ^ n else 0))
  (s.strayChannels n).foldl State.unsealChannel s

/-- A sealed program leaves its PSQ (R489); a program that is not sealed is unloaded. -/
def State.leaveSealed (s : State) (n : Nat) : State :=
  match (s.psq n).bundle with
  | none => s.unloadPsq n
  | some b => ((b.pages.foldl State.unmapPage (s.unloadPsq n)).freeHandle b.handle).stripPsq n

/-- The present program of a PSQ, sealed or not, is ended under R489, as the apply phase of a bundle begins (R486). -/
def State.endProgram (s : State) (n : Nat) : State :=
  if (s.psq n).bundle.isSome then s.leaveSealed n
  else if (s.psq n).prog.isSome || (s.psq n).load.isSome then (s.unloadPsq n).stripPsq n
  else s

end Sys2Proof.Machine
end

