-- ==== Sys2Proof/Machine/Load.lean ====
section
/-! DEFINITION. Loading a program: the checks of LOAD (R204), the segment table (R188), footprints and pins (R311, R312), the residency
check (R319, R320) and the preload (R313); and the program registers (R205). -/

namespace Sys2Proof.Machine
open Sys2Proof Reg

/-! ### Footprints -/

/-- Bytes in the virtual space of the Lift: 1 TiB. -/
def virtualSpace : Nat := 2 ^ 40

/-- The pages of `n` bytes from a virtual address: the first and how many (R311). -/
def pageRange (va n : Nat) : Nat × Nat := (va / 65536, if n = 0 then 0 else (va + n - 1) / 65536 + 1 - va / 65536)

/-- Bytes of the blocks of a segment (R189). -/
def Segment.bytes (g : Segment) : Nat := 64 * ceilDiv ((g.wM1 + 1) * (g.lenM1 + 1)) 7

/-- A program as its registers give it, with a segment table. -/
def programOf (va len tabVa : Nat) (segs : List (Option Segment)) : Program :=
  ⟨va, len, tabVa, segs,
    pageRange va (8 * len) :: pageRange tabVa (16 * segs.length) :: segs.filterMap fun g => g.map fun g => pageRange g.va g.bytes⟩

/-- The pages of a footprint that hold segment blocks, or program instructions. -/
def Program.segPages (p : Program) : List Nat := Program.pageList { p with pages := p.pages.drop 2 }
def Program.codePages (p : Program) : List Nat := Program.pageList { p with pages := p.pages.take 1 }

/-- The pages that are pinned (R312). -/
def State.pinnedPages (s : State) (n : Nat) (p : Program) : List Nat := p.pageList.filter (s.pinnedPage n p)

/-- Whether a page is host-backed. -/
def State.hostPage (s : State) (vpn : Nat) : Bool := (s.pteAt vpn).host

/-! ### Demand -/

/-- W_n (R319). -/
def State.demandWidth (s : State) (n : Nat) (p : Program) : Nat :=
  if s.flag .psq n PSQ_STAT_BOUND then s.fld .psq n PSQ_STAT_LW + 1
  else (p.segs.filterMap fun g => g.map fun g => g.wM1 + 1).foldr max 0

/-- f_n × `bytes`, in MB/s rounded up (R319). -/
def State.rate (s : State) (n bytes : Nat) : Nat :=
  match ((s.validSets n).map (s.period n)).min? with
  | some p => ceilDiv (100 * s.mult * bytes) p
  | none => 0

/-- 9 × W × S + 8 × I over the unpinned pages that satisfy `q` (R319). -/
def State.demandBytes (s : State) (n : Nat) (p : Program) (q : Nat → Bool) : Nat :=
  let open_ : Nat → Bool := fun v => !s.pinnedPage n p v && q v
  9 * s.demandWidth n p * bit (p.segPages.any open_) + 8 * bit (p.codePages.any open_)

/-- D_n (R319). -/
def State.demand (s : State) (n : Nat) (p : Program) : Nat := s.rate n (s.demandBytes n p fun _ => true)

/-- H_n (R319). -/
def State.hostDemand (s : State) (n : Nat) (p : Program) : Nat := s.rate n (s.demandBytes n p s.hostPage)

/-- 1 RESIDENT, 2 STREAMING (R319). -/
def State.residMode (s : State) (n : Nat) (p : Program) : Nat := if s.demandBytes n p (fun _ => true) = 0 then 1 else 2

/-- Sum of a need over the other loaded PSQs. -/
def State.othersNeed (s : State) (n : Nat) (need : PsqSt → Nat) : Nat :=
  ((List.range 8).map fun m => if m != n && (s.psq m).prog.isSome then need (s.psq m) else 0).foldr (· + ·) 0

/-- Granules of the staging object a program needs (R318). -/
def State.stagingNeed (s : State) (n : Nat) (p : Program) : Nat :=
  let pins := ((s.pinnedPages n p).filter s.hostPage).length
  if p.pageList.any fun v => s.hostPage v && !s.pinnedPage n p v then pins + 4 else pins

/-- Granules of the staging object that the other loaded PSQs need. -/
def State.othersStaging (s : State) (n : Nat) : Nat :=
  ((List.range 8).map fun m =>
    if m = n then 0
    else match (s.psq m).prog with
      | some p => s.stagingNeed m p
      | none => 0).foldr (· + ·) 0

/-- Granules of the staging object; 0 where LFT_STAGE names none. -/
def State.stagingSize (s : State) : Nat :=
  match s.objAt (BitVec.ofNat 32 (s.fld .lftG 0 LFT_STAGE_HANDLE)) with
  | some o => o.granules.length
  | none => 0

/-- Steps 4 and 5 of the residency check (R320). -/
def State.bandwidthStep (s : State) (n d h : Nat) : Option Nat :=
  if 400000 < s.othersNeed n (·.needD) + d then some 4
  else if s.fld .lftG 0 LFT_HOSTCFG_BW_MBPS < s.othersNeed n (·.needH) + h then some 5
  else none

/-- The residency check of a load: the step that fails with its DETAIL, none where all pass (R320, steps 2 to 6 of its table). -/
def State.residency (s : State) (n : Nat) (p : Program) : Option (Nat × Nat) :=
  match (p.pageList.filter fun v => !(s.pteAt v).v).min? with
  | some v => some (2, v)
  | none =>
    let pins := (s.pinnedPages n p).length
    if 48 < pins then some (3, pins)
    else
      match s.bandwidthStep n (s.demand n p) (s.hostDemand n p) with
      | some k => some (k, 0)
      | none =>
        let total := s.stagingNeed n p + s.othersStaging n
        if s.stagingSize < total then some (6, total) else none

/-! ### Reports -/

/-- LFT_RESID (R320): `source` is 0 for a load, 1 for a start. -/
def State.putResid (s : State) (n result mode source detail : Nat) : State :=
  (((s.put .lft n LFT_RESID_RESULT result).put .lft n LFT_RESID_MODE mode).put .lft n LFT_RESID_SOURCE source).put
    .lft n LFT_RESID_DETAIL detail

/-- A residency check refuses: LFT_RESID, INT_STAT.RESID_REFUSED and class RESID_REFUSED (R320, R322). -/
def State.residRefused (s : State) (n result mode source detail : Nat) : State :=
  ((s.putResid n result mode source detail).int .lft n 1).raiseOpen .lft n 2 1

/-- PSQ_LOAD_RESP (R204). -/
def State.loadResp (s : State) (n result detail : Nat) : State :=
  (s.put .psq n PSQ_LOAD_RESP_RESULT result).put .psq n PSQ_LOAD_RESP_DETAIL detail

/-- A LOAD is refused: nothing that it names changes (R24). -/
def State.loadRefused (s : State) (n result detail : Nat) : State :=
  (s.setPsq n { s.psq n with load := none }).loadResp n result detail

/-- A LOAD is refused by a step of the residency check. -/
def State.loadResidency (s : State) (n step detail index : Nat) : State :=
  (s.residRefused n step 0 0 detail).loadRefused n 6 index

/-! ### The segment table -/

/-- How reading the segment table ends: its entries; a refusal with its LOAD result and DETAIL; an unmapped page, with the entry that
needs it; a FAILED page; or a host page that is still to be staged. -/
inductive TabEnd where
  | ok (segs : List (Option Segment))
  | refuse (result detail : Nat)
  | unmapped (entry vpn : Nat)
  | failed (vpn : Nat)
  | wait
  deriving DecidableEq, Repr

/-- A segment-table entry from its four words (R188): the segment of a valid one, or the LOAD result that refuses it (R204). -/
def entryOf (w0 w1 w2 w3 : Word) : Option Segment ⊕ Nat :=
  if !w1.getLsbD 31 then .inl none
  else
    let g : Segment := ⟨w0.toNat + 2 ^ 32 * bitsOf w1 7 0, w2.toNat, bitsOf w1 17 16, w1.getLsbD 20⟩
    if bitsOf w0 5 0 ≠ 0 ∨ bitsOf w1 30 21 ≠ 0 ∨ bitsOf w1 19 18 ≠ 0 ∨ bitsOf w1 15 8 ≠ 0 ∨ w3 ≠ 0 then .inr 4
    else if virtualSpace < g.va + g.bytes then .inr 5
    else .inl (some g)

/-- Four bytes of the Vector Store as a word; where one cannot be read the word is a free value, `j` choosing it. -/
def State.tabWord (s : State) (a j : Nat) : Word :=
  if s.vsPoison (a / 8) || (s.chFailed (vsChannel a) && s.vsWritten (a / 4096)) then BitVec.ofNat 32 (Config.freeNat (s.free + j))
  else BitVec.ofNat 32 (leNat (s.vsRead a 4))

/-- The entries of a segment table from entry `i` on, `k` of them, given those before it (R204). -/
def State.readTable (s : State) (tab i : Nat) (acc : List (Option Segment)) : Nat → TabEnd
  | 0 => .ok acc
  | k + 1 =>
    let va := tab + 16 * i
    let e := s.pteAt (va / 65536)
    if !e.v then .unmapped i (va / 65536)
    else if e.failed then .failed (va / 65536)
    else
      match e.backing with
      | none => .wait
      | some g =>
        let a := 65536 * g + va % 65536
        match entryOf (s.tabWord a (4 * i)) (s.tabWord (a + 4) (4 * i + 1)) (s.tabWord (a + 8) (4 * i + 2))
            (s.tabWord (a + 12) (4 * i + 3)) with
        | .inl g => s.readTable tab (i + 1) (acc ++ [g]) k
        | .inr r => .refuse r i

/-! ### LOAD -/

/-- The segment table of a load under way is read, as far as it can be, and the load is admitted or refused (R204, R320). -/
def State.loadTable (s : State) (n : Nat) (p : Program) (entries : Nat) : State :=
  match s.readTable p.tabVa 0 [] entries with
  | .wait => s.setPsq n { s.psq n with load := some ({ p with segs := List.replicate entries none }, none) }
  | .refuse r i => { s.loadRefused n r i with free := s.free + 4 * entries }
  | .unmapped i v => s.loadResidency n 2 v i
  | .failed v => s.loadResidency n 7 v 0
  | .ok segs =>
    let p := programOf p.va p.len p.tabVa segs
    let s := { s with free := s.free + 4 * entries }
    match s.residency n p with
    | some (k, detail) => s.loadResidency n k detail 0
    | none =>
      let s := s.putResid n 1 (s.residMode n p) 0 0
      s.setPsq n { s.psq n with load := some (p, some (s.demand n p, s.hostDemand n p)) }

/-- A load of another PSQ or a map command is in progress; a residency check takes no time of its own here (R204). -/
def State.loadBusy (s : State) (n : Nat) : Bool :=
  s.vs.mapCmd.isSome || (List.range 8).any fun m => m != n && (s.psq m).load.isSome

/-- PSQ_PROG: bits [2:0] are ignored. -/
def State.progVa (s : State) (n : Nat) : Nat :=
  (s.fld .psq n PSQ_PROG_VA_LO + 2 ^ 32 * s.fld .psq n PSQ_PROG_VA_HI) / 8 * 8

/-- PSQ_SEGTAB: bits [3:0] are ignored. -/
def State.segtabVa (s : State) (n : Nat) : Nat :=
  (s.fld .psq n PSQ_SEGTAB_VA_LO + 2 ^ 32 * s.fld .psq n PSQ_SEGTAB_VA_HI) / 16 * 16

/-- A LOAD of a PSQ that is not running, from the registers as they stand (R204). -/
def State.loadPsq (s : State) (n : Nat) : State :=
  let len := s.fld .psq n PSQ_PROG_LEN
  let entries := s.fld .psq n PSQ_SEGTAB_LEN
  let va := s.progVa n
  let tab := s.segtabVa n
  if len = 0 then (s.leaveSealed n).loadResp n 2 0
  else if s.loadBusy n then s.loadResp n 3 0
  else if 2 ^ 24 < len then s.loadRefused n 4 0xFFFF
  else if 4096 < entries then s.loadRefused n 4 0xFFFE
  else if virtualSpace < va + 8 * len then s.loadRefused n 5 0xFFFF
  else if virtualSpace < tab + 16 * entries then s.loadRefused n 5 0xFFFE
  else s.loadTable n (programOf va len tab []) entries

/-- PROG_BUSY (R205). -/
def State.progBusy (s : State) (n : Nat) : State := s.raiseOpen .psq n 9 1

/-- LOAD (R204, R205). -/
def psqLoad (n : Nat) (s : State) : State := if s.psqRunning n then s.progBusy n else s.loadPsq n

def execLoad (n : Fin 8) (s : State) : Host.Outcome State Fault Refusal := done (s.asHostOn .psq n.val (psqLoad n.val))

/-! ### The preload -/

/-- The 64-byte block at a physical address as a cache line holds it (R295, R297, R300). -/
def State.lineAt (s : State) (a : Nat) : Line :=
  if !s.vsWritten (a / 4096) then ⟨.unwritten, []⟩
  else if s.chFailed (vsChannel a) || (List.range 8).any fun i => s.vsPoison (a / 8 + i) then ⟨.bad, []⟩
  else ⟨.good, s.vsRead a 64⟩

/-- The physical address of a block of the virtual space, where it can be read. -/
def State.blockPhys (s : State) (block : Nat) : Option Nat :=
  (s.pteAt (block / 1024)).backing.map fun g => 65536 * g + 64 * (block % 1024)

/-- A block is put in the vector cache of a PSQ, as the most recently used line. -/
def State.putLine (s : State) (n block : Nat) (l : Line) : State :=
  let x := s.psq n
  s.setPsq n { x with
    cache := x.cache.filter (fun e => e.1 != block) ++ [(block, l)], asked := x.asked.filter fun b => b != block
    missed := if x.missed = some block then none else x.missed }

/-- A block is read from the Vector Store into the vector cache of a PSQ; `hits` are the errors that the read meets among its eight
words (R296, R297). -/
def State.fillBlock (s : State) (n block : Nat) (hits : List EccHit) : State :=
  match s.blockPhys block with
  | none => s
  | some a =>
    let (s, _) := s.readWords ((List.range 8).map fun i => a / 8 + i) hits
    s.putLine n block (s.lineAt a)

/-- Every block of a pinned page is fetched. -/
def State.preloadPage (s : State) (n vpn : Nat) : State :=
  (List.range 1024).foldl (fun s i => s.fillBlock n (1024 * vpn + i) []) s

/-- The preload of a load is complete: the program takes the place of the earlier one (R204, R313). -/
def State.loadDone (s : State) (n : Nat) (p : Program) (need : Nat × Nat) : State :=
  let pins := s.pinnedPages n p
  let s := s.setPsq n { s.psq n with prog := some p, load := none, cache := [], asked := [], missed := none }
  let s := pins.foldl (fun s v => s.preloadPage n v) s
  let s := (s.putNeed n need.1 need.2).put .lft n LFT_PINNED_PAGES pins.length
  (((s.loadResp n 1 0).put .psq n PSQ_STAT_LOADED 1).int .lft n 0).settle

/-- PRELOAD_DONE (R313, R320 step 7): the pinned pages of an admitted load are in the cache, or one of them is FAILED. -/
def preloadDone (n : Nat) (s : State) : State :=
  match (s.psq n).load with
  | some (p, some need) =>
    if s.psqRunning n then s
    else
      let pins := s.pinnedPages n p
      match (pins.filter fun v => (s.pteAt v).failed).min? with
      | some v => s.loadResidency n 7 v 0
      | none => if pins.all fun v => (s.pteAt v).backing.isSome then s.loadDone n p need else s
  | _ => s

def execPreloadDone (n : Fin 8) (s : State) : Host.Outcome State Fault Refusal := done (preloadDone n.val s)

/-! ### Program registers -/

/-- A program register takes a value; other offsets are not of this command. -/
def State.putProg (s : State) (n off : Nat) (v : Word) : State :=
  match off with
  | 0x40 => s.put .psq n PSQ_PROG_VA_LO v.toNat
  | 0x44 => s.put .psq n PSQ_PROG_VA_HI (bitsOf v 7 0)
  | 0x48 => s.put .psq n PSQ_PROG_LEN (bitsOf v 24 0)
  | 0x4C => s.put .psq n PSQ_ENTRY_PC (bitsOf v 23 0)
  | 0x50 => s.put .psq n PSQ_SEGTAB_VA_LO v.toNat
  | 0x54 => s.put .psq n PSQ_SEGTAB_VA_HI (bitsOf v 7 0)
  | 0x58 => s.put .psq n PSQ_SEGTAB_LEN (bitsOf v 12 0)
  | _ => s

/-- PROG_REGISTER_WRITE (R205). -/
def progRegisterWrite (n off : Nat) (value : Word) (s : State) : State :=
  if !(off % 4 == 0 && decide (0x40 ≤ off) && decide (off ≤ 0x58)) then s
  else if s.psqSealedTo n then s.denied (baseOf .psq n)
  else if s.psqRunning n then s.progBusy n
  else s.putProg n off value

def execProgRegisterWrite (n : Fin 8) (off : Nat) (value : Word) (s : State) : Host.Outcome State Fault Refusal :=
  done (s.asHostOn .psq n.val (progRegisterWrite n.val off value))

end Sys2Proof.Machine
end

