-- ==== Sys2Proof/Machine/Start.lean ====
section
/-! DEFINITION. Starting and ending a burst: START and the start check (R206 to R208), the first vector (R207), PSQ_START of the Piste
(R111), stops (R210 to R212), pauses (R213), asynchronous jump requests (R225, R226), and the end of a burst (R117, R175, R209). -/

namespace Sys2Proof.Machine
open Sys2Proof Reg

/-! ### Positions -/

/-- The epoch position a number of cycles after another. -/
def State.posAfter (s : State) (f p c : Nat) : Nat × Nat :=
  ((f + (p + c) / s.frameN) % 2 ^ 48, (p + c) % s.frameN)

/-- The epoch position a number of cycles from now. -/
def State.posIn (s : State) (c : Nat) : Nat × Nat := s.posAfter s.epc.f.toNat s.epc.p c

/-! ### Refusal -/

/-- A start is refused (R208): the response, INT_STAT.REFUSED and START_REFUSED. -/
def State.startRefused (s : State) (n : Nat) (piste : Bool) (reason : Nat) : State :=
  let s := (s.put .psq n PSQ_START_RESP_RESULT 2).put .psq n PSQ_START_RESP_SOURCE (bit piste)
  ((s.put .psq n PSQ_START_RESP_REASON reason).int .psq n 3).raiseOpen .psq n 5 1

/-- The start at hand is refused: the PSQ is idle again. -/
def State.startOver (s : State) (n reason : Nat) : State :=
  let x := s.psq n
  let s := s.startRefused n x.fromPiste reason
  let s := s.setPsq n { x with
    check := .none, stops := [], refused := if x.fromPiste then some reason else none }
  (s.put .psq n PSQ_STAT_RUNSTATE 0).settle

/-! ### The start check -/

/-- A start check begins with τ0 at a position (R206, R207): stop requests are counted from now on. -/
def State.beginStart (s : State) (n : Nat) (piste : Bool) (pos : Nat × Nat) : State :=
  let s := s.setPsq n { s.psq n with
    check := .due, fromPiste := piste, refused := none, stops := [], t := 0, now := 0, t0F := pos.1, t0P := pos.2 }
  s.put .psq n PSQ_STAT_RUNSTATE 1

/-- The working state of a burst as its start check leaves it. -/
def PsqSt.cleared (x : PsqSt) : PsqSt :=
  { x with
    missed := none, slots := 32, decoding := false, emit := none, micro := none, hold := .none, last := none, recent := []
    lastPause := none, vecs := [], mtch := none, raised := [], ajAt := 0, ajT := 0, atEnd := false, ending := none
    maskLeft := [], wraps := [], completed := 0, holdover := false }

/-- What a start check clears and copies (R207, R223, R233, R246, R266, R269, R325). -/
def State.clearBurst (s : State) (n : Nat) : State :=
  let s := s.setPsq n (s.psq n).cleared
  let s := (s.put .psq n PSQ_VCOUNT_LO 0).put .psq n PSQ_VCOUNT_HI 0
  let s := (s.put .psq n PSQ_STALLCYC_LO 0).put .psq n PSQ_STALLCYC_HI 0
  let s := (s.put .psq n PSQ_TAINT 0).put .psq n PSQ_STAT_TAINTED 0
  let s := (s.sitesOf n).foldl (fun s i => (s.put .site i SITE_STATE_SF 0).put .site i SITE_STATE_LF 0) s
  ((s.setUcnt n 0).apgStart n).freStartCheck n

/-- A valid segment-table entry has another width than the PSQ, or PSQ_ENTRY lies beyond the program (R208). -/
def State.badSegment (s : State) (n : Nat) : Bool :=
  match (s.psq n).prog with
  | some p =>
    decide (p.len ≤ s.fld .psq n PSQ_ENTRY_PC)
      || p.segs.any fun g => (g.map fun g => g.wM1 != s.fld .psq n PSQ_STAT_LW).getD false
  | none => true

/-- Steps 4 and 5 of the residency check with the present periods (R320), then R515; LFT_RESID reports, and D_n and H_n are stored
where both pass. -/
def State.startResidency (s : State) (n : Nat) : State × Bool :=
  match (s.psq n).prog with
  | none => (s, false)
  | some p =>
    let d := s.demand n p
    let h := s.hostDemand n p
    let mode := s.residMode n p
    match s.bandwidthStep n d h with
    | some k => (s.residRefused n k mode 1 0, false)
    | none =>
      let s := (s.putResid n 1 mode 1 0).putNeed n d h
      (s, !s.feedRefuses n)

/-- Whether a bank of a PSQ's sites is in a mode transition (R130), or has its quiet window open (R111). -/
def State.inTransition (s : State) (n : Nat) : Bool := (s.psqBanks n).any fun b => s.flag .bnk b BNK_MODE_TRANSITION
def State.inQuiet (s : State) (n : Nat) : Bool := (s.psqBanks n).any fun b => bitAt s.quietOpen b

/-- Whether the power domain of a PSQ's cluster is on (R208, R554). -/
def State.clusterOn (s : State) (n : Nat) : Bool := s.domains.getLsbD (4 + n / 4)

/-- Reasons 1 to 6 of a start check (R208). -/
def State.startReason (s : State) (n : Nat) : Nat :=
  if !(decide (s.dev = .ready) || decide (s.dev = .armed) || decide (s.dev = .run)) then 1
  else if !s.clusterOn n then 2
  else if !s.flag .psq n PSQ_STAT_LOADED then 4
  else if (s.sitesOf n).isEmpty then 5
  else if s.badSegment n then 6
  else 0

/-- Whether any channel of a PSQ's sites failed its check (R177). -/
def State.timingFails (s : State) (n : Nat) : Bool := (s.psqPins n).any fun k => s.flag .pec k PEC_TCHK_FAIL

/-- Reasons 8 to 13 of a start check, in the table's order (R208); the channels are checked where the reasons before theirs do not apply. -/
def State.startRest (s : State) (n : Nat) : State × Nat :=
  if s.inTransition n then (s, 8)
  else if s.inQuiet n then (s, 9)
  else if s.rateFails n then (s, 10)
  else
    let s := (s.psqPins n).foldl (fun s k => s.checkChannel n k) s
    if s.timingFails n then (s, 11)
    else if !(s.psq n).stops.isEmpty then (s, 12)
    else if (s.validSets n).isEmpty then (s, 13)
    else (s, 0)

/-- The start check of a PSQ whose start has begun (R207, R208). -/
def State.runCheck (s : State) (n : Nat) : State :=
  let s := s.clearBurst n
  let r := s.startReason n
  if r ≠ 0 then s.startOver n r
  else
    match s.startResidency n with
    | (s, false) => s.startOver n 7
    | (s, true) =>
      match s.startRest n with
      | (s, 0) => s.setPsq n { s.psq n with check := .passed }
      | (s, r) => s.startOver n r

/-- The next PSQ_START entry that names a PSQ, where it lies no more than 512 cycles ahead, and whether a later entry of its position
stops that PSQ (R109). -/
def State.startEntry (s : State) (n : Nat) : Option (PstEntry × Bool) :=
  match s.pst.entries.find? fun e => e.action == 1 && bitAt e.target n with
  | some e =>
    if s.epc.valid && decide (s.cyclesTo e.f e.p ≤ 512) then
      let later := (s.pst.entries.dropWhile fun x => x.slot != e.slot).any fun x =>
        x.action == 2 && x.f == e.f && x.p == e.p && bitAt x.target n
      some (e, later)
    else none
  | none => none

/-- The start check for a Piste entry begins (R207, R109). -/
def State.pisteCheck (s : State) (n : Nat) (e : PstEntry) (later : Bool) : State :=
  if s.psqRunning n then
    (s.startRefused n true 3).setPsq n { s.psq n with refused := some 3 }
  else
    let s := s.beginStart n true (e.f, e.p)
    let s := if later then s.setPsq n { s.psq n with stops := [⟨5, 0, 0⟩] } else s
    s.runCheck n

/-- Whether the check for a Piste entry has been made. -/
def State.checkMade (s : State) (n : Nat) (e : PstEntry) : Bool :=
  let x := s.psq n
  x.refused.isSome || (x.check == .passed && x.fromPiste && x.t0F == e.f && x.t0P == e.p)

/-- START_CHECK (R208): of the host start that was requested, or of the Piste entry whose position is 512 cycles ahead. -/
def startCheck (n : Nat) (source : StartBy) (s : State) : State :=
  match source with
  | .host => if (s.psq n).check = .due && !(s.psq n).fromPiste then s.runCheck n else s
  | .piste =>
    match s.startEntry n with
    | some (e, later) => if s.checkMade n e then s else s.pisteCheck n e later
    | none => s

def execStartCheck (n : Fin 8) (source : StartBy) (s : State) : Host.Outcome State Fault Refusal :=
  done (startCheck n.val source s)

/-- START (R207): τ0 is 512 cycles from now. -/
def psqStart (n : Nat) (s : State) : State :=
  if s.psqRunning n then s.startRefused n false 3 else s.beginStart n false (s.posIn 512)

def execStart (n : Fin 8) (s : State) : Host.Outcome State Fault Refusal := done (s.asHostOn .psq n.val (psqStart n.val))

/-! ### The first vector -/

/-- A stop request came before τ0 (R210). -/
def State.stopPending (s : State) (n : Nat) : Bool := (s.psq n).stops.any fun r => r.pos == 0

/-- The stacks of a PSQ are empty, and VP is invalid. -/
def State.emptyStacks (s : State) (n : Nat) : State :=
  let s := s.resetRegs .psq n (within 0x100 0x23F)
  let s := (s.put .psq n PSQ_DEPTH_LOOP 0).put .psq n PSQ_DEPTH_CALL 0
  let s := ((s.put .psq n PSQ_VP_SEG_VALID 0).put .psq n PSQ_VP_SEG 0).put .psq n PSQ_VP_OFF 0
  s.setPsq n { s.psq n with loopVp := [], vpOver := false }

/-- PSQ_T0 takes τ0. -/
def State.putT0 (s : State) (n : Nat) : State :=
  let x := s.psq n
  let s := (s.put .psq n PSQ_T0_F_LO (x.t0F % 2 ^ 32)).put .psq n PSQ_T0_F_HI (x.t0F / 2 ^ 32)
  (s.put .psq n PSQ_T0_P x.t0P).put .psq n PSQ_STAT_T0_VALID (bit s.epc.valid)

/-- The burst begins (R206, R207): PC at PSQ_ENTRY, VP invalid. -/
def State.beginBurst (s : State) (n : Nat) : State :=
  let x := s.psq n
  let s := s.setPsq n { x with check := .none, holdover := decide (s.epc.source = .holdover) }
  let s := ((s.putT0 n).emptyStacks n).put .psq n PSQ_PC (s.fld .psq n PSQ_ENTRY_PC)
  let s := ((s.put .psq n PSQ_END_CAUSE 0).put .psq n PSQ_END_FAULT 0).put .psq n PSQ_END_LANE 0
  let s := (s.put .psq n PSQ_START_RESP_RESULT 1).put .psq n PSQ_START_RESP_SOURCE (bit x.fromPiste)
  let s := ((s.put .psq n PSQ_START_RESP_REASON 0).int .psq n 0).put .psq n PSQ_STAT_RUNSTATE 2
  (s.freFirstVector n).feedAssign.settle

/-- FIRST_VECTOR (R207): at τ0 the burst begins, unless a stop request came first. -/
def firstVector (n : Nat) (s : State) : State :=
  let x := s.psq n
  if x.check = .passed && s.reached x.t0F x.t0P then
    if s.stopPending n then s.startOver n 12 else s.beginBurst n
  else s

def execFirstVector (n : Fin 8) (s : State) : Host.Outcome State Fault Refusal := done (firstVector n.val s)

/-! ### PSQ_START -/

/-- One PSQ that an executed PSQ_START names (R111): what it refuses with, 0 where it starts. A check that has not been made is made
now. -/
def State.pisteStart (s : State) (n : Nat) (e : PstEntry) : State × Nat :=
  let later := ((s.startEntry n).map (·.2)).getD false
  let s := if s.checkMade n e then s else s.pisteCheck n e later
  let s := if (s.psq n).refused.isNone && s.stopPending n then s.startOver n 12 else s
  match (s.psq n).refused with
  | some r => (s.setPsq n { s.psq n with refused := none }, r)
  | none => (s, 0)

/-- PSQ_START (R104, R111): each masked PSQ that passes its check starts; the lowest-numbered refusal is the entry's reason. -/
def execPsqStart (s : State) : Host.Outcome State Fault Refusal :=
  done (s.pisteAct 1 fun e s =>
    let r := (List.range 8).foldl (fun (r : State × Nat) n =>
      if bitAt e.target n then
        let (s, x) := r.1.pisteStart n e
        (s, if r.2 = 0 then x else r.2)
      else r) (s, 0)
    (r.1, if r.2 = 0 then .took 0 else .refused (BitVec.ofNat 32 r.2)))

/-! ### Stops and pauses -/

/-- STOP (R210, R211). -/
def psqStop (n : Nat) (s : State) : State := (s.requestStop n 8 0).stopCond n 4

def execStop (n : Fin 8) (s : State) : Host.Outcome State Fault Refusal := done (s.asHostOn .psq n.val (psqStop n.val))

/-- PAUSE (R213). -/
def psqPause (n : Nat) (on : Bool) (s : State) : State :=
  (s.put .psq n PSQ_CTRL_PAUSE (bit on)).put .psq n PSQ_PAUSE_STAT_HOST (bit on)

def execPause (n : Fin 8) (on : Bool) (s : State) : Host.Outcome State Fault Refusal :=
  done (s.asHostOn .psq n.val (psqPause n.val on))

/-- PSQ_AJUMP_WRITE (R225): a later write replaces the request; one with VALID at 0 withdraws it. -/
def ajumpWrite (n : Nat) (value : Word) (s : State) : State :=
  let v := bitsOf value 31 31
  let s := (s.put .psq n PSQ_AJUMP_VALID v).put .psq n PSQ_STAT_AJ_PEND v
  let s := (s.put .psq n PSQ_AJUMP_LPOP (bitsOf value 27 24)).put .psq n PSQ_AJUMP_TARGET (bitsOf value 23 0)
  s.setPsq n { s.psq n with ajAt := s.vcount n, ajT := s.psqNow n }

def execPsqAjumpWrite (n : Fin 8) (value : Word) (s : State) : Host.Outcome State Fault Refusal :=
  done (s.asHostOn .psq n.val (ajumpWrite n.val value))

/-! ### The end of a burst -/

/-- The place of an end cause in the order of R212: the numbering of PSQ_END.CAUSE with PATTERN_FAULT before HALT. -/
def causeRank (c : Nat) : Nat := if c = 2 then 0 else c

/-- The stop that ends a burst at the boundary at hand: the first by R212 of those received in time. -/
def State.stopCause (s : State) (n : Nat) : Option StopReq :=
  let x := s.psq n
  let bound := max x.t (s.sinceT0 n)
  let due := x.stops.filter fun r =>
    match x.hold with
    | .none => decide (r.pos + 8 ≤ x.t)
    | .pause => true
    | _ => decide (r.pos + 8 ≤ bound)
  due.foldl (fun b r =>
    match b with
    | none => some r
    | some q => if causeRank r.cause < causeRank q.cause then some r else some q) none

/-- What ends a burst: PSQ_END.CAUSE, FAULT and LANE; none while it goes on. -/
def State.endOf (s : State) (n : Nat) : Option (Nat × Nat × Nat) :=
  match (s.psq n).ending with
  | some e => some e
  | none =>
    if s.stopDue n then (s.stopCause n).map fun r => (r.cause, 0, if r.cause = 6 then r.lane else 0) else none

/-- A channel at the end of its burst (R117, R175): pending edges are applied, and IDLE_HOLD at 0 turns the driver off. -/
def State.endPin (s : State) (k : Nat) : State :=
  let last := ((s.pin k).edges.map (·.time)).foldr max 0
  let s := s.pinRun k (last + 1)
  let p := s.pin k
  let p := if s.flag .pec k PEC_CFG_IDLE_HOLD then p else { p with drvOn := false }
  (s.setPin k { p with lastEdge := none, collided := false }).applyDeskew k

/-- The cycles from τ0 at which the burst of a PSQ ends. -/
def State.endCycles (s : State) (n : Nat) : Nat :=
  let x := s.psq n
  if x.hold = .none then x.t else max x.t (s.sinceT0 n)

/-- Everything that a burst's end does (R175, R209, R210, R212, R226). -/
def State.endBurst (s : State) (n : Nat) (e : Nat × Nat × Nat) : State :=
  let pos := s.posAfter (s.psq n).t0F (s.psq n).t0P (s.endCycles n)
  let s := (s.put .psq n PSQ_END_CAUSE e.1).put .psq n PSQ_END_FAULT e.2.1
  let s := s.put .psq n PSQ_END_LANE e.2.2
  let s := s.setPsq n { s.psq n with
    ending := none, stops := [], emit := none, micro := none, hold := .none, vecs := [], endF := BitVec.ofNat 48 pos.1, endP := pos.2 }
  let s := (s.put .psq n PSQ_AJUMP_VALID 0).put .psq n PSQ_STAT_AJ_PEND 0
  let s := if e.1 = 1 then s.int .psq n 1 else if e.1 = 2 then s else s.int .psq n 2
  let s := (s.psqPins n).foldl State.endPin s
  let s := s.put .psq n PSQ_STAT_RUNSTATE 0
  let s := (s.sitesOf n).foldl (fun s i => s.applyChanges i fun _ => true) s
  let s := ((s.freClose n).releaseBurstEnd n).feedBurstEnd n
  s.trySwitch.settle

/-- BURST_END (R175): every outcome of the burst has been delivered. -/
def burstEnd (n : Nat) (s : State) : State :=
  if s.psqBurst n && !s.outcomesDue n then
    match s.endOf n with
    | some e => s.endBurst n e
    | none => s
  else s

def execBurstEnd (n : Fin 8) (s : State) : Host.Outcome State Fault Refusal := done (burstEnd n.val s)

end Sys2Proof.Machine
end

