-- ==== Sys2Proof/Machine/Mce.lean ====
section
/-! DEFINITION. Control stores: microcode images and their checks (R248, R249), loads (R249 to R252), and errors of a stored word
(R253, R254). -/

namespace Sys2Proof.Machine
open Sys2Proof Reg

/-! ### Images -/

/-- Little-endian words of a byte string. -/
def wordsFrom : Nat → List Byte → List Word
  | 0, _ => []
  | k + 1, bs => BitVec.ofNat 32 (leNat (bs.take 4)) :: wordsFrom k (bs.drop 4)

/-- Where the parts of an image lie (R248), and the areas they address. -/
structure ImageShape where
  level : Nat
  ops : Nat
  micros : Nat
  nanos : Nat
  microBase : Nat
  nanoBase : Nat

def userShape : ImageShape := ⟨0, 64, 4096, 512, 12288, 1536⟩
def vendorShape : ImageShape := ⟨1, 192, 12288, 1536, 0, 0⟩

/-- Words before the signature. -/
def ImageShape.body (h : ImageShape) : Nat := 16 + h.ops + h.micros + 6 * h.nanos

/-- Words of the whole image. -/
def ImageShape.total (h : ImageShape) : Nat := h.body + 24

/-- Whether a micro address, or a nano address, lies in the image's own area. -/
def ImageShape.ownMicro (h : ImageShape) (u : Nat) : Bool := decide (h.microBase ≤ u) && decide (u < h.microBase + h.micros)
def ImageShape.ownNano (h : ImageShape) (a : Nat) : Bool := decide (h.nanoBase ≤ a) && decide (a < h.nanoBase + h.nanos)

/-- The header word that fails the format check (R249). -/
def formatFails (h : ImageShape) (ws : List Word) : Option Nat :=
  let w1 := ws.getD 1 0
  if ws.getD 0 0 ≠ 0x4D43 then some 0
  else if bitsOf w1 31 24 ≠ 1 ∨ bitsOf w1 23 16 ≠ h.level ∨ bitsOf w1 15 3 ≠ 0 ∨ (h.level = 1 ∧ bitsOf w1 2 0 ≠ 0) then some 1
  else (List.range 14).findSome? fun i => if ws.getD (2 + i) 0 ≠ 0 then some (2 + i) else none

/-- Whether a dispatch entry fails the area check (R229, R249): one with VALID 0 names no microroutine. -/
def badDispatch (h : ImageShape) (w : Word) : Bool :=
  bitsOf w 30 29 != 0 || bitsOf w 23 14 != 0 || (w.getLsbD 31 && !h.ownMicro (bitsOf w 13 0))

/-- Whether a microword fails the area check (R231, R232, R234). -/
def badMicro (h : ImageShape) (w : Word) : Bool :=
  bitsOf w 31 20 != 0 || bitsOf w 19 17 == 7 || decide (24 ≤ bitsOf w 16 11) || !h.ownNano (bitsOf w 10 0)

/-- FUNC values that are not reserved (R237). -/
def knownFunc (f : Nat) : Bool := decide (f ≤ 0xB) || (decide (0x10 ≤ f) && decide (f ≤ 0x16)) || f == 0x18

/-- The word of a nanoword, 0 to 5, that fails the area check (R235 to R240). -/
def badNano (h : ImageShape) (w : Nat → Word) : Option Nat :=
  let n := ((List.range 6).map fun i => (w i).toNat * 2 ^ (32 * i)).foldr (· + ·) 0
  if n % 2 ^ 32 ≠ 0 then some 0
  else if natBits n 63 32 ≠ 0 then some 1
  else if natBits n 86 64 ≠ 0 then some 2
  else if natBits n 120 119 = 3 ∨ badOps 0 0 (natBits n 124 121) then some 3
  else if badOps (natBits n 144 141) (natBits n 140 137) (natBits n 136 121) then some 4
  else if natBits n 165 164 = 3 ∨ 1 < natBits n 163 162 ∨ 2 < natBits n 171 169 ∨ !knownFunc (natBits n 177 172)
      ∨ !h.ownMicro (natBits n 191 178) then some 5
  else none

/-- The first word of an image that fails the area check (R249). -/
def areaFails (h : ImageShape) (ws : List Word) : Option Nat :=
  let disp := (List.range h.ops).findSome? fun i => if badDispatch h (ws.getD (16 + i) 0) then some (16 + i) else none
  let micro := (List.range h.micros).findSome? fun i =>
    if badMicro h (ws.getD (16 + h.ops + i) 0) then some (16 + h.ops + i) else none
  let base := 16 + h.ops + h.micros
  let nano := (List.range h.nanos).findSome? fun i =>
    (badNano h fun w => ws.getD (base + 6 * i + w) 0).map fun w => base + 6 * i + w
  (disp.or micro).or nano

/-- Whether an image's signature verifies under a key. -/
def signedBy (h : ImageShape) (key : List Byte) (ws : List Word) : Bool :=
  Config.verify key ((ws.take h.body).map bytesOf).flatten (((ws.drop h.body).take 24).map bytesOf).flatten

/-- The Owner key of a slot. -/
def State.ownerKey (s : State) (slot : Nat) : Option OwnerKey := mapGet (fun _ => none) s.sec.slots slot

/-- The key an image must be signed with: Kernamal's, or that of an enrolled Owner with UCODE in the image's key slot (R249, R474). -/
def State.imageKey (s : State) (h : ImageShape) (ws : List Word) : Option (List Byte) :=
  if h.level = 1 then some Config.kernamalKey
  else
    match s.ownerKey (bitsOf (ws.getD 1 0) 2 0) with
    | some k => if bitAt k.perms 1 then some k.key else none
    | none => none

/-- What the checks of an image come to (R249): RESULT and DETAIL. -/
def State.imageResult (s : State) (h : ImageShape) (ws : List Word) : Nat × Nat :=
  match formatFails h ws with
  | some i => (5, i)
  | none =>
    match s.imageKey h ws with
    | none => (6, 1)
    | some key =>
      if !signedBy h key ws then (7, h.body)
      else
        match areaFails h ws with
        | some i => (8, i)
        | none => (1, 0)

/-! ### Loading -/

/-- A digest as the twelve words of a register array, its first byte lowest. -/
def digestWords (d : BitVec 384) : List Word :=
  (List.range 12).map fun j =>
    BitVec.ofNat 32 (((List.range 4).map fun i => d.toNat / 2 ^ (8 * (47 - (4 * j + i))) % 256 * 2 ^ (8 * i)).foldr (· + ·) 0)

/-- The words of an array field. -/
def State.putWords (s : State) (k : PageKind) (i : Nat) (f : Fld) (ws : List Word) : State :=
  ws.zipIdx.foldl (fun s w => s.putAt k i f w.2 w.1.toNat) s

/-- An area of a control store takes an image, and shows its digest and owner (R249). -/
def State.putImage (s : State) (n : Nat) (h : ImageShape) (ws : List Word) : State :=
  let digest := digestWords (Config.sha384 (ws.map bytesOf).flatten)
  let m := s.mceOf n
  if h.level = 1 then
    ((s.setMce n { m with vendor := .words ws }).put .mce n MCE_STAT_VENDOR_VALID 1).putWords .mce n MCE_VDIG digest
  else
    let s := ((s.setMce n { m with user := .words ws }).put .mce n MCE_STAT_USER_VALID 1).putWords .mce n MCE_UDIG digest
    let s := (s.put .mce n MCE_OWNER_VALID 1).put .mce n MCE_OWNER_SLOT (bitsOf (ws.getD 1 0) 2 0)
    s.put .mce n MCE_STAT_SEALED 0

/-- An area becomes invalid. -/
def State.dropArea (s : State) (n : Nat) (vendor : Bool) : State :=
  if vendor then (s.setMce n { s.mceOf n with vendor := .invalid }).put .mce n MCE_STAT_VENDOR_VALID 0
  else (s.dropUserArea n).put .mce n MCE_OWNER_VALID 0

/-- MCE_LOAD_RESP takes an outcome; LOAD_DONE, or LOAD_REFUSED with its class (R249, R257). -/
def State.mceResp (s : State) (n result detail : Nat) : State :=
  let s := (s.put .mce n MCE_LOAD_RESP_RESULT result).put .mce n MCE_LOAD_RESP_DETAIL detail
  if result = 1 then s.int .mce n 0 else (s.int .mce n 1).raiseOpen .mce n 3 1

/-- A load is asked for with a source (R249): BUSY and DENIED change nothing; else the program is unloaded, sealed or not (R489), and the
area is invalid until the load completes. -/
def State.mceGo (s : State) (n src : Nat) : State :=
  if s.psqRunning n || (s.mceOf n).job.isSome then s.mceResp n 2 0
  else if src = 1 ∧ s.role ≠ .vendor then s.mceResp n 3 0
  else
    let s := (s.leaveSealed n).put .mce n MCE_STAT_LOADING 1
    let s := if src = 0 then s.dropArea n false else if src = 3 then s else s.dropArea n true
    let job : MceJob :=
      ⟨src, BitVec.ofNat 32 (s.fld .mce n MCE_LOAD_HANDLE), s.fld .mce n MCE_LOAD_OFF / 64 * 64⟩
    s.setMce n { s.mceOf n with job := some job }

/-- MCE_LOAD (R249). -/
def mceLoad (n : Nat) (s : State) : State := s.mceGo n (s.fld .mce n MCE_LOAD_CTRL_SRC)

def execMceLoad (n : Fin 8) (s : State) : Host.Outcome State Fault Refusal := done (s.asHostOn .mce n.val (mceLoad n.val))

/-- The image of a load is checked, and its area takes it where it passes: RESULT and DETAIL. An image that meets an uncorrectable error
cannot be checked, and ends the load with FETCH_UE. -/
def State.mceRun (s : State) (n : Nat) (j : MceJob) (hits : List EccHit) : State × Nat × Nat :=
  let h := if j.src = 0 then userShape else vendorShape
  if j.src = 3 then (s, 5, 0)
  else if j.src = 2 then
    let r := s.imageResult h Config.vendorImage
    (if r.1 = 1 then s.putImage n h Config.vendorImage else s, r)
  else
    match s.plainRange j.handle j.off (4 * h.total) with
    | none => (s, 4, 0)
    | some o =>
      let (s, ok) := s.readWords (o.words j.off (4 * h.total)) hits
      if !ok then (s, 9, 0)
      else
        let ws := wordsFrom h.total (s.objRead o j.off (4 * h.total))
        let r := s.imageResult h ws
        (if r.1 = 1 then s.putImage n h ws else s, r)

/-- MCE_LOAD_DONE (R249). -/
def mceLoadDone (n : Nat) (hits : List EccHit) (s : State) : State :=
  match (s.mceOf n).job with
  | none => s
  | some j =>
    let r := s.mceRun n j hits
    let s := (r.1.setMce n { r.1.mceOf n with job := none }).put .mce n MCE_STAT_LOADING 0
    s.mceResp n r.2.1 r.2.2

def execMceLoadDone (n : Fin 8) (hits : List EccHit) (s : State) : Host.Outcome State Fault Refusal :=
  done (mceLoadDone n.val hits s)

/-- The Steward loads the vendor image (R252): where it fails, VENDOR_MISSING. -/
def State.vendorLoad (s : State) (n : Nat) : State :=
  let r := (s.dropArea n true).mceRun n ⟨2, 0, 0⟩ []
  if r.2.1 = 1 then r.1 else r.1.raiseOpen .mce n 4 3

/-- VENDOR_RELOAD (R253): the Steward reloads an invalid vendor area as soon as the PSQ is not running. -/
def vendorReload (n : Nat) (s : State) : State :=
  if s.psqRunning n || s.flag .mce n MCE_STAT_VENDOR_VALID then s else (s.vendorLoad n).int .mce n 4

def execVendorReload (n : Fin 8) (s : State) : Host.Outcome State Fault Refusal := done (vendorReload n.val s)

/-! ### Errors of a stored word -/

/-- Whether a word of a part lies in the vendor area (R228): 0 dispatch, 1 micro, 2 nano. -/
def inVendorArea (part addr : Nat) : Bool :=
  match part with
  | 0 => decide (addr < 0xC0)
  | 1 => decide (addr < 12288)
  | _ => decide (addr < 1536)

/-- STORE_CE is raised once per burst, or once per idle check (R253). -/
def State.storeCe (s : State) (n : Nat) : State :=
  let s := ((s.bump .mce n MCE_CE_COUNT MCE_CE_OVF).int .mce n 2).pcn n 0x14 1
  if s.psqRunning n then
    (if s.raisedOnce n 5 then s else (s.noteRaised n 5).raiseOpen .mce n 1 1)
  else if (s.mceOf n).ceNoted then s
  else (s.setMce n { s.mceOf n with ceNoted := true }).raiseOpen .mce n 1 1

/-- An uncorrectable word (R253): its area is invalid and the program unloaded; met by the front end it is pattern fault MICROCODE. -/
def State.storeUe (s : State) (n part addr : Nat) : State :=
  let s := s.dropArea n (inVendorArea part addr)
  let s := ((s.put .mce n MCE_UE_VALID 1).put .mce n MCE_UE_PART part).put .mce n MCE_UE_ADDR addr
  let s := (s.int .mce n 3).raiseOpen .mce n 2 3
  let s := if s.bursting n then s.patternFault n 16 else s
  s.leaveSealed n

/-- STORE_SCAN (R253, R254): a word of the control store is read, by the front end while the PSQ runs and by the idle check otherwise.
An idle check begins with the first word of the dispatch table. -/
def storeScan (n part addr : Nat) (uncorrectable : Option Bool) (s : State) : State :=
  let s := if !s.psqRunning n && part == 0 && addr == 0 then s.setMce n { s.mceOf n with ceNoted := false } else s
  match uncorrectable with
  | none => s
  | some false => s.storeCe n
  | some true => s.storeUe n part addr

def execStoreScan (n : Fin 8) (part : Fin 3) (addr : Nat) (uncorrectable : Option Bool) (s : State) :
    Host.Outcome State Fault Refusal :=
  done (storeScan n.val part.val addr uncorrectable s)

end Sys2Proof.Machine
end

