-- ==== Sys2Proof/Machine/Fabric.lean ====
section
/-! DEFINITION. The site allocator (R258 to R263), the overlay store, its descriptors and its DMA (R276 to R278, R283), and frames between
the dies (R151). -/

namespace Sys2Proof.Machine
open Sys2Proof Reg

/-! ### The allocator's checks -/

def State.template (s : State) (t : Nat) : Option Template := mapGet (fun _ => none) s.sfb.templates t

/-- W of a template: lane-words per vector (R258). -/
def Template.width (t : Template) : Nat := ceilDiv t.pins 32

/-- The placements of a request. -/
def Template.chosen (t : Template) (count first : Nat) : List (List Nat × List Nat × Option Nat) := (t.places.drop first).take count

/-- Site numbers that are free, ascending. -/
def State.freeSites (s : State) : List Nat := (List.range 256).filter fun i => !s.siteBound i

/-- The lowest entry of a list that is taken already or stands in it twice. -/
def conflict (taken : Nat → Bool) (l : List Nat) : Option Nat := (l.filter fun x => taken x || decide (1 < l.count x)).min?

/-- Whether a supply belongs to a site. -/
def State.supplyBound (s : State) (u : Nat) : Bool :=
  (List.range 256).any fun i => s.siteBound i && (s.siteSupplies i).contains u

/-- The checks of a bind in order (R260): REASON and DETAIL; REASON 0 where it is admitted. -/
def State.bindCheck (s : State) (template psq count first : Nat) : Nat × Nat :=
  if !(decide (s.dev = .ready) || decide (s.dev = .armed) || decide (s.dev = .run)) then (1, 0)
  else
    match s.template template with
    | none => (2, template)
    | some t =>
      let w := t.width
      let ps := t.chosen count first
      if !s.clusterOn psq then (3, psq)
      else if s.psqRunning psq then (4, psq)
      else if count = 0 ∨ t.places.length < first + count then (5, template)
      else if !(s.sitesOf psq).isEmpty && s.fld .psq psq PSQ_STAT_LW + 1 != w then (6, psq)
      else if s.freeSites.length < count then (7, s.freeSites.length)
      else if (s.sitesOf psq).isEmpty && decide (16 - s.fld .sfb 0 SFB_LW_USED < w) then (8, 16 - s.fld .sfb 0 SFB_LW_USED)
      else
        match conflict (fun k => s.flag .pec k PEC_SITE_BOUND) (ps.map (·.1)).flatten with
        | some k => (9, k)
        | none =>
          match conflict s.supplyBound (ps.map (·.2.1)).flatten with
          | some u => (10, u)
          | none =>
            match conflict (fun h => s.supplyBound (72 + h)) (ps.filterMap (·.2.2)) with
            | some h => (11, h)
            | none => (0, 0)

/-! ### Binding -/

/-- A channel is bound to pin `j` of site `i` of PSQ `n` (R261); settings that another PSQ's bundle left on it go first (R488). -/
def State.bindPin (s : State) (i n j k : Nat) : State :=
  let s := match (s.pin k).sealedBy with
    | some (_, _, m) => if m = n then s else s.unsealChannel k
    | none => s
  let s := ((s.put .pec k PEC_SITE_BOUND 1).put .pec k PEC_SITE i).put .pec k PEC_SITE_SITE_PIN j
  let s := (s.setBank (k / 32) { s.bank (k / 32) with held := false }).calAbandon (k / 32)
  if j % 2 = 0 then (s.putAt .site i SITE_PINMAP_VALID0 (j / 2) 1).putAt .site i SITE_PINMAP_PEC0 (j / 2) k
  else (s.putAt .site i SITE_PINMAP_VALID1 (j / 2) 1).putAt .site i SITE_PINMAP_PEC1 (j / 2) k

/-- SITE_SUPPLY of a placement: a byte per DPS, and the HVC. -/
def State.bindSupplies (s : State) (i : Nat) (dps : List Nat) (hvc : Option Nat) : State :=
  let w := ((dps.zipIdx).map fun d => (128 + d.1) * 256 ^ d.2).foldr (· + ·) 0
  (s.put .site i SITE_SUPPLY_DPS w).put .site i SITE_SUPPLY_HVC ((hvc.map (128 + ·)).getD 0)

/-- One new site (R261). -/
def State.bindSite (s : State) (i n template place : Nat) (p : List Nat × List Nat × Option Nat) : State :=
  let s := (s.put .site i SITE_BIND_BOUND 1).put .site i SITE_BIND_TEMPLATE template
  let s := (s.put .site i SITE_BIND_PSQ n).put .site i SITE_BIND_PLACEMENT place
  let s := s.put .site i SITE_BIND_PINS_M1 (p.1.length - 1)
  let s := p.1.zipIdx.foldl (fun s x => s.bindPin i n x.2 x.1) s
  s.bindSupplies i p.2.1 p.2.2

/-- A set of sites as the eight words of a register array. -/
def State.putSites (s : State) (f : Fld) (sites : List Nat) : State :=
  (List.range 8).foldl (fun s w =>
    s.putAt .sfb 0 f w (((sites.filter fun i => i / 32 == w).map fun i => 2 ^ (i % 32)).foldr (· + ·) 0)) s

/-- SFB_RESP takes an outcome. -/
def State.sfbResp (s : State) (result reason detail : Nat) : State :=
  ((s.put .sfb 0 SFB_RESP_RESULT result).put .sfb 0 SFB_RESP_REASON reason).put .sfb 0 SFB_RESP_DETAIL detail

/-- A bind or a release is refused (R260, R262): INT_STAT.REFUSED and ALLOC_REFUSED. -/
def State.sfbRefused (s : State) (reason detail : Nat) : State :=
  ((s.sfbResp 2 reason detail).int .sfb 0 1).raiseOpen .sfb 0 1 1

/-- An admitted bind takes effect (R261): the lowest free sites, in order, on the placements, in order. -/
def State.bindNow (s : State) (template n count first : Nat) (t : Template) : State :=
  let sites := s.freeSites.take count
  let fresh := (s.sitesOf n).isEmpty
  let s := ((sites.zip (t.chosen count first)).zipIdx).foldl (fun s x => s.bindSite x.1.1 n template (first + x.2) x.1.2) s
  let s := s.put .psq n PSQ_STAT_BOUND 1
  let s := if fresh then
      (s.put .psq n PSQ_STAT_LW (t.width - 1)).put .sfb 0 SFB_LW_USED (s.fld .sfb 0 SFB_LW_USED + t.width)
    else s
  (((s.putSites SFB_BOUND sites).sfbResp 1 0 (sites.headD 0)).int .sfb 0 0).settle

/-- A bind is checked and takes effect, at one instant (R260). -/
def State.runBind (s : State) (template psq count first : Nat) : State :=
  match s.bindCheck template psq count first, s.template template with
  | (0, _), some t => s.bindNow template psq count first t
  | (r, d), _ => s.sfbRefused r d

/-! ### Release -/

/-- A channel leaves its site: it enters SAFE, and its seals clear (R116, R152, R262, R360). -/
def State.freePin (s : State) (k : Nat) : State :=
  let b := k / 32
  let s := ((s.put .pec k PEC_SITE_BOUND 0).put .pec k PEC_SITE 0).put .pec k PEC_SITE_SITE_PIN 0
  let s := s.put .pec k PEC_STAT_SEALED 0
  let sealed := s.fld .lde b LDE_SEALED
  let s := if bitAt sealed (k % 32) then s.put .lde b LDE_SEALED (sealed - 2 ^ (k % 32)) else s
  s.setPin k { (s.pin k).safe with sealedBy := none }

/-- One site is released (R262, R347): its pending record is issued first. -/
def State.freeSite (s : State) (i : Nat) : State :=
  let s := match s.sitePsq i with
    | some n => s.forceIssue n i
    | none => s
  let s := ((s.sitePins i).map (·.2)).foldl State.freePin (s.dropItems i)
  let s := s.resetRegs .site i fun o => within 0x40 0x43 o || within 0x48 0x57 o || within 0x100 0x207 o
  s.setSite i { s.site i with changes := [], taint := 0, failed := false, ovlBy := none, matchIter := none, inMatch := false }

/-- Sites are released; a PSQ left with none gives its lane-word paths back (R262). -/
def State.freeSitesOf (s : State) (sites : List Nat) : State :=
  let s := sites.foldl State.freeSite s
  let s := (List.range 8).foldl (fun s n =>
    if s.flag .psq n PSQ_STAT_BOUND && (s.sitesOf n).isEmpty then
      let w := s.fld .psq n PSQ_STAT_LW + 1
      ((s.put .psq n PSQ_STAT_BOUND 0).put .psq n PSQ_STAT_LW 0).put .sfb 0 SFB_LW_USED (s.fld .sfb 0 SFB_LW_USED - w)
    else s) s
  s.settle

/-- A release is checked and takes effect, at one instant (R262). -/
def State.runRelease (s : State) (sites : List Nat) : State :=
  if sites.any s.siteRunning then s.sfbRefused 4 ((sites.find? s.siteRunning).bind s.sitePsq |>.getD 0)
  else ((s.freeSitesOf sites).sfbResp 3 0 0).int .sfb 0 2

/-! ### Commands of the allocator -/

/-- A command reaches the allocator: ignored with reason STATE while an earlier one is in progress (R263). -/
def State.sfbStart (s : State) (c : SfbCmd) : State :=
  if s.sfb.cmd.isSome then s.sfbRefused 1 0 else { s with sfb := { s.sfb with cmd := some c } }

/-- SFB_BIND (R260). -/
def sfbBind (s : State) : State :=
  s.sfbStart (.bind (s.fld .sfb 0 SFB_REQ_TEMPLATE) (s.fld .sfb 0 SFB_REQ_PSQ) (s.fld .sfb 0 SFB_REQ_COUNT)
    (s.fld .sfb 0 SFB_REQ_PLACE_FIRST))

def execSfbBind (s : State) : Host.Outcome State Fault Refusal := done (s.asHostOn .sfb 0 sfbBind)

/-- REL_PSQ (R262). -/
def execRelPsq (s : State) : Host.Outcome State Fault Refusal :=
  done (s.asHostOn .sfb 0 fun s => s.sfbStart (.releasePsq (s.fld .sfb 0 SFB_CMD_PSQ)))

/-- SFB_SEL as one number. -/
def State.sfbSel (s : State) : Nat := ((List.range 8).map fun w => s.fldAt .sfb 0 SFB_SEL w * 2 ^ (32 * w)).foldr (· + ·) 0

/-- REL_SITES (R262). -/
def execRelSites (s : State) : Host.Outcome State Fault Refusal :=
  done (s.asHostOn .sfb 0 fun s => s.sfbStart (.releaseSites s.sfbSel))

/-- SFB_CMD_COMPLETE (R260 to R263). -/
def sfbCmdComplete (s : State) : State :=
  match s.sfb.cmd with
  | none => s
  | some c =>
    let s := { s with sfb := { s.sfb with cmd := none } }
    match c with
    | .bind t n count first => s.runBind t n count first
    | .releasePsq n => s.runRelease (s.sitesOf n)
    | .releaseSites sel => s.runRelease ((List.range 256).filter fun i => bitAt sel i && s.siteBound i)

def execSfbCmdComplete (s : State) : Host.Outcome State Fault Refusal := done (sfbCmdComplete s)

/-! ### The overlay -/

def State.ovlByte (s : State) (a : Nat) : Byte := mapGet (fun _ => 0) s.overlay a
def State.setOvlByte (s : State) (a : Nat) (v : Byte) : State := { s with overlay := mapSet (fun _ => 0) s.overlay a v }

/-- Bytes written to the overlay store from an address on. -/
def State.ovlWrite (s : State) (a : Nat) : List Byte → State
  | [] => s
  | b :: r => (s.setOvlByte a b).ovlWrite (a + 1) r

/-- OVL_BUSY (R277). -/
def State.ovlBusy (s : State) : State := (s.int .ovl 0 1).raiseOpen .ovl 0 1 1

/-- Whether a site's overlay region is sealed, and sealed against the present role (R283, R480). -/
def State.ovlSealed (s : State) (i : Nat) : Bool := s.flag .site i SITE_STATE_OVL_SEALED
def State.ovlSealedNow (s : State) (i : Nat) : Bool := s.ovlSealed i && !s.opens s.role (s.site i).ovlBy

/-- The cursor advances by four bytes, through the regions, and wraps. -/
def State.ovlNext (s : State) : State :=
  let a := (4096 * s.fld .ovl 0 OVL_CUR_SITE + s.fld .ovl 0 OVL_CUR_BYTE / 4 * 4 + 4) % 2 ^ 20
  (s.put .ovl 0 OVL_CUR_SITE (a / 4096)).put .ovl 0 OVL_CUR_BYTE (a % 4096)

/-- An access to OVL_DATA (R277, R283): the four bytes at the cursor. -/
def State.ovlAccess (s : State) (write : Option Word) : State :=
  let i := s.fld .ovl 0 OVL_CUR_SITE
  let a := 4096 * i + s.fld .ovl 0 OVL_CUR_BYTE / 4 * 4
  match write with
  | none =>
    if s.ovlSealedNow i then ((s.denied (baseOf .ovl 0)).answer 0).ovlNext
    else (s.answer (BitVec.ofNat 32 (leNat ((List.range 4).map fun j => s.ovlByte (a + j))))).ovlNext
  | some v =>
    if s.ovlSealedNow i then (s.denied (baseOf .ovl 0)).ovlNext
    else if s.siteRunning i then s.ovlBusy.ovlNext
    else (s.ovlWrite a (bytesOf v)).ovlNext

/-- OVL_DATA_ACCESS (R277). -/
def execOvlDataAccess (write : Option Word) (s : State) : Host.Outcome State Fault Refusal :=
  done (if s.live then s.ovlAccess write else if write.isNone then s.answer 0 else s)

/-- DESCRIPTOR_WRITE (R277): ignored while the PSQ OWNER of the descriptor is running. -/
def descriptorWrite (d w : Nat) (value : Word) (s : State) : State :=
  if s.psqRunning (bitsOf (s.descWord d 5) 22 20) then s.ovlBusy else s.putAt .ovl 0 OVL_DESC_WORD (8 * d + w) value.toNat

def execDescriptorWrite (d : Fin 32) (w : Fin 8) (value : Word) (s : State) : Host.Outcome State Fault Refusal :=
  done (s.asHostOn .ovl 0 (descriptorWrite d.val w.val value))

/-- OVL_DMA_RESP takes an outcome. -/
def State.ovlResp (s : State) (result unwritten : Nat) : State :=
  (s.put .ovl 0 OVL_DMA_RESP_RESULT result).put .ovl 0 OVL_DMA_RESP_UNWRITTEN unwritten

/-- OVL_DMA (R278, R283): refused BUSY, RANGE or ACCESS, or in progress. -/
def ovlDma (s : State) : State :=
  let first := s.fld .ovl 0 OVL_DMA_CTRL_FIRST
  let n := s.fld .ovl 0 OVL_DMA_CTRL_COUNT_M1 + 1
  let h := BitVec.ofNat 32 (s.fld .ovl 0 OVL_DMA_HANDLE)
  let off := s.fld .ovl 0 OVL_DMA_OFF / 64 * 64
  let sites := (List.range n).map (first + ·)
  if sites.any s.siteRunning then s.ovlBusy.ovlResp 2 0
  else if s.ovlDma.isSome then s.ovlResp 2 0
  else if 256 < first + n then s.ovlResp 3 0
  else if (s.plainRange h off (4096 * n)).isNone || sites.any s.ovlSealed then s.ovlResp 4 0
  else { s with ovlDma := some ⟨h, off, first, n - 1⟩ }

def execOvlDma (s : State) : Host.Outcome State Fault Refusal := done (s.asHostOn .ovl 0 ovlDma)

/-- OVL_DMA_DONE (R278): the copy is complete, or an uncorrectable error ended it with part of it written; how much, the spec does not
say: a free value. -/
def ovlDmaDone (hits : List EccHit) (s : State) : State :=
  match s.ovlDma with
  | none => s
  | some j =>
    let s := { s with ovlDma := none }
    let len := 4096 * (j.countM1 + 1)
    match s.plainRange j.handle j.off len with
    | none => s.ovlResp 4 0
    | some o =>
      let (s, ok) := s.readWords (o.words j.off len) hits
      let unwritten := bit (s.objUnwritten o j.off len)
      if ok then (((s.ovlWrite (4096 * j.first) (s.objRead o j.off len)).ovlResp 1 unwritten).int .ovl 0 0)
      else
        let part := s.freeVal % len
        let s := (s.ovlWrite (4096 * j.first) (s.objRead o j.off part)).drawn
        ((s.ovlResp 5 unwritten).int .ovl 0 2).raiseOpen .ovl 0 2 3

def execOvlDmaDone (hits : List EccHit) (s : State) : Host.Outcome State Fault Refusal := done (ovlDmaDone hits s)

/-! ### Frames between the dies -/

/-- The eight oldest vectors a PSQ still awaits outcomes of. -/
def State.oldestVecs (s : State) (n : Nat) : List Nat := ((s.psq n).vecs.map (·.idx)).take 8

/-- The outcomes of a channel for the vectors of a lost frame become NONE (R151). -/
def State.dropOutcomes (s : State) (k : Nat) (vecs : List Nat) : State :=
  let p := s.pin k
  s.setPin k { p with compares := p.compares.map fun c => if vecs.contains c.vec then { c with expect := none } else c }

/-- What a frame that failed its CRC does to a running PSQ with channels in the bank (R151, R223). -/
def State.lostFrame (s : State) (b : Nat) (inbound : Bool) (n : Nat) : State :=
  let sites := (s.sitesOf n).filter fun i => (s.siteBanks i).contains b
  if !s.psqRunning n || sites.isEmpty then s
  else
    let s := sites.foldl (fun s i => s.taintSite i 4) s
    if inbound then
      let vecs := s.oldestVecs n
      ((s.psqPins n).filter fun k => k / 32 == b).foldl (fun s k => s.dropOutcomes k vecs) s
    else s.setPsq n { s.psq n with maskLeft := mapSet (fun _ => 0) (s.psq n).maskLeft b 8 }

/-- D2D_FRAME (R151). -/
def d2dFrame (b : Nat) (inbound crcOk : Bool) (s : State) : State :=
  if crcOk then s
  else
    let s := ((s.bump .bnk b BNK_D2D_CRC_ERR BNK_D2D_OVF).int .bnk b 1).raiseOpen .bnk b 1 3
    (List.range 8).foldl (fun s n => s.lostFrame b inbound n) s

def execD2dFrame (b : Fin 24) (inbound crcOk : Bool) (s : State) : Host.Outcome State Fault Refusal :=
  done (d2dFrame b.val inbound crcOk s)

end Sys2Proof.Machine
end

