-- ==== Sys2Proof/Machine/Bar2.lean ====
section
/-! DEFINITION. The Vector Store seen from the host: the BAR2 aperture (R40, R305 to R307), allocating and freeing objects (R289, R292),
the correctable-error bucket (R299), channel failures (R300) and the scrubber (R301, R302). -/

namespace Sys2Proof.Machine
open Sys2Proof Reg

/-! ### Where a BAR2 byte lies -/

/-- What a byte of BAR2 stands for: outside every mapping; a byte of a SEALED object; a physical address; a byte of a bank's capture
memory (R305, R306). -/
inductive Bar2At where
  | outside
  | sealedByte
  | mem (a : Nat)
  | acq (bank x : Nat)
  deriving DecidableEq, Repr

/-- The byte at a BAR2 offset. -/
def State.bar2At (s : State) (addr : Nat) : Bar2At :=
  let w := addr / 2 ^ 30 % 4
  match s.fldAt .vmc 0 VMC_WIN_KIND w with
  | 1 =>
    let x := 65536 * s.fldAt .vmc 0 VMC_WIN_BASE_GR w + addr % 2 ^ 30
    match s.objAt (BitVec.ofNat 32 (s.fldAt .vmc 0 VMC_WIN_HANDLE w)) with
    | some o => if o.size ≤ x then .outside else if o.kind = .sealedObj then .sealedByte else .mem (o.phys x)
    | none => .outside
  | 2 =>
    let b := s.fldAt .vmc 0 VMC_WIN_BANK w
    if b < 24 ∧ addr % 2 ^ 30 < 4 * 65536 then .acq b (addr % 2 ^ 30) else .outside
  | _ => .outside

/-- The physical address of a byte in the store. -/
def Bar2At.phys? : Bar2At → Option Nat
  | .mem a => some a
  | _ => none

/-- Byte `x` of a bank's capture memory: byte 4x is the low byte of word x (R418). -/
def State.acqByte (s : State) (b x : Nat) : Byte :=
  BitVec.ofNat 8 ((mapGet (fun _ => (0 : Word)) (s.measOf b).mem (x / 4)).toNat / 256 ^ (x % 4))

/-- What a byte of BAR2 reads as. -/
def State.bar2Byte (s : State) : Bar2At → Byte
  | .mem a => s.vsByte a
  | .acq b x => s.acqByte b x
  | _ => 0

/-- An access that runs outside every mapping is counted once (R306). -/
def State.bar2Outside (s : State) (ats : List Bar2At) : State :=
  if ats.contains .outside then s.bump .vmc 0 VMC_BAR2_DISC_COUNT VMC_BAR2_DISC_OVF else s

/-- An access that touches a SEALED object sets ACCESS_DENIED of the VMC page (R304). -/
def State.bar2Sealed (s : State) (ats : List Bar2At) : State :=
  if ats.contains .sealedByte then s.denied (baseOf .vmc 0) else s

/-! ### BAR2_READ -/

/-- A host read through BAR2 (R295, R297, R304, R306). -/
def bar2Read (addr len : Nat) (hits : List EccHit) (s : State) : State :=
  let ats := (List.range len).map fun i => s.bar2At (addr + i)
  let words := (ats.filterMap fun x => x.phys?.map (· / 8)).eraseDups
  let s := (s.bar2Outside ats).bar2Sealed ats
  let s :=
    if words.any fun w => !s.vsWritten (w / 512) then
      (s.bump .vmc 0 VMC_UNWR_COUNT VMC_UNWR_OVF).int .vmc 0 1
    else s
  let bs := ats.map s.bar2Byte
  let (s, ok) := s.readWords words hits
  { s with hif := { s.hif with resp := if ok then .bytes bs else .poisoned } }

def execBar2Read (addr len : Nat) (hits : List EccHit) (s : State) : Host.Outcome State Fault Refusal :=
  done (if s.live then bar2Read addr len hits s
    else { s with hif := { s.hif with resp := .bytes (List.replicate len 0) } })

/-! ### BAR2_WRITE -/

/-- The running PSQs with a page in their footprint that a granule backs (R306). -/
def State.granuleRunning (s : State) (g : Nat) : List Nat :=
  (List.range 8).filter fun n =>
    s.psqRunning n && s.vs.pte.any fun e => e.2.backing == some g && s.inFootprint n e.1

/-- The copies of a written block leave the vector cache of a PSQ that is loaded and not running; a pinned one is fetched again at once
(R307). -/
def State.dropCopies (s : State) (phys n : Nat) : State :=
  match (s.psq n).prog with
  | none => s
  | some p =>
    if s.psqRunning n then s
    else
      let bs := ((s.psq n).cache.map (·.1)).filter fun b => s.blockPhys b == some (phys / 64 * 64)
      let s := s.setPsq n { s.psq n with cache := (s.psq n).cache.filter fun e => !bs.contains e.1 }
      (bs.filter fun b => s.pinnedPage n p (b / 1024)).foldl (fun s b => s.fillBlock n b []) s

/-- WRITE_BUSY, once per burst (R306). -/
def State.writeBusy (s : State) (ns : List Nat) : State :=
  let s' := s.int .vmc 0 5
  let new := ns.filter fun n => !s.raisedOnce n 7
  if new.isEmpty then s' else (new.foldl (fun s n => s.noteRaised n 7) s').raiseOpen .vmc 0 5 1

/-- A narrow write of bytes of one word, as a read-modify-write (R298); `hit` is the error its read meets. -/
def State.narrowWrite (s : State) (word : Nat) (bytes : List (Nat × Byte)) (hit : Option Bool) : State :=
  if s.vsPoison word || s.chFailed (vsChannel (8 * word)) || (hit == some true && s.vsWritten (word / 512)) then
    ((s.bump .vmc 0 VMC_RMW_FAIL_COUNT VMC_RMW_FAIL_OVF).int .vmc 0 4).raiseOpen .vmc 0 4 1
  else
    let s := if hit == some false && s.vsWritten (word / 512) then s.corrected else s
    (bytes.foldl (fun s b => s.vsPoke b.1 [b.2]) s).pcnChip 3 1

/-- The enabled bytes of one aligned 64-bit word of the store are written, where no running footprint holds its page. -/
def State.bar2Word (s : State) (word : Nat) (bytes : List (Nat × Byte)) (hit : Option Bool) : State :=
  let ns := s.granuleRunning (word / 8192)
  if !ns.isEmpty then s.writeBusy ns
  else
    let s :=
      if bytes.length = 8 then (s.vsPoke (8 * word) (bytes.map (·.2))).setPoison word false
      else s.narrowWrite word bytes hit
    (List.range 8).foldl (fun s n => s.dropCopies (8 * word) n) s

/-- A byte of a bank's capture memory written. -/
def State.setAcqByte (s : State) (b x : Nat) (v : Byte) : State :=
  let m := s.measOf b
  let w := mapGet (fun _ => (0 : Word)) m.mem (x / 4)
  let k := 8 * (x % 4)
  s.setMeas b { m with mem := mapSet (fun _ => (0 : Word)) m.mem (x / 4) (putBits w (k + 7) k v.toNat) }

/-- A host write through BAR2 of the bytes that are enabled (R40, R298, R304, R306, R307). -/
def bar2Write (addr : Nat) (data : List (Option Byte)) (hits : List EccHit) (s : State) : State :=
  let bs := data.zipIdx.filterMap fun e => e.1.map fun v => (s.bar2At (addr + e.2), v)
  let ats := bs.map (·.1)
  let s := (s.bar2Outside ats).bar2Sealed ats
  let s := bs.foldl (fun s e =>
    match e.1 with
    | .acq b x => s.setAcqByte b x e.2
    | _ => s) s
  let mem := bs.filterMap fun e => e.1.phys?.map fun a => (a, e.2)
  let words := (mem.map (·.1 / 8)).eraseDups
  let s := s.pcnChip 2 ((words.map (· / 8)).eraseDups.length)
  words.zipIdx.foldl (fun s w =>
    s.bar2Word w.1 (mem.filter fun e => e.1 / 8 == w.1) ((hits.find? fun x => x.word == w.2).map (·.uncorrectable))) s

def execBar2Write (addr : Nat) (data : List (Option Byte)) (hits : List EccHit) (s : State) :
    Host.Outcome State Fault Refusal := done (if s.live then bar2Write addr data hits s else s)

/-! ### Bucket, channels, scrubber -/

/-- BUCKET_LEAK (R299): at a LEAK_S-th tick of the operating seconds since the last fall, LEVEL falls where it is above 0. -/
def bucketLeak (s : State) : State :=
  let level := s.fld .vmc 0 VMC_BUCKET_LEVEL
  let each := max 1 (s.fld .vmc 0 VMC_BUCKET_LEAK_S)
  if 0 < s.vs.leak ∧ s.vs.leak % each = 0 ∧ 0 < level then
    let s := s.put .vmc 0 VMC_BUCKET_LEVEL (level - 1)
    { s with vs := { s.vs with leak := 0, overflowed := if level = 1 then false else s.vs.overflowed } }
  else s

def execBucketLeak (s : State) : Host.Outcome State Fault Refusal := done (bucketLeak s)

/-- Whether the memory domains run: not in OFF. -/
def State.powered (s : State) : Bool := !decide (s.dev = .off)

/-- VS_CHANNEL_FAIL (R300). -/
def execVsChannelFail (c : Fin 8) (s : State) : Host.Outcome State Fault Refusal :=
  done (if s.powered then (s.failChannel c.val).engage else s)

/-- The host-backed page a granule holds the staged copy of. -/
def State.stagedIn (s : State) (g : Nat) : Option Nat :=
  (s.vs.pte.find? fun e => e.2.host && e.2.backing == some g).map (·.1)

/-- A poisoned word of a staged page (R302): the page is fetched again, and REFETCH is raised. -/
def State.refetch (s : State) (vpn : Nat) : State :=
  let e := s.pteAt vpn
  let s := s.setPte vpn { e with present := false }
  let s := { s with vs := { s.vs with
    staged := s.vs.staged.filter fun v => v != vpn, fetches := s.vs.fetches ++ [HostFetch.mk vpn e.granule 0] } }
  (s.int .lftG 0 3).raiseOpen .lftG 0 4 1

/-- The scrubber finds a word in error (R302). -/
def State.scrubHit (s : State) (word : Nat) (uncorrectable : Bool) : State :=
  if s.vsPoison word || s.chFailed (vsChannel (8 * word)) then s
  else if !uncorrectable then s.corrected
  else
    let s := s.setPoison word true
    let s := (s.bump .vmc 0 VMC_POISON_COUNT VMC_POISON_OVF).putUeLoc word true
    let s := (s.int .vmc 0 2).raiseOpen .vmc 0 1 2
    match s.stagedIn (word / 8192) with
    | some vpn => s.refetch vpn
    | none => s

/-- SCRUB_READ (R301, R302): the next block is read, and the position moves on. -/
def scrubRead (hits : List EccHit) (s : State) : State :=
  if s.flag .vmc 0 VMC_SCRUB_CFG_EN && !s.flag .vmc 0 VMC_STAT_SCRUB_DEFERRED && s.powered then
    let pos := s.fld .vmc 0 VMC_SCRUB_POS_BLOCK
    let s :=
      if s.vsWritten (pos / 64) then
        hits.foldl (fun s h => if h.word < 8 then s.scrubHit (8 * pos + h.word) h.uncorrectable else s) ((s.pcnChip 1 1).pcnChip 5 1)
      else s
    let s := if pos + 1 = 2 ^ 28 then s.bump .vmc 0 VMC_SCRUB_PASSES_COUNT VMC_SCRUB_PASSES_OVF else s
    (s.put .vmc 0 VMC_SCRUB_POS_BLOCK (pos + 1)).put .vmc 0 VMC_STAT_SCRUB_ACTIVE (bit (pos + 1 != 2 ^ 28))
  else s

def execScrubRead (hits : List EccHit) (s : State) : Host.Outcome State Fault Refusal := done (scrubRead hits s)

/-! ### Objects -/

/-- The handle that LFT_STAGE names (R291). -/
def State.stageHandle (s : State) : Word := BitVec.ofNat 32 (s.fld .lftG 0 LFT_STAGE_HANDLE)

/-- Whether an object is referenced (R292). -/
def State.referenced (s : State) (h : Word) (o : VsObj) : Bool :=
  (s.vs.pte.any fun e => e.2.v && !e.2.host && o.granules.contains e.2.granule)
    || ((List.range 4).any fun w =>
      s.fldAt .vmc 0 VMC_WIN_KIND w == 1 && s.fldAt .vmc 0 VMC_WIN_HANDLE w == h.toNat)
    || s.stageHandle == h
    || (s.mces.any fun e => e.2.job.any fun j => j.src == 1 && j.handle == h)
    || (s.ovlDma.any fun d => d.handle == h)
    || ((List.range 8).any fun n => s.fld .fre n FRE_SOL_HANDLE == h.toNat)
    || (s.sites.any fun e => e.2.bmapHandle == h)
    || ((List.range 24).any fun b => s.fld .acq b ACQ_SPILL_HANDLE == h.toNat)

/-- VMC_RESP reports a request (R289, R292). -/
def State.vmcResp (s : State) (result : Nat) (ok : Bool) : State :=
  let s := (s.put .vmc 0 VMC_RESP_RESULT result).int .vmc 0 0
  if ok then s else s.raiseOpen .vmc 0 7 1

/-- An allocation of the host completes (R289). -/
def State.allocDone (s : State) (granules : Nat) : State :=
  let (s, r) := s.allocObject .plain granules
  match r with
  | .inl h => (s.put .vmc 0 VMC_HANDLE h.toNat).vmcResp 1 true
  | .inr result => s.vmcResp result false

/-- A free of the host completes (R292). -/
def State.freeDone (s : State) (h : Word) : State :=
  match s.objAt h with
  | none => s.vmcResp 5 false
  | some o =>
    if o.kind = .sealedObj then s.vmcResp 7 false
    else if s.referenced h o then s.vmcResp 6 false
    else (s.freeHandle h).vmcResp 2 true

/-- VMC_ALLOC_DONE (R289, R292): the request in progress completes. -/
def vmcAllocDone (s : State) : State :=
  match s.vs.job with
  | none => s
  | some j =>
    let s := { s with vs := { s.vs with job := none } }
    match j with
    | .alloc g => s.allocDone g
    | .free h => s.freeDone h

def execVmcAllocDone (s : State) : Host.Outcome State Fault Refusal := done (vmcAllocDone s)

/-- A request is taken; one still in progress completes first. -/
def State.vmcRequest (s : State) (m1 : Nat) (j : State → VsJob) : State :=
  let s := (vmcAllocDone s).put .vmc 0 VMC_ALLOC_GRANULES_M1 m1
  { s with vs := { s.vs with job := some (j s) } }

/-- VMC_ALLOC (R289). -/
def execVmcAlloc (granulesM1 : BitVec 18) (s : State) : Host.Outcome State Fault Refusal :=
  done (s.asHostOn .vmc 0 fun s => s.vmcRequest granulesM1.toNat fun _ => .alloc (granulesM1.toNat + 1))

/-- VMC_FREE (R292); GO in the same write is not performed. -/
def execVmcFree (granulesM1 : BitVec 18) (s : State) : Host.Outcome State Fault Refusal :=
  done (s.asHostOn .vmc 0 fun s =>
    s.vmcRequest granulesM1.toNat fun s => .free (BitVec.ofNat 32 (s.fld .vmc 0 VMC_FREE_HANDLE)))

end Sys2Proof.Machine
end

