-- ==== Sys2Proof/Machine/Lift.lean ====
section
/-! DEFINITION. The Lift: map commands (R309), staging and pins (R312, R318), the lookahead walker (R314), cache fills (R215, R315) and
host-backed pages (R316, R317). -/

namespace Sys2Proof.Machine
open Sys2Proof Reg

/-! ### Map commands -/

/-- LFT_MAP_RESP (R309). -/
def State.mapResp (s : State) (result detail : Nat) : State :=
  (s.put .lftG 0 LFT_MAP_RESP_RESULT result).put .lftG 0 LFT_MAP_RESP_DETAIL detail

/-- A map command is refused (R309, R322). -/
def State.mapRefused (s : State) (result detail : Nat) : State :=
  ((s.mapResp result detail).int .lftG 0 1).raiseOpen .lftG 0 1 1

/-- A map command is written (R309): BUSY while a command or a load is in progress; else it latches its registers. -/
def State.mapRequest (s : State) (c : State → MapCmd) : State :=
  if s.vs.mapCmd.isSome || (List.range 8).any fun n => (s.psq n).load.isSome then
    s.mapRefused 2 (s.fld .lftG 0 LFT_MAP_VPN)
  else { s with vs := { s.vs with mapCmd := some (c s) } }

/-- LFT_MAP_VPN, and LFT_MAP_COUNT as a number of pages. -/
def State.mapVpn (s : State) : Nat := s.fld .lftG 0 LFT_MAP_VPN
def State.mapCount (s : State) : Nat := s.fld .lftG 0 LFT_MAP_COUNT_COUNT_M1 + 1

/-- MAP_VS (R309). -/
def execMapVs (s : State) : Host.Outcome State Fault Refusal :=
  done (s.asHostOn .lftG 0 fun s => s.mapRequest fun s =>
    .mapVs s.mapVpn s.mapCount (BitVec.ofNat 32 (s.fld .lftG 0 LFT_MAP_HANDLE)) (s.fld .lftG 0 LFT_MAP_GROFF))

/-- MAP_HOST (R309). -/
def execMapHost (s : State) : Host.Outcome State Fault Refusal :=
  done (s.asHostOn .lftG 0 fun s => s.mapRequest fun s =>
    .mapHost s.mapVpn s.mapCount (s.fld .lftG 0 LFT_MAP_HADDR_ADDR_LO + 2 ^ 32 * s.fld .lftG 0 LFT_MAP_HADDR_ADDR_HI))

/-- UNMAP (R309). -/
def execUnmap (s : State) : Host.Outcome State Fault Refusal :=
  done (s.asHostOn .lftG 0 fun s => s.mapRequest fun s => .unmap s.mapVpn s.mapCount)

/-- The first page of a range that satisfies `p`. -/
def firstPage (vpn count : Nat) (p : Nat → Bool) : Option Nat := ((List.range count).find? fun i => p (vpn + i)).map (vpn + ·)

/-- Whether some loaded PSQ has a page in its footprint. -/
def State.footprinted (s : State) (vpn : Nat) : Bool :=
  (List.range 8).any fun n => (s.psq n).prog.any fun p => p.holds vpn

/-- The first refusal of a map command, with its DETAIL (R309). -/
def State.mapCheck (s : State) : MapCmd → Option (Nat × Nat)
  | .mapVs vpn count h groff =>
    if 2 ^ 24 < vpn + count then some (3, vpn)
    else
      match s.objAt h with
      | none => some (4, vpn)
      | some o =>
        if o.granules.length < groff + count then some (3, vpn + (o.granules.length - groff))
        else if o.kind = .sealedObj ∨ h = s.stageHandle then some (4, vpn)
        else (firstPage vpn count fun v => (s.pteAt v).v).map fun v => (5, v)
  | .mapHost vpn count haddr =>
    if 2 ^ 24 < vpn + count ∨ haddr % 65536 ≠ 0 then some (3, vpn)
    else (firstPage vpn count fun v => (s.pteAt v).v).map fun v => (5, v)
  | .unmap vpn count =>
    if 2 ^ 24 < vpn + count then some (3, vpn)
    else (firstPage vpn count fun v => s.footprinted v || ((s.pteAt v).v && (s.pteAt v).isSealed)).map fun v => (6, v)

/-- The range of a map command. -/
def MapCmd.range : MapCmd → Nat × Nat
  | .mapVs v c _ _ => (v, c)
  | .mapHost v c _ => (v, c)
  | .unmap v c => (v, c)

/-- The entry a map command gives page `i` of its range (R308, R309). -/
def State.mapEntry (s : State) (i : Nat) : MapCmd → Pte
  | .mapVs _ _ h groff =>
    match s.objAt h with
    | some o => ⟨true, false, false, true, false, o.granules.getD (groff + i) 0, 0⟩
    | none => Pte.blank
  | .mapHost _ _ haddr => ⟨true, true, false, false, false, 0, haddr / 65536 + i⟩
  | .unmap .. => Pte.blank

/-- MAP_DONE (R309): the command in progress applies to its whole range, or is refused. -/
def mapDone (s : State) : State :=
  match s.vs.mapCmd with
  | none => s
  | some c =>
    let (vpn, count) := c.range
    let s := { s with vs := { s.vs with
      mapCmd := none, xlat := s.vs.xlat.filter fun v => !(decide (vpn ≤ v) && decide (v < vpn + count)) } }
    match s.mapCheck c with
    | some (r, d) => s.mapRefused r d
    | none =>
      let s := { s with vs := { s.vs with staged := s.vs.staged.filter fun v => !(decide (vpn ≤ v) && decide (v < vpn + count)) } }
      let s := (List.range count).foldl (fun s i => s.setPte (vpn + i) (s.mapEntry i c)) s
      (s.mapResp 1 0).int .lftG 0 0

def execMapDone (s : State) : Host.Outcome State Fault Refusal := done (mapDone s)

/-! ### Staging object and pins -/

/-- LFT_STAGE_WRITE (R318). -/
def lftStageWrite (handle : Word) (s : State) : State :=
  if (List.range 8).any fun n => (s.psq n).prog.any fun p => p.pageList.any s.hostPage then s
  else
    let s := s.put .lftG 0 LFT_STAGE_HANDLE handle.toNat
    { s with vs := { s.vs with
      staged := [], fetches := [],
      pte := s.vs.pte.map fun e => (e.1, if e.2.host then { e.2 with present := false } else e.2) } }

def execLftStageWrite (handle : Word) (s : State) : Host.Outcome State Fault Refusal :=
  done (s.asHostOn .lftG 0 (lftStageWrite handle))

/-- LFT_PIN_WRITE (R312). -/
def lftPinWrite (n r : Nat) (value : Word) (s : State) : State :=
  if s.flag .psq n PSQ_STAT_LOADED then s.raiseOpen .lft n 5 1
  else
    let s := (s.putAt .lft n LFT_PIN_EN r (bitsOf value 31 31)).putAt .lft n LFT_PIN_COUNT_M1 r (bitsOf value 29 24)
    s.putAt .lft n LFT_PIN_VPN r (bitsOf value 23 0)

def execLftPinWrite (n r : Fin 8) (value : Word) (s : State) : Host.Outcome State Fault Refusal :=
  done (s.asHostOn .lft n.val (lftPinWrite n.val r.val value))

/-! ### The lookahead walker -/

/-- The walker as it goes ahead of the output (R314): its PC and VP, its loops (start, iterations left, the VP to go back to) and its calls,
the stream lines it has passed, and the vectors of the first instruction that the output has emitted already. -/
structure Walk where
  pc : Nat
  vp : Option (Nat × Nat)
  loops : List (Nat × Nat × Option (Option (Nat × Nat)))
  calls : List Nat
  lines : List Nat
  skip : Nat

/-- How a stretch of the walk ends: further on, at a block to ask for, or for good. -/
inductive Walked where
  | on (w : Walk)
  | ask (block : Nat)
  | stop

/-- The walker passes a block: one of a pinned page needs nothing; at most DEPTH stream lines lie ahead of the output. -/
def State.walkBlock (s : State) (n : Nat) (p : Program) (w : Walk) (block : Nat) : Walked :=
  if s.pinnedPage n p (block / 1024) || w.lines.contains block then .on w
  else if s.fld .lft n LFT_LA_DEPTH ≤ w.lines.length then .stop
  else if (lookupKey (s.psq n).cache block).isSome || (s.psq n).asked.contains block then
    .on { w with lines := block :: w.lines }
  else .ask block

/-- The walker passes `k` blocks from `block` on. -/
def State.walkBlocks (s : State) (n : Nat) (p : Program) (w : Walk) (block : Nat) : Nat → Walked
  | 0 => .on w
  | k + 1 =>
    match s.walkBlock n p w block with
    | .on w => s.walkBlocks n p w (block + 1) k
    | r => r

/-- The blocks of `count` vectors from the walker's VP on; VP advances past them. Where VP names no segment the walk is over. -/
def State.walkVectors (s : State) (n : Nat) (p : Program) (w : Walk) (count adv : Nat) : Walked :=
  match w.vp with
  | none => .stop
  | some (seg, off) =>
    match (p.segs[seg]?).join with
    | none => .stop
    | some g =>
      let first := g.va / 64 + (g.wM1 + 1) * (off + w.skip) / 7
      let last := g.va / 64 + ((g.wM1 + 1) * (off + max 1 count) - 1) / 7
      let w' := { w with vp := some (seg, off + adv), skip := 0 }
      s.walkBlocks n p w' first (min (last + 1 - first) (s.fld .lft n LFT_LA_DEPTH + 1))

/-- The walker takes one instruction (R314). -/
def State.walkInstr (s : State) (n : Nat) (p : Program) (w : Walk) (i : Nat) : Walked :=
  let on : Walk := { w with pc := w.pc + 1, skip := 0 }
  if 0xC0 ≤ opcodeOf i then (if w.lines.isEmpty && (s.psq n).micro.isSome then .on on else .stop)
  else
    match opFunc (opcodeOf i) with
    | some .run => s.walkVectors n p { on with skip := w.skip } (natBits i 31 0 + 1) (natBits i 31 0 + 1)
    | some .siteop =>
      if subOf i = 0 then s.walkVectors n p { on with skip := w.skip } (natBits i 31 0 + 1) (natBits i 31 0 + 1) else .on on
    | some .matchVec => s.walkVectors n p on 1 1
    | some .vset => .on { on with vp := some (natBits i 43 32, natBits i 31 0) }
    | some .loop =>
      .on { on with loops := (w.pc + 1, natBits i 31 0, if natBits i 48 48 = 1 then some w.vp else none) :: w.loops }
    | some .endloop =>
      match w.loops with
      | [] => .stop
      | (start, left, back) :: rest =>
        if left = 0 then .on { on with loops := rest }
        else .on { on with pc := start, loops := (start, left - 1, back) :: rest, vp := back.getD w.vp }
    | some .call => .on { on with pc := natBits i 23 0, calls := (w.pc + 1) :: w.calls }
    | some .ret =>
      match w.calls with
      | [] => .stop
      | r :: rest => .on { on with pc := r, calls := rest }
    | some .jump => if natBits i 55 52 = 0 then .on { on with pc := natBits i 23 0, loops := w.loops.drop (natBits i 51 48) } else .on on
    | some .halt => .stop
    | some _ => .on on
    | none => .stop

/-- The block the walker asks for next, among what it passes in `fuel` instructions. -/
def State.walk (s : State) (n : Nat) (p : Program) (w : Walk) : Nat → Option Nat
  | 0 => none
  | fuel + 1 =>
    if p.len ≤ w.pc then none
    else
      match s.walkBlock n p w ((p.va + 8 * w.pc) / 64) with
      | .ask b => some b
      | .stop => none
      | .on w =>
        match s.fetchInstr n p w.pc with
        | .bytes bs =>
          match s.walkInstr n p w (leNat bs) with
          | .on w => s.walk n p w fuel
          | .ask b => some b
          | .stop => none
        | _ => none

/-- The walker at the output's PC, with the output's VP, loops and calls. -/
def State.walkStart (s : State) (n : Nat) : Walk where
  pc := s.fld .psq n PSQ_PC
  vp := if s.vpValid n then some (s.vpSeg n, s.vpOff n) else none
  loops := (List.range (s.loopDepth n)).reverse.map fun d =>
    (s.fldAt .psq n PSQ_LOOP_START_PC d, s.fldAt .psq n PSQ_LOOP_REMAIN_M1 d,
      if s.fldAt .psq n PSQ_LOOP_VPSAVE d = 1 then
        some (some (s.fldAt .psq n PSQ_LOOP_VP_SEG d, s.fldAt .psq n PSQ_LOOP_VP_OFF d)) else none)
  calls := (List.range (s.callDepth n)).reverse.map fun d => s.fldAt .psq n PSQ_CALL_RET_PC d
  lines := []
  skip :=
    match (s.psq n).emit with
    | some ⟨d, _, .seg ..⟩ => d
    | _ => 0

/-- LOOKAHEAD_FETCH (R314): the walker of a running PSQ asks for the next block it passes that is not in the cache. One command looks
65,536 instructions ahead at most. -/
def lookaheadFetch (n : Nat) (s : State) : State :=
  match (s.psq n).prog with
  | none => s
  | some p =>
    if s.psqRunning n then
      match s.walk n p (s.walkStart n) 65536 with
      | some b => s.setPsq n { s.psq n with asked := (s.psq n).asked ++ [b] }
      | none => s
    else s

def execLookaheadFetch (n : Fin 8) (s : State) : Host.Outcome State Fault Refusal := done (lookaheadFetch n.val s)

/-! ### Cache fills -/

/-- A page-table lookup (R309): a hit or a miss in the translation cache of 4,096 entries; which entry makes room, the spec leaves
open. -/
def State.translate (s : State) (vpn : Nat) : State :=
  if s.vs.xlat.contains vpn then s.pcnChip 6 1
  else
    let s := s.pcnChip 7 1
    if s.vs.xlat.length < 4096 then { s with vs := { s.vs with xlat := s.vs.xlat ++ [vpn] } }
    else { s.drawn with vs := { s.vs with xlat := s.vs.xlat.eraseIdx (s.freeVal % 4096) ++ [vpn] } }

/-- The least recently used stream lines beyond the stream area leave the cache (R312). -/
def State.trimCache (s : State) (n : Nat) (p : Program) : State :=
  let x := s.psq n
  let limit := 65536 - 1024 * (s.pinnedPages n p).length
  let stream := x.cache.filter fun e => !s.pinnedPage n p (e.1 / 1024)
  if stream.length ≤ limit then s
  else
    let old := (stream.take (stream.length - limit)).map (·.1)
    s.setPsq n { x with cache := x.cache.filter fun e => !old.contains e.1 }

/-- The service of a miss ends (R315): LFT_MISS_MAX, in whole ns. -/
def State.missServed (s : State) (n block : Nat) : State :=
  let x := s.psq n
  if x.missed = some block then
    s.put .lft n LFT_MISS_MAX_NS (max (s.fld .lft n LFT_MISS_MAX_NS) (min (2 ^ 32 - 1) (10 * (s.clock - x.missedAt) / s.mult)))
  else s

/-- A staged page is the most recently used (R316). -/
def State.touchStaged (s : State) (vpn : Nat) : State :=
  if s.vs.staged.contains vpn then { s with vs := { s.vs with staged := s.vs.staged.filter (fun v => v != vpn) ++ [vpn] } } else s

/-- CACHE_FILL (R215, R295, R297, R315): a block asked for arrives; from a page on its way from host memory, as the fetch forwards it
(R316). The blocks of a PSQ that is fed come over the Pairs Link (R513); once that is down, as feed errors (R516). -/
def cacheFill (n block : Nat) (hits : List EccHit) (forward : Option (List Byte)) (s : State) : State :=
  match (s.psq n).prog with
  | none => s
  | some p =>
    if !(s.psq n).asked.contains block then s
    else if s.fedByLink n then
      (if s.flag .plk 0 PLK_STAT_FEEDING then s else ((s.missServed n block).putLine n block ⟨.bad, []⟩).trimCache n p)
    else
      let vpn := block / 1024
      match s.blockPhys block, forward, s.vs.fetches.find? fun f => f.vpn == vpn with
      | some _, _, _ => ((((s.missServed n block).translate vpn).touchStaged vpn).fillBlock n block hits).trimCache n p
      | none, some bs, some f =>
        let data := (List.range 64).map fun i => bs.getD i 0
        let s := ((s.missServed n block).translate vpn).vsPoke (65536 * f.granule + 64 * (block % 1024)) data
        (s.putLine n block ⟨.good, data⟩).trimCache n p
      | _, _, _ => s

def execCacheFill (n : Fin 8) (block : Nat) (hits : List EccHit) (forward : Option (List Byte)) (s : State) :
    Host.Outcome State Fault Refusal := done (cacheFill n.val block hits forward s).engage

/-! ### Host-backed pages -/

/-- The program of a PSQ whose pages the Lift fetches: a loaded one, or one being loaded. -/
def PsqSt.programs (x : PsqSt) : List Program := x.prog.toList ++ (x.load.map (·.1)).toList

/-- Whether a page is pinned by a program loaded or being loaded (R316). -/
def State.pinnedAny (s : State) (vpn : Nat) : Bool :=
  (List.range 8).any fun n => (s.psq n).programs.any fun p => s.pinnedPage n p vpn

/-- Whether a host-backed page is needed now: by the walker or a miss, by a preload, or by the segment table of a load (R316). -/
def State.pageNeeded (s : State) (vpn : Nat) : Bool :=
  (List.range 8).any fun n =>
    ((s.psq n).asked.any fun b => b / 1024 == vpn)
      || (match (s.psq n).load with
          | some (p, some _) => s.pinnedPage n p vpn
          | some (p, none) => p.inTable vpn
          | none => false)

/-- A granule of the staging object for a page (R316): one that holds nothing, a free value choosing among several; else that of the
least recently used page that is not pinned, which loses its copy. -/
def State.stageGranule (s : State) : State × Option Nat :=
  match s.objAt s.stageHandle with
  | none => (s, none)
  | some o =>
    let used := s.vs.staged.map (fun v => (s.pteAt v).granule) ++ s.vs.fetches.map (·.granule)
    let free := o.granules.filter fun g => !used.contains g
    if free.isEmpty then
      match s.vs.staged.find? fun v => !s.pinnedAny v with
      | none => (s, none)
      | some v =>
        let e := s.pteAt v
        let s := s.setPte v { e with present := false }
        ({ s with vs := { s.vs with staged := s.vs.staged.filter fun x => x != v } }, some e.granule)
    else (s.drawn, free[s.freeVal % free.length]?)

/-- HOST_PAGE_FETCH (R316): a host-backed page that is needed and has no copy starts on its way, where the link is up. -/
def hostPageFetch (vpn : Nat) (s : State) : State :=
  let e := s.pteAt vpn
  if e.v && e.host && !e.present && !e.failed && s.pageNeeded vpn && !(s.vs.fetches.any fun f => f.vpn == vpn)
      && s.hif.linkUp && !s.hif.perst then
    match s.stageGranule with
    | (s, some g) =>
      let s := s.setPte vpn { s.pteAt vpn with granule := g }
      { s with vs := { s.vs with fetches := s.vs.fetches ++ [HostFetch.mk vpn g 0] } }
    | (s, none) => s
  else s

def execHostPageFetch (vpn : Nat) (s : State) : Host.Outcome State Fault Refusal := done (hostPageFetch vpn s)

/-- Loads that wait for a page of their segment table go on (R204). -/
def State.resumeLoads (s : State) : State :=
  (List.range 8).foldl (fun s n =>
    match (s.psq n).load with
    | some (p, none) => s.loadTable n p p.segs.length
    | _ => s) s

/-- The 64 KiB of a page land in its granule (R316). -/
def State.stagePage (s : State) (f : HostFetch) (data : List Byte) : State :=
  let bytes := (List.range 65536).map fun i => data.getD i 0
  let s := ((s.forgetGranule f.granule).vsPoke (65536 * f.granule) bytes).pcnChip 2 1024
  let s := s.setPte f.vpn { s.pteAt f.vpn with present := true, granule := f.granule }
  let s := { s with vs := { s.vs with
    staged := s.vs.staged.filter (fun v => v != f.vpn) ++ [f.vpn], fetches := s.vs.fetches.filter fun x => x.vpn != f.vpn } }
  ((s.pcnChip 8 1).pcnChip 9 1024).resumeLoads

/-- A fetch of a page fails (R317). -/
def State.stageFail (s : State) (f : HostFetch) : State :=
  if s.hif.perst || !s.hif.linkUp then s
  else if f.tries < s.fld .lftG 0 LFT_HOSTCFG_RETRY then
    { s with vs := { s.vs with fetches := s.vs.fetches.map fun x => if x.vpn == f.vpn then { x with tries := x.tries + 1 } else x } }
  else
    let s := s.setPte f.vpn { s.pteAt f.vpn with failed := true }
    let s := { s with vs := { s.vs with fetches := s.vs.fetches.filter fun x => x.vpn != f.vpn } }
    let s := ((s.bump .lftG 0 LFT_HOSTERR_COUNT LFT_HOSTERR_OVF).int .lftG 0 2).raiseOpen .lftG 0 3 3
    s.resumeLoads

/-- HOST_PAGE_STAGED (R316, R317): a page on its way has come whole, as its bytes, or its fetch has failed. -/
def hostPageStaged (vpn : Nat) (data : Option (List Byte)) (s : State) : State :=
  match s.vs.fetches.find? fun f => f.vpn == vpn with
  | none => s
  | some f =>
    match data with
    | some bs => s.stagePage f bs
    | none => s.stageFail f

def execHostPageStaged (vpn : Nat) (data : Option (List Byte)) (s : State) : Host.Outcome State Fault Refusal :=
  done (hostPageStaged vpn data s)

end Sys2Proof.Machine
end

