-- ==== Sys2Proof/Machine/Measure.lean ====
section
/-! DEFINITION. The Measurement Scheduler (R399 to R409) and the instruments it uses: enables (R576), compliance (R393), commits,
releases, dispatch and delivery. -/

namespace Sys2Proof.Machine
open Sys2Proof Reg

/-! ### Connections of a capture -/

def Capture.source (c : Capture) : Nat := wordBits c.words 0 31 28

/-- What a capture measures: a lane, or a supply. -/
def Capture.unit (c : Capture) (b : Nat) : Nat :=
  if c.source < 4 then wordBits c.words 0 20 16 else supplyUnit b c.source (wordBits c.words 0 20 16)

def Capture.range (c : Capture) : Nat := wordBits c.words 0 15 13
def Capture.pre (c : Capture) : Nat := wordBits c.words 1 15 0
def Capture.post (c : Capture) : Nat := wordBits c.words 2 23 0
def Capture.nseg (c : Capture) : Nat := wordBits c.words 1 23 16 + 1

/-- ACQ_CAP_STAT.STATE. -/
def State.capState (s : State) (b v : Nat) : State := s.put .acq b ACQ_CAP_STAT_STATE v

/-- An admitted arm takes effect (R409, R411): the source is connected, and the capture is armed, or waits for its PAUSEPT. -/
def State.capBegin (s : State) (b since : Nat) : State :=
  match (s.measOf b).cap with
  | none => s
  | some c =>
    let s := (s.connect b c.source (c.unit b) c.range).put .acq b ACQ_STAT_USE 2
    let s := s.put .acq b ACQ_ARM_WAIT_NS (s.nsOf (s.clock - since))
    let s := s.capState b (if c.cls = 2 then 1 else 2)
    s.setMeas b { s.measOf b with cap := some { c with stage := if c.cls = 2 then .pending else .armed }, segs := [] }

/-- A capture that waits for an item or a calibration step to end (R409, R444), or for the end of a throttle pause (R459), begins. -/
def State.capNext (s : State) (b : Nat) : State :=
  match (s.measOf b).cap with
  | some c =>
    match c.stage with
    | .waiting t =>
      if (s.measOf b).run.isNone && !s.calHasAcq b && !s.msrThrottled b then s.capBegin b t else s
    | _ => s
  | none => s

/-- A capture ends with a state: its connections open (R417). -/
def State.capEnd (s : State) (b v : Nat) : State :=
  match (s.measOf b).cap with
  | none => s
  | some c =>
    let s := s.setMeas b { s.measOf b with cap := none }
    match c.stage with
    | .waiting _ => s.capState b v
    | _ => (((s.unhold b c.source (c.unit b)).pmuOff b).put .acq b ACQ_STAT_USE 0).capState b v

/-- A segment entry with its CLOSED bit and POST_ACT (R418). -/
def closeEntry (e : List Word) (closed : Bool) (posts : Nat) : List Word :=
  setAt e 2 (putBits (putBits (e.getD 2 0) 30 30 (bit closed)) 23 0 posts)

/-- DISARM (R417): a segment that collects post-trigger results is closed; one without a trigger is not recorded. -/
def State.disarm (s : State) (b : Nat) : State :=
  match (s.measOf b).cap with
  | none => s
  | some c =>
    let s :=
      if c.stage = .post then s.setMeas b { s.measOf b with segs := (s.measOf b).segs ++ [closeEntry c.entry true c.posts] } else s
    s.capEnd b 0

/-! ### Enables -/

/-- The PMU is disabled (R576): its running item ends CANCELLED, and a capture that uses it ends. -/
def State.pmuDisable (s : State) (b : Nat) : State :=
  let uses : Nat → Bool := fun x => x == 1 || x == 2 || x == 3
  let s := (s.put .pmu b PMU_CTRL_EN 0).recharge b
  let s := if (s.measOf b).run.any fun x => uses x.1.source then (s.stopRun b).capNext b else s
  let s := if (s.measOf b).cap.any fun c => uses c.source then s.disarm b else s
  s.pmuOff b

/-- The ACQ is disabled (R576). -/
def State.acqDisable (s : State) (b : Nat) : State := (((s.put .acq b ACQ_CTRL_EN 0).recharge b).stopRun b).disarm b

/-- A write of PMU_CTRL.EN (R576, R127). -/
def State.pmuEnWrite (s : State) (who : Asker) (b : Nat) (on : Bool) : Wrote :=
  let change : State → State := fun s => s.put .pmu b PMU_CTRL_EN (bit on)
  if s.gatedSpan b then (s.storeGated who b (.pmu on) change).took
  else if on then s.govern who b false change id
  else (s.pmuDisable b).took

/-- A write of ACQ_CTRL.EN (R576, R127). -/
def State.acqEnWrite (s : State) (who : Asker) (b : Nat) (on : Bool) : Wrote :=
  let change : State → State := fun s => s.put .acq b ACQ_CTRL_EN (bit on)
  if s.gatedSpan b then (s.storeGated who b (.acq on) change).took
  else if on then s.govern who b false change id
  else (s.acqDisable b).took

/-- PMU_EN (R576). -/
def execPmuEn (b : Fin 24) (on : Bool) (s : State) : Host.Outcome State Fault Refusal :=
  done (s.hostOp fun who s => s.pmuEnWrite who b.val on)

/-- ACQ_EN (R576). -/
def execAcqEn (b : Fin 24) (on : Bool) (s : State) : Host.Outcome State Fault Refusal :=
  done (s.hostOp fun who s => s.acqEnWrite who b.val on)

/-- PMU_COMPLIANCE (R393). -/
def pmuCompliance (b : Nat) (on : Bool) (s : State) : State :=
  if s.flag .pmu b PMU_STAT_CONNECTED && s.flag .pmu b PMU_STAT_COMPLIANCE != on then
    let s := s.put .pmu b PMU_STAT_COMPLIANCE (bit on)
    if on then (s.int .pmu b 0).raiseOpen .pmu b 1 1 else s
  else s

def execPmuCompliance (b : Fin 24) (on : Bool) (s : State) : Host.Outcome State Fault Refusal := done (pmuCompliance b.val on s)

/-! ### Commits -/

/-- MSR_RESP.RESULT. -/
def State.msrResult (s : State) (b v : Nat) : State := s.put .acq b MSR_RESP_RESULT v

/-- Whether a request descriptor is BAD_DESC (R400). -/
def badRequest (w : List Word) : Bool :=
  let f := wordBits w
  let src := f 0 31 28
  let kind := f 0 27 26
  let range := f 1 31 29
  let dest := f 2 29 28
  decide (8 ≤ src) || f 0 25 25 != 0 || f 0 14 0 != 0 || f 2 16 16 != 0 || f 4 31 20 != 0 || f 6 31 0 != 0 || f 7 31 0 != 0
    || decide (16 < f 1 28 24) || f 2 31 30 == 3 || decide (2 ≤ dest) || f 2 18 17 == 3
    || (src == 0 && range != 7) || ((src == 4 || src == 5) && (range == 5 || range == 6))
    || (dest == 1 && (kind == 0 || kind == 2)) || (2 ≤ kind && src < 4) || (kind < 2 && 4 ≤ src)
    || (kind == 0 && 32 ≤ f 0 21 15) || (kind == 2 && src < 6 && 3 ≤ f 0 21 15) || (kind == 3 && 4 ≤ f 0 21 15)

/-- A commit is refused (R400). -/
def State.msrRefused (s : State) (b v : Nat) : State := (s.msrResult b v).raiseOpen .acq b 1 1

/-- The staged request is stored in a free slot, which one being open; IMMEDIATE releases it at once (R399 to R401). -/
def State.commit (s : State) (b : Nat) : State :=
  let w := (List.range 8).map fun j => BitVec.ofNat 32 (s.fldAt .acq b MSR_W j)
  let x := s.measOf b
  if 256 ≤ x.reqs.length then s.msrRefused b 2
  else if badRequest w then s.msrRefused b 3
  else
    match firstFrom (fun i => !(x.reqs.any fun r => r.slot == i)) 256 s.freeVal 256 with
    | none => s
    | some slot =>
      let gen := (mapGet (fun _ => 0) x.gens slot + 1) % 256
      let r : MsrReq := ⟨slot, gen, w, none, 0, [], 0, false⟩
      let s := s.drawn.setMeas b { x with gens := mapSet (fun _ => 0) x.gens slot gen, rels := x.rels + 1 }
      let s := s.putReqs b (x.reqs ++ [r])
      let s := (s.msrResult b 1).put .acq b MSR_RESP_HANDLE r.handle
      if r.rel = 0 then s.releaseReq b s.clock r else s

/-- CANCEL (R408). -/
def State.cancel (s : State) (b : Nat) : State :=
  match (s.measOf b).reqs.find? fun r => r.handle == s.fld .acq b MSR_CANCEL_H_HANDLE with
  | some r => (s.cancelReq b r).msrResult b 4
  | none => s.msrResult b 5

/-- FLUSH (R408). -/
def State.flush (s : State) (b g : Nat) : State :=
  let n := ((s.measOf b).reqs.filter fun r => r.group == g).length
  let s := (s.cancelWhere b fun r => r.group == g).capNext b
  (s.msrResult b 6).put .acq b MSR_FILL_DETAIL n

/-- A write of MSR_COMMIT (R399, R408): FLUSH before CANCEL before GO, one only. -/
def State.commitWrite (s : State) (b : Nat) (value : Word) : Wrote :=
  let s := s.put .acq b MSR_COMMIT_GROUP (bitsOf value 7 0)
  if value.getLsbD 29 then (s.flush b (bitsOf value 7 0)).took
  else if value.getLsbD 30 then (s.cancel b).took
  else if value.getLsbD 31 then
    let t := s.commit b
    (t, if 2 ≤ t.fld .acq b MSR_RESP_RESULT then classReason .acq 1 else 0)
  else s.took

/-- MSR_COMMIT (R400). -/
def execMsrCommit (b : Fin 24) (group : BitVec 8) (s : State) : Host.Outcome State Fault Refusal :=
  done (s.hostOp fun _ s => s.commitWrite b.val (0x80000000 ||| group.setWidth 32))

/-- MSR_CANCEL (R408). -/
def execMsrCancel (b : Fin 24) (group : BitVec 8) (s : State) : Host.Outcome State Fault Refusal :=
  done (s.hostOp fun _ s => s.commitWrite b.val (0x40000000 ||| group.setWidth 32))

/-- MSR_FLUSH (R408). -/
def execMsrFlush (b : Fin 24) (group : BitVec 8) (s : State) : Host.Outcome State Fault Refusal :=
  done (s.hostOp fun _ s => s.commitWrite b.val (0x20000000 ||| group.setWidth 32))

/-! ### Releases -/

/-- A group is released in some banks at the present time (R401). -/
def State.releaseGroup (s : State) (banks : List Nat) (g : Nat) : State :=
  banks.foldl (fun s b => s.releaseWhere b s.clock fun r => r.rel == 1 && r.group == g) s

/-- A write of MSR_REL (R401). -/
def State.relWrite (s : State) (b : Nat) (value : Word) : Wrote :=
  if value.getLsbD 31 then
    (s.releaseGroup (if value.getLsbD 30 then List.range 24 else [b]) (bitsOf value 7 0)).took
  else s.took

/-- MSR_REL (R401). -/
def execMsrRel (b : Fin 24) (group : BitVec 8) (all : Bool) (s : State) : Host.Outcome State Fault Refusal :=
  done (s.hostOp fun _ s => s.releaseGroup (if all then List.range 24 else [b.val]) group.toNat |>.took)

/-- MSR_RELEASE (R401): the group that ARG [7:0] names, in every bank. -/
def execMsrRelease (s : State) : Host.Outcome State Fault Refusal :=
  done (s.pisteAct 9 fun e s => (s.releaseGroup (List.range 24) (bitsOf e.arg 7 0), .took 0))

/-! ### Dispatch -/

/-- The duration of a request in cycles (R403). -/
def State.duration (s : State) (r : MsrReq) : Nat := r.total * (s.cyclesTenth r.settle + s.cycles50 (2 ^ r.exp))

/-- Whether a request is eligible: released, its DELAY passed, items left (R403). -/
def State.eligible (s : State) (r : MsrReq) : Bool :=
  match r.released with
  | some t => !r.items.isEmpty && decide (t + s.cyclesTenth (10 * r.bits 2 15 0) ≤ s.clock)
  | none => false

/-- The request of the earliest deadline among those that have one; the earliest of equals. -/
def State.mostUrgent (s : State) : List MsrReq → Option MsrReq
  | [] => none
  | r :: rest =>
    match s.mostUrgent rest with
    | none => some r
    | some q => if (s.dueAt r).getD 0 ≤ (s.dueAt q).getD 0 then some r else some q

/-- The next request of a bank (R403): the one that has begun; else an urgent one; else one that keeps source and range; else the
earliest. -/
def State.nextReq (s : State) (b : Nat) : Option MsrReq :=
  let x := s.measOf b
  let can := x.reqs.filter s.eligible
  match can.find? fun r => r.started with
  | some r => some r
  | none =>
    match s.mostUrgent (can.filter fun r => (s.dueAt r).any fun d => decide (d ≤ s.clock + 2 * s.duration r)) with
    | some r => some r
    | none =>
      match can.find? fun r => x.lastSel == some (r.source, r.range) with
      | some r => some r
      | none => can.head?

/-- An item is dispatched (R404, R405). -/
def State.dispatchItem (s : State) (b : Nat) (r : MsrReq) (it : MsrItem) (rest : List MsrItem) : State :=
  let r := { r with items := rest, started := true }
  let s := s.putReq b r
  let s := s.setMeas b { s.measOf b with lastSel := some (r.source, r.range) }
  if s.noSource b r.source it.unit then ((s.pmuOff b).deliver b r it 3 0).reqCheck b r
  else
    let s := s.connect b r.source it.unit r.range
    let s := (s.put .acq b ACQ_STAT_USE 1).put .acq b MSR_CUR_BUSY 1
    (s.put .acq b MSR_CUR_HANDLE r.handle).setMeas b { s.measOf b with run := some (r, it, s.clock) }

/-- Every item of a request of a gated bank completes with GATED (R408). -/
def State.gateReq (s : State) (b : Nat) (r : MsrReq) : State :=
  let s := r.items.foldl (fun s it => s.deliver b r it 4 0) s
  let r := { r with items := [], started := true }
  (s.putReq b r).reqCheck b r

/-- MSR_DISPATCH (R403, R404, R408, R409, R459, R576). -/
def msrDispatch (b : Nat) (s : State) : State :=
  let x := s.measOf b
  if x.run.isSome || x.cap.isSome || decide (s.dev = .hold) || !s.flag .acq b ACQ_CTRL_EN || s.calHasAcq b
      || s.msrThrottled b then s
  else
    match s.nextReq b with
    | none => s
    | some r =>
      if s.gatedSpan b then s.gateReq b r
      else
        match r.items with
        | [] => s
        | it :: rest => s.dispatchItem b r it rest

def execMsrDispatch (b : Fin 24) (s : State) : Host.Outcome State Fault Refusal := done (msrDispatch b.val s)

/-- R of a sum of 2^K samples (R396). -/
def averageOf (k : Nat) (sum : Int) : Int := if k ≤ 8 then sum * (2 ^ (8 - k) : Nat) else sum / ((2 ^ (k - 8) : Nat) : Int)

/-- The sum of 2^K samples of 16 bits lies within these bounds. -/
def sampleSum (k : Nat) (sum : Int) : Int := max (-32768 * ((2 ^ k : Nat) : Int)) (min (32767 * ((2 ^ k : Nat) : Int)) sum)

/-- ITEM_DONE (R396, R398, R404): the last sample interval of the running item ends, with the sum of its samples, whether one was clipped,
and whether the source was in compliance or current-limited at one. -/
def itemDone (b : Nat) (sum : Int) (clipped limited : Bool) (s : State) : State :=
  match (s.measOf b).run with
  | none => s
  | some (r, it, _) =>
    let st := if clipped then 2 else if limited then 1 else 0
    let pmu := r.source = 1 ∨ r.source = 2 ∨ r.source = 3
    let s := if pmu ∧ st = 1 then s.bump .pmu b PMU_COMPL_COUNT PMU_COMPL_OVF else s
    let s := (s.setMeas b { s.measOf b with run := none }).deliver b r it st (averageOf r.exp (sampleSum r.exp sum))
    let s := ((s.unhold b r.source it.unit).put .acq b MSR_CUR_BUSY 0).put .acq b ACQ_STAT_USE 0
    let s := s.reqCheck b r
    let s := if (s.measOf b).reqs.isEmpty then s.pmuOff b else s
    s.capNext b

def execItemDone (b : Fin 24) (sum : Int) (clipped limited : Bool) (s : State) : Host.Outcome State Fault Refusal :=
  done (itemDone b.val sum clipped limited s)

/-- RES_DATA2_READ (R406): the TAG of the oldest entry, which is removed. -/
def resData2Read (b : Nat) (s : State) : State :=
  match (s.measOf b).fifo with
  | [] => s.answer 0
  | e :: rest => (s.setMeas b { s.measOf b with fifo := rest }).answer (e.getD 2 0)

def execResData2Read (b : Fin 24) (s : State) : Host.Outcome State Fault Refusal :=
  done (if s.live then resData2Read b.val s else s.answer 0)

/-- Everything a bank's scheduler holds is cancelled as FAULT cancels it (R408). -/
def State.cancelBank (s : State) (b : Nat) : State := s.cancelWhere b fun _ => true

/-- What a Function Level Reset does to a bank's instruments: requests go with no delivery, a capture ends with nothing recorded (R408,
R417). -/
def State.dropMeasures (s : State) (b : Nat) : State :=
  let s := match (s.measOf b).run with
    | some (r, it, _) =>
      let s := (s.unhold b r.source it.unit).put .acq b MSR_CUR_BUSY 0
      (s.put .acq b ACQ_STAT_USE 0).setMeas b { s.measOf b with run := none }
    | none => s
  ((s.putReqs b []).capEnd b 0).pmuOff b

end Sys2Proof.Machine
end

