-- ==== Sys2Proof/Machine/Capture.lean ====
section
/-! DEFINITION. Captures of the acquisition channels (R410 to R418). -/

namespace Sys2Proof.Machine
open Sys2Proof Reg

/-! ### Arming -/

/-- Word `w` of capture descriptor `d` of a bank. -/
def State.capWords (s : State) (b d : Nat) : List Word :=
  (List.range 8).map fun w => BitVec.ofNat 32 (s.fldAt .acq b ACQ_DESC_WORD (8 * d + w))

/-- Whether a capture descriptor holds a reserved value or bit, a K above 16 or a POST of 0 (R410, R411). -/
def badCapture (w : List Word) : Bool :=
  let f := wordBits w
  let src := f 0 31 28
  decide (8 ≤ src) || f 0 27 21 != 0 || f 0 7 0 != 0 || decide (16 < f 0 12 8) || f 1 31 24 != 0 || f 2 27 24 != 0
    || decide (4 < f 2 31 28) || f 2 23 0 == 0 || f 3 31 24 != 0 || f 4 31 24 != 0 || f 5 30 24 != 0 || f 6 30 27 != 0
    || f 6 23 16 != 0 || f 7 31 20 != 0
    || (src == 0 && f 0 15 13 != 7) || ((src == 4 || src == 5) && (f 0 15 13 == 5 || f 0 15 13 == 6 || 3 ≤ f 0 20 16))

/-- ACQ_SPILL_OFF, whose bits [5:0] are ignored, and the object of the spill region. -/
def State.spillOff (s : State) (b : Nat) : Nat := s.fld .acq b ACQ_SPILL_OFF / 64 * 64
def State.spillHandle (s : State) (b : Nat) : Word := BitVec.ofNat 32 (s.fld .acq b ACQ_SPILL_HANDLE)

/-- Why an arm is refused, ACQ_CAP_RESP.RESULT; 1 where it is admitted (R411). -/
def State.armResult (s : State) (b : Nat) (c : Capture) : Nat :=
  let words := s.fld .acq b ACQ_SPILL_WORDS
  if (s.measOf b).cap.isSome then 2
  else if badCapture c.words then 3
  else if s.gatedSpan b then 4
  else if s.spillHandle b ≠ 0 ∧ (s.plainRange (s.spillHandle b) (s.spillOff b) (4 * words)).isNone then 5
  else if 65536 + words < c.nseg * (c.pre + c.post) then 6
  else if !s.flag .acq b ACQ_CTRL_EN || s.noSource b c.source (c.unit b) then 7
  else 1

/-- A descriptor is armed, by the Piste or not: the state, and ACQ_CAP_RESP.RESULT (R411). -/
def State.arm (s : State) (b d : Nat) (piste : Bool) : State × Nat :=
  let w := s.capWords b d
  let cls := if wordBits w 6 31 31 = 1 then 2 else if piste then 1 else 0
  let c : Capture := ⟨cls, w, .waiting s.clock, 0, 0, none, false, 0, [], 0, 0⟩
  let r := s.armResult b c
  let s := s.put .acq b ACQ_CAP_RESP_RESULT r
  if r = 1 then
    let s := s.setMeas b { s.measOf b with cap := some c }
    let s := ((s.put .acq b ACQ_CAP_STAT_CLASS cls).put .acq b ACQ_CAP_STAT_DESC d).put .acq b ACQ_CAP_STAT_SEGS 0
    (s.capNext b, r)
  else ((s.int .acq b 6).raiseOpen .acq b 4 1, r)

/-- A write of ACQ_CAP_CTRL (R411, R417). -/
def State.capCtrlWrite (s : State) (b : Nat) (value : Word) : Wrote :=
  let s := s.put .acq b ACQ_CAP_CTRL_DESC (bitsOf value 1 0)
  if value.getLsbD 30 then (s.disarm b).took
  else if value.getLsbD 31 then
    let (s, r) := s.arm b (bitsOf value 1 0) false
    (s, if r = 1 then 0 else classReason .acq 4)
  else s.took

/-- CAP_ARM (R411). -/
def execCapArm (b : Fin 24) (desc : BitVec 2) (s : State) : Host.Outcome State Fault Refusal :=
  done (s.hostOp fun _ s => s.capCtrlWrite b.val (0x80000000 ||| desc.setWidth 32))

/-- CAP_DISARM (R417). -/
def execCapDisarm (b : Fin 24) (desc : BitVec 2) (s : State) : Host.Outcome State Fault Refusal :=
  done (s.hostOp fun _ s => s.capCtrlWrite b.val (0x40000000 ||| desc.setWidth 32))

/-- ACQ_ARM (R411): the bank in TARGET, the descriptor in ARG [1:0]; a bank that does not exist arms nothing. -/
def execAcqArm (s : State) : Host.Outcome State Fault Refusal :=
  done (s.pisteAct 7 fun e s =>
    if e.target < 24 then
      let (s, r) := s.arm e.target (bitsOf e.arg 1 0) true
      (s, if r = 1 then .took 0 else .refused (BitVec.ofNat 32 r))
    else (s, .took 0))

/-- A write to a descriptor or a spill register (R418). -/
def State.capRegWrite (s : State) (b off : Nat) (value : Word) : Wrote :=
  if (s.measOf b).cap.isSome then s.ignored .acq b 5
  else
    let v := if off = 0x128 then value &&& 0x03FFFFFF else value
    ((s.wr (baseOf .acq b + off) v).touchShadow b).took

/-- The descriptors and the spill registers of an ACQ page. -/
def isCapReg (off : Nat) : Bool := off % 4 == 0 && (within 0x200 0x27C off || within 0x120 0x128 off)

/-- CAP_DESCRIPTOR_WRITE (R418). -/
def execCapDescriptorWrite (b : Fin 24) (off : Nat) (value : Word) (s : State) : Host.Outcome State Fault Refusal :=
  done (if isCapReg off then s.hostOp fun _ s => s.capRegWrite b.val off value else s)

/-! ### Results -/

/-- A position of the capture space takes a result (R418). -/
def State.capPut (s : State) (b pos : Nat) (w : Word) : State :=
  if pos < 65536 then
    s.setMeas b { s.measOf b with mem := mapSet (fun _ => (0 : Word)) (s.measOf b).mem pos w }
  else
    let off := s.spillOff b + 4 * (pos - 65536)
    match s.plainRange (s.spillHandle b) off 4 with
    | some o => s.objWrite o off (bytesOf w)
    | none => s

/-- LEVEL and HYST of a capture (R410). -/
def Capture.level (c : Capture) : Int := signedOf 24 (wordBits c.words 3 23 0)
def Capture.hyst (c : Capture) : Int := wordBits c.words 4 23 0

/-- Whether a result meets the trigger, `primed` saying that the hysteresis has been met (R413). -/
def Capture.fires (c : Capture) (r : Int) (primed : Bool) : Bool :=
  match wordBits c.words 2 31 28 with
  | 0 => true
  | 1 => decide (c.level < r)
  | 2 => decide (r < c.level)
  | 3 => decide (c.level < r) && primed
  | _ => decide (r < c.level) && primed

/-- Whether a result meets the hysteresis of RISE or FALL (R413). -/
def Capture.primes (c : Capture) (r : Int) : Bool :=
  match wordBits c.words 2 31 28 with
  | 3 => decide (r ≤ c.level - c.hyst)
  | 4 => decide (c.level + c.hyst ≤ r)
  | _ => false

/-- Whether a result lies beyond LEVEL in the trigger's direction (R414). -/
def Capture.beyond (c : Capture) (r : Int) : Bool :=
  match wordBits c.words 2 31 28 with
  | 1 | 3 => decide (c.level < r)
  | _ => decide (r < c.level)

/-- NOCROSS and FRAC of a trigger (R414); a tie of the rounding goes up where `up` says so. -/
def Capture.crossing (c : Capture) (r : Int) (up : Bool) : Bool × Nat :=
  match c.prev with
  | none => (true, 0)
  | some p =>
    if wordBits c.words 2 31 28 = 0 ∨ c.beyond p.r then (true, 0)
    else
      let d := r - p.r
      let n := 256 * (c.level - p.r)
      let (n, d) := if d < 0 then (-n, -d) else (n, d)
      (false, (max 0 (min 255 (roundNear n d.toNat up))).toNat)

/-- The word of a result in the capture memory (R418). -/
def capWord (r : Int) (clipped limited : Bool) : Word :=
  BitVec.ofNat 32 (bit (limited && !clipped) * 2 ^ 31 + bit clipped * 2 ^ 30 + cutInt 24 r)

/-- The epoch position `d` cycles ago (R396: a result's time is the instant of its first sample). -/
def State.ago (s : State) (d : Nat) : BitVec 48 × Nat :=
  let t := (s.epc.f.toNat * s.frameN + s.epc.p : Int) - d
  (BitVec.ofInt 48 (t / (max 1 s.frameN : Nat)), (t % (max 1 s.frameN : Nat)).toNat)

/-- The first position of the segment at hand (R415). -/
def Capture.base (c : Capture) : Nat := c.segs * (c.pre + c.post)

/-- A segment ends (R415, R417): its entry is kept, and the capture ends or prepares to re-arm. -/
def State.segEnd (s : State) (b : Nat) (c : Capture) : State :=
  let c := { c with segs := c.segs + 1 }
  let s := s.setMeas b { s.measOf b with segs := (s.measOf b).segs ++ [closeEntry c.entry false c.posts] }
  let s := (s.put .acq b ACQ_CAP_STAT_SEGS c.segs).int .acq b 5
  if c.nseg ≤ c.segs then
    ((s.setMeas b { s.measOf b with cap := some c }).capEnd b 5).int .acq b 4
  else
    let hold := if c.cls ≠ 0 ∧ wordBits c.words 5 31 31 = 1 then wordBits c.words 5 23 0 else 0
    (s.setMeas b { s.measOf b with cap := some { c with stage := .rearm false s.clock, hold := hold, primed := false } }).capState b 4

/-- A post-trigger result (R415). -/
def State.postResult (s : State) (b : Nat) (c : Capture) (x : CapResult) : State :=
  let s := s.capPut b (c.base + c.pre + c.posts) x.word
  let c := { c with posts := c.posts + 1, prev := some x, stage := .post }
  if c.post ≤ c.posts then s.segEnd b c
  else (s.setMeas b { s.measOf b with cap := some c }).capState b 3

/-- The trigger fires on a result (R412 to R414). With no result before it, the position its entry records is open: free values. -/
def State.trigger (s : State) (b : Nat) (c : Capture) (x : CapResult) : State :=
  let (nocross, frac) := c.crossing x.r (s.freeVal % 2 == 1)
  let s := s.drawn
  let (f, p) := match c.prev with
    | some y => (y.f, y.p)
    | none => (BitVec.ofNat 48 s.freeVal, s.freeVal / 2 ^ 48)
  let start := if c.kept < c.pre then 0 else c.ringNext
  let entry : List Word :=
    [BitVec.ofNat 32 c.base, BitVec.ofNat 32 (start * 2 ^ 16 + c.kept), BitVec.ofNat 32 (bit nocross * 2 ^ 31),
      BitVec.ofNat 32 (frac * 2 ^ 24), f.setWidth 32, BitVec.ofNat 32 (p % 2 ^ 16 * 2 ^ 16 + f.toNat / 2 ^ 32), 0, 0]
  s.drawn.postResult b { c with entry := entry, posts := 0 } x

/-- A result while the capture waits for its trigger (R412, R413). -/
def State.armedResult (s : State) (b : Nat) (c : Capture) (x : CapResult) : State :=
  if c.fires x.r c.primed then s.trigger b c x
  else
    let s := if c.pre = 0 then s else s.capPut b (c.base + c.ringNext) x.word
    s.setMeas b { s.measOf b with cap := some { c with
      ringNext := if c.pre = 0 then 0 else (c.ringNext + 1) % c.pre
      kept := min c.pre (c.kept + 1), prev := some x, primed := c.primed || c.primes x.r } }

/-- A result between segments (R416): a trigger condition met is missed, and counts toward an event hold-off. -/
def State.missedResult (s : State) (b : Nat) (c : Capture) (x : CapResult) : State :=
  if c.fires x.r c.primed then
    let s := (s.bump .acq b ACQ_MISSED_COUNT ACQ_MISSED_OVF).int .acq b 7
    s.setMeas b { s.measOf b with cap := some { c with hold := c.hold - 1, primed := false } }
  else s.setMeas b { s.measOf b with cap := some { c with primed := c.primed || c.primes x.r } }

/-- CAPTURE_RESULT (R412, R413, R415, R416): the next result of a bank's capture, from the sum of its samples. -/
def captureResult (b : Nat) (sum : Int) (clipped limited : Bool) (s : State) : State :=
  match (s.measOf b).cap with
  | none => s
  | some c =>
    let k := wordBits c.words 0 12 8
    let r := averageOf k (sampleSum k sum)
    let (f, p) := s.ago (s.cycles50 (2 ^ k))
    let x : CapResult := ⟨r, capWord r clipped limited, f, p⟩
    match c.stage with
    | .armed => s.armedResult b c x
    | .post => s.postResult b c x
    | .rearm .. => s.missedResult b c x
    | _ => s

def execCaptureResult (b : Fin 24) (sum : Int) (clipped limited : Bool) (s : State) : Host.Outcome State Fault Refusal :=
  done (captureResult b.val sum clipped limited s)

/-- The last segment entry records the dead time (R415). -/
def State.putDead (s : State) (b ns : Nat) : State :=
  let x := s.measOf b
  let i := x.segs.length - 1
  s.setMeas b { x with segs := setAt x.segs i (setAt (x.segs.getD i []) 6 (BitVec.ofNat 32 ns)) }

/-- CAP_REARM (R415): the capture is ready, and re-arms once any hold-off has passed. -/
def capRearm (b : Nat) (s : State) : State :=
  match (s.measOf b).cap with
  | none => s
  | some c =>
    match c.stage with
    | .rearm _ since =>
      let timed := c.cls ≠ 0 ∧ wordBits c.words 5 31 31 = 0
      if (timed ∧ s.clock < since + s.cycles50 (wordBits c.words 5 23 0)) ∨ 0 < c.hold then
        s.setMeas b { s.measOf b with cap := some { c with stage := .rearm true since } }
      else
        let s := (s.putDead b (s.nsOf (s.clock - since))).capState b (if c.cls = 2 then 1 else 2)
        s.setMeas b { s.measOf b with cap := some { c with
          stage := if c.cls = 2 then .pending else .armed
          ringNext := 0, kept := 0, prev := none, primed := false, entry := [], posts := 0 } }
    | _ => s

def execCapRearm (b : Fin 24) (s : State) : Host.Outcome State Fault Refusal := done (capRearm b.val s)

/-! ### Segment entries -/

/-- A write of ACQ_SEG_CUR (R64, R418). -/
def State.segCurWrite (s : State) (b : Nat) (value : Word) : Wrote :=
  let s := (s.put .acq b ACQ_SEG_CUR_SEG (bitsOf value 15 8)).put .acq b ACQ_SEG_CUR_WORD (bitsOf value 2 0)
  (s.setMeas b { s.measOf b with snap := some (s.measOf b).segs }).took

/-- SEG_CUR_WRITE (R64). -/
def execSegCurWrite (b : Fin 24) (value : Word) (s : State) : Host.Outcome State Fault Refusal :=
  done (s.hostOp fun _ s => s.segCurWrite b.val value)

/-- SEG_DATA_READ (R64, R418): the word at the cursor, which advances. -/
def segDataRead (b : Nat) (s : State) : State :=
  let x := s.measOf b
  let seg := s.fld .acq b ACQ_SEG_CUR_SEG
  let w := s.fld .acq b ACQ_SEG_CUR_WORD
  let n := 8 * seg + w + 1
  let s := s.answer (((x.snap.getD x.segs).getD seg []).getD w 0)
  (s.put .acq b ACQ_SEG_CUR_SEG (n / 8 % 256)).put .acq b ACQ_SEG_CUR_WORD (n % 8)

def execSegDataRead (b : Fin 24) (s : State) : Host.Outcome State Fault Refusal :=
  done (if s.live then segDataRead b.val s else s.answer 0)

end Sys2Proof.Machine
end

