-- ==== Sys2Proof/Machine/Tmu.lean ====
section
/-! DEFINITION. The time-measurement units: sources (R421 to R423), arming (R425, R430), edges and results (R424, R426 to R429),
interpolator calibration (R431, R432). -/

namespace Sys2Proof.Machine
open Sys2Proof Reg

/-! ### Inputs and sources -/

/-- The word of an input: 0 the start, 1 to 15 the stops. -/
def State.tmuInput (s : State) (t i : Nat) : Word :=
  if i = 0 then s.rd (fldOff .tmu t TMU_START_SRC 0) else s.rd (fldOff .tmu t TMU_STOP_SRC (i - 1))

def State.tmuSrc (s : State) (t i : Nat) : Nat := bitsOf (s.tmuInput t i) 7 0
def State.tmuOcc (s : State) (t i : Nat) : Nat := bitsOf (s.tmuInput t i) 19 8 + 1

/-- The stops in use, 1 to NSTOP (R421). -/
def State.tmuStops (s : State) (t : Nat) : List Nat := (List.range (s.fld .tmu t TMU_CFG_NSTOP)).map (· + 1)

/-- The inputs in use. -/
def State.tmuUsed (s : State) (t : Nat) : List Nat := 0 :: s.tmuStops t

/-- Whether a code is reserved (R422). -/
def srcReserved (c : Nat) : Bool := (decide (0x6C ≤ c) && decide (c < 0x70)) || decide (0x88 ≤ c)

/-- The channel an EVX source forwards, with its BNK_EVX word (R422). -/
def State.evxWord (s : State) (c : Nat) : Word := s.rd (fldOff .bnk ((c - 1) / 4) BNK_EVX_EN ((c - 1) % 4))
def State.evxChannel (s : State) (c : Nat) : Nat := 32 * ((c - 1) / 4) + s.fldAt .bnk ((c - 1) / 4) BNK_EVX_LANE ((c - 1) % 4)

/-- Whether a source forwards edges (R150, R422). -/
def State.srcLive (s : State) (c : Nat) : Bool :=
  if c = 0 || srcReserved c then false
  else if c ≤ 0x60 then
    s.fldAt .bnk ((c - 1) / 4) BNK_EVX_EN ((c - 1) % 4) == 1 && !s.gatedSpan ((c - 1) / 4) && !s.pinSafe (s.evxChannel c)
  else if c ≤ 0x68 then s.laneRole (c - 0x61) == 2
  else if 0x70 ≤ c then (List.range 39).any fun m => s.fldAt .gmn (c - 0x70) GMN_CFG_EVT m == 1
  else true

/-- The calibrated path delay of a source, in LSB (R423, R435): FRAME and EPOCH are exact. -/
def State.pathDelay (s : State) (c : Nat) : Int :=
  if c ≤ 0x60 then
    let b := (c - 1) / 4
    s.trimAt b (s.bank b).calMode 6 ((c - 1) % 4) 0 (s.calT b)
  else if c ≤ 0x68 then s.trimAt 24 0 10 (c - 0x60) 0 (s.calT 24)
  else if c = 0x69 then s.trimAt 24 0 10 0 0 (s.calT 24)
  else if 0x70 ≤ c then Config.guardDelay (c - 0x70)
  else 0

/-- The shift to the needle tip that an input with FIXREF 1 asks for, in LSB (R423): later for driver data, earlier else. -/
def State.fixShift (s : State) (t i c : Nat) : Int :=
  if bitsOf (s.tmuInput t i) 20 20 = 1 ∧ 0 < c ∧ c ≤ 0x60 then
    let fix : Int := s.fld .pec (s.evxChannel c) PEC_FIXTURE_FIX
    if s.fldAt .bnk ((c - 1) / 4) BNK_EVX_SRC ((c - 1) % 4) = 3 then fix else -fix
  else 0

/-- One LSB of 0.25 ps in the unit of edge times, 1 / (256 · MULT) LSB. -/
def State.tmuLsb (s : State) : Int := 256 * s.mult

/-- The time of an edge of a source before FIX (R427): `cycle` MCLK cycles from the start of the epoch, at interpolator code `code`. FRAME
and EPOCH edges lie on the cycle's start, EPOCH at the position in TMU_EPOCH (R422). -/
def State.edgeTime (s : State) (t c cycle code : Nat) : Int :=
  let whole : Int := cycle * 10240000
  if c = 0x6A then whole
  else if c = 0x6B then
    let f := s.fld .tmu t TMU_EPOCH_F_LO + s.fld .tmu t TMU_EPOCH_F_HI * 2 ^ 32
    ((f * s.frameN + s.fld .tmu t TMU_EPOCH_P : Nat) : Int) * 10240000
  else whole + (mapGet (fun _ => 0) (s.tmu t).bins code : Nat) * (s.mult : Int) - s.pathDelay c * s.tmuLsb

/-! ### Fault classes and interrupts -/

/-- A cause of a TMU on its page: 0 DONE, 1 REFUSED, 2 CAL_DONE, 3 CAL_FAIL, in the TMU's group of bits. -/
def State.tmuInt (s : State) (t cause : Nat) : State := s.int .tmu t (8 * (t % 2) + cause)

/-- A class of a TMU page, DETAIL holding the TMU number (R434). -/
def State.tmuRaise (s : State) (t cls base : Nat) : State := s.raise .tmu t cls base (BitVec.ofNat 32 t)

/-! ### Arming -/

/-- The results and the start of a TMU cleared. -/
def State.clearResults (s : State) (t : Nat) : State :=
  let s := (List.range 15).foldl (fun s i => (s.putAt .tmu t TMU_RES_LO i 0).wr (fldOff .tmu t TMU_RES_VALID i) 0) s
  s.put .tmu t TMU_STAT_DONE_STOPS 0

/-- Whether a used input selects EPOCH. -/
def State.usesEpoch (s : State) (t : Nat) : Bool := (s.tmuUsed t).any fun i => s.tmuSrc t i == 0x6B

/-- TMU_RESP.RESULT of an arm that takes effect `lead` cycles from the present position (R425). -/
def State.armCheck (s : State) (t : Nat) (lead : Int) : Nat :=
  let f := s.fld .tmu t TMU_EPOCH_F_LO + s.fld .tmu t TMU_EPOCH_F_HI * 2 ^ 32
  if s.tmuBusy t then 2
  else if s.tmuState t = 4 then 3
  else if !s.flag .tmu t TMU_STAT_BINTAB_VALID then 4
  else if (s.tmuUsed t).any fun i => srcReserved (s.tmuSrc t i) then 5
  else if s.usesEpoch t && !s.epc.valid then 6
  else if s.usesEpoch t && decide (s.cyclesTo f (s.fld .tmu t TMU_EPOCH_P) ≤ lead) then 7
  else 1

/-- A TMU is armed, by the host (owner 0) or the Piste (owner 1), or the arm is refused (R425). -/
def State.armTmu (s : State) (t owner : Nat) (lead : Int) : State × Nat :=
  let r := s.armCheck t lead
  let s := s.put .tmu t TMU_RESP_RESULT r
  if r = 1 then
    let x := s.tmu t
    let s := s.setTmu t { TmuSt.idle with bins := x.bins, back := x.back, hold := decide (s.epc.source = .holdover) }
    (((s.clearResults t).put .tmu t TMU_STAT_STATE 1).put .tmu t TMU_STAT_OWNER owner, r)
  else ((s.tmuInt t 1).tmuRaise t 1 1, r)

/-- A host write to TMU_CTRL: HOST_RESERVE takes its bit, then `f` acts. -/
def State.tmuCtrl (s : State) (t : Nat) (reserve : Bool) (f : State → State) : State :=
  s.asHostOn .tmu t fun s => f (s.put .tmu t TMU_CTRL_HOST_RESERVE (bit reserve))

/-- TMU_CTRL_ARM (R425). -/
def execTmuCtrlArm (t : Fin 16) (reserve : Bool) (s : State) : Host.Outcome State Fault Refusal :=
  done (s.tmuCtrl t.val reserve fun s => (s.armTmu t.val 0 0).1)

/-- TMU_ARM (R104, R425): a Piste entry arms the TMU in TARGET 32 cycles after its position; a refusal gives the result as its reason. -/
def execTmuArm (s : State) : Host.Outcome State Fault Refusal :=
  done (s.pisteAct 8 fun e s =>
    match s.armTmu (e.target % 16) 1 32 with
    | (s, 1) => (s, .took 0)
    | (s, r) => (s, .refused (BitVec.ofNat 32 r)))

/-- DISARM (R426, R430). -/
def execDisarm (t : Fin 16) (reserve : Bool) (s : State) : Host.Outcome State Fault Refusal :=
  done (s.tmuCtrl t.val reserve fun s => if s.tmuBusy t.val then s.put .tmu t.val TMU_STAT_STATE 0 else s)

/-! ### Results -/

/-- A measurement is complete (R426). -/
def State.tmuDone (s : State) (t : Nat) : State :=
  ((s.put .tmu t TMU_STAT_STATE 3).bump .tmu t TMU_COUNT TMU_COUNT_OVF).tmuInt t 0

/-- Whether stop `i` has a result. -/
def State.stopHas (s : State) (t i : Nat) : Bool := s.fldAt .tmu t TMU_RES_VALID (i - 1) == 1 || s.fldAt .tmu t TMU_RES_TIMEOUT (i - 1) == 1

/-- The result of stop `i` from its interval in edge-time units (R427 to R429). -/
def State.stopResult (s : State) (t i : Nat) (d : Int) : State :=
  let one := s.tmuLsb
  let same := decide (-one < d) && decide (d < one)
  let v := cutInt 42 (if same then 0 else roundAway d one.toNat)
  let s := s.putAt .tmu t TMU_RES_LO (i - 1) v
  let s := s.putAt .tmu t TMU_RES_HI (i - 1) (v / 2 ^ 32)
  let s := s.putAt .tmu t TMU_RES_COINCIDENT (i - 1) (bit same)
  let s := s.putAt .tmu t TMU_RES_ORDER (i - 1) (bit (!same && decide (d < 0)))
  let s := s.putAt .tmu t TMU_RES_EDGE_LOST (i - 1) (bit ((s.tmu t).lost.contains (s.tmuSrc t i)))
  let s := s.putAt .tmu t TMU_RES_HOLDOVER (i - 1) (bit (s.tmu t).hold)
  let s := s.putAt .tmu t TMU_RES_VALID (i - 1) 1
  s.put .tmu t TMU_STAT_DONE_STOPS (s.fld .tmu t TMU_STAT_DONE_STOPS + 1)

/-- Every stop without a result takes TIMEOUT and the measurement ends (R426). -/
def State.tmuTimeout (s : State) (t : Nat) : State :=
  let s := (s.tmuStops t).foldl (fun s i => if s.stopHas t i then s else s.putAt .tmu t TMU_RES_TIMEOUT (i - 1) 1) s
  s.tmuDone t

/-- The measurement ends once every stop has a result. -/
def State.tmuCheck (s : State) (t : Nat) : State := if (s.tmuStops t).all (s.stopHas t) then s.tmuDone t else s

/-- An edge counts for stop `i` of a RUNNING TMU where it is of the stop's source and not before the window (R424). -/
def State.countStop (s : State) (t c : Nat) (e : Int) (i : Nat) : State :=
  let e := e + s.fixShift t i c * s.tmuLsb
  let x := s.tmu t
  if s.tmuSrc t i ≠ c ∨ s.stopHas t i ∨ e < x.start - 8000 * s.tmuLsb then s
  else
    let n := mapGet (fun _ => 0) x.counts i + 1
    let s := s.setTmu t { x with counts := mapSet (fun _ => 0) x.counts i n }
    if n = s.tmuOcc t i then s.stopResult t i (e - x.start) else s

/-- A merge of edges of a source within a measurement (R424): the results of its stops carry EDGE_LOST, which is raised once. -/
def State.noteMerge (s : State) (t c : Nat) : State :=
  if !((s.tmuStops t).any fun i => s.tmuSrc t i == c) then s
  else
    let x := s.tmu t
    let s := s.setTmu t { x with lost := c :: x.lost, lostRaised := true }
    if x.lostRaised then s else s.tmuRaise t 3 1

/-- The start edge is selected (R426): TMU_T0 takes its position; the edges of the last 2 ns count for the stops (R424). -/
def State.tmuStart (s : State) (t : Nat) (e : Int) : State :=
  let lo := e - 8000 * s.tmuLsb
  let x := s.tmu t
  let s := (s.setTmu t { x with start := e, edges := [], merges := [] }).put .tmu t TMU_STAT_STATE 2
  let cyc := (e / 10240000).toNat
  let s := s.put .tmu t TMU_T0_F_LO (cyc / s.frameN)
  let s := (s.put .tmu t TMU_T0_F_HI (cyc / s.frameN / 2 ^ 32)).put .tmu t TMU_T0_P (cyc % s.frameN)
  let s := s.put .tmu t TMU_T0_FINE (e % 10240000 / s.tmuLsb).toNat
  let s := (x.merges.reverse.filter fun m => decide (lo ≤ m.2)).foldl (fun s m => s.noteMerge t m.1) s
  let s := x.edges.reverse.foldl (fun s d => (s.tmuStops t).foldl (fun s i => s.countStop t d.1 d.2 i) s) s
  s.tmuCheck t

/-- An edge of a source that the TMU uses, at a time before FIX (R424, R426). -/
def State.tmuTake (s : State) (t c : Nat) (e : Int) : State :=
  let x := s.tmu t
  let merged := match lookupKey x.last c with
    | some l => decide (e - l < 5000 * s.tmuLsb)
    | none => false
  if merged then
    if s.tmuState t = 2 then (if x.start - 8000 * s.tmuLsb ≤ e then s.noteMerge t c else s)
    else s.setTmu t { x with merges := (c, e) :: x.merges }
  else
    let x := { x with last := (c, e) :: x.last.filter fun l => l.1 != c }
    if s.tmuState t = 2 then
      let s := s.setTmu t x
      ((s.tmuStops t).foldl (fun s i => s.countStop t c e i) s).tmuCheck t
    else
      let s := s.setTmu t { x with edges := (c, e) :: x.edges.filter fun d => decide (e - 16000 * s.tmuLsb ≤ d.2) }
      if s.tmuSrc t 0 = c then
        let x := s.tmu t
        let s := s.setTmu t { x with count := x.count + 1 }
        if x.count + 1 = s.tmuOcc t 0 then s.tmuStart t (e + s.fixShift t 0 c * s.tmuLsb) else s
      else s

/-- The longest interval of a measurement, in edge-time units (R426, R429): TMU_TIMEOUT.US µs, or 2^40 LSB. -/
def State.tmuRange (s : State) (t : Nat) : Int :=
  let us := s.fld .tmu t TMU_TIMEOUT_US
  (if us = 0 then 2 ^ 40 else 4000000 * (us : Int)) * s.tmuLsb

/-- TMU_EDGE (R424, R426): one after the end of the measurement's range finds it timed out. -/
def tmuEdge (t c cycle code : Nat) (s : State) : State :=
  if !s.tmuBusy t || !((s.tmuUsed t).any fun i => s.tmuSrc t i == c) || !s.srcLive c then s
  else
    let e := s.edgeTime t c cycle code
    if s.tmuState t = 2 && decide ((s.tmu t).start + s.tmuRange t < e) then s.tmuTimeout t else s.tmuTake t c e

def execTmuEdge (t : Fin 16) (src : BitVec 8) (cycle : Nat) (code : Fin 512) (s : State) : Host.Outcome State Fault Refusal :=
  done (tmuEdge t.val src.toNat cycle code.val s)

/-- TMU_TIMEOUT (R426). -/
def execTmuTimeout (t : Fin 16) (s : State) : Host.Outcome State Fault Refusal :=
  done (if s.tmuState t.val = 2 then s.tmuTimeout t.val else s)

/-! ### Registers -/

/-- TMU_BUSY (R430, R432). -/
def State.tmuIgnored (s : State) (t : Nat) : State := s.tmuRaise t 4 1

/-- The registers of a measurement (R430), by offset from B. -/
def isTmuConfig (off : Nat) : Bool :=
  off == 0xC || off == 0x10 || off == 0x14 || off == 0x18 || off == 0x1C || (decide (0x44 ≤ off) && decide (off < 0x80) && off % 4 == 0)

/-- A write to a register of a measurement (R430); the low word of TMU_EPOCH is buffered (R50). -/
def tmuConfigWrite (t off : Nat) (value : Word) (s : State) : State :=
  let o := baseOf .tmu t + off
  if !isTmuConfig off then s
  else if s.tmuBusy t then s.tmuIgnored t
  else if off = 0x18 then s.holdLow o value
  else if off = 0x1C then s.applyHigh (o - 4) value
  else if off = 0x10 then s.put .tmu t TMU_CFG_NSTOP (bitsOf value 3 0)
  else if off = 0x14 then s.put .tmu t TMU_TIMEOUT_US (min 274877 (bitsOf value 18 0))
  else s.wr o (value &&& 0x1FFFFF)

def execTmuConfigWrite (t : Fin 16) (off : Nat) (value : Word) (s : State) : Host.Outcome State Fault Refusal :=
  done (s.asHostOn .tmu t.val (tmuConfigWrite t.val off value))

/-- TMU_BIN_DATA_READ (R431): POS of bin BIN, which advances. -/
def tmuBinDataRead (t : Nat) (s : State) : State :=
  let b := s.fld .tmu t TMU_BIN_CUR_BIN
  (s.answer (BitVec.ofNat 32 (mapGet (fun _ => 0) (s.tmu t).bins b))).put .tmu t TMU_BIN_CUR_BIN (b + 1)

def execTmuBinDataRead (t : Fin 16) (s : State) : Host.Outcome State Fault Refusal :=
  done (if s.live then tmuBinDataRead t.val s else s.answer 0)

/-! ### Interpolator calibration -/

/-- CAL_GO (R432). -/
def calGo (t : Nat) (s : State) : State :=
  if s.tmuBusy t || s.tmuState t = 4 then s.tmuIgnored t else s.holdTmu t 2

def execCalGo (t : Fin 16) (reserve : Bool) (s : State) : Host.Outcome State Fault Refusal :=
  done (s.tmuCtrl t.val reserve (calGo t.val))

/-- Every TMU that the device can take is calibrated: at start-up step 10 and after a change of MULT (R432). -/
def State.calAllTmus (s : State) : State :=
  (List.range 16).foldl (fun s t => if s.tmuBusy t || s.tmuState t = 4 then s else s.holdTmu t 2) s

/-- Whether a histogram fails its bin check (R431). -/
def binBad (h : List Nat) : Bool :=
  let total := h.foldl (· + ·) 0
  h.length != 512 || h.any fun x => x == 0 || decide (4 * total < 512 * x)

/-- The bin centres of a histogram, in 1/256 LSB (R431), rounded to nearest with halves up; the sums run over the bins in order. -/
def binCentres (mult total : Nat) : Nat → List Nat → List Int
  | _, [] => []
  | below, h :: r =>
    roundAway (256 * 40000 * (2 * below + h) : Nat) (2 * mult * total) :: binCentres mult total (below + h) r

/-- The bin table of a run. -/
def State.runTable (s : State) (h : List Nat) : List Int := binCentres s.mult (h.foldl (· + ·) 0) 0 h

/-- The largest difference of two tables. -/
def tableGap (a b : List Int) : Nat := (List.zipWith (fun x y => (x - y).natAbs) a b).foldl max 0

/-- The mean of two tables. -/
def tableMean (a b : List Int) : List Int := List.zipWith (fun x y => roundAway (x + y) 2) a b

/-- The table that two or three runs agree on within 1 ps, 1,024/256 LSB (R431, R448). -/
def agreedTable (a b : List Int) (c : Option (List Int)) : Option (List Int) :=
  if tableGap a b ≤ 1024 then some (tableMean a b)
  else
    match c with
    | none => none
    | some c =>
      let ga := tableGap a c
      let gb := tableGap b c
      if ga ≤ 1024 ∧ (gb > 1024 ∨ ga ≤ gb) then some (tableMean a c)
      else if gb ≤ 1024 then some (tableMean b c)
      else none

/-- A calibration ends with a result (R431): 1 DONE, 2 UNSTABLE, 3 BIN_BAD, 4 ABORTED. -/
def State.calEnd (s : State) (t r : Nat) : State :=
  ((s.put .tmu t TMU_CAL_STAT_RESULT r).freeTmu t).tmuInt t (if r = 1 then 2 else 3)

/-- TMU_CAL_DONE (R431, R432): `runs` are the histograms of its runs, two or three; without effect on a TMU that is ARMED or RUNNING, whose
partial histogram is discarded. -/
def tmuCalDone (t : Nat) (runs : List (List Nat)) (aborted : Bool) (s : State) : State :=
  if s.tmuBusy t then s
  else
    let s := s.put .tmu t TMU_CAL_STAT_HITS ((runs.getLastD []).foldl (· + ·) 0)
    if aborted then s.calEnd t 4
    else if runs.any binBad then (s.tmuRaise t 2 2).calEnd t 3
    else
      match runs with
      | a :: b :: rest =>
        match agreedTable (s.runTable a) (s.runTable b) (rest.head?.map s.runTable) with
        | some tab =>
          let s := s.setTmu t { s.tmu t with
            bins := (tab.zipIdx.map fun e => (e.2, e.1.toNat)).filter fun e => e.2 != 0 }
          (s.put .tmu t TMU_STAT_BINTAB_VALID 1).calEnd t 1
        | none => s.calEnd t 2
      | _ => s.calEnd t 4

def execTmuCalDone (t : Fin 16) (runs : List (List Nat)) (aborted : Bool) (s : State) : Host.Outcome State Fault Refusal :=
  done (tmuCalDone t.val runs aborted s)

end Sys2Proof.Machine
end

