-- ==== Sys2Proof/Machine/Cal.lean ====
section
/-! DEFINITION. The calibration conductor: due records (R442), steps (R437, R443 to R447), the repeat-and-agree check (R448), the writing of
corrections (R449), and the stored copies (R450 to R452). -/

namespace Sys2Proof.Machine
open Sys2Proof Reg

/-! ### Due records -/

/-- CAL_CTRL_GO (R442). -/
def calCtrlGo (s : State) : State :=
  (List.range 25).foldl (fun s r =>
    if bitAt (s.fld .cal 0 CAL_BANKS) r then
      if s.calRunning r then (s.setCal r { s.calRec r with again := true }).makeDue r else s.makeDue r
    else s) s

def execCalCtrlGo (s : State) : Host.Outcome State Fault Refusal := done (s.asHostOn .cal 0 calCtrlGo)

/-- ABORT (R446): steps are abandoned and CAL_DUE clears; no run is in progress any more. -/
def calAbort (s : State) : State := (s.calAbandonAll.put .cal 0 CAL_DUE 0).put .cal 0 CAL_RUNNING 0

def execAbort (s : State) : Host.Outcome State Fault Refusal := done (s.asHostOn .cal 0 calAbort)

/-- CAL_AGE_DUE (R442): the age of the last completed run for the active mode passes MAX_AGE_H. -/
def calAgeDue (r : Nat) (s : State) : State :=
  if s.flag .cal 0 CAL_CTRL_EN && (s.lastT r (s.calModeOf r)).isSome then
    if s.calRunning r && s.calDue r then s.setCal r { s.calRec r with again := true } else s.makeDue r
  else s

def execCalAgeDue (rec : Fin 25) (s : State) : Host.Outcome State Fault Refusal := done (calAgeDue rec.val s)

/-- CAL_OVERDUE (R464): raised once for a record that stays due for 24 hours. -/
def calOverdue (r : Nat) (s : State) : State :=
  if s.calDue r && !(s.calRec r).overdue then (s.setCal r { s.calRec r with overdue := true }).raiseOpen .cal 0 4 1 else s

def execCalOverdue (rec : Fin 25) (s : State) : Host.Outcome State Fault Refusal := done (calOverdue rec.val s)

/-- The temperature of a record has moved from LAST_T by more than DELTA_T (R442). -/
def State.calTempDue (s : State) (r : Nat) : State :=
  match s.lastT r (s.calModeOf r) with
  | some l =>
    if s.flag .cal 0 CAL_CTRL_EN && decide (s.fld .cal 0 CAL_CFG_DELTA_T < (s.recordT r - l).natAbs) then s.makeDue r else s
  | none => s

/-- After a sample, a record follows its temperature: interpolation (R441), the set in force (R440), and whether it is due (R442). -/
def State.calFollow (s : State) (r : Nat) : State :=
  let t := s.recordT r
  let c := s.calRec r
  let moved := match c.compT with
    | some u => decide (4 ≤ (t - u).natAbs)
    | none => true
  let s := if moved then s.recompute r else s
  let k := setFor c.set t 4
  let s := s.setCal r { s.calRec r with next := if k = c.set then none else some k }
  (s.trySelect r).calTempDue r

/-! ### Steps -/

/-- The items of a record with their numbers of steps (R437). -/
def calItems (r : Nat) : List (Nat × Nat) :=
  if r < 24 then [(1, 32), (2, 32), (3, 4), (4, 32), (5, 32), (6, 4), (7, 7), (8, 2)] else [(9, 16), (10, 9)]

/-- The stated time of a step of an item, in µs (R437). -/
def stepTime : Nat → Nat
  | 1 => 40
  | 2 => 120
  | 3 => 150
  | 4 => 200
  | 5 => 60
  | 6 => 50
  | 10 => 50
  | _ => 100

/-- The steps of a record in order. -/
def calSteps (r : Nat) : List (Nat × Nat) := (calItems r).flatMap fun x => (List.range x.2).map fun i => (x.1, i)

/-- The steps that a run of a record in its present mode has not completed. -/
def State.stepsLeft (s : State) (r : Nat) : List (Nat × Nat) :=
  (calSteps r).filter fun x => !(s.calRec r).steps.contains (s.calModeOf r, x.1, x.2)

/-- Whether a channel is free for a step: not ACTIVE or MEASURE, its driver off (R444, R445). -/
def State.pinFree (s : State) (k : Nat) : Bool := !(s.pinState k == 2 || s.pinState k == 3) && !(s.pin k).drvOn

/-- Whether the bank's ACQ is free for a step (R444). -/
def State.acqFree (s : State) (b : Nat) : Bool := s.flag .acq b ACQ_CTRL_EN && s.fld .acq b ACQ_STAT_USE == 0

/-- Whether the resources of a step are free, its TMU apart (R444). -/
def State.stepFree (s : State) (b item i : Nat) : Bool :=
  let k := 32 * b + i
  let u := if i < 3 then 3 * b + i else 72 + b
  match item with
  | 1 | 4 => s.pinFree k
  | 2 => s.acqFree b && s.pinFree k && !s.flag .pec k PEC_PPMU_CONN
  | 3 => s.acqFree b && !s.flag (supKind u) (supInst u) DPS_STAT_CONNECTED
  | 5 => s.pinFree k && s.deviceTmu.isSome
  | 6 | 9 | 10 => s.deviceTmu.isSome
  | 7 => s.acqFree b && s.flag .pmu b PMU_CTRL_EN && !s.flag .pmu b PMU_STAT_CONNECTED
  | _ => s.acqFree b

/-- Whether a step, at one and a half times its time, ends before the earliest QUIET_CLOSE held for the bank (R444). -/
def State.stepFits (s : State) (b item : Nat) : Bool :=
  s.pst.entries.all fun e =>
    !(e.action == 4 && e.arg.getLsbD b) || decide ((150 * s.mult * stepTime item : Nat) < s.cyclesTo e.f e.p)

/-- The first step whose resources are free, with the steps passed over before it. -/
def State.firstFree (s : State) (b : Nat) : List (Nat × Nat) → List (Nat × Nat) → Option (Nat × Nat) × List (Nat × Nat)
  | [], acc => (none, acc)
  | x :: r, acc => if s.stepFree b x.1 x.2 then (some x, acc) else s.firstFree b r (acc ++ [x])

/-- A step of a record begins. -/
def State.beginStep (s : State) (r item i : Nat) : State :=
  let tmu := if item = 5 ∨ item = 6 ∨ item = 9 ∨ item = 10 then s.deviceTmu else none
  let s := match tmu with
    | some t => s.holdTmu t 2
    | none => s
  let s := s.setCal r { s.calRec r with step := some ⟨item, i, s.calModeOf r, tmu⟩ }
  if s.calRunning r then s
  else
    let s := s.calBit CAL_RUNNING r true
    if r = 24 then s.wantSkew else s

/-- The conductor tries a due bank: `none` where no step of it can start now (R444). -/
def State.tryBank (s : State) (b : Nat) : State × Bool :=
  let c := s.calRec b
  match s.firstFree b ((s.stepsLeft b).filter fun x => !c.passed.contains x) [] with
  | (some (item, i), acc) =>
    let s := s.setCal b { c with passed := c.passed ++ acc }
    if s.stepFits b item then (s.beginStep b item i, true) else (s, false)
  | (none, acc) => (s.setCal b { c with passed := c.passed ++ acc }, false)

/-- How far a bank's temperature has moved since LAST_T; a bank with no completed run comes first (R444). -/
def State.calChange (s : State) (b : Nat) : Nat :=
  match s.lastT b (s.calModeOf b) with
  | some l => (s.recordT b - l).natAbs
  | none => 2 ^ 20

/-- A number placed in a list in descending order of `f`, after its equals. -/
def placeDown (f : Nat → Nat) (x : Nat) : List Nat → List Nat
  | [] => [x]
  | y :: r => if f y < f x then x :: y :: r else y :: placeDown f x r

/-- The due banks in the order the conductor takes them (R444). -/
def State.dueBanks (s : State) : List Nat :=
  ((List.range 24).filter fun b => s.calDue b && s.inGap b && !s.flag .bnk b BNK_MODE_TRANSITION && (s.calRec b).step.isNone).foldl
    (fun l b => placeDown s.calChange b l) []

/-- The first bank of which a step can start. -/
def State.tryBanks (s : State) : List Nat → State
  | [] => s
  | b :: r =>
    match s.tryBank b with
    | (s, true) => s
    | (s, false) => s.tryBanks r

/-- Whether the conductor works: the device is READY, ARMED or RUN (R446). -/
def State.calWorks (s : State) : Bool := decide (s.dev = .ready) || decide (s.dev = .armed) || decide (s.dev = .run)

/-- CAL_STEP_START (R443, R444). -/
def calStepStart (core : Bool) (s : State) : State :=
  if !s.calWorks then s
  else if core then
    if s.calDue 24 && (s.calRec 24).step.isNone && s.deviceTmu.isSome then
      match s.stepsLeft 24 with
      | (item, i) :: _ => s.beginStep 24 item i
      | [] => s
    else s
  else if 8 ≤ ((List.range 24).filter fun b => (s.calRec b).step.isSome).length then s
  else s.tryBanks s.dueBanks

def execCalStepStart (core : Bool) (s : State) : Host.Outcome State Fault Refusal := done (calStepStart core s)

/-! ### Results of a step -/

/-- The tolerance of an item in 1/1000 of a trim LSB (R448): 2 LSB, or 1 ps for timing items, whose LSB is 0.25 ps. -/
def tolerance (item : Nat) : Nat := if item = 4 ∨ item = 5 ∨ item = 6 ∨ 9 ≤ item then 4000 else 2000

/-- Whether two measurements agree. -/
def agree (tol : Nat) (a b : Int) : Bool := decide ((a - b).natAbs ≤ tol)

/-- The correction that two or three measurements give, in LSB (R448); none where they are unstable. -/
def adopted (tol : Nat) (m : TrimMeas) : Option Int :=
  let mean := fun (a b : Int) => roundAway (a + b) 2000
  if agree tol m.m1 m.m2 then some (mean m.m1 m.m2)
  else
    match agree tol m.m1 m.m3, agree tol m.m2 m.m3 with
    | true, true => some (if (m.m1 - m.m3).natAbs ≤ (m.m2 - m.m3).natAbs then mean m.m1 m.m3 else mean m.m2 m.m3)
    | true, false => some (mean m.m1 m.m3)
    | false, true => some (mean m.m2 m.m3)
    | false, false => none

/-- A correction that is unstable (R448). -/
def State.unstable (s : State) (r item i : Nat) : State :=
  let s := s.bump .cal 0 CAL_UNST_COUNT CAL_UNST_OVF
  let s := ((s.put .cal 0 CAL_UNST_LAST_RECORD r).put .cal 0 CAL_UNST_LAST_ITEM item).put .cal 0 CAL_UNST_LAST_INDEX i
  (s.int .cal 0 1).raiseOpen .cal 0 1 2

/-- An adopted correction is written into set `k` (R449): V_k takes c + F(T_k) − F(T), F the factory set. -/
def State.writeTrim (s : State) (r mode item i sub : Nat) (c : Int) : State :=
  let x := s.calRec r
  let f := fun k => Config.factoryTrim r (trimKey mode k item i sub)
  let v := roundAway (320 * (c + f x.set) - interp320 f (s.recordT r)) 320
  s.setCal r { x with data := { x.data with trims := mapSet (Config.factoryTrim r) x.data.trims (trimKey mode x.set item i sub) v } }

/-- A selection is written into the set in force. -/
def State.writeSel (s : State) (r mode item i sub v : Nat) : State :=
  let x := s.calRec r
  s.setCal r { x with data := { x.data with sels := mapSet (Config.factorySel r) x.data.sels (trimKey mode x.set item i sub) v } }

/-- The sets of four of the eight slices as bit masks, in the order that takes the lowest slice numbers first. -/
def fourOfEight : List Nat :=
  (List.range 8).flatMap fun a => (List.range 8).flatMap fun b => (List.range 8).flatMap fun c => (List.range 8).filterMap fun d =>
    if a < b ∧ b < c ∧ c < d then some (2 ^ a + 2 ^ b + 2 ^ c + 2 ^ d) else none

/-- The combined offset of the slices of a mask. -/
def offsetOf (offs : List Int) (mask : Nat) : Int :=
  (offs.zipIdx.map fun o => if bitAt mask o.2 then o.1 else 0).foldl (· + ·) 0

/-- The slices whose combined offset is nearest zero, the lowest slice numbers among equals (R436). -/
def bestSlices (offs : List Int) : Nat :=
  fourOfEight.foldl (fun best m => if (offsetOf offs m).natAbs < (offsetOf offs best).natAbs then m else best) 0x0F

/-- Each trim of a step is adopted, or keeps its value. -/
def State.stepTrims (s : State) (r : Nat) (st : CalStep) (ms : List TrimMeas) : State :=
  ms.foldl (fun s m =>
    match adopted (tolerance st.item) m with
    | some c => s.writeTrim r st.mode st.item st.index m.sub.val c
    | none => s.unstable r st.item st.index) s

/-- The selections of a step (R436), adopted only where every trim measured on them passes (R448): the slices of the two thresholds of a
lane, from the offsets of VOH's eight slices and then VOL's; else the selection the measurement chose. -/
def State.stepSels (s : State) (r : Nat) (st : CalStep) (sel : Option Nat) (slices : List Int) : State :=
  if st.item = 1 then
    (s.writeSel r st.mode 1 st.index 0 (bestSlices (slices.take 8))).writeSel r st.mode 1 st.index 1 (bestSlices (slices.drop 8))
  else
    match sel with
    | some v => if st.item < 5 then s.writeSel r st.mode st.item st.index 0 v else s
    | none => s

/-! ### Stored copies -/

/-- Whether a write to NVM may begin: none does after a shutdown (R461). -/
def State.nvmMay (s : State) : Bool := !((List.range 5).any fun g => s.fldAt .thm 0 THM_REGION_SHUTDOWN g == 1)

/-- The first write of a record's queue begins: the copy it replaces is not intact until it commits (R450). -/
def State.beginCopy (s : State) (r : Nat) : State :=
  let c := s.calRec r
  match c.writes with
  | w :: _ =>
    if s.nvmMay then
      s.setCal r { c with copies := setAt c.copies w.copy { c.copies.getD w.copy ⟨0, false, CalData.factory⟩ with intact := false } }
    else s
  | [] => s

/-- Copy writes join a record's queue. -/
def State.queueCopies (s : State) (r : Nat) (ws : List CalWrite) : State :=
  let idle := (s.calRec r).writes.isEmpty
  let s := s.setCal r { s.calRec r with writes := (s.calRec r).writes ++ ws }
  if idle then s.beginCopy r else s

/-- The highest generation among the intact copies. -/
def topGen (cs : List CalCopy) : Nat := ((cs.filter CalCopy.intact).map CalCopy.gen).foldl max 0

/-- A record is committed (R450). -/
def State.commitRec (s : State) (r : Nat) : State :=
  let c := s.calRec r
  s.queueCopies r ((List.range 3).map fun i => ⟨i, topGen c.copies + 1, c.data, true⟩)

/-- The copy in use among intact copies (R451, steps 3 to 5): its index. -/
def chosenCopy (cs : List (Nat × CalCopy)) : Option Nat :=
  let g := topGen (cs.map (·.2))
  match cs.filter fun c => c.2.gen == g with
  | [(i, _)] => some i
  | (i, a) :: rest =>
    if rest.all fun c => c.2.data == a.data then some i
    else
      -- the content held by two intact copies; the copy of it with the highest generation
      let twice := cs.filter fun c => decide (2 ≤ (cs.filter fun d => d.2.data == c.2.data).length)
      (twice.find? fun c => c.2.gen == topGen (twice.map (·.2))).map (·.1)
  | [] => none

/-- The copy in use of a record is chosen (R451), and the others are rewritten to match (R452). -/
def State.chooseCopy (s : State) (r : Nat) : State :=
  let c := s.calRec r
  let cs := (c.copies.zipIdx.map fun e => (e.2, e.1)).filter fun e => e.2.intact
  if cs.isEmpty then (s.setCal r { c with data := CalData.factory, source := 3 }).raiseOpen .cal 0 3 3
  else
    match chosenCopy cs with
    | some i =>
      let y := c.copies.getD i ⟨0, false, CalData.factory⟩
      let s := s.setCal r { c with data := y.data, source := i }
      let bad := (c.copies.zipIdx.filter fun e => !e.1.intact || e.1.data != y.data).map (·.2)
      s.queueCopies r (bad.map fun j => ⟨j, y.gen, y.data, false⟩)
    | none => ((s.setCal r { c with data := CalData.factory, source := 3 }).int .cal 0 2).raiseOpen .cal 0 2 2

/-- CAL_COPY_COMMIT (R450): the write in progress commits, or fails; a failed commit or rewrite goes no further. -/
def calCopyCommit (r : Nat) (ok : Bool) (s : State) : State :=
  let c := s.calRec r
  match c.writes with
  | [] => s
  | w :: rest =>
    if ok then
      let s := s.setCal r { c with copies := setAt c.copies w.copy ⟨w.gen, true, w.data⟩, writes := rest }
      let s := s.beginCopy r
      if w.commit && w.copy == 2 then (s.int .cal 0 3).chooseCopy r else s
    else
      let s := s.setCal r { c with writes := rest.filter fun x => x.gen != w.gen || x.commit != w.commit }
      (s.beginCopy r).raiseOpen .cal 0 5 3

def execCalCopyCommit (rec : Fin 25) (ok : Bool) (s : State) : Host.Outcome State Fault Refusal := done (calCopyCommit rec.val ok s)

/-! ### The end of a step and of a run -/

/-- A run is complete (R447). -/
def State.runDone (s : State) (r mode : Nat) : State :=
  let c := s.calRec r
  let s := s.setCal r { c with
    lastT := mapSet (fun _ => none) c.lastT mode (some (s.recordT r))
    ran := some (s.fld .evr 0 EVR_OPSEC), steps := [], passed := [], again := false, overdue := false }
  let s := (s.calBit CAL_RUNNING r false).calBit CAL_DUE r c.again
  (s.int .cal 0 0).commitRec r

/-- CAL_STEP_DONE (R445, R448, R449): the step's resources are free again, and its channel's elements take their new values. -/
def calStepDone (r : Nat) (ms : List TrimMeas) (sel : Option Nat) (slices : List Int) (s : State) : State :=
  match (s.calRec r).step with
  | none => s
  | some st =>
    let good := ms.all fun m => (adopted (tolerance st.item) m).isSome
    let s := s.stepTrims r st ms
    let s := if good then s.stepSels r st sel slices else s
    let s := match st.tmu with
      | some t => s.freeTmu t
      | none => s
    let c := s.calRec r
    let s := s.setCal r { c with step := none, steps := c.steps ++ [(st.mode, st.item, st.index)] }
    let s := if st.item = 5 then s.refreshDeskew (32 * r + st.index) else s
    let s := if r < 24 then s.capNext r else s
    if (s.stepsLeft r).isEmpty then s.runDone r st.mode else s

def execCalStepDone (rec : Fin 25) (trims : List TrimMeas) (sel : Option Nat) (slices : List Int) (s : State) :
    Host.Outcome State Fault Refusal := done (calStepDone rec.val trims sel slices s)

end Sys2Proof.Machine
end

