-- ==== Sys2Proof/Machine/Domains.lean ====
section
/-! DEFINITION. Power domains: requests (R555 to R557, R559), the power-up and power-down of banks (R127, R368, R520, R558) and of the PSQ
clusters. -/

namespace Sys2Proof.Machine
open Sys2Proof Reg

/-! ### Domains and their bits -/

/-- A domain turns on or off (R554). -/
def State.setDomain (s : State) (d : Nat) (on : Bool) : State :=
  let bitD : BitVec 40 := BitVec.ofNat 40 (2 ^ d)
  { s with domains := if on then s.domains ||| bitD else s.domains &&& ~~~ bitD }

def State.bankPhase (s : State) (b : Nat) (p : PowerPhase) : State := s.setBank b { s.bank b with phase := p }

/-- PWR_BANK.ON of a bank. -/
def State.bankAsked (s : State) (b : Nat) : Bool := bitAt (s.fld .hifRst 0 PWR_BANK_ON) b

def State.askBank (s : State) (b : Nat) (on : Bool) : State :=
  let v := s.fld .hifRst 0 PWR_BANK_ON
  if bitAt v b = on then s else s.put .hifRst 0 PWR_BANK_ON (if on then v + 2 ^ b else v - 2 ^ b)

/-- PWR_CTRL of a cluster: 0 PSQA, 1 PSQB. -/
def clusterFld : Nat → Fld
  | 0 => PWR_CTRL_CLUSTER_A
  | _ => PWR_CTRL_CLUSTER_B

/-- PWR_RESP takes a result and its domain (R556). -/
def State.pwrResp (s : State) (result domain : Nat) : State :=
  (s.put .hifRst 0 PWR_RESP_RESULT result).put .hifRst 0 PWR_RESP_DOMAIN domain

/-- A refusal: signalled and raised (R557). -/
def State.pwrRefuse (s : State) (result domain : Nat) : State :=
  (s.int .hifRst 0 1).raise .hifRst 0 1 1 (BitVec.ofNat 32 (domain + result * 2 ^ 28))

/-! ### Banks -/

/-- A request to power a bank up (R557, R555): the state, and the result (1 DONE, 2 REFUSED_CEILING, 4 HELD, 6 DRYRUN). During a power-up it
calls off a power-down that waits. -/
def State.bankUp (s : State) (src : Src) (b : Nat) : State × Nat :=
  let x := s.bank b
  if x.phase = .on then (s, 1)
  else if x.phase = .rising then (s.setBank b { x with downWait := none }, 1)
  else if (s.fe (b / 6)).heldOff then (s.pwrRefuse 4 (16 + b), 4)
  else
    match s.evaluate src false (s.charged - x.charge + s.bankDraw b) with
    | (s, .admitted) => (s.setBank b { s.bank b with phase := .rising, charge := s.bankDraw b }, 1)
    | (s, .dryRun) => (s, 6)
    | (s, _) => (s.pwrRefuse 2 (16 + b), 2)

/-- The instruments of a bank whose power-down is admitted: its running item ends CANCELLED, its capture as for DISARM, its calibration step
is abandoned, its channels are in SAFE and its supply switches open (R34, R368, R417, R446, R557). -/
def State.quiesce (s : State) (b : Nat) : State :=
  let s := (((s.stopRun b).disarm b).pmuOff b).calAbandon b
  let s := s.safeBankPins b
  [3 * b, 3 * b + 1, 3 * b + 2, 72 + b].foldl
    (fun s u => (s.openSwitch u).put (supKind u) (supInst u) DPS_STAT_READY 0) s

/-- A request to power a bank down (R557, R559): 1 DONE, 3 BUSY, 5 PENDING. -/
def State.bankDown (s : State) (src : Src) (b : Nat) : State × Nat :=
  let x := s.bank b
  match x.phase with
  | .rising => (s.setBank b { x with downWait := some src }, 5)
  | .on =>
    if s.bankBusy b || s.flag .bnk b BNK_MODE_TRANSITION then (s.pwrRefuse 3 (16 + b), 3)
    else ((s.bankPhase b .falling).quiesce b, 1)
  | .off | .falling => (s, 1)

/-- One changed bit of a write to PWR_BANK: the bit follows the request unless it is refused or discarded (R556). -/
def State.bankRequest (s : State) (src : Src) (b : Nat) : State × (Nat × Nat) :=
  let want := !s.bankAsked b
  let (s, r) := if want then s.bankUp src b else s.bankDown src b
  (if r = 1 ∨ r = 5 then s.askBank b want else s, (16 + b, r))

/-- What PWR_RESP reports of the requests of one write (R556): the last refused, else the last discarded, else the last that waits, else the
last. -/
def pwrOutcome (rs : List (Nat × Nat)) : Option (Nat × Nat) :=
  let last := fun (p : Nat → Bool) => (rs.filter fun r => p r.2).getLast?
  (last fun r => r == 2 || r == 3 || r == 4).or ((last fun r => r == 6).or ((last fun r => r == 5).or rs.getLast?))

/-- Requests made one after another, with their results. -/
def State.requests (s : State) (f : State → Nat → State × (Nat × Nat)) (ds : List Nat) : State :=
  let (s, rs) := ds.foldl (fun (p : State × List (Nat × Nat)) d => let (s, r) := f p.1 d; (s, p.2 ++ [r])) (s, [])
  match pwrOutcome rs with
  | some (d, r) => s.pwrResp r d
  | none => s

/-- A write of PWR_BANK.ON by a source (R29, R556). -/
def State.pwrBankWrite (s : State) (src : Src) (value : Nat) : State :=
  s.requests (fun s b => s.bankRequest src b) ((List.range 24).filter fun b => bitAt value b != s.bankAsked b)

/-- PWR_BANK (R556). -/
def execPwrBank (value : Word) (s : State) : Host.Outcome State Fault Refusal :=
  done (s.asHostOn .hifRst 0 fun s => s.pwrBankWrite .host (value.toNat % 2 ^ 24))

/-! ### The shadow -/

/-- Fields of a page that hold configuration are back at their reset values; what NVM gives is kept (R374). -/
def State.resetConfig (s : State) (k : PageKind) (i : Nat) : State :=
  ((fieldsOf k).filter fun f => (f.acc == .rw || f.acc == .rwl || f.acc == .w1s) && !(f == DPS_PUV_CODE) && !(f == DPS_PUV_CONN)).foldl
    (fun s f => (List.range f.cnt).foldl (fun s j => s.putAt k i f j (bitsOf (regReset (fldOff k i f j)) f.hi f.lo)) s) s

/-- A stale shadow is discarded (R520): the bank comes up with its reset configuration, its supplies at their power-up codes with empty
queues (R374), its channels SAFE. -/
def State.discardShadow (s : State) (b : Nat) : State :=
  let s := [PageKind.bnk, .hvc, .pmu, .acq, .gmn, .lde].foldl (fun s k => s.resetConfig k b) s
  let s := [3 * b, 3 * b + 1, 3 * b + 2].foldl (fun s u => (s.resetConfig .dps u).put .dps u DPS_STAT_FOLLOWER 0) s
  let s := [3 * b, 3 * b + 1, 3 * b + 2, 72 + b].foldl (fun s u =>
    (s.setSup u { s.sup u with queue := [], issued := none, wait := 0, starting := false, hold := none }).put (supKind u) (supInst u)
      DPS_V_CODE (s.sup u).puvCode) s
  let s := (List.range 32).foldl (fun s l => s.resetConfig .pec (32 * b + l)) s
  let s := { s with edgeTab := mapDrop (fun e => e / 2048 / 32 == b) s.edgeTab }
  (s.setBank b { s.bank b with held := true, stored := [] }).raise .plk 0 6 1 (BitVec.ofNat 32 b)

/-- The shadow is applied or discarded as its generation says (R127, R368, R520); a bank that has never been down applies it. -/
def State.takeShadow (s : State) (b : Nat) : State :=
  match (s.bank b).shadowGen with
  | some g => if g = s.rd (fldOff .plk 0 PLK_GEN 0) then s else s.discardShadow b
  | none => s

/-- A mode with no completed run is due (R442). -/
def State.makeDueUnrun (s : State) (b : Nat) : State := if (s.lastT b (s.calModeOf b)).isNone then s.makeDue b else s

/-- The bank runs in the mode its shadow holds. -/
def State.enterMode (s : State) (b : Nat) : State :=
  let m := s.fld .bnk b BNK_MODE_REQ
  let s := (s.put .bnk b BNK_MODE_ACTIVE m).put .lde b LDE_STAT_RANGE (bit (m != 0))
  let s := (s.setBank b { s.bank b with limMode := m, calMode := m }).clipBank b
  (s.calModeSelect b).makeDueUnrun b

/-- A stored charge-changing write is evaluated (R127, R368). -/
def State.playStored (s : State) (b : Nat) (w : StoredWrite × Src) : State :=
  let who : Asker := ⟨w.2, .vendor⟩
  (match w.1 with
   | .mode req => s.modeWrite who b req
   | .en u on => s.enWrite who u on
   | .ilim i v => s.ilimWrite who i v
   | .pmu on => s.pmuEnWrite who b on
   | .acq on => s.acqEnWrite who b on).1

/-- A power-down that waited for the power-up is evaluated, and PWR_RESP takes its outcome (R556, R559). -/
def State.playDown (s : State) (b : Nat) : State :=
  match (s.bank b).downWait with
  | none => s
  | some src =>
    let (s, r) := (s.setBank b { s.bank b with downWait := none }).bankDown src b
    (if r = 3 then s.askBank b true else s).pwrResp r (16 + b)

/-- BANK_POWER_UP_DONE (R558): the lanes in `fails` fail the self-check (R129). -/
def bankPowerUpDone (b : Nat) (fails : Word) (s : State) : State :=
  if (s.bank b).phase = .rising then
    let s := (s.takeShadow b).setDomain (12 + b / 6) true
    let s := ((s.bankPhase b .on).setDomain (16 + b) true).setFe (b / 6) { s.fe (b / 6) with offDue := false }
    let s := ((s.enterMode b).selfCheck b fails).recharge b
    let stored := (s.bank b).stored
    let s := stored.foldl (fun s w => s.playStored b w) (s.setBank b { s.bank b with stored := [] })
    (s.int .hifRst 0 0).playDown b
  else s

def execBankPowerUpDone (b : Fin 24) (fails : Word) (s : State) : Host.Outcome State Fault Refusal :=
  done (bankPowerUpDone b.val fails s)

/-- A bank's domain is off (R558, R520): its charge ends, and its shadow takes the generation. -/
def State.bankOff (s : State) (b : Nat) : State :=
  let x := s.bank b
  let s := s.setBank b { x with
    phase := .off, charge := 0, downWait := none, stored := [], levelHold := [], dacBad := []
    shadowGen := some (s.rd (fldOff .plk 0 PLK_GEN 0)) }
  let s := [3 * b, 3 * b + 1, 3 * b + 2, 72 + b].foldl (fun s u => s.setSup u { s.sup u with hold := none }) s
  (s.noteHolding b).setDomain (16 + b) false

/-- Whether a bank of an FE die is on or on its way up. -/
def State.feInUse (s : State) (n : Nat) : Bool :=
  (List.range 6).any fun j => decide ((s.bank (6 * n + j)).phase ≠ .off)

/-- BANK_POWER_DOWN_DONE (R558): after the last bank of an FE die its common domain is due to turn off (R555). -/
def bankPowerDownDone (b : Nat) (s : State) : State :=
  if (s.bank b).phase = .falling then
    let s := (s.bankOff b).int .hifRst 0 0
    if s.feInUse (b / 6) then s else s.setFe (b / 6) { s.fe (b / 6) with offDue := true }
  else s

def execBankPowerDownDone (b : Fin 24) (s : State) : Host.Outcome State Fault Refusal := done (bankPowerDownDone b.val s)

/-- FE_COMMON_OFF (R555). -/
def feCommonOff (n : Nat) (s : State) : State :=
  if (s.fe n).offDue && !s.feInUse n then (s.setFe n { s.fe n with offDue := false }).setDomain (12 + n) false else s

def execFeCommonOff (fe : Fin 4) (s : State) : Host.Outcome State Fault Refusal := done (feCommonOff fe.val s)

/-! ### Clusters -/

/-- The PSQs of a cluster. -/
def clusterPsqs (c : Nat) : List Nat := (List.range 4).map fun i => 4 * c + i

/-- What a PSQ loses when its cluster turns off (R557). -/
def State.dropPsq (s : State) (n : Nat) : State :=
  let s := s.leaveSealed n
  let s := { s with mces := mapSet (fun _ => MceSt.empty) s.mces n MceSt.empty }
  let s := (s.put .mce n MCE_STAT_USER_VALID 0).put .mce n MCE_STAT_VENDOR_VALID 0
  let s := (s.clearBlock (baseOf .apg n) fun _ => false).clearBlock (baseOf .pcn n) fun _ => false
  let s := s.clearBlock (baseOf .lft n) fun _ => false
  { s with scramble := mapDrop (fun e => e / 4096 == n) s.scramble, topo := mapDrop (fun e => e / 2048 == n) s.topo }

/-- A request to power a cluster down (R557, R559). -/
def State.clusterDown (s : State) (c : Nat) : State × Nat :=
  if s.clusterRise.contains c then (s, 5)
  else if (clusterPsqs c).any fun n => s.psqRunning n || s.flag .psq n PSQ_STAT_BOUND then (s.pwrRefuse 3 (4 + c), 3)
  else ((((clusterPsqs c).foldl State.dropPsq s).setDomain (4 + c) false).int .hifRst 0 0, 1)

/-- A request to power a cluster up (R557). -/
def State.clusterUp (s : State) (c : Nat) : State × Nat :=
  if s.domains.getLsbD (4 + c) || s.clusterRise.contains c then (s, 1) else ({ s with clusterRise := c :: s.clusterRise }, 1)

/-- One changed bit of a write to PWR_CTRL. -/
def State.clusterRequest (s : State) (c : Nat) : State × (Nat × Nat) :=
  let want := !s.flag .hifRst 0 (clusterFld c)
  let (s, r) := if want then s.clusterUp c else s.clusterDown c
  (if r = 3 then s else s.put .hifRst 0 (clusterFld c) (bit want), (4 + c, r))

/-- PWR_CTRL (R556, R557). -/
def pwrCtrl (value : Word) (s : State) : State :=
  s.requests State.clusterRequest ((List.range 2).filter fun c => value.getLsbD c != s.flag .hifRst 0 (clusterFld c))

def execPwrCtrl (value : Word) (s : State) : Host.Outcome State Fault Refusal := done (s.asHostOn .hifRst 0 (pwrCtrl value))

/-- CLUSTER_POWER_UP_DONE (R557, R252): the Steward loads the vendor microcode; a power-down that waited is evaluated (R559). -/
def clusterPowerUpDone (c : Nat) (s : State) : State :=
  if s.clusterRise.contains c then
    let s := { s with clusterRise := s.clusterRise.filter fun x => x != c }.setDomain (4 + c) true
    let s := ((clusterPsqs c).foldl State.vendorLoad s).int .hifRst 0 0
    if s.flag .hifRst 0 (clusterFld c) then s
    else
      let (s, r) := s.clusterDown c
      (if r = 3 then s.put .hifRst 0 (clusterFld c) 1 else s).pwrResp r (4 + c)
  else s

def execClusterPowerUpDone (c : Fin 2) (s : State) : Host.Outcome State Fault Refusal := done (clusterPowerUpDone c.val s)

end Sys2Proof.Machine
end

