-- ==== Sys2Proof/Machine/Guards.lean ====
section
/-! DEFINITION. Guard monitors: windows and modes (R378 to R382), blanking (R383, R384), trips and what they do (R385 to R388). -/

namespace Sys2Proof.Machine
open Sys2Proof Reg

/-! ### Windows and modes -/

/-- GMN_CFG.MODE: 0 SAMPLED, 1 FAST, 2 MEDIUM, 3 SLOW (R380). -/
def State.gmnMode (s : State) (b m : Nat) : Nat := s.fldAt .gmn b GMN_CFG_MODE m

/-- Whether the window of a monitor is signed (R378): DPS currents and voltages, and the HVC's current. -/
def State.gmnSigned (s : State) (b m : Nat) : Bool :=
  (decide (32 ≤ m) && decide (m < 38)) || (m == 38 && s.fldAt .gmn b GMN_CFG_QTY 38 == 1)

/-- A threshold of 16 bits in the monitor's units. -/
def gmnUnits (signed : Bool) (v : Nat) : Int := if signed then signedOf 16 v else v

/-- A window write by a source (R379). -/
def State.winWrite (s : State) (b m : Nat) (value : Word) : Wrote :=
  let sg := s.gmnSigned b m
  if gmnUnits sg (bitsOf value 31 16) < gmnUnits sg (bitsOf value 15 0) then s.ignored .gmn b 5
  else (((s.putAt .gmn b GMN_WIN_HI m (bitsOf value 31 16)).putAt .gmn b GMN_WIN_LO m (bitsOf value 15 0)).touchShadow b).took

/-- GMN_WIN_WRITE (R379). -/
def execGmnWinWrite (b : Fin 24) (m : Fin 39) (value : Word) (s : State) : Host.Outcome State Fault Refusal :=
  done (s.hostOp fun _ s => s.winWrite b.val m.val value)

/-- The monitors of a bank in FAST, `m` apart. -/
def State.fastOthers (s : State) (b m : Nat) : Nat := ((List.range 39).filter fun j => j != m && s.gmnMode b j == 1).length

/-- A write of GMN_CFG by a source (R380, R386): a ninth FAST monitor keeps its MODE, ACTION 3 leaves ACTION, QTY is of monitor 38 only. -/
def State.gmnCfgWrite (s : State) (b m : Nat) (value : Word) : Wrote :=
  let ninth := decide (bitsOf value 30 29 = 1) && decide (8 ≤ s.fastOthers b m)
  let mode := if ninth then s.gmnMode b m else bitsOf value 30 29
  let act := if bitsOf value 27 26 = 3 then s.fldAt .gmn b GMN_CFG_ACTION m else bitsOf value 27 26
  let w := putBits (putBits (value &&& 0xFF80FF00) 30 29 mode) 27 26 act
  let w := if m = 38 then putBits w 22 22 (bitsOf value 22 22) else w
  let s := (s.wr (fldOff .gmn b GMN_CFG_EN m) w).touchShadow b
  if ninth then s.ignored .gmn b 4 else s.took

/-- GMN_CFG_WRITE (R380). -/
def execGmnCfgWrite (b : Fin 24) (m : Fin 39) (value : Word) (s : State) : Host.Outcome State Fault Refusal :=
  done (s.hostOp fun _ s => s.gmnCfgWrite b.val m.val value)

/-! ### What is evaluated -/

/-- Whether a monitor is blanked (R383, R384). -/
def State.gmnBlanked (s : State) (b m : Nat) : Bool :=
  let g := s.guard (39 * b + m)
  g.sched || (g.level && s.fldAt .gmn b GMN_CFG_LVL_BLANK m == 1)

/-- The supply that a DPS or HVC monitor watches. -/
def gmnSupply (b m : Nat) : Nat := if m = 38 then 72 + b else 3 * b + (m - 32) % 3

/-- Whether a monitor operates at all: its EN; the EN of its supply; in a bank whose domain is off only continuous pin monitors, from an FE
common domain that is on (R380, R382). -/
def State.gmnRuns (s : State) (b m : Nat) : Bool :=
  s.fldAt .gmn b GMN_CFG_EN m == 1 && s.domains.getLsbD (12 + b / 6)
    && (decide (m < 32) || s.flag (supKind (gmnSupply b m)) (supInst (gmnSupply b m)) DPS_CTRL_EN)
    && (s.bankOn b || (decide (m < 32) && s.gmnMode b m != 0))

/-- Whether a quantity lies outside a monitor's window. -/
def State.gmnOutside (s : State) (b m : Nat) (v : Int) : Bool :=
  let sg := s.gmnSigned b m
  decide (v < gmnUnits sg (s.fldAt .gmn b GMN_WIN_LO m)) || decide (gmnUnits sg (s.fldAt .gmn b GMN_WIN_HI m) < v)

/-- The bit of monitor `m` in a pair of registers. -/
def State.gmnBit (s : State) (b : Nat) (f0 f1 : Fld) (m : Nat) : Bool :=
  if m < 32 then bitAt (s.fld .gmn b f0) m else bitAt (s.fld .gmn b f1) (m - 32)

def State.setGmnBit (s : State) (b : Nat) (f0 f1 : Fld) (m : Nat) (on : Bool) : State :=
  if s.gmnBit b f0 f1 m = on then s
  else
    let f := if m < 32 then f0 else f1
    let p := 2 ^ (m % 32)
    s.put .gmn b f (if on then s.fld .gmn b f + p else s.fld .gmn b f - p)

/-! ### Trips -/

/-- DISCONNECT of a supply (R386): its queue is emptied, the switches of its gang open, CONN reads 0. -/
def State.guardOff (s : State) (u : Nat) : State :=
  let s := (s.gang u).foldl (fun s v => ((s.flushQueue v).put (supKind v) (supInst v) DPS_CTRL_CONN 0).openSwitch v) s
  s.int (supKind u) (supInst u) 2

/-- DISCONNECT of a monitor (R386): a pin monitor masks the site that holds its lane. -/
def State.guardDisconnect (s : State) (b m : Nat) : State :=
  if m < 32 then
    (if s.flag .pec (32 * b + m) PEC_SITE_BOUND then siteMask (s.fld .pec (32 * b + m) PEC_SITE) true s else s)
  else s.guardOff (gmnSupply b m)

/-- The class of a monitor (R386). -/
def guardClass (m : Nat) : Nat := if m < 32 then 1 else if m < 38 then 2 else 3

/-- A wake (R387): a Steward request to power the bank up. -/
def State.guardWake (s : State) (b : Nat) : State :=
  let (s, d, r) := s.bankRequest .steward b
  let s := s.pwrResp r d
  if r = 1 then s.int .gmn b 1 else if r = 6 then s else (s.int .gmn b 2).raiseOpen .gmn b 6 1

/-- A monitor's TRIP bit goes from 0 to 1 (R385 to R387). -/
def State.trip (s : State) (b m : Nat) : State :=
  let s := s.setGmnBit b GMN_TRIP0 GMN_TRIP1 m true
  let s := (s.bump .gmn b GMN_TRIPS_COUNT GMN_TRIPS_OVF).bump .gmnSum 0 GMN_TOTAL_COUNT GMN_TOTAL_OVF
  let s := (s.int .gmn b 0).int .gmnSum 0 0
  let act := s.fldAt .gmn b GMN_CFG_ACTION m
  let s := if act = 1 then s.guardDisconnect b m else s
  let s := s.raise .gmn b (guardClass m) (if act = 0 then 1 else if act = 1 then 2 else 4) (BitVec.ofNat 32 m)
  if s.fldAt .gmn b GMN_CFG_WAKE m == 1 && decide ((s.bank b).phase = .off) && !s.bankAsked b then s.guardWake b else s

/-- A monitor is evaluated (R378, R385). -/
def State.gmnEval (s : State) (b m : Nat) (v : Int) : State :=
  if !s.gmnRuns b m || s.gmnBlanked b m then s
  else if s.gmnOutside b m v then
    let s := s.setGmnBit b GMN_LIVE0 GMN_LIVE1 m true
    if s.gmnBit b GMN_TRIP0 GMN_TRIP1 m then s else s.trip b m
  else
    let s := s.setGmnBit b GMN_LIVE0 GMN_LIVE1 m false
    if s.fldAt .gmn b GMN_CFG_LATCH m = 1 then s.setGmnBit b GMN_TRIP0 GMN_TRIP1 m false else s

/-- An observation placed in ascending order of bank and monitor (R388, R63). -/
def placeObs (o : GuardObs) : List GuardObs → List GuardObs
  | [] => [o]
  | x :: r => if 39 * o.bank.val + o.m.val < 39 * x.bank.val + x.m.val then o :: x :: r else x :: placeObs o r

/-- GUARD_TICK (R380, R381, R385): the sampled monitors are evaluated, and the continuous ones that have tripped. -/
def guardTick (obs : List GuardObs) (s : State) : State :=
  (obs.foldl (fun l o => placeObs o l) []).foldl (fun s o =>
    if s.gmnMode o.bank o.m == 0 || s.gmnBit o.bank GMN_TRIP0 GMN_TRIP1 o.m then s.gmnEval o.bank o.m o.value else s) s

def execGuardTick (obs : List GuardObs) (s : State) : Host.Outcome State Fault Refusal := done (guardTick obs s)

/-- GUARD_CROSSING (R380): a continuous monitor sees its quantity leave the window. -/
def guardCrossing (o : GuardObs) (s : State) : State :=
  if s.gmnMode o.bank o.m != 0 && s.gmnOutside o.bank o.m o.value then s.gmnEval o.bank o.m o.value else s

def execGuardCrossing (obs : GuardObs) (s : State) : Host.Outcome State Fault Refusal := done (guardCrossing obs s)

/-! ### Blanking -/

/-- A write of GMN_BLANK1 by a source (R384): DUR_US 0 ends scheduled blanking. -/
def State.blankWrite (s : State) (b : Nat) (value : Word) : Wrote :=
  let on := bitsOf value 31 16 != 0
  ((List.range 39).foldl (fun s m =>
    if (if m < 32 then bitAt (s.fld .gmn b GMN_BLANK0_MASK) m else value.getLsbD (m - 32)) then
      s.setGuard (39 * b + m) { s.guard (39 * b + m) with sched := on }
    else s) s).took

/-- GMN_BLANK1 (R384). -/
def execGmnBlank1 (b : Fin 24) (value : Word) (s : State) : Host.Outcome State Fault Refusal :=
  done (s.hostOp fun _ s => s.blankWrite b.val value)

/-- BLANK_END (R383, R384): one kind of blanking of a monitor ends; a continuous monitor is evaluated again. -/
def blankEnd (o : GuardObs) (scheduled : Bool) (s : State) : State :=
  let j := 39 * o.bank.val + o.m.val
  let g := s.guard j
  let s := s.setGuard j (if scheduled then { g with sched := false } else { g with level := false })
  if s.gmnMode o.bank o.m == 0 then s else s.gmnEval o.bank o.m o.value

def execBlankEnd (obs : GuardObs) (scheduled : Bool) (s : State) : Host.Outcome State Fault Refusal :=
  done (blankEnd obs scheduled s)

end Sys2Proof.Machine
end

