-- ==== Sys2Proof/Machine/Thm.lean ====
section
/-! DEFINITION. The thermal manager: thresholds (R454), samples, broken sensors and thermal states (R453 to R458), throttling (R459), shutdown
(R461, R462), and front-end dies held unpowered (R463). -/

namespace Sys2Proof.Machine
open Sys2Proof Reg

/-! ### Thresholds -/

/-- The thresholds, 0 WARN, 1 THROT, 2 CRIT, 3 SHUT. -/
def thrFld : Nat → Fld
  | 0 => THM_WARN
  | 1 => THM_THROT
  | 2 => THM_CRIT
  | _ => THM_SHUT

/-- A threshold in 1/16 °C. -/
def State.thr (s : State) (i : Nat) : Int := signedOf 16 (s.fld .thm 0 (thrFld i))

/-- Whether a value may stand as threshold `i` (R454): not above its default, and in order with its neighbours. -/
def State.thrOk (s : State) (i : Nat) (v : Int) : Bool :=
  decide (v ≤ signedOf 16 (thrFld i).rst) && (i == 0 || decide (s.thr (i - 1) < v)) && (i == 3 || decide (v < s.thr (i + 1)))

/-- A write of THM_CFG (R454): RATE_LIM above 5 °C/s is stored as 5 °C/s; LOCK sets. -/
def thmCfgWrite (value : Word) (s : State) : State :=
  let s := if s.flag .thm 0 THM_CFG_LOCK then s else s.put .thm 0 THM_CFG_RATE_LIM (min 80 (bitsOf value 15 0))
  if value.getLsbD 31 then s.put .thm 0 THM_CFG_LOCK 1 else s

/-- A write of a threshold, or of THM_CFG, by its offset (R454). -/
def thmThresholdWrite (off : Nat) (value : Word) (s : State) : State :=
  if off = 0x40 then thmCfgWrite value s
  else if off % 4 = 0 && decide (0x44 ≤ off) && decide (off ≤ 0x50) then
    let i := (off - 0x44) / 4
    if s.flag .thm 0 THM_CFG_LOCK then s
    else if s.thrOk i (signedOf 16 (bitsOf value 15 0)) then s.put .thm 0 (thrFld i) (bitsOf value 15 0)
    else (s.int .thm 0 6).raiseOpen .thm 0 7 1
  else s

/-- THM_THRESHOLD_WRITE (R454). -/
def execThmThresholdWrite (off : Nat) (value : Word) (s : State) : Host.Outcome State Fault Refusal :=
  done (s.asHostOn .thm 0 (thmThresholdWrite off value))

/-- LOCK (R454): a write of THM_CFG with LOCK at 1. -/
def execLock (value : Word) (s : State) : Host.Outcome State Fault Refusal :=
  done (s.asHostOn .thm 0 (thmCfgWrite (value ||| 0x80000000)))

/-! ### Sensors -/

/-- The region of a sensor: FE0 to FE3, or 4 CORE (R453). -/
def regionOf (i : Nat) : Nat := if i < 24 then i / 6 else 4

/-- The sensors of a region. -/
def regionSensors (g : Nat) : List Nat := if g < 4 then (List.range 6).map (· + 6 * g) else (List.range 8).map (· + 24)

/-- The broken sensors of a region. -/
def State.brokenIn (s : State) (g : Nat) : Nat := ((regionSensors g).filter s.sensorBroken).length

/-- One sensor takes its reading (R453, R457): broken at the third consecutive bad one; it then shows THM_CRIT. -/
def State.takeReading (s : State) (i : Nat) (x : Reading) : State :=
  let bad := !x.refOk || decide (x.temp < -640) || decide (2400 < x.temp)
  let n := if bad then mapGet (fun _ => 0) s.thm.bad i + 1 else 0
  let s := { s with thm := { s.thm with bad := mapSet (fun _ => 0) s.thm.bad i n } }
  let s :=
    if 3 ≤ n ∧ !s.sensorBroken i then ((s.putAt .thm 0 THM_SENSOR_BROKEN i 1).int .thm 0 4).raiseOpen .thm 0 6 3 else s
  if s.sensorBroken i then
    (s.putAt .thm 0 THM_SENSOR_TEMP i (s.fld .thm 0 THM_CRIT)).putAt .thm 0 THM_REGION_BROKEN (regionOf i) (min 3 (s.brokenIn (regionOf i)))
  else s.putAt .thm 0 THM_SENSOR_TEMP i (cutInt 16 x.temp)

/-- The rise of a sensor over 100 ms, where it has one (R456). -/
def State.rise (s : State) (i : Nat) : Option Int :=
  if s.sensorBroken i then none else (s.thm.hist[99]?).map fun h => s.sensorT i - h.getD i 0

/-- THM_SENSOR.RISE of every sensor. -/
def State.putRises (s : State) : State :=
  (List.range 32).foldl (fun s i => s.putAt .thm 0 THM_SENSOR_RISE i (cutInt 12 ((s.rise i).getD 0))) s

/-- A region's temperature (R453). -/
def State.regionT (s : State) (g : Nat) : Int := ((regionSensors g).map s.sensorT).foldl max (-32768)

/-! ### Throttling -/

/-- THM_REGION bit of a state: 0 WARN, 1 THROTTLE, 2 RATE, 3 CRITICAL, 4 SHUTDOWN. -/
def regionFld : Nat → Fld
  | 0 => THM_REGION_WARN
  | 1 => THM_REGION_THROTTLE
  | 2 => THM_REGION_RATE
  | 3 => THM_REGION_CRITICAL
  | _ => THM_REGION_SHUTDOWN

def State.inThermal (s : State) (g st : Nat) : Bool := s.fldAt .thm 0 (regionFld st) g == 1

/-- Whether a region is throttled (R458). -/
def State.throttled (s : State) (g : Nat) : Bool := s.inThermal g 1 || s.inThermal g 2 || s.inThermal g 3

def State.pausing (s : State) (g : Nat) : Bool := s.fldAt .thm 0 THM_REGION_PAUSING g == 1

/-- The banks of a region: every bank for CORE. -/
def regionBanks (g : Nat) : List Nat := if g < 4 then (List.range 6).map (· + 6 * g) else List.range 24

/-- The levers follow the pending parts in force (R459): the throttle request of each PSQ, deferred scrubbing, and the captures that wait. -/
def State.pullLevers (s : State) : State :=
  let banks := ((List.range 5).filter s.pausing).flatMap regionBanks
  let all := s.pausing 4
  let s := (List.range 8).foldl (fun s n =>
    s.put .psq n PSQ_PAUSE_STAT_THROTTLE
      (bit (s.flag .thm 0 THM_THR_CFG_PSQ_EN && (all || (s.psqBanks n).any banks.contains)))) s
  let s := s.put .vmc 0 VMC_STAT_SCRUB_DEFERRED (bit (s.flag .thm 0 THM_THR_CFG_SCRUB_EN && (List.range 5).any s.throttled))
  (List.range 24).foldl State.capNext s

/-- THROTTLE_PHASE (R459): the duty cycle of a throttled region switches. -/
def throttlePhase (g : Nat) (s : State) : State :=
  if s.throttled g then (s.putAt .thm 0 THM_REGION_PAUSING g (bit (!s.pausing g))).pullLevers else s

def execThrottlePhase (region : Fin 5) (s : State) : Host.Outcome State Fault Refusal := done (throttlePhase region.val s)

/-! ### Shutdown -/

/-- A bank of a region that shuts down (R461): its channels SAFE, its switches open whatever PUV.CONN holds, its domain off. -/
def State.shutBank (s : State) (b : Nat) : State :=
  let s := s.quiesce b
  (s.setBank b { s.bank b with held := true }).bankOff b

/-- The hottest sensor of a region, the lowest-numbered among equals. -/
def State.hottest (s : State) (g : Nat) : Nat :=
  ((regionSensors g).find? fun i => s.sensorT i == s.regionT g).getD 0

/-- The actions of a shutdown (R461, R462): THM_LAST is latched, the banks and domains of the region drop; for CORE every domain but AON. -/
def State.shutdown (s : State) (g cause sensor : Nat) : State :=
  let s := ((s.put .thm 0 THM_LAST_VALID 1).put .thm 0 THM_LAST_REGION g).put .thm 0 THM_LAST_CAUSE cause
  let s := (s.put .thm 0 THM_LAST_SENSOR sensor).put .thm 0 THM_LAST_TEMP (cutInt 16 (s.sensorT sensor))
  let s := s.put .thm 0 THM_LAST_SEC (s.fld .evr 0 EVR_OPSEC)
  let s := (regionBanks g).foldl State.shutBank s
  if g < 4 then s.setDomain (12 + g) false else { s with domains := 1, thm := { s.thm with coreDown := true } }

/-! ### Thermal states -/

/-- The class and level of entering a state (R458). -/
def thermalClass (st : Nat) : Nat × Nat :=
  match st with
  | 0 => (1, 1)
  | 1 => (2, 2)
  | 2 => (3, 2)
  | 3 => (4, 4)
  | _ => (5, 5)

/-- A region enters a state (R458); the entry of a shutdown is not offered to the event recorder (R462). -/
def State.enterThermal (s : State) (g st : Nat) : State :=
  let s := s.putAt .thm 0 (regionFld st) g 1
  let s := if st < 4 then s.int .thm 0 st else s
  let (cls, level) := thermalClass st
  (s.recordFault (st != 4) .thm 0 cls level s.freeWord).drawn

/-- A region leaves a state (R458). -/
def State.leaveThermal (s : State) (g st : Nat) : State := (s.putAt .thm 0 (regionFld st) g 0).int .thm 0 5

/-- Consecutive samples counted for a region and a state: `w` 0 for entering, 1 for leaving. -/
def State.dwell (s : State) (g st w : Nat) : Nat := mapGet (fun _ => 0) s.thm.dwell (16 * g + 2 * st + w)

def State.setDwell (s : State) (g st w n : Nat) : State :=
  { s with thm := { s.thm with dwell := mapSet (fun _ => 0) s.thm.dwell (16 * g + 2 * st + w) n } }

/-- A state of a region at a sample: entered at the tenth sample that reaches it, left at the tenth that clears it (R455, R456). -/
def State.follow1 (s : State) (g st : Nat) (reach clear : Bool) : State :=
  if s.inThermal g st then
    let n := if clear then s.dwell g st 1 + 1 else 0
    if n = 10 then ((s.setDwell g st 1 0).setDwell g st 0 0).leaveThermal g st else s.setDwell g st 1 n
  else
    let n := if reach then s.dwell g st 0 + 1 else 0
    if n = 10 then ((s.setDwell g st 0 0).setDwell g st 1 0).enterThermal g st else s.setDwell g st 0 n

/-- Whether some rise of a region is above RATE_LIM × 0.1 s, and whether every one is at or below (RATE_LIM − 2 °C/s) × 0.1 s (R456). -/
def State.rateReach (s : State) (g : Nat) : Bool :=
  (regionSensors g).any fun i => (s.rise i).any fun r => decide ((s.fld .thm 0 THM_CFG_RATE_LIM : Int) < 10 * r)

def State.rateClear (s : State) (g : Nat) : Bool :=
  (regionSensors g).all fun i => (s.rise i).all fun r => decide (10 * r ≤ (s.fld .thm 0 THM_CFG_RATE_LIM : Int) - 32)

/-- A region at a sample (R453 to R458, R461): two broken sensors shut it down without dwell (R457). -/
def State.regionSample (s : State) (g : Nat) : State :=
  let t := s.regionT g
  let s := s.putAt .thm 0 THM_REGION_TEMP g (cutInt 16 t)
  let was := s.throttled g
  let at_ := fun (s : State) (st i : Nat) => s.follow1 g st (decide (s.thr i ≤ t)) (decide (t ≤ s.thr i - 32))
  let s := at_ (at_ s 0 0) 1 1
  let s := s.follow1 g 2 (s.rateReach g) (s.rateClear g)
  let s := at_ s 3 2
  let s := if s.throttled g = was then s else s.putAt .thm 0 THM_REGION_PAUSING g (bit (s.throttled g))
  if s.inThermal g 4 then s
  else if 2 ≤ s.brokenIn g then
    (s.enterThermal g 4).shutdown g 1 (((regionSensors g).filter s.sensorBroken).getLastD 0)
  else
    let n := if s.thr 3 ≤ t then s.dwell g 4 0 + 1 else 0
    let s := s.setDwell g 4 0 n
    if n = 10 then (s.enterThermal g 4).shutdown g 0 (s.hottest g) else s

/-- THERMAL_SAMPLE (R453): 32 readings, 1 ms after the last; the millisecond that ends is counted where it was pending (R459). -/
def thermalSample (rs : List Reading) (s : State) : State :=
  if rs.length ≠ 32 ∨ s.dev = .off then s
  else
    let s := if (List.range 5).any s.pausing then s.bump .thm 0 THM_THR_MS_COUNT THM_THR_MS_OVF else s
    let s := rs.zipIdx.foldl (fun s x => s.takeReading x.2 x.1) s
    let s := s.putRises
    let s := (List.range 5).foldl State.regionSample s
    let s := { s with thm := { s.thm with hist := ((List.range 32).map s.sensorT :: s.thm.hist).take 100 } }
    ((List.range 25).foldl State.calFollow s).pullLevers

def execThermalSample (readings : List Reading) (s : State) : Host.Outcome State Fault Refusal := done (thermalSample readings s)

/-! ### Front-end dies held unpowered -/

/-- A front-end die is not powered while its region is at or above THM_CRIT (R463). -/
def State.holdFe (s : State) (n : Nat) : State :=
  if s.thr 2 ≤ s.regionT n then (s.setFe n { s.fe n with heldOff := true }).raiseOpen .thm 0 4 4 else s

/-- FE_POWER_RETRY (R463): the die is powered at the first sample at or below THM_CRIT minus 2 °C; the Steward then requests its banks. -/
def fePowerRetry (n : Nat) (s : State) : State :=
  if (s.fe n).heldOff && decide (s.regionT n ≤ s.thr 2 - 32) then
    let s := s.setFe n { s.fe n with heldOff := false }
    s.requests (fun s b => s.bankRequest .steward b) ((regionBanks n).filter fun b => !s.bankAsked b)
  else s

def execFePowerRetry (fe : Fin 4) (s : State) : Host.Outcome State Fault Refusal := done (fePowerRetry fe.val s)

end Sys2Proof.Machine
end

