-- ==== Sys2Proof/Machine/Regs.lean ====
section
/-! DEFINITION. Storing a word into the fields of a register by their access codes (R9, R10), as a host write does and as the register
lists of a bundle do (R484). -/

namespace Sys2Proof.Machine
open Sys2Proof Reg

/-- What a field holds after a value has been written to it, given what it held. -/
def Norm.keep (n : Norm) (old v : Nat) : Nat :=
  match n with
  | .none => v
  | .zeroOne => if v = 0 then 1 else v
  | .leave r => if v = r then old else v
  | .upTo m => if m < v then old else v
  | .between lo hi => max lo (min hi v)

/-- What a field holds after bits are written to it, by its access code (R9). -/
def Fld.stored (f : Fld) (old v : Nat) : Nat :=
  match f.acc with
  | .rw | .rwl => f.norm.keep old v
  | .w1c => old - (old &&& v)
  | .w1s => old ||| v
  | .ro | .wo | .rc => old

/-- A word written to the offset of a page: its part that falls in one field. -/
def State.storeField (k : PageKind) (i off : Nat) (value : Word) (s : State) (f : Fld) : State :=
  match f.at? off with
  | none => s
  | some j => s.putAt k i f j (f.stored (s.fldAt k i f j) (bitsOf value f.hi f.lo))

/-- A word written to an offset of a page: every field there that satisfies `p` takes its part. -/
def State.storeFields (s : State) (k : PageKind) (i off : Nat) (value : Word) (p : Fld → Bool) : State :=
  ((fieldsOf k).filter p).foldl (State.storeField k i off value) s

/-- The clamp levels of a channel have been written: its pin monitor sees a level transition, and what is out of range shows (R143, R383,
R356). -/
def State.clampWritten (s : State) (k : Nat) : State := (s.levelBlank (k / 32) (k % 32)).relimit k

end Sys2Proof.Machine
end

