-- ==== Sys2Proof/Machine/Sec.lean ====
section
/-! DEFINITION. The Security Engine (chapter 15): the SPDM responder (R467 to R473), Owner slots and tokens (R474 to R477), roles (R478 to
R480), sealed bundles (R481 to R491), the debug window (R493) and private JTAG instructions (R494). -/

namespace Sys2Proof.Machine
open Sys2Proof Reg

/-! ### Roles and sessions -/

/-- The role of host accesses follows from the Vendor role and the Owner session (R479). -/
def State.reRole (s : State) : State :=
  { s with role :=
      if s.sec.vendor.any fun p => bitAt p 0 then .vendor
      else if (s.sec.owner.bind s.ownerKey).any fun k => bitAt k.perms 2 then .owner
      else .operator }

/-- SEC_STAT shows the sessions and the Owner session. -/
def State.putSessions (s : State) : State :=
  let s := (s.put .secCtl 0 SEC_STAT_SESSIONS s.sec.sessions.length).put .secCtl 0 SEC_STAT_OWNER_SESSION (bit s.sec.owner.isSome)
  (s.put .secCtl 0 SEC_STAT_OWNER_SLOT (s.sec.owner.getD 0)).reRole

/-- A session is discarded; where it was the Owner session, that ends, and ROLE_CHANGE is set (R473). -/
def State.dropSession (s : State) (x : SpdmSession) : State :=
  let was := x.open_ && x.owner.isSome
  let s := { s with sec := { s.sec with
    sessions := s.sec.sessions.filter fun y => y.id != x.id, owner := if was then none else s.sec.owner } }
  if was then s.putSessions.int .secCtl 0 1 else s.putSessions

/-- The session that is, or is to become, the Owner session. -/
def State.ownerSession (s : State) : Option SpdmSession := s.sec.sessions.find? fun x => x.owner.isSome

/-- The Vendor role ends, and JTAG_DBG with it (R478). -/
def State.endVendorRole (s : State) : State :=
  let s := { s with sec := { s.sec with vendor := none } }
  (((s.put .secCtl 0 SEC_STAT_VENDOR 0).put .secCtl 0 SEC_STAT_JTAG_DBG 0).put .secCtl 0 SEC_VENDOR_LEFT_S 0).reRole

/-! ### The SPDM responder -/

/-- A request is served in every state but OFF and BOOT (R467): in BOOT the DOE mailbox is busy. -/
def State.spdm (s : State) (f : State → State) : State := if s.live && !s.hif.perst then f s else s

/-- The responder answers. -/
def State.say (s : State) (r : SpdmReply) : State := { s with sec := { s.sec with reply := r } }

def State.sayError (s : State) (code : Nat) : State := s.say (.error code)

/-- An error whose code the spec does not state: a free code. -/
def State.sayOpen (s : State) : State := (s.sayError (s.freeVal % 256)).drawn

/-- A request that is answered outside a session only, and once the connection has come as far as `conn` (R470). -/
def State.outside (s : State) (ses : Option Nat) (conn : Nat) (f : State → State) : State :=
  s.spdm fun s => if ses.isSome || s.sec.conn != conn then s.sayError 4 else f s

/-- GET_VERSION (R468): it begins a connection anew. -/
def execGetVersion (ses : Option Nat) (s : State) : Host.Outcome State Fault Refusal :=
  done (s.outside ses s.sec.conn fun s => { s with sec := { s.sec with conn := 1, reply := .version [0x1200] } })

/-- GET_CAPABILITIES (R468). -/
def execGetCapabilities (ses : Option Nat) (s : State) : Host.Outcome State Fault Refusal :=
  done (s.outside ses 1 fun s =>
    let s := { s with sec := { s.sec with conn := 2 } }
    s.say (.capabilities ["CERT_CAP", "CHAL_CAP", "ENCRYPT_CAP", "MAC_CAP", "MUT_AUTH_CAP", "KEY_EX_CAP"] 2 15 4096 4096))

/-- NEGOTIATE_ALGORITHMS (R469): the device supports one algorithm in each field, and selects it where it is offered. -/
def execNegotiateAlgorithms (ses : Option Nat) (offer : AlgSet) (s : State) : Host.Outcome State Fault Refusal :=
  done (s.outside ses 2 fun s => { s with sec := { s.sec with conn := 3, algs := offer, reply := .algorithms offer } })

/-- GET_DIGESTS: slot 0 holds the chain (R470). -/
def execGetDigests (ses : Option Nat) (s : State) : Host.Outcome State Fault Refusal :=
  done (s.outside ses 3 fun s =>
    if s.sec.algs.hash then s.say (.digests 1 (Config.sha384 Config.certChain)) else s.sayError 4)

/-- GET_CERTIFICATE: bytes of the chain in slot 0; slots 1 to 7 are empty. -/
def execGetCertificate (ses : Option Nat) (slot off len : Nat) (s : State) : Host.Outcome State Fault Refusal :=
  done (s.outside ses 3 fun s =>
    if !s.sec.algs.hash then s.sayError 4
    else if slot ≠ 0 ∨ Config.certChain.length ≤ off then s.sayOpen
    else
      let part := (Config.certChain.drop off).take len
      s.say (.certificate part (Config.certChain.length - off - part.length)))

/-- CHALLENGE: CHALLENGE_AUTH signed with the identity key. -/
def execChallenge (ses : Option Nat) (slot : Nat) (transcript : List Byte) (s : State) : Host.Outcome State Fault Refusal :=
  done (s.outside ses 3 fun s =>
    if !(s.sec.algs.hash && s.sec.algs.asym) then s.sayError 4
    else if slot ≠ 0 then s.sayOpen
    else s.say (.challengeAuth (Config.signIdentity transcript)))

/-- The bytes of a digest held in twelve registers; 48 zero bytes where `held` says it names nothing. -/
def State.regDigest (s : State) (held : Bool) (k : PageKind) (i : Nat) (f : Fld) : List Byte :=
  if held then ((List.range 12).map fun j => natBytes 4 (s.fldAt k i f j)).flatten else List.replicate 48 0

/-- The vendor microcode's digest: that of the first sequencer whose vendor area is valid. -/
def State.vendorDigest (s : State) : List Byte :=
  match (List.range 8).find? fun n => s.flag .mce n MCE_STAT_VENDOR_VALID with
  | some n => s.regDigest true .mce n MCE_VDIG
  | none => List.replicate 48 0

/-- The value of measurement block 20. -/
def State.hardwareBlock (s : State) : Nat :=
  bit (s.flag .secCtl 0 SEC_STAT_PROD_LOCK) + 2 * bit (s.flag .secCtl 0 SEC_STAT_JTAG_DBG)
    + 4 * bit (s.flag .secCtl 0 SEC_STAT_ID_VALID) + 256 * s.fld .secCtl 0 SEC_STAT_ENROLLED + 65536 * s.fld .secCnt 0 SEC_FW_SVN

/-- Measurement block `i`, 1 to 20 (R471): index, DMTF value type, and content. -/
def State.block (s : State) (i : Nat) : Nat × Nat × List Byte :=
  if i = 1 then (1, 1, (s.mbx.fwDigest.map bytesOf).flatten)
  else if i = 2 then (2, 1, s.vendorDigest)
  else if i ≤ 10 then (i, 1, s.regDigest (s.flag .mce (i - 3) MCE_STAT_USER_VALID) .mce (i - 3) MCE_UDIG)
  else if i = 11 then (11, 3, match s.settings with | some b => digestBytes (Config.sha384 b) | none => List.replicate 48 0)
  else if i ≤ 19 then
    (i, 3, match (s.psq (i - 12)).bundle with | some b => digestBytes b.digest | none => List.replicate 48 0)
  else (20, 2, natBytes 4 s.hardwareBlock)

/-- The blocks that a request's index names (R471); none where the index names no block. -/
def State.blocksAt (s : State) (index : Nat) : Option (List (Nat × Nat × List Byte)) :=
  if index = 0 then some []
  else if index = 0xFF then some ((List.range 20).map fun i => s.block (i + 1))
  else if index ≤ 20 then some [s.block index]
  else none

/-- Whether a session is held and its handshake is complete. -/
def State.sessionOpen (s : State) (id : Nat) : Bool := s.sec.sessions.any fun x => x.id == id && x.open_

/-- GET_MEASUREMENTS (R471), outside a session or inside one. -/
def execGetMeasurements (ses : Option Nat) (index : BitVec 8) (sign : Bool) (transcript : List Byte) (s : State) :
    Host.Outcome State Fault Refusal :=
  done (s.spdm fun s =>
    if s.sec.conn != 3 || !(s.sec.algs.spec && s.sec.algs.hash) || (sign && !s.sec.algs.asym) then s.sayError 4
    else if ses.any fun i => !s.sessionOpen i then s.sayError 4
    else
      match s.blocksAt index.toNat with
      | some bs => s.say (.measurements 20 bs (if sign then some (Config.signIdentity transcript) else none))
      | none => s.sayOpen)

/-- The number by which the model knows a new session: the lowest that none has. -/
def State.newSession (s : State) : Nat := ((List.range 4).find? fun i => !s.sec.sessions.any fun x => x.id == i).getD 4

/-- A session begins its handshake (R472). -/
def State.beginSession (s : State) (owner : Option Nat) (transcript : List Byte) : State :=
  let id := s.newSession
  let s := { s with sec := { s.sec with sessions := s.sec.sessions ++ [(⟨id, false, owner⟩ : SpdmSession)] } }
  s.putSessions.say (.keyExchange id owner.isSome (Config.signIdentity transcript))

/-- KEY_EXCHANGE (R472): `owner` is the slot of the Kernamal element, where the request carries one. -/
def execKeyExchange (ses : Option Nat) (owner : Option (BitVec 8)) (transcript : List Byte) (s : State) :
    Host.Outcome State Fault Refusal :=
  done (s.outside ses 3 fun s =>
    let a := s.sec.algs
    if !(a.dhe && a.aead && a.schedule && a.asym && a.hash && (owner.isNone || a.reqAsym)) then s.sayError 4
    else if 4 ≤ s.sec.sessions.length then s.sayError 0xA
    else
      match owner with
      | none => s.beginSession none transcript
      | some slot =>
        if 7 < slot.toNat ∨ (s.ownerKey slot.toNat).isNone then s.sayError 1
        else if s.ownerSession.isSome then s.sayError 3
        else s.beginSession (some slot.toNat) transcript)

/-- Whether a FINISH carries the signature that its session asks for (R472). -/
def State.finishGood (s : State) (x : SpdmSession) (sig : Option (List Byte)) (message : List Byte) : Bool :=
  match x.owner with
  | none => true
  | some slot =>
    match s.ownerKey slot, sig with
    | some k, some g => Config.verify k.key message g
    | _, _ => false

/-- A handshake is complete: the session is open, and an Owner session where one was asked for. -/
def State.openSession (s : State) (x : SpdmSession) : State :=
  let s := { s with sec := { s.sec with
    sessions := s.sec.sessions.map (fun (y : SpdmSession) => if y.id == x.id then { y with open_ := true } else y), owner := x.owner.or s.sec.owner } }
  (if x.owner.isSome then s.putSessions.int .secCtl 0 1 else s).say .finish

/-- FINISH (R472): `sig` is the requester's signature, over `message`. -/
def execFinish (ses : Option Nat) (sig : Option (List Byte)) (message : List Byte) (s : State) : Host.Outcome State Fault Refusal :=
  done (s.spdm fun s =>
    match ses.bind fun i => s.sec.sessions.find? fun x => x.id == i && !x.open_ with
    | none => s.sayError 4
    | some x =>
      if s.finishGood x sig message then s.openSession x
      else ((s.dropSession x).int .secCtl 0 3).raiseOpen .secCtl 0 3 1 |>.sayError 5)

/-- END_SESSION (R473). -/
def execEndSession (ses : Option Nat) (s : State) : Host.Outcome State Fault Refusal :=
  done (s.spdm fun s =>
    match ses.bind fun i => s.sec.sessions.find? fun x => x.id == i && x.open_ with
    | none => s.sayError 4
    | some x => (s.dropSession x).say .endSession)

/-- UNSUPPORTED_REQUEST (R470): any request code that R470 does not list. -/
def execUnsupportedRequest (_code : BitVec 8) (_ses : Option Nat) (s : State) : Host.Outcome State Fault Refusal :=
  done (s.spdm fun s => s.sayError 7)

/-- SESSION_IDLE_TIMEOUT (R473): the Owner session has been idle for IDLE_S seconds. -/
def sessionIdleTimeout (s : State) : State :=
  match s.sec.sessions.find? fun x => x.open_ && x.owner.isSome with
  | some x => s.dropSession x
  | none => s

def execSessionIdleTimeout (s : State) : Host.Outcome State Fault Refusal := done (sessionIdleTimeout s)

/-! ### Commands and tokens -/

/-- A SEC_CMD write: `f` gives RESULT (R475); a command completes in the step that starts it. -/
def State.secCmd (s : State) (length : BitVec 16) (f : State → State × Nat) : State :=
  s.asHostOn .secCtl 0 fun s =>
    let r := if 960 < length.toNat then (s, 1) else f s
    (r.1.put .secCtl 0 SEC_RESP_RESULT r.2).int .secCtl 0 0

/-- Words written to the data window from word 0 on. -/
def State.secWindow (s : State) (ws : List Word) : State := s.putWords .secCtl 0 SEC_WIN_DATA ws

/-- `k` fresh free words. -/
def freshWords : Nat → State → State × List Word
  | 0, s => (s, [])
  | k + 1, s => let r := freshWords k s.drawn; (r.1, s.freeWord :: r.2)

/-- GET_NONCE (R475). -/
def execGetNonce (length : BitVec 16) (s : State) : Host.Outcome State Fault Refusal :=
  done (s.secCmd length fun s =>
    let r := freshWords 8 s
    (({ r.1 with sec := { r.1.sec with nonce := some r.2 } }).secWindow r.2, 0))

/-- Bytes `off` to `off + n − 1`. -/
def subBytes (bs : List Byte) (off n : Nat) : List Byte := (bs.drop off).take n

/-- A little-endian number of `n` bytes. -/
def leAt (bs : List Byte) (off n : Nat) : Nat := leNat (subBytes bs off n)

/-- Whether bytes are all zero. -/
def zeroAt (bs : List Byte) (off n : Nat) : Bool := (subBytes bs off n).all fun b => b == 0

/-- DEVID as its 16 bytes. -/
def devidBytes : List Byte := natBytes 16 Config.deviceId.toNat

/-- The fields of a token (the table before R475). -/
def tokType (t : List Byte) : Nat := leAt t 4 1
def tokSlot (t : List Byte) : Nat := leAt t 5 1
def tokPerms (t : List Byte) : Nat := leAt t 6 1
def tokSigner (t : List Byte) : Nat := leAt t 7 1
def tokCount (t : List Byte) : Nat := leAt t 0x18 4
def tokCertLen (t : List Byte) : Nat := leAt t 0xB4 4

/-- Whether a token of `length` words is well formed (R475, BAD_FORMAT). -/
def tokenFormed (t : List Byte) (length : Nat) : Bool :=
  let ty := tokType t
  leAt t 0 4 == 0x4E4B544B && (decide (1 ≤ ty) && decide (ty ≤ 3)) && zeroAt t 0x1C 4 && zeroAt t 0xB1 3
    && (if ty = 3 then tokSlot t == 0 else decide (tokSlot t < 8))
    && (if ty = 1 then decide (tokPerms t < 16) else if ty = 2 then tokPerms t == 0 else decide (tokPerms t < 4))
    && (decide (tokSigner t < 8) || tokSigner t == 0xFF)
    && (if ty = 3 then zeroAt t 0x40 16 else zeroAt t 0x20 48)
    && (ty == 1 || zeroAt t 0x50 97)
    && (tokSigner t == 0xFF || tokCertLen t == 0)
    && length == ceilDiv (0xB8 + tokCertLen t + 96) 4

/-- The key a token is signed with: an enrolled Owner's, or the one its chain certifies. -/
def State.tokenKey (s : State) (t : List Byte) : Option (List Byte) :=
  if tokSigner t = 0xFF then Config.chainKey (subBytes t 0xB8 (tokCertLen t))
  else (s.ownerKey (tokSigner t)).map OwnerKey.key

/-- Whether a token's signature verifies (R475, SIGNATURE). -/
def State.tokenSigned (s : State) (t : List Byte) : Bool :=
  let n := 0xB8 + tokCertLen t
  match s.tokenKey t with
  | some k => Config.verify k (t.take n) (subBytes t n 96)
  | none => false

/-- Whether a token asks for what its signer may not ask (R474, R475 DENIED, R476). -/
def State.tokenDenied (s : State) (t : List Byte) : Bool :=
  if tokSigner t = 0xFF then false
  else
    !((s.ownerKey (tokSigner t)).any fun k => bitAt k.perms 3)
      || (match tokType t with
          | 1 => (s.ownerKey (tokSlot t)).isSome
          | 2 => tokSlot t != tokSigner t
          | _ => true)

/-- Whether a token is stale (R475). -/
def State.tokenStale (s : State) (t : List Byte) : Bool :=
  if tokType t = 3 then
    match s.sec.nonce with
    | some ws => (ws.map bytesOf).flatten != subBytes t 0x20 32
    | none => true
  else tokCount t != s.fld .secCtl 0 SEC_ENROLL_CTR

/-- Whether a slot is in use (R477). -/
def State.slotInUse (s : State) (slot : Nat) : Bool :=
  (s.ownerSession.any fun x => x.owner == some slot)
    || (List.range 8).any fun n =>
      ((s.psq n).bundle.any fun b => b.slot == slot)
        || (s.flag .mce n MCE_OWNER_VALID && s.fld .mce n MCE_OWNER_SLOT == slot && s.flag .mce n MCE_STAT_USER_VALID)

/-- Whether any SEALED object exists. -/
def State.anySealed (s : State) : Bool := s.vs.objs.any fun e => match e.2 with | some o => o.kind == .sealedObj | none => false

/-- The check that refuses a token, in the order of the RESULT table (R475). -/
def State.tokenCheck (s : State) (t : List Byte) (length : Nat) : Option Nat :=
  if !tokenFormed t length then some 2
  else if subBytes t 8 16 ≠ devidBytes then some 3
  else if !s.tokenSigned t then some 4
  else if s.tokenDenied t then some 5
  else if s.tokenStale t then some 6
  else if tokType t ≠ 3 ∧ s.slotInUse (tokSlot t) then some 7
  else if tokType t = 3 ∧ bitAt (tokPerms t) 1 ∧ (s.anySealed ∨ s.sec.job.isSome) then some 8
  else none

/-- An Owner slot takes a key, or is emptied, with the counter, in one NVM commit (R476). -/
def State.setSlot (s : State) (slot : Nat) (k : Option OwnerKey) : State :=
  let s := { s with sec := { s.sec with slots := mapSet (fun _ => none) s.sec.slots slot k } }
  let mask := ((List.range 8).map fun i => bit (s.ownerKey i).isSome * 2 ^ i).foldr (· + ·) 0
  (s.put .secCtl 0 SEC_STAT_ENROLLED mask).put .secCtl 0 SEC_ENROLL_CTR (s.fld .secCtl 0 SEC_ENROLL_CTR + 1)

/-- An accepted VENDOR token (R476): its nonce is consumed, and the Vendor role holds for LIFE_S seconds. -/
def State.grantVendor (s : State) (perms life : Nat) : State :=
  let s := { s with sec := { s.sec with nonce := none } }
  if life = 0 then s.endVendorRole
  else
    let s := { s with sec := { s.sec with vendor := some perms } }
    let s := (s.put .secCtl 0 SEC_STAT_VENDOR 1).put .secCtl 0 SEC_STAT_JTAG_DBG (bit (bitAt perms 1))
    (s.put .secCtl 0 SEC_VENDOR_LEFT_S life).reRole

/-- A token acts (R476); `nvmOk` is how its NVM commit ends. -/
def State.tokenAct (s : State) (t : List Byte) (nvmOk : Bool) : State × Nat :=
  if tokType t = 3 then (s.grantVendor (tokPerms t) (tokCount t), 0)
  else if !nvmOk then (s.raiseOpen .secCtl 0 5 3, 9)
  else if tokType t = 1 then (s.setSlot (tokSlot t) (some ⟨subBytes t 0x50 97, tokPerms t⟩), 0)
  else (s.setSlot (tokSlot t) none, 0)

/-- The first words of the data window, as bytes. -/
def State.secBytes (s : State) (length : Nat) : List Byte :=
  ((List.range length).map fun j => natBytes 4 (s.fldAt .secCtl 0 SEC_WIN_DATA j)).flatten

/-- TOKEN (R475, R476). -/
def execToken (length : BitVec 16) (nvmOk : Bool) (s : State) : Host.Outcome State Fault Refusal :=
  done (s.secCmd length fun s =>
    let t := s.secBytes length.toNat
    match s.tokenCheck t length.toNat with
    | some r => (s.raiseOpen .secCtl 0 2 1, r)
    | none => s.tokenAct t nvmOk)

/-- END_VENDOR (R478). -/
def execEndVendor (length : BitVec 16) (s : State) : Host.Outcome State Fault Refusal :=
  done (s.secCmd length fun s => (s.endVendorRole, 0))

/-- Words of the data window in place of which bytes are written, from byte 0; the rest of the last word stays. -/
def State.secWriteBytes (s : State) (bs : List Byte) : State :=
  let k := ceilDiv bs.length 4
  s.secWindow (wordsFrom k (bs ++ (s.secBytes k).drop bs.length))

/-- GET_SLOT (R475): the key and then PERMS; for an empty slot, of which the spec states no key, free values. -/
def execGetSlot (length : BitVec 16) (s : State) : Host.Outcome State Fault Refusal :=
  done (s.secCmd length fun s =>
    match s.ownerKey (s.fld .secCtl 0 SEC_SLOT_SEL_SLOT) with
    | some k => (s.secWriteBytes (k.key ++ [BitVec.ofNat 8 k.perms]), 0)
    | none =>
      let r := freshWords 25 s
      (r.1.secWriteBytes ((r.2.map bytesOf).flatten.take 98), 0))

/-- VENDOR_EXPIRY (R478). -/
def execVendorExpiry (s : State) : Host.Outcome State Fault Refusal :=
  done (if s.sec.vendor.isSome then s.endVendorRole else s)

/-- NONCE_EXPIRY (R475): 300 s after its GET_NONCE. -/
def execNonceExpiry (s : State) : Host.Outcome State Fault Refusal := done { s with sec := { s.sec with nonce := none } }

end Sys2Proof.Machine
end

