-- ==== Sys2Proof/Machine/Bundle.lean ====
section
/-! DEFINITION. Sealed bundles (R481 to R491): their form and checks, the apply phase, its completion, unloading and the overlay apply; the
debug window (R493); private JTAG instructions (R494). -/

namespace Sys2Proof.Machine
open Sys2Proof Reg

/-! ### The form of a bundle -/

/-- Fields of the header (R481). -/
def bunFlags (b : List Byte) : Nat := leAt b 6 2
def bunSlot (b : List Byte) : Nat := leAt b 8 1
def bunCounter (b : List Byte) : Nat := leAt b 9 1
def bunTemplate (b : List Byte) : Nat := leAt b 0xA 1
def bunVersion (b : List Byte) : Nat := leAt b 0xC 4
def bunWraps (b : List Byte) : Nat := leAt b 0x14 2
def bunSects (b : List Byte) : Nat := leAt b 0x16 2

/-- Where wrap entry `j` begins, and section-table entry `i` (R482, R483). -/
def wrapAt (j : Nat) : Nat := 0x200 + 160 * j
def sectAt (b : List Byte) (i : Nat) : Nat := wrapAt (bunWraps b) + 48 * i

def sectType (b : List Byte) (i : Nat) : Nat := leAt b (sectAt b i) 4
def sectOff (b : List Byte) (i : Nat) : Nat := leAt b (sectAt b i + 4) 4
def sectLen (b : List Byte) (i : Nat) : Nat := leAt b (sectAt b i + 8) 4

/-- What is wrong with the header, field by field with its offset (R481). -/
def headerBad (b : List Byte) : List (Bool × Nat) :=
  [(leAt b 0 4 != 0x444E424B, 0), (leAt b 4 2 != 1, 4), (decide (7 < bunFlags b), 6), (decide (7 < bunSlot b), 8),
   (decide (63 < bunCounter b), 9), (decide (15 < bunTemplate b), 0xA), (!zeroAt b 0xB 1, 0xB),
   (leAt b 0x10 4 != b.length, 0x10), (bunWraps b == 0 || decide (256 < bunWraps b), 0x14),
   (bunSects b == 0 || decide (7 < bunSects b), 0x16), (!zeroAt b 0x18 8, 0x18), (!zeroAt b 0x50 432, 0x50),
   (decide (b.length < sectAt b (bunSects b) + 96), 0x14)]

/-- What is wrong with a wrap entry. -/
def wrapBad (b : List Byte) (j : Nat) : Bool × Nat := (!zeroAt b (wrapAt j + 113) 7, wrapAt j + 113)

/-- What is wrong with a section-table entry (R483): a type that is unknown or repeated, a payload outside the encrypted part, or reserved
bytes. -/
def sectBad (b : List Byte) (i : Nat) : List (Bool × Nat) :=
  let a := sectAt b i
  [(sectType b i == 0 || decide (7 < sectType b i) || (List.range i).any fun j => sectType b j == sectType b i, a),
   (decide (sectOff b i < sectAt b (bunSects b)) || decide (b.length - 96 < sectOff b i + sectLen b i), a + 4),
   (!zeroAt b (a + 0x28) 8, a + 0x28)]

/-- The offset of the first thing that is wrong in a list. -/
def firstBad (l : List (Bool × Nat)) : Option Nat := (l.find? fun x => x.1).map (·.2)

/-- The format check (R485, FORMAT): none where it passes; else the byte offset, where the spec says which byte. -/
def formatBad (b : List Byte) : Option (Option Nat) :=
  if b.length < 512 then some none
  else
    match firstBad (headerBad b) with
    | some o => some (some o)
    | none =>
      match firstBad (((List.range (bunWraps b)).map (wrapBad b)) ++ (List.range (bunSects b)).flatMap (sectBad b)) with
      | some o => some (some o)
      | none =>
        let has : Nat → Bool := fun t => (List.range (bunSects b)).any fun i => sectType b i == t
        if has 1 && has 2 then none else some none

/-- The wrap entry of this device. -/
def ownWrap (b : List Byte) : Option Nat := (List.range (bunWraps b)).find? fun j => subBytes b (wrapAt j) 16 == devidBytes

/-- CK, unwrapped from a wrap entry (R482). -/
def contentKey (b : List Byte) (j : Nat) : Option (List Byte) :=
  Config.unwrapContent (subBytes b 0x20 48) (subBytes b (wrapAt j + 16) 97) (subBytes b (wrapAt j + 120) 40)

/-! ### The checks -/

/-- The channel that a bundle's template shares with a site of another PSQ: the lowest (R485, CONFLICT). -/
def State.placeConflict (s : State) (n : Nat) (t : Template) : Option Nat :=
  ((t.places.flatMap (·.1)).filter fun k => (s.pinPsq k).any fun m => m != n).min?

/-- The conflict check: DETAIL where it fails. -/
def State.conflictBad (s : State) (n t : Nat) : Option Nat :=
  match s.template t with
  | none => some t
  | some tm =>
    if (s.sitesOf n).any fun i => s.fld .site i SITE_BIND_TEMPLATE != t then some t else s.placeConflict n tm

/-- Checks 7 to 12 of a bundle whose format is right: RESULT and DETAIL of the first that fails (R485). -/
def State.bundleBad (s : State) (n : Nat) (b : List Byte) : Option (Nat × Nat) :=
  match s.ownerKey (bunSlot b) with
  | none => some (7, bunSlot b)
  | some k =>
    if !bitAt k.perms 0 then some (7, bunSlot b)
    else if !Config.verify k.key (b.take (b.length - 96)) (b.drop (b.length - 96)) then some (8, 0)
    else if bunCounter b / 8 ≠ bunSlot b ∨ bunVersion b < s.fldAt .secCnt 0 SEC_ARB (bunCounter b) then some (9, bunCounter b)
    else
      match ownWrap b with
      | none => some (10, 0)
      | some j =>
        if (contentKey b j).isNone then some (11, j) else (s.conflictBad n (bunTemplate b)).map fun d => (12, d)

/-- A load, unload or apply is in progress, or the PSQ is running, or one of its sites awaits its record (R485, BUSY). -/
def State.bundleBusy (s : State) (n : Nat) : Bool :=
  s.sec.job.isSome || s.psqRunning n || !(s.psq n).awaiting.isEmpty

/-- Whether bundles are loaded in the present state (R485, STATE). -/
def State.bundleState (s : State) : Bool :=
  (decide (s.dev = .ready) || decide (s.dev = .armed) || decide (s.dev = .run)) && s.flag .secCtl 0 SEC_STAT_ID_VALID

/-- Bytes of an object as the SEC reads them: what cannot be read is a free value. -/
def State.bundleBytes (s : State) (o : VsObj) (off len : Nat) : List Byte :=
  (List.range len).map fun i =>
    let a := o.phys (off + i)
    if s.vsPoison (a / 8) || (s.chFailed (vsChannel a) && s.vsWritten (a / 4096)) then BitVec.ofNat 8 (Config.freeNat (s.free + i))
    else s.vsByte a

/-! ### Responses -/

/-- SEC_LOAD_RESP. -/
def State.secLoadResp (s : State) (result detail : Nat) : State :=
  (s.put .secLoad 0 SEC_LOAD_RESP_RESULT result).put .secLoad 0 SEC_LOAD_RESP_DETAIL detail

/-- A load, unload or apply is refused (R485, R497). -/
def State.secRefused (s : State) (result detail : Nat) : State :=
  let s := ((s.secLoadResp result detail).int .secLoad 0 1).raiseOpen .secLoad 0 1 1
  if result = 9 then s.raiseOpen .secLoad 0 2 2 else if result = 13 then s.raiseOpen .secLoad 0 3 3 else s

/-- The SEC works on no bundle. -/
def State.secIdle (s : State) : State :=
  let s := { s with sec := { s.sec with job := none } }
  s.put .secLoad 0 SECL_STAT_LOADING 0

/-- A refusal after the apply phase has begun: everything written for the bundle is discarded (R485, R489). -/
def State.applyRefused (s : State) (n result detail : Nat) : State := ((s.leaveSealed n).secIdle).secRefused result detail

/-- The load in progress is aborted (R485, ABORTED). -/
def State.secAbort (s : State) : State :=
  match s.sec.job with
  | some j => s.applyRefused j.psq 18 0
  | none => s

/-! ### The apply phase -/

/-- How applying a part of a bundle ends: none, or RESULT and DETAIL. -/
abbrev Applied := State × Option (Nat × Nat)

/-- The bundle a PSQ holds, changed. -/
def State.setBundle (s : State) (n : Nat) (f : Bundle → Bundle) : State :=
  s.setPsq n { s.psq n with bundle := (s.psq n).bundle.map f }

/-- Pairs of words. -/
def pairWords : List Word → Option (List (Word × Word))
  | [] => some []
  | [_] => none
  | a :: b :: r => (pairWords r).map fun l => (a, b) :: l

/-- A register list is written in order (R484): an entry outside the set that `ok` gives ends the load with CONTENT of its section. -/
def applyList (ok : Nat → Bool) (write : State → Nat → Word → State) (sect bits : Nat) :
    State → List (Word × Word) → Applied
  | s, [] => (s, none)
  | s, e :: r =>
    let o := e.1.toNat % 2 ^ bits
    if o % 4 == 0 && ok o then applyList ok write sect bits (write s o e.2) r else (s, some (14, sect))

/-- The words of a section's plaintext; none where its bytes are no whole number of words. -/
def sectionWords (p : List Byte) : Option (List Word) := if p.length % 4 = 0 then some (wordsFrom (p.length / 4) p) else none

/-- A register list as a section's whole plaintext. -/
def State.applyListSection (s : State) (ok : Nat → Bool) (write : State → Nat → Word → State) (sect : Nat) (p : List Byte) : Applied :=
  match (sectionWords p).bind pairWords with
  | some l => applyList ok write sect 12 s l
  | none => (s, some (14, sect))

/-- A register of the PSQ page: a program register or a period. -/
def psqListWrite (n : Nat) (s : State) (o : Nat) (v : Word) : State :=
  if o < 0x800 then s.putProg n o v
  else
    let t := (o - 0x800) / 4
    (s.putAt .psq n PSQ_PERIOD_V t (bitsOf v 31 31)).putAt .psq n PSQ_PERIOD_PERIOD_M1 t (bitsOf v 15 0)

/-- A register of the APG page, its cursor windows among them. -/
def apgListWrite (n : Nat) (s : State) (o : Nat) (v : Word) : State :=
  if o = 0xE4 then s.scrAccess n (some v)
  else if o = 0xEC then s.topoAccess n (some v)
  else if o = 0xE0 ∨ o = 0xE8 then s.storeFields .apg n o v fun _ => true
  else apgRegisterWrite n o v s

/-- A register of the FRE page. -/
def freListWrite (n : Nat) (s : State) (o : Nat) (v : Word) : State := s.storeFields .fre n o v fun _ => true

/-- A register that CHAN writes on a channel: of its PEC page, or a level of its lane (R483). -/
def chanListWrite (k : Nat) (s : State) (o : Nat) (v : Word) : State :=
  let s := s.touchShadow (k / 32)
  if 0x1000 ≤ o then s.levelStore k ((o - 0x1000) / 4) (bitsOf v 19 0)
  else if 0x500 ≤ o ∧ o < 0x700 then
    let (t, w) := s.edgeAt k o
    s.setEdgeWord k t w (edgeMask w v)
  else
    let s := s.storeFields .pec k o v fun _ => true
    if o = 0x48 then s.clampWritten k else s

/-- The offsets that CHAN may write (R483). -/
def chanOk (o : Nat) : Bool :=
  o == 0x40 || o == 0x44 || o == 0x48 || o == 0x400 || within 0x500 0x6FC o || within 0x800 0x9FC o || within 0x1000 0x1014 o

/-- A channel takes the settings of its site pin and is sealed (R488). -/
def State.applyChannel (s : State) (n sect : Nat) (l : List (Word × Word)) (k : Nat) : Applied :=
  let r := applyList chanOk (chanListWrite k) sect 13 s l
  let s := (r.1.put .pec k PEC_STAT_SEALED 1).setPin k
    { r.1.pin k with sealedBy := (r.1.psq n).bundle.map fun b => (b.slot, b.debug, n) }
  (s.put .lde (k / 32) LDE_SEALED (s.fld .lde (k / 32) LDE_SEALED ||| 2 ^ (k % 32)), r.2)

/-- Every channel of a list takes the settings of one pin. -/
def State.applyChannels (s : State) (n sect : Nat) (l : List (Word × Word)) : List Nat → Applied
  | [] => (s, none)
  | k :: r =>
    match s.applyChannel n sect l k with
    | (s, none) => s.applyChannels n sect l r
    | e => e

/-- The pin records of CHAN; `fuel` is at least their number. -/
def State.applyChan (s : State) (n sect : Nat) (t : Template) (ws : List Word) : Nat → Applied
  | 0 => (s, none)
  | fuel + 1 =>
    match ws with
    | [] => (s, none)
    | h :: r =>
      let pin := bitsOf h 6 0
      let len := 2 * bitsOf h 31 16
      match pairWords (r.take len) with
      | some l =>
        if t.pins ≤ pin ∨ r.length < len then (s, some (14, sect))
        else
          let ks := (t.places.filterMap fun p => p.1[pin]?).filter fun k => !((s.pinPsq k).any fun m => m != n)
          match s.applyChannels n sect l ks with
          | (s, none) => s.applyChan n sect t (r.drop len) fuel
          | e => e
      | none => (s, some (14, sect))

/-- The runs of PAGES, as pages in run order: page number, PIN, and its bytes (R483); `fuel` is at least the number of runs. -/
def pageRuns (p : List Byte) : Nat → Option (List (Nat × Bool × List Byte))
  | 0 => if p.isEmpty then some [] else none
  | fuel + 1 =>
    if p.isEmpty then some []
    else
      let w := leAt p 0 4
      let k := leAt p 4 4
      if p.length < 8 + 65536 * k then none
      else
        (pageRuns (p.drop (8 + 65536 * k)) fuel).map fun l =>
          ((List.range k).map fun i => (w % 2 ^ 24 + i, bitAt w 31, subBytes p (8 + 65536 * i) 65536)) ++ l

/-- One page of the sealed object: written, mapped, and pinned where PIN says so (R486). -/
def State.applyPage (s : State) (n : Nat) (o : VsObj) (j : Nat) (x : Nat × Bool × List Byte) : State :=
  let s := s.objWrite o (65536 * j) x.2.2
  let s := s.setPte x.1 ⟨true, false, true, true, false, o.granules.getD j 0, 0⟩
  s.setBundle n fun b => { b with pages := b.pages ++ [x.1], pins := if x.2.1 then b.pins ++ [x.1] else b.pins }

/-- PAGES: one SEALED object holds every run (R486). A run that overlaps a mapped page, or another run, ends the load. -/
def State.applyPages (s : State) (n sect : Nat) (p : List Byte) : Applied :=
  match pageRuns p p.length with
  | none => (s, some (14, sect))
  | some l =>
    let vpns := l.map (·.1)
    if vpns.any (fun v => (s.pteAt v).v || decide (2 ^ 24 ≤ v)) || vpns.eraseDups.length != vpns.length then (s, some (14, sect))
    else
      match s.allocObject .sealedObj l.length with
      | (s, .inr _) => (s, some (15, 0))
      | (s, .inl h) =>
        let s := s.setBundle n fun b => { b with handle := h }
        match s.objAt h with
        | some o => (l.zipIdx.foldl (fun s x => s.applyPage n o x.2 x.1) s, none)
        | none => (s, some (15, 0))

/-- UCODE goes through the checks of an MCE load from source 0 (R249, R486); an image of another key slot is no content of this bundle. -/
def State.applyUcode (s : State) (n sect slot : Nat) (p : List Byte) : Applied :=
  let h := userShape
  let ws := wordsFrom h.total p
  if p.length ≠ 4 * h.total ∨ bitsOf (ws.getD 1 0) 2 0 ≠ slot then (s, some (14, sect))
  else
    let r := s.imageResult h ws
    if r.1 = 1 then ((s.putImage n h ws).mceResp n 1 0, none)
    else (s.mceResp n r.1 r.2, some (16, r.1))

/-- The records of OVL: placement, and 4,096 bytes; none where one names no placement or bytes are left over. -/
def ovlRecords (places : Nat) (p : List Byte) : Nat → Option (List (Nat × List Byte))
  | 0 => if p.isEmpty then some [] else none
  | fuel + 1 =>
    if p.isEmpty then some []
    else if p.length < 4100 ∨ places ≤ leAt p 0 4 then none
    else (ovlRecords places (p.drop 4100) fuel).map fun l => (leAt p 0 4, subBytes p 4 4096) :: l

/-- A section's plaintext is written where its type says (R483, R484). -/
def State.applyPlain (s : State) (n sect type slot : Nat) (t : Template) (p : List Byte) : Applied :=
  match type with
  | 1 => s.applyPages n sect p
  | 2 => s.applyListSection (fun o => within 0x40 0x58 o || within 0x800 0xBFC o) (psqListWrite n) sect p
  | 3 => s.applyUcode n sect slot p
  | 4 => s.applyListSection (fun o => within 0x40 0xEC o || within 0x800 0xFFC o) (apgListWrite n) sect p
  | 5 =>
    match sectionWords p with
    | some ws => s.applyChan n sect t ws ws.length
    | none => (s, some (14, sect))
  | 6 =>
    s.applyListSection (fun o => within 0x40 0x48 o || within 0x68 0x70 o || within 0x100 0x17C o || within 0x400 0x7FC o)
      (freListWrite n) sect p
  | _ =>
    match ovlRecords t.places.length p p.length with
    | some l => (s.setBundle n fun b => { b with ovl := l }, none)
    | none => (s, some (14, sect))

/-- Section `i` is opened with CK and applied (R483). -/
def State.applySection (s : State) (n : Nat) (b ck : List Byte) (t : Template) (i : Nat) : Applied :=
  let a := sectAt b i
  match Config.gcmOpen ck (subBytes b (a + 0xC) 12) (b.take 512 ++ subBytes b a 4) (subBytes b (sectOff b i) (sectLen b i))
      (subBytes b (a + 0x18) 16) with
  | none => (s, some (13, i))
  | some p => s.applyPlain n i (sectType b i) (bunSlot b) t p

/-- The sections of a list, in order. -/
def State.applySections (s : State) (n : Nat) (b ck : List Byte) (t : Template) : List Nat → Applied
  | [] => (s, none)
  | i :: r =>
    match s.applySection n b ck t i with
    | (s, none) => s.applySections n b ck t r
    | e => e

/-- A bundle as its header gives it, before its sections are applied. -/
def bundleOf (b : List Byte) : Bundle where
  digest := Config.sha384 b
  slot := bunSlot b
  debug := bitAt (bunFlags b) 2
  enc := bitAt (bunFlags b) 1
  counter := bunCounter b
  template := bunTemplate b
  version := bunVersion b
  handle := 0
  pages := []
  pins := []
  ovl := []

/-- The apply phase (R486): the present program ends, the sections are written, ENC and ENC_SLOT are set, and the PSQ's LOAD begins. -/
def State.applyBundle (s : State) (n : Nat) (b ck : List Byte) (t : Template) : State :=
  let s := s.endProgram n
  let bun := bundleOf b
  let s := s.setPsq n { s.psq n with bundle := some bun }
  match s.applySections n b ck t (List.range (bunSects b)) with
  | (s, some (r, d)) => s.applyRefused n r d
  | (s, none) =>
    let s := (s.put .fre n FRE_CFG_ENC (bit bun.enc)).put .fre n FRE_CFG_ENC_SLOT bun.slot
    let s := { s with sec := { s.sec with job := some ⟨n, bun, bitAt (bunFlags b) 0⟩ } }
    ((s.put .secLoad 0 SECL_STAT_LOADING 1).put .secLoad 0 SECL_STAT_LOAD_PSQ n).loadPsq n

/-- A bundle that is there is checked and applied (R485, R486). -/
def State.takeBundle (s : State) (n : Nat) (o : VsObj) (off len : Nat) : State :=
  let b := s.bundleBytes o off len
  let s := { s with free := s.free + len }
  match formatBad b with
  | some d => (s.secRefused 6 (d.getD s.freeVal)).drawn
  | none =>
    match s.bundleBad n b, s.template (bunTemplate b), (ownWrap b).bind (contentKey b) with
    | some (r, d), _, _ => s.secRefused r d
    | none, some t, some ck => s.applyBundle n b ck t
    | none, _, _ => s

/-- BUNDLE_LOAD (R485). -/
def bundleLoad (n : Nat) (s : State) : State :=
  let s := s.put .secLoad 0 SEC_LOAD_CTRL_PSQ n
  let off := s.fld .secLoad 0 SEC_LOAD_OFF / 64 * 64
  let len := s.fld .secLoad 0 SEC_LOAD_LEN
  if s.bundleBusy n then s.secRefused 2 0
  else if !s.bundleState then s.secRefused 3 0
  else if s.flag .secCtl 0 SEC_STAT_JTAG_DBG then s.secRefused 4 0
  else
    match s.plainRange (BitVec.ofNat 32 (s.fld .secLoad 0 SEC_LOAD_HANDLE)) off len with
    | none => s.secRefused 5 0
    | some o => s.takeBundle n o off len

def execBundleLoad (n : Fin 8) (s : State) : Host.Outcome State Fault Refusal :=
  done (s.asHostOn .secLoad 0 (bundleLoad n.val))

/-- The anti-rollback counter takes the bundle's version, where ADVANCE asks for it and it is higher (R487). -/
def State.advanceCounter (s : State) (j : SecJob) (nvmOk : Bool) : State :=
  if j.advance && decide (s.fldAt .secCnt 0 SEC_ARB j.bundle.counter < j.bundle.version) then
    (if nvmOk then s.putAt .secCnt 0 SEC_ARB j.bundle.counter j.bundle.version else s.raiseOpen .secCtl 0 5 3)
  else s

/-- BUNDLE_APPLY_DONE (R486, R487): the PSQ's LOAD has ended; `nvmOk` is how the counter's commit ends. -/
def bundleApplyDone (nvmOk : Bool) (s : State) : State :=
  match s.sec.job with
  | none => s
  | some j =>
    let n := j.psq
    if s.dev = .fault ∨ s.dev = .hold then s.applyRefused n 18 0
    else if (s.psq n).load.isSome then s
    else if (s.psq n).prog.isNone then s.applyRefused n 17 (s.fld .lft n LFT_RESID_RESULT)
    else
      let s := ((s.advanceCounter j nvmOk).setSealed n true).put .mce n MCE_STAT_SEALED 1
      let s := s.put .secLoad 0 SECL_STAT_SEALED_PSQ (s.fld .secLoad 0 SECL_STAT_SEALED_PSQ ||| 2 ^ n)
      (s.secIdle.secLoadResp 1 0).int .secLoad 0 0

def execBundleApplyDone (nvmOk : Bool) (s : State) : Host.Outcome State Fault Refusal := done (bundleApplyDone nvmOk s)

/-- UNLOAD (R489). -/
def secUnload (n : Nat) (s : State) : State :=
  let s := s.put .secLoad 0 SEC_LOAD_CTRL_PSQ n
  if s.bundleBusy n then s.secRefused 2 0
  else if !s.flag .psq n PSQ_STAT_SEALED then s.secRefused 21 0
  else ((s.leaveSealed n).secLoadResp 19 0).int .secLoad 0 2

def execUnload (n : Fin 8) (s : State) : Host.Outcome State Fault Refusal := done (s.asHostOn .secLoad 0 (secUnload n.val))

/-- The sites of a PSQ that stand on a placement. -/
def State.sitesAt (s : State) (n place : Nat) : List Nat :=
  (s.sitesOf n).filter fun i => s.fld .site i SITE_BIND_PLACEMENT == place

/-- An overlay record is copied into the region of a site, which is sealed (R283, R488). -/
def State.applyOverlay (s : State) (b : Bundle) (bytes : List Byte) (i : Nat) : State :=
  let s := (s.ovlWrite (4096 * i) bytes).put .site i SITE_STATE_OVL_SEALED 1
  s.setSite i { s.site i with ovlBy := some (b.slot, b.debug) }

/-- OVL_APPLY (R488). -/
def ovlApply (n : Nat) (s : State) : State :=
  let s := s.put .secLoad 0 SEC_LOAD_CTRL_PSQ n
  if s.sec.job.isSome || s.psqRunning n then s.secRefused 2 0
  else
    match (s.psq n).bundle with
    | none => s.secRefused 21 0
    | some b =>
      let todo := b.ovl.flatMap fun r => (s.sitesAt n r.1).map fun i => (r.2, i)
      let s := todo.foldl (fun s x => s.applyOverlay b x.1 x.2) s
      (s.secLoadResp 20 todo.length).int .secLoad 0 3

def execOvlApply (n : Fin 8) (s : State) : Host.Outcome State Fault Refusal := done (s.asHostOn .secLoad 0 (ovlApply n.val))

/-! ### The debug window and JTAG -/

/-- The slot and DEBUG_ALLOW of the bundle whose SEALED object a handle names. -/
def State.sealOrigin (s : State) (h : Word) : Option (Nat × Bool) :=
  (List.range 8).findSome? fun n =>
    match (s.psq n).bundle with
    | some b => if b.handle = h then some (b.slot, b.debug) else none
    | none => none

/-- A word of a SEALED object in the debug window: what the spec does not say lies beyond the object is a free value (R493). -/
def State.debugWord (s : State) (o : VsObj) (x : Nat) : State :=
  if o.size < x + 4 then (s.answer s.freeWord).drawn
  else if s.objUnwritten o x 4 then (s.put .secDbg 0 SEC_DBG_UNWRITTEN 1).answer 0
  else if s.objBad o x 4 then (s.put .secDbg 0 SEC_DBG_UE 1).answer 0
  else s.answer (BitVec.ofNat 32 (leNat (s.objRead o x 4)))

/-- DEBUG_WINDOW_READ (R492, R493) of the window's word at a page offset. -/
def debugWindowRead (off : Nat) (s : State) : State :=
  if !s.role.meets (rdMin .secDbg) then (s.denied (baseOf .secDbg 0)).answer 0
  else
    let h := BitVec.ofNat 32 (s.fld .secDbg 0 SEC_DBG_HANDLE)
    match s.objAt h with
    | some o =>
      if o.kind = .sealedObj ∧ s.opens s.role (s.sealOrigin h) then
        s.debugWord o (s.fld .secDbg 0 SEC_DBG_OFF / 2048 * 2048 + off % 2048 / 4 * 4)
      else ((s.put .secDbg 0 SEC_DBG_DENIED 1).denied (baseOf .secDbg 0)).answer 0
    | none => ((s.put .secDbg 0 SEC_DBG_DENIED 1).denied (baseOf .secDbg 0)).answer 0

def execDebugWindowRead (off : Nat) (s : State) : Host.Outcome State Fault Refusal :=
  done (if s.live then debugWindowRead off s else s.answer 0)

/-- JTAG_PRIVATE (R494): denied unless JTAG_DBG is 1. -/
def jtagPrivate (s : State) : State :=
  if s.flag .secCtl 0 SEC_STAT_JTAG_DBG || !s.flag .secCtl 0 SEC_STAT_PROD_LOCK || !s.powered then s
  else (s.int .secCtl 0 2).raiseOpen .secCtl 0 4 1

def execJtagPrivate (s : State) : Host.Outcome State Fault Refusal := done (jtagPrivate s)

end Sys2Proof.Machine
end

