-- ==== Sys2Proof/Machine/Plk.lean ====
section
/-! DEFINITION. Pairs Mode (chapter 16): forming a couple (R498 to R501), flits (R502 to R504), the mirror (R505 to R509), the feed as served
and received (R510 to R516), and generations with the entry to HOLD and its end (R517 to R519). -/

namespace Sys2Proof.Machine
open Sys2Proof Reg

/-! ### The link going down -/

def State.lstate (s : State) : Nat := s.fld .plk 0 PLK_STAT_LSTATE
def State.setLstate (s : State) (v : Nat) : State := s.put .plk 0 PLK_STAT_LSTATE v

/-- Whether the link is trained: IDENT, AUTH or PAIRED. -/
def State.linkTrainedNow (s : State) : Bool := decide (2 ≤ s.lstate) && decide (s.lstate ≤ 4)

/-- Every outstanding feed request of a PSQ completes as a feed error (R516). -/
def State.feedErrors (s : State) (n : Nat) : State :=
  if s.fedByLink n then (s.psq n).asked.foldl (fun s b => s.putLine n b ⟨.bad, []⟩) s else s

/-- The link goes down (R504, R516): LINK_DOWN at Error while the feed is taken or served, FEED_LOST where it is taken. -/
def State.plkDown (s : State) : State :=
  if !s.linkTrainedNow then s
  else
    let feeding := s.flag .plk 0 PLK_STAT_FEEDING
    let serving := s.flag .plk 0 PLK_STAT_SERVING
    let s := ((s.setLstate 5).int .plk 0 1).raiseOpen .plk 0 2 (if feeding || serving then 3 else 2)
    let s := if feeding then (List.range 8).foldl State.feedErrors (s.raiseOpen .plk 0 4 3) else s
    let s := (s.put .plk 0 PLK_STAT_FEEDING 0).put .plk 0 PLK_STAT_SERVING 0
    { s with plk := { s.plk with unacked := [], replays := none, discarding := false, partnerN := none } }

/-- The PLK domain turns off (R499). -/
def State.plkOff (s : State) : State := (((s.plkDown).setLstate 0).put .plk 0 PLK_CFG_EN 0).setDomain 10 false

/-- Pairing is refused for a reason (R500). -/
def State.pairRefused (s : State) (reason : Nat) : State :=
  (((s.setLstate 6).put .plk 0 PLK_REFUSE_REASON reason).int .plk 0 2).raiseOpen .plk 0 1 2

/-- Training begins. -/
def State.startTraining (s : State) : State := (s.setLstate 1).put .plk 0 PLK_REFUSE_REASON 0

/-! ### Forming a couple -/

/-- A write of PLK_CFG.EN by the host or the Steward (R499): powering the domain is a charge-changing write. -/
def State.plkEnWrite (s : State) (src : Src) (on : Bool) : State :=
  if !on then (if s.flag .plk 0 PLK_CFG_EN then s.plkOff else s)
  else if s.fld .plk 0 PLK_CFG_ROLE = 0 ∨ s.flag .plk 0 PLK_CFG_EN then s
  else
    match s.evaluate src false (s.charged + 1200) with
    | (s, .admitted) => ((s.put .plk 0 PLK_CFG_EN 1).setDomain 10 true).startTraining
    | (s, .dryRun) => s
    | (s, _) => (s.put .plk 0 PLK_REFUSE_REASON 1).raiseOpen .plk 0 1 2

/-- PLK_EN (R499). -/
def execPlkEn (on : Bool) (s : State) : Host.Outcome State Fault Refusal :=
  done (s.asHostOn .plk 0 fun s => s.plkEnWrite .host on)

/-- A write of PLK_CFG.ROLE (R498): 3 leaves it; while it is OFF, EN is 0 (R499). -/
def State.roleWrite (s : State) (value : Nat) : State :=
  if value = 3 ∨ !(s.lstate == 0 || s.lstate == 5 || s.lstate == 6) then s
  else
    let s := s.put .plk 0 PLK_CFG_ROLE value
    if value = 0 ∧ s.flag .plk 0 PLK_CFG_EN then s.plkOff else s

/-- ROLE (R498). -/
def execPlkRole (value : Fin 4) (s : State) : Host.Outcome State Fault Refusal :=
  done (s.asHostOn .plk 0 fun s => s.roleWrite value.val)

/-- LINK_TRAINED (R500): both directions train, or not within 20 ms. -/
def linkTrainEnd (ok : Bool) (s : State) : State :=
  if s.lstate ≠ 1 then s
  else if !ok then s.pairRefused 2
  else
    let s := (s.setLstate 2).drawn
    { s with plk := { s.plk with txSeq := s.freeVal % 4096, rxSeq := none, unacked := [], replays := none, discarding := false } }

def execLinkTrained (ok : Bool) (s : State) : Host.Outcome State Fault Refusal := done (linkTrainEnd ok s)

/-- The reason for which IDENT refuses a partner (R500, in the order of its table). -/
def State.identRefuses (s : State) (p : PartnerIdent) : Option Nat :=
  if p.role.val = s.fld .plk 0 PLK_CFG_ROLE then some 3
  else if p.part ≠ s.rd (fldOff .hifId 0 HIF_PART 0) then some 4
  else if p.fwVersion ≠ s.mbx.fwVersion ∨ p.fwSvn.toNat ≠ s.fld .secCnt 0 SEC_FW_SVN then some 5
  else if p.devid = Config.deviceId then some 6
  else none

/-- DEVID as four register words. -/
def devidWords (d : BitVec 128) : List Word := (List.range 4).map fun j => d.extractLsb' (32 * j) 32

/-- IDENT_DONE (R500); no identity is a malformed or out-of-order message, PROTO. -/
def identDone (ident : Option PartnerIdent) (s : State) : State :=
  if s.lstate ≠ 2 then s
  else
    match ident with
    | none => s.pairRefused 8
    | some p =>
      let s := s.putWords .plk 0 PLK_DEVID (devidWords p.devid)
      match s.identRefuses p with
      | some r => s.pairRefused r
      | none => s.setLstate 3

def execIdentDone (ident : Option PartnerIdent) (s : State) : Host.Outcome State Fault Refusal := done (identDone ident s)

/-! ### Generations -/

/-- A running PSQ is asked to stop at the entry to HOLD, and its burst is tainted (R210, R223). -/
def State.holdPsq (s : State) (n : Nat) : State := if s.psqRunning n then (s.requestStop n 4 0).taintAll n 6 else s

/-- A stale device enters HOLD from READY, ARMED or RUN (R35, R78, R518); a bundle load is aborted (R485), calibration abandoned. -/
def State.enterHold (s : State) : State :=
  let s := (s.int .plk 0 4).raiseOpen .plk 0 5 2
  if s.dev = .ready ∨ s.dev = .armed ∨ s.dev = .run then
    let s := (List.range 8).foldl State.holdPsq { s with dev := .hold, cause := 2, causeType := 0x000D }
    s.calAbandonAll.secAbort
  else s

def State.gen (s : State) : Nat := s.fld .plk 0 PLK_GEN

/-- GEN differs from a valid expected value (R518). -/
def State.staleHost (s : State) : Bool := s.flag .plk 0 PLK_EXPECT_VALID && s.gen != s.fld .plk 0 PLK_EXPECT_VALUE

/-- GEN is below the partner's, on a PAIRED link (R518). -/
def State.stalePartner (s : State) : Bool := s.paired && decide (s.gen < s.fld .plk 0 PLK_PARTNER_GEN)

def State.plkResp (s : State) (v : Nat) : State := s.put .plk 0 PLK_RESP_RESULT v

/-- CHECK (R518). -/
def plkCheck (s : State) : State :=
  if s.staleHost then (s.plkResp 2).enterHold
  else if s.stalePartner then (s.plkResp 3).enterHold
  else s.plkResp 1

def execCheck (s : State) : Host.Outcome State Fault Refusal := done (s.asHostOn .plk 0 plkCheck)

/-- REFRESH (R519). -/
def plkRefresh (s : State) : State :=
  if s.dev ≠ .hold then s.plkResp 7
  else if s.staleHost then s.plkResp 5
  else if s.stalePartner then s.plkResp 6
  else ({ s.plkResp 4 with dev := .ready }).settle.int .plk 0 5

def execRefresh (s : State) : Host.Outcome State Fault Refusal := done (s.asHostOn .plk 0 plkRefresh)

/-- Whether a partner's chain reaches the fused root and its signature verifies (R500 CERT, R501). -/
def partnerProves (a : PartnerAuth) : Bool :=
  match Config.chainKey a.chain with
  | some k => Config.verify k a.transcript a.signature
  | none => false

/-- The link becomes PAIRED (R500, R501): flit counts begin with the key; the generation is checked against the partner's (R518); the feed
engages where it is needed (R510). -/
def State.becomePaired (s : State) (a : PartnerAuth) : State :=
  let s := ((s.setLstate 4).int .plk 0 0).put .plk 0 PLK_PARTNER_GEN a.gen.toNat
  let s := { s with plk := { s.plk with
    feedEn := s.flag .plk 0 PLK_CFG_FEED_EN && a.feedEn, partnerN := a.epochN, txCount := 0, rxCount := 0 } }
  let s := if s.stalePartner then (s.plkResp 3).enterHold else s.plkResp 1
  s.engage

/-- AUTH_DONE (R501); no answer is a malformed or out-of-order message. -/
def authDone (auth : Option PartnerAuth) (s : State) : State :=
  if s.lstate ≠ 3 then s
  else
    match auth with
    | none => s.pairRefused 8
    | some a => if partnerProves a then s.becomePaired a else s.pairRefused 7

def execAuthDone (auth : Option PartnerAuth) (s : State) : Host.Outcome State Fault Refusal := done (authDone auth s)

/-- RETRAIN (R500): REFUSED or DOWN is left for TRAINING. -/
def plkRetrain (s : State) : State :=
  if (s.lstate = 5 ∨ s.lstate = 6) ∧ s.flag .plk 0 PLK_CFG_EN then s.startTraining else s

def execRetrain (s : State) : Host.Outcome State Fault Refusal := done (s.asHostOn .plk 0 plkRetrain)

/-- LINK_DOWN_RETRY (R500): 10 ms after DOWN. -/
def execLinkDownRetry (s : State) : Host.Outcome State Fault Refusal :=
  done (if s.lstate = 5 then s.startTraining else s)

/-! ### Flits -/

/-- The flits still unacknowledged once the partner has acknowledged one. -/
def ackTo (ack : Nat) (l : List Nat) : List Nat := if l.contains ack then (l.dropWhile fun x => x != ack).drop 1 else l

/-- A flit is sent: the sender holds the last 32 (R503). -/
def State.sendFlit (s : State) : State :=
  let un := s.plk.unacked ++ [s.plk.txSeq]
  { s with plk := { s.plk with
    unacked := un.drop (un.length - 32), txSeq := (s.plk.txSeq + 1) % 4096, txCount := (s.plk.txCount + 1) % 2 ^ 64 } }

/-- A flit is received and good: acknowledged, and what it acknowledges is no longer held. -/
def State.goodFlit (s : State) (seq ack : Nat) (epochN : Option (Option Nat)) : State :=
  let p := s.plk
  { s with plk := { p with
    rxSeq := some ((seq + 1) % 4096), discarding := false, rxCount := (p.rxCount + 1) % 2 ^ 64, unacked := ackTo ack p.unacked
    replays := if p.unacked.contains ack then none else p.replays, partnerN := epochN.getD p.partnerN } }

/-- FLIT_RECEIVE (R503): a flit that fails its CRC or its tag is discarded, and so is every later one until the sender replays from it.
`epochN` is what a CTRL flit reports of the partner's epoch. -/
def flitReceive (seq ack : Nat) (crcOk tagOk : Bool) (epochN : Option (Option Nat)) (s : State) : State :=
  let due := s.plk.rxSeq.all fun x => x == seq
  if !s.linkTrainedNow then s
  else if !crcOk then { s with plk := { s.plk with discarding := true } }
  else if !tagOk then
    ({ s with plk := { s.plk with discarding := true } }).bump .plk 0 PLK_AUTHERR_COUNT PLK_AUTHERR_OVF
  else if due then s.goodFlit seq ack epochN
  else { s with plk := { s.plk with discarding := true } }

def execFlitReceive (type : FlitType) (seq ack : BitVec 12) (crcOk tagOk : Bool) (epochN : Option (Option Nat)) (s : State) :
    Host.Outcome State Fault Refusal :=
  done (flitReceive seq.toNat ack.toNat crcOk tagOk (if type = .ctrl then epochN else none) s)

/-- FLIT_REPLAY (R503, R504): the sender replays from an unacknowledged flit; the eighth time in succession takes the link down. -/
def flitReplay (seq : Nat) (s : State) : State :=
  if !s.linkTrainedNow || !s.plk.unacked.contains seq then s
  else
    let k := match s.plk.replays with
      | some (q, k) => if q = seq then k + 1 else 1
      | none => 1
    let s := s.bump .plk 0 PLK_RETRY_COUNT PLK_RETRY_OVF
    let s := { s with plk := { s.plk with replays := some (seq, k) } }
    if 8 ≤ k then s.plkDown else s

def execFlitReplay (seq : BitVec 12) (s : State) : Host.Outcome State Fault Refusal := done (flitReplay seq.toNat s)

/-- LINK_SILENCE (R504): no flit for 10 µs. -/
def execLinkSilence (s : State) : Host.Outcome State Fault Refusal := done s.plkDown

/-! ### The mirror -/

/-- Whether MIRROR messages are sent (R505). -/
def State.mirrorOn (s : State) : Bool := s.paired && s.epc.valid && s.plk.partnerN == some s.frameN

/-- Whether MIRROR messages are received: the link is PAIRED. -/
def State.mirrorItem (s : State) (key : Nat) : Option MirrorItem := mapGet (fun _ => none) s.plk.items key

/-- The largest number of frames that any item in use has waited, saturating (R506). -/
def State.ageMax (s : State) : Nat := min 65535 ((s.plk.items.filterMap fun e => e.2.map MirrorItem.wait).foldl max 0)

/-- A mirrored item takes its latest value; it had waited since the frame of its state. -/
def State.putItem (s : State) (key : Nat) (f : BitVec 48) (psq : Option Nat) (words : List Word) : State :=
  let it : MirrorItem := ⟨(s.epc.f - f).toNat, psq, words⟩
  let s := { s with plk := { s.plk with items := mapSet (fun _ => none) s.plk.items key (some it) } }
  s.put .plk 0 PLK_AGE_MAX s.ageMax

/-- A partner's event record goes to this device's recorder, marked PARTNER (R508): its TYPE, CLASS, levels and epoch are words 0, 1, 6 and
7 of a record (chapter 17). -/
def partnerEntry (w : List Word) : EvrIn :=
  ⟨pageBase .plk 0, wordBits w 0 15 0, wordBits w 1 15 0, wordBits w 1 31 24, wordBits w 0 23 21, wordBits w 1 23 21, true,
   wordBits w 0 16 16 == 1, BitVec.ofNat 48 (wordBits w 6 31 0 + 2 ^ 32 * wordBits w 7 15 0), wordBits w 7 31 16, w.getD 8 0,
   (w.drop 11).take 3⟩

/-- The feed assignment is made again where the capacity changes (R512). -/
def State.reassign (s : State) : State := if s.feedCap == s.fld .plk 0 PLK_FEED_CAP_CAP_MB then s else s.feedAssign

/-- A frame marker that completes a frame in which every item was sent (R506). -/
def State.mirrorFrame (s : State) (f : BitVec 48) (all : Bool) : State :=
  if all then (s.put .plk 0 PLK_MIRROR_LO (f.toNat % 2 ^ 32)).put .plk 0 PLK_MIRROR_HI (f.toNat / 2 ^ 32) else s

def State.setFrame (s : State) (fr : PartnerFrame) : State := { s with plk := { s.plk with frame := some fr } }

/-- A frame item: the partner's state, generation and failed channels. -/
def mirrorMarker (f : BitVec 48) (dev : Fin 8) (gen : Word) (chFail : BitVec 8) (admitted : Nat) (all : Bool) (words : List Word)
    (s : State) : State :=
  ((((s.putItem 0 f none words).setFrame ⟨f.toNat, dev.val, gen, chFail.toNat, admitted⟩).put .plk 0 PLK_PARTNER_GEN gen.toNat).mirrorFrame
    f all).reassign.engage

def State.setPartnerPsq (s : State) (n : Nat) (x : PartnerPsq) : State :=
  { s with plk := { s.plk with psqs := mapSet (fun _ => ⟨false, none, 0⟩) s.plk.psqs n x } }

/-- A MIRROR message is received (R505 to R508); the mirror is kept apart from the device's own state. -/
def mirrorReceive (msg : MirrorMsg) (s : State) : State :=
  match msg with
  | .marker f dev gen chFail admitted all words => mirrorMarker f dev gen chFail admitted all words s
  | .psq f n loaded bundle tag words => (s.putItem (256 + n.val) f (some n.val) words).setPartnerPsq n.val ⟨loaded, bundle, tag⟩
  | .site f i psq words => s.putItem (512 + i.val) f (psq.map (·.val)) words
  | .regs f i words => s.putItem (768 + i.val) f ((s.mirrorItem (512 + i.val)).bind (·.psq)) words
  | .record words => s.evrOffer (partnerEntry words)

/-- MIRROR (R507). -/
def execMirror (msg : MirrorMsg) (s : State) : Host.Outcome State Fault Refusal :=
  done (if s.paired then mirrorReceive msg s else s)

/-- The digest of the bundle an item belongs to, where the partner reports its PSQ as sealed (R509). -/
def State.itemSeal (s : State) (x : MirrorItem) : Option (BitVec 384) := x.psq.bind fun n => (s.partnerPsq n).bundle

/-- Whether a role meets R480 for a bundle with this digest loaded on this device (R509). -/
def State.opensDigest (s : State) (d : BitVec 384) : Bool :=
  (List.range 8).any fun n =>
    match (s.psq n).bundle with
    | some b => b.digest == d && s.opens s.role (some (b.slot, b.debug))
    | none => false

/-- PLK_MSEL_WRITE (R509): an item is selected, and a snapshot of it taken. -/
def mselWrite (value : Word) (s : State) : State :=
  let kind := bitsOf value 31 28
  let item := if kind < 4 then s.mirrorItem (256 * kind + bitsOf value 15 8) else none
  let s := ((s.put .plk 0 PLK_MSEL_KIND kind).put .plk 0 PLK_MSEL_INDEX (bitsOf value 15 8)).put .plk 0 PLK_MSEL_WORD (bitsOf value 5 0)
  let s := (s.put .plk 0 PLK_MSTAT_EMPTY (bit item.isNone)).put .plk 0 PLK_MSTAT_SEALED (bit (item.bind s.itemSeal).isSome)
  { s with plk := { s.plk with snap := some item } }

def execPlkMselWrite (value : Word) (s : State) : Host.Outcome State Fault Refusal := done (s.asHostOn .plk 0 (mselWrite value))

/-- A word of the selected item: a word that the item does not have is a free value. -/
def State.mirrorAnswer (s : State) (w : Nat) : Option MirrorItem → State
  | none => s.answer 0
  | some x =>
    if (s.itemSeal x).any fun d => !s.opensDigest d then (s.denied (pageBase .plk 0)).answer 0
    else
      match x.words[w]? with
      | some v => s.answer v
      | none => (s.answer s.freeWord).drawn

/-- PLK_MDATA_READ (R509): each read advances WORD. -/
def mdataRead (s : State) : State :=
  let w := s.fld .plk 0 PLK_MSEL_WORD
  let item := s.plk.snap.getD (s.mirrorItem (256 * s.fld .plk 0 PLK_MSEL_KIND + s.fld .plk 0 PLK_MSEL_INDEX))
  (s.mirrorAnswer w item).put .plk 0 PLK_MSEL_WORD (w + 1)

def execPlkMdataRead (s : State) : Host.Outcome State Fault Refusal := done (if s.live then mdataRead s else s.answer 0)

/-! ### The feed -/

/-- FEED_REQ (R511, R513): a block of a matched PSQ is read through this device's own page table. -/
def feedServe (n block : Nat) (hits : List EccHit) (s : State) : State :=
  if !s.flag .plk 0 PLK_STAT_SERVING then s
  else
    let answer : State → Option (List Byte) → State := fun s d => { s with plk := { s.plk with served := some d } }.sendFlit
    match s.feedMatch n, (s.pteAt (block / 1024)).failed, s.blockPhys block with
    | true, false, some a =>
      let r := s.readWords ((List.range 8).map fun i => a / 8 + i) hits
      answer r.1 (if r.2 then some (r.1.vsRead a 64) else none)
    | _, _, _ => answer s none

def execFeedReq (n : Fin 8) (block : Nat) (hits : List EccHit) (s : State) : Host.Outcome State Fault Refusal :=
  done (feedServe n.val block hits s).engage

/-- The line that a feed answer makes (R511, R513). -/
def feedLine : FeedGot → Line
  | .data bs => ⟨.good, (List.range 64).map fun i => bs.getD i 0⟩
  | .unwritten => ⟨.unwritten, []⟩
  | .error => ⟨.bad, []⟩

/-- FEED_DATA (R513): a block that a fed PSQ has asked for. -/
def feedData (n block : Nat) (got : FeedGot) (s : State) : State :=
  match (s.psq n).prog with
  | some p =>
    if s.flag .plk 0 PLK_STAT_FEEDING && s.fedByLink n && (s.psq n).asked.contains block then
      ((s.missServed n block).putLine n block (feedLine got)).trimCache n p
    else s
  | none => s

def execFeedData (n : Fin 8) (block : Nat) (got : FeedGot) (s : State) : Host.Outcome State Fault Refusal :=
  done (feedData n.val block got s)

/-- FEED_MB_WRITE (R512): the assignment is made again where the capacity changes. -/
def feedMbWrite (value : Nat) (s : State) : State :=
  (s.put .plk 0 PLK_CFG_FEED_MB (min value 28000)).reassign

def execFeedMbWrite (value : BitVec 15) (s : State) : Host.Outcome State Fault Refusal :=
  done (s.asHostOn .plk 0 (feedMbWrite value.toNat))

end Sys2Proof.Machine
end

