-- ==== Sys2Proof/Machine/Spm.lean ====
section
/-! DEFINITION. The serial master (chapter 17): page transfers (R522 to R526), and the flash window behind BAR4 (R527 to R530). -/

namespace Sys2Proof.Machine
open Sys2Proof Reg

/-! ### Buffer bytes and wire bits -/

/-- Byte `j` of a 128-word buffer (R523). -/
def State.bufByte (s : State) (f : Fld) (j : Nat) : Nat := s.fldAt .spm 0 f (j / 4) / 256 ^ (j % 4) % 256

/-- The buffer position of wire bit `i`: its byte, and its bit in the byte (R523). -/
def wireAt (framed : Bool) (size i : Nat) : Nat × Nat :=
  if framed then
    let b := size - 1 - i % size
    (i / size * (size / 8) + b / 8, b % 8)
  else (i / 8, 7 - i % 8)

/-- Wire bit `i` of the TX buffer. -/
def State.txBit (s : State) (j : SpmJob) (i : Nat) : Bool :=
  let p := wireAt j.framed j.wordBits i
  bitAt (s.bufByte SPM_TX p.1) p.2

/-- A received wire bit goes into the RX buffer. -/
def State.putRxBit (j : SpmJob) (s : State) (b : Bool × Nat) : State :=
  let p := wireAt j.framed j.wordBits b.2
  let w := s.rd (fldOff .spm 0 SPM_RX (p.1 / 4))
  let k := 8 * (p.1 % 4) + p.2
  s.wr (fldOff .spm 0 SPM_RX (p.1 / 4)) (putBits w k k (bit b.1))

/-! ### Page transfers -/

def State.setSpm (s : State) (x : SpmSt) : State := { s with spm := x }

/-- The RESULT of a GO that is refused, in the order of R524's table. -/
def State.goRefused (s : State) : Option Nat :=
  if s.spm.job.isSome then some 2
  else if s.flag .spm 0 SPM_CFG_FRAMED ∧ s.fld .spm 0 SPM_LEN % (8 * 2 ^ s.fld .spm 0 SPM_CFG_WSIZE) ≠ 0 then some 3
  else if s.fld .spm 0 SPM_CFG_CS = 0 ∧ !s.role.meets 2 then some 6
  else if s.fld .spm 0 SPM_CFG_CS = 0 ∧ !s.spm.ops.isEmpty then some 7
  else none

/-- The transfer that GO starts, from the registers as it finds them. -/
def State.spmJob (s : State) : SpmJob :=
  ⟨s.fld .spm 0 SPM_LEN, s.flag .spm 0 SPM_CFG_FRAMED, 8 * 2 ^ s.fld .spm 0 SPM_CFG_WSIZE, s.flag .spm 0 SPM_CFG_STATUS_FIRST,
   s.fld .spm 0 SPM_RETRY_LIMIT, 0⟩

/-- SPM_GO (R524). -/
def spmGo (s : State) : State :=
  match s.goRefused with
  | none => (s.setSpm { s.spm with job := some s.spmJob }).put .spm 0 SPM_STAT_BUSY 1
  | some 2 => s.put .spm 0 SPM_RESP_RESULT 2
  | some r =>
    let s := (s.put .spm 0 SPM_RESP_RESULT r).put .spm 0 SPM_RESP_TRIES 0
    ((s.put .spm 0 SPM_RESP_BITS 0).int .spm 0 1).raiseOpen .spm 0 1 1

def execSpmGo (s : State) : Host.Outcome State Fault Refusal := done (s.asHostOn .spm 0 spmGo)

/-- A transfer ends: RESULT, the attempts made and the bits clocked; the cause bit. -/
def State.spmEnd (s : State) (result tries bits cause : Nat) : State :=
  let s := ((s.setSpm { s.spm with job := none }).put .spm 0 SPM_STAT_BUSY 0).put .spm 0 SPM_RESP_RESULT result
  ((s.put .spm 0 SPM_RESP_TRIES (min 127 tries)).put .spm 0 SPM_RESP_BITS bits).int .spm 0 cause

/-! ### Reads of the flash -/

/-- What BAR4 reaches: the smaller of the density and 64 MiB (R528). -/
def State.flashEnd (s : State) : Nat := min (2 ^ s.fld .spm 0 SPM_XIP_INFO_DENS_LOG2) 0x4000000

/-- What a flash byte that nothing has programmed reads as: erased. -/
def flashRest (_ : Nat) : Byte := 0xFF

/-- A byte of the flash (R528). -/
def State.flashByte (s : State) (a : Nat) : Byte := mapGet flashRest s.spm.flash a
def State.setFlashByte (s : State) (a : Nat) (v : Byte) : State :=
  if a < s.flashEnd then s.setSpm { s.spm with flash := mapSet flashRest s.spm.flash a v } else s

/-- A BAR4 read is answered. -/
def State.flashAnswer (s : State) (addr len : Nat) : State :=
  let bs := (List.range len).map fun i => if addr + i < s.flashEnd then s.flashByte (addr + i) else 0
  { s with hif := { s.hif with resp := .bytes bs } }

/-- The BAR4 reads that waited are answered, in order. -/
def State.serveReads (s : State) : State :=
  let rs := s.spm.reads
  rs.foldl (fun s r => s.flashAnswer r.1 r.2) (s.setSpm { s.spm with reads := [] })

/-- What an operation of the window at the front of its queue is: 0 none, 1 a page program, 2 an erase. -/
def State.xipFront (s : State) : Nat :=
  match s.spm.ops with
  | [] => 0
  | .program _ _ _ :: _ => 1
  | .erase _ _ :: _ => 2

/-- BAR4_READ (R528): zeros during an erase; a read waits for a page program, and for a page transfer (R524). -/
def bar4Read (addr len : Nat) (s : State) : State :=
  if s.xipFront = 2 then
    let s := s.bump .spm 0 SPM_XIP_RBUSY_COUNT SPM_XIP_RBUSY_OVF
    { s with hif := { s.hif with resp := .bytes (List.replicate len 0) } }
  else if s.xipFront = 1 || s.spm.job.isSome then s.setSpm { s.spm with reads := s.spm.reads ++ [(addr, len)] }
  else s.flashAnswer addr len

def execBar4Read (addr len : Nat) (s : State) : Host.Outcome State Fault Refusal :=
  done (if s.live then bar4Read addr len s else { s with hif := { s.hif with resp := .bytes (List.replicate len 0) } })

/-! ### The end of a page transfer -/

/-- What waited for the page transfer goes on. -/
def State.afterTransfer (s : State) : State := if s.xipFront = 0 then s.serveReads else s

/-- SPM_TRANSFER_DONE (R523 to R525): `rx` are the wire bits received, `status` the status byte where one is clocked first. -/
def spmTransferDone (status : Nat) (rx : List Bool) (s : State) : State :=
  match s.spm.job with
  | none => s
  | some j =>
    if rx.length ≠ j.len ∨ (j.statusFirst ∧ status % 2 = 0) then s
    else
      let s := if j.statusFirst then s.put .spm 0 SPM_RESP_STATUS status else s
      let s := s.setSpm { s.spm with mosi := (List.range j.len).map (s.txBit j) }
      ((rx.zipIdx.foldl (State.putRxBit j) s).spmEnd 1 (j.tries + 1) j.len 0).afterTransfer

def execSpmTransferDone (status : BitVec 8) (rx : List Bool) (s : State) : Host.Outcome State Fault Refusal :=
  done (spmTransferDone status.toNat rx s)

/-- SPM_RETRY_WAIT (R525): an attempt found READY at 0. After the last attempt the transfer ends NOT_READY; the spec does not state
what BITS then holds. -/
def spmRetryWait (status : Nat) (s : State) : State :=
  match s.spm.job with
  | none => s
  | some j =>
    if !j.statusFirst || status % 2 == 1 then s
    else
      let s := (s.put .spm 0 SPM_RESP_STATUS status).put .spm 0 SPM_RESP_TRIES (min 127 (j.tries + 1))
      if j.limit < j.tries + 1 then
        (((s.spmEnd 5 (j.tries + 1) s.freeVal 3).drawn).raiseOpen .spm 0 2 1).afterTransfer
      else s.setSpm { s.spm with job := some { j with tries := j.tries + 1 } }

def execSpmRetryWait (status : BitVec 8) (s : State) : Host.Outcome State Fault Refusal := done (spmRetryWait status.toNat s)

/-- The RX buffer after an abort is not valid (R526): free words. -/
def State.rxFree (s : State) : State :=
  let r := freshWords 128 s
  r.1.putWords .spm 0 SPM_RX r.2

/-- SPM_ABORT (R526): the transfer ends at a word boundary with these bits clocked, or in a retry wait with none; no count where its end
comes before the next boundary, and it then ends normally. -/
def spmAbort (bits : Option Nat) (s : State) : State :=
  match s.spm.job, bits with
  | some j, some n => ((s.rxFree).spmEnd 4 (if n = 0 then max 1 j.tries else j.tries + 1) n 2).afterTransfer
  | _, _ => s

def execSpmAbort (bits : Option Nat) (s : State) : Host.Outcome State Fault Refusal := done (s.asHostOn .spm 0 (spmAbort bits))

/-! ### Programming and erasing -/

/-- The operations not yet ended. XIP_BUSY is 1 from the first Write Enable until the final poll. -/
def State.putOps (s : State) (ops : List XipOp) : State :=
  (s.setSpm { s.spm with ops := ops }).put .spm 0 SPM_STAT_XIP_BUSY (bit !ops.isEmpty)

/-- The parts of a write of `bs` at `addr` that pages of `page` bytes split it into, in address order (R529). -/
def pageParts (page : Nat) : Nat → Nat → List Byte → List (Nat × List Byte)
  | 0, _, _ => []
  | fuel + 1, addr, bs =>
    let n := page - addr % page
    if bs.isEmpty then []
    else if page = 0 then [(addr, bs)]
    else (addr, bs.take n) :: pageParts page fuel (addr + n) (bs.drop n)

/-- Whether a range reaches into the firmware slots (R529). -/
def inFwSlots (addr : Nat) : Bool := decide (addr < 0x200000)

/-- A BAR4 write (R529): a byte that is not enabled programs no bit. -/
def bar4Write (addr : Nat) (data : List (Option Byte)) (s : State) : State :=
  let en := data.zipIdx.filterMap fun e => e.1.map fun _ => addr + e.2
  if en.isEmpty then s
  else if !s.flag .spm 0 SPM_XIP_CFG_WREN || (en.any inFwSlots && !s.flag .spm 0 SPM_XIP_CFG_FW_WREN) then
    s.bump .spm 0 SPM_XIP_DISC_COUNT SPM_XIP_DISC_OVF
  else
    let bs := data.map fun b => b.getD 0xFF
    let parts := pageParts (2 ^ s.fld .spm 0 SPM_XIP_INFO_PAGE_LOG2) bs.length addr bs
    let id := s.spm.writes
    let ops := parts.map fun p => XipOp.program id p.1 p.2
    (s.setSpm { s.spm with writes := id + 1 }).putOps (s.spm.ops ++ ops)

def execBar4Write (addr : Nat) (data : List (Option Byte)) (s : State) : Host.Outcome State Fault Refusal :=
  done (if s.live then bar4Write addr data s else s)

/-- XIP_ERASE (R530): a write of SPM_XIP_CMD with GO. -/
def xipErase (value : Word) (s : State) : State :=
  let addr := bitsOf value 25 0
  let s := (s.put .spm 0 SPM_XIP_CMD_BLOCK (bitsOf value 30 30)).put .spm 0 SPM_XIP_CMD_ADDR addr
  let size := 2 ^ (if value.getLsbD 30 then s.fld .spm 0 SPM_XIP_INFO_BLK_LOG2 else s.fld .spm 0 SPM_XIP_INFO_SECT_LOG2)
  if addr % size ≠ 0 ∨ !s.flag .spm 0 SPM_XIP_CFG_WREN ∨ (inFwSlots addr ∧ !s.flag .spm 0 SPM_XIP_CFG_FW_WREN) then
    s.put .spm 0 SPM_XIP_RESP_RESULT 2
  else s.putOps (s.spm.ops ++ [XipOp.erase addr size])

def execXipErase (value : Word) (s : State) : Host.Outcome State Fault Refusal := done (s.asHostOn .spm 0 (xipErase value))

/-- Bytes are programmed: bits only go from 1 to 0. -/
def State.programBytes (s : State) (addr : Nat) (bs : List Byte) : State :=
  bs.zipIdx.foldl (fun s b => s.setFlashByte (addr + b.2) (s.flashByte (addr + b.2) &&& b.1)) s

/-- A page program that timed out leaves the bits it was to clear in doubt: free values. -/
def State.programFree (s : State) (addr : Nat) (bs : List Byte) : State :=
  bs.zipIdx.foldl (fun s b =>
    let a := addr + b.2
    (s.setFlashByte a (s.flashByte a &&& (b.1 ||| BitVec.ofNat 8 s.freeVal))).drawn) s

/-- An erase that timed out leaves the bytes of its range in doubt: free values. -/
def State.eraseFree (s : State) (addr size : Nat) : State :=
  (List.range size).foldl (fun s i =>
    (s.setFlashByte (addr + i) (s.flashByte (addr + i) ||| BitVec.ofNat 8 s.freeVal)).drawn) s

/-- The range of an erase reads all ones. -/
def State.eraseRange (s : State) (addr size : Nat) : State :=
  s.setSpm { s.spm with flash := mapDrop (fun a => decide (addr ≤ a) && decide (a < addr + size)) s.spm.flash }

/-- A time-out of the window (R529, R530, R547). -/
def State.xipError (s : State) : State :=
  ((s.bump .spm 0 SPM_XIP_ERR_COUNT SPM_XIP_ERR_OVF).int .spm 0 4).raiseOpen .spm 0 3 3

/-- Whether an operation is a part of a write. -/
def XipOp.ofWrite (id : Nat) : XipOp → Bool
  | .program i _ _ => i == id
  | .erase _ _ => false

/-- The final poll of a page program: it is complete, or has timed out and the rest of its write is discarded (R529). -/
def xipProgram (clear : Bool) (id addr : Nat) (bs : List Byte) (rest : List XipOp) (s : State) : State :=
  if clear then ((s.programBytes addr bs).putOps rest).serveReads
  else (((s.programFree addr bs).putOps (rest.filter fun o => !o.ofWrite id)).xipError).serveReads

/-- The final poll of an erase (R530). -/
def xipErased (clear : Bool) (addr size : Nat) (rest : List XipOp) (s : State) : State :=
  if clear then (((s.eraseRange addr size).putOps rest).put .spm 0 SPM_XIP_RESP_RESULT 1).serveReads
  else ((((s.eraseFree addr size).putOps rest).put .spm 0 SPM_XIP_RESP_RESULT 3).xipError).serveReads

/-- XIP_POLL (R529, R530): the operation in progress ends. -/
def xipPoll (clear : Bool) (s : State) : State :=
  match s.spm.ops with
  | [] => s
  | .program id addr bs :: rest => xipProgram clear id addr bs rest s
  | .erase addr size :: rest => xipErased clear addr size rest s

def execXipPoll (clear : Bool) (s : State) : Host.Outcome State Fault Refusal := done (xipPoll clear s)

end Sys2Proof.Machine
end

