-- ==== Sys2Proof/Machine/Evr.lean ====
section
/-! DEFINITION. On-chip NVM (R536, R537), the operating seconds (R538), and the event recorder (R539 to R546). -/

namespace Sys2Proof.Machine
open Sys2Proof Reg

def State.setEvr (s : State) (x : EvrSt) : State := { s with evr := x }

/-! ### NVM writes -/

/-- The class of a job in the order of R536: Security Engine commits first, then PUV values and checkpoints. -/
def NvmJob.first : NvmJob → Bool
  | .fwSvn _ => true
  | .puv _ _ _ => false
  | .opsec _ => false

/-- The job that NVM serves next (R536). -/
def nextJob (l : List NvmJob) : Option NvmJob := (l.find? NvmJob.first).orElse fun _ => l.head?

/-- The list without its first element equal to `x`. -/
def dropJob (x : NvmJob) (l : List NvmJob) : List NvmJob := l.erase x

/-- Write operations counted (NVM_WRITES). -/
def State.nvmCount (s : State) (n : Nat) : State := s.bumpBy .nvm 0 NVM_WRITES_COUNT NVM_WRITES_OVF n

/-- A write failed its retry (R537). -/
def State.nvmFailed (s : State) : State := (s.bump .nvm 0 NVM_WFAIL_COUNT NVM_WFAIL_OVF).raiseOpen .nvm 0 3 3

/-- What a job's end means to its writer. -/
def State.jobDone (s : State) (ok : Bool) : NvmJob → State
  | .puv u code conn =>
    let s := if ok then s.setSup u { s.sup u with puvCode := code, puvConn := conn } else s
    s.put (supKind u) (supInst u) DPS_PUV_BUSY 0
  | .opsec v => if ok then s.setEvr { s.evr with checkpoint := v } else s
  | .fwSvn v => if ok then s.put .secCnt 0 SEC_FW_SVN v else s.raiseOpen .secCtl 0 5 3

/-- NVM_WRITE_DONE (R536, R537): `first` and `retry` say whether the verification reads pass. -/
def nvmWriteDone (first retry : Bool) (s : State) : State :=
  match nextJob s.nvmJobs with
  | none => s
  | some j =>
    let s := { s with nvmJobs := dropJob j s.nvmJobs }
    let s := s.nvmCount (if first then 1 else 2)
    if first || retry then s.jobDone true j else (s.nvmFailed).jobDone false j

def execNvmWriteDone (first retry : Bool) (s : State) : Host.Outcome State Fault Refusal := done (nvmWriteDone first retry s)

/-! ### Operating seconds -/

/-- EVR_WALL as one number. -/
def State.wall (s : State) : Nat := s.fld .evr 0 EVR_WALL_HI * 2 ^ 32 + s.fld .evr 0 EVR_WALL_LO

def State.putWall (s : State) (v : Nat) : State := (s.put .evr 0 EVR_WALL_LO (v % 2 ^ 32)).put .evr 0 EVR_WALL_HI (v / 2 ^ 32)

/-- OPSEC_TICK (R538, R543, R299, R478): one operating second. -/
def opsecTick (s : State) : State :=
  let s := (s.put .evr 0 EVR_OPSEC (s.fld .evr 0 EVR_OPSEC + 1)).putWall (s.wall + 1)
  let s := { s with vs := { s.vs with leak := s.vs.leak + 1 } }
  s.put .secCtl 0 SEC_VENDOR_LEFT_S (s.fld .secCtl 0 SEC_VENDOR_LEFT_S - 1)

def execOpsecTick (s : State) : Host.Outcome State Fault Refusal := done (if s.powered then opsecTick s else s)

/-- OPSEC_CHECKPOINT (R538). -/
def execOpsecCheckpoint (s : State) : Host.Outcome State Fault Refusal :=
  done (if s.powered then { s with nvmJobs := s.nvmJobs ++ [NvmJob.opsec (s.fld .evr 0 EVR_OPSEC)] } else s)

/-- EVR_WALL (R543): the write of the high word, with the buffered low word (R50). -/
def evrWall (value : Word) (s : State) : State :=
  let old := s.wall
  let s := (s.applyHigh (fldOff .evr 0 EVR_WALL_LO 0) value).put .evr 0 EVR_STAT_WALL_VALID 1
  if s.wall < old then s.put .evr 0 EVR_STAT_SETBACK 1 else s

def execEvrWall (value : Word) (s : State) : Host.Outcome State Fault Refusal := done (s.asHostOn .evr 0 (evrWall value))

/-! ### Records -/

/-- One bit into a CRC-32C register, reflected. -/
def crcBit (c : BitVec 32) : BitVec 32 := if c.getLsbD 0 then (c >>> 1) ^^^ 0x82F63B78 else c >>> 1

/-- One byte into a CRC-32C register. -/
def crcByte (c : BitVec 32) (b : Byte) : BitVec 32 :=
  crcBit (crcBit (crcBit (crcBit (crcBit (crcBit (crcBit (crcBit (c ^^^ b.setWidth 32))))))))

/-- CRC-32C of bytes. -/
def crc32c (bs : List Byte) : BitVec 32 := ~~~ bs.foldl crcByte 0xFFFFFFFF

/-- The committed records, by slot. -/
def State.records (s : State) : List (Nat × EvrRec) := s.evr.slots.filterMap fun e => e.2.map fun r => (e.1, r)

/-- The next sequence number (R539). -/
def State.evrNextSeq (s : State) : Nat := match s.evr.topSeq with
  | some q => q + 1
  | none => 0

/-- Words 0 to 13 of the record of an entry (the event record table after R538). -/
def State.evrBody (s : State) (x : EvrIn) : List Word :=
  let valid := s.flag .evr 0 EVR_STAT_WALL_VALID
  let wall := if valid then s.wall else 0
  [BitVec.ofNat 32 (2 ^ 24 + x.level % 8 * 2 ^ 21 + bit x.partner * 2 ^ 19 + s.fld .evr 0 EVR_STAT_SETBACK * 2 ^ 18 + bit valid * 2 ^ 17
     + bit x.summary * 2 ^ 16 + x.typ % 2 ^ 16),
   BitVec.ofNat 32 (x.cls % 256 * 2 ^ 24 + x.base % 8 * 2 ^ 21 + x.inst % 2 ^ 16),
   BitVec.ofNat 32 s.evrNextSeq, BitVec.ofNat 32 (s.evrNextSeq / 2 ^ 32 % 2 ^ 16),
   s.rd (fldOff .evr 0 EVR_OPSEC 0), s.rd (fldOff .evr 0 EVR_BOOTS 0),
   x.f.extractLsb' 0 32, BitVec.ofNat 32 (x.p % 2 ^ 16 * 2 ^ 16 + x.f.toNat / 2 ^ 32), x.detail,
   BitVec.ofNat 32 wall, BitVec.ofNat 32 (wall / 2 ^ 32),
   x.data.getD 0 0, x.data.getD 1 0, x.data.getD 2 0]

/-- The record of an entry, with its CRC and commit word. -/
def State.evrRecord (s : State) (x : EvrIn) : EvrRec :=
  let body := s.evrBody x
  ⟨s.evrNextSeq, x.level, body ++ [crc32c (body.flatMap bytesOf), BitVec.ofNat 32 (0x5A5A * 2 ^ 16 + s.evrNextSeq % 2 ^ 16)]⟩

/-- The `k`-th free slot, counted from 0, past the occupied ones in rising order. -/
def kthFree (occupied : List Nat) (k : Nat) : Nat := occupied.foldl (fun k o => if o ≤ k then k + 1 else k) k

/-- The slot of the committed record with the lowest SEQ among those whose severity is at most `sev` (R540 rule 3). -/
def oldestAtMost (sev : Nat) : List (Nat × EvrRec) → Option (Nat × EvrRec)
  | [] => none
  | e :: r =>
    match oldestAtMost sev r with
    | some m => if e.2.sev ≤ sev ∧ e.2.seq < m.2.seq then some e else some m
    | none => if e.2.sev ≤ sev then some e else none

/-- Where a new record of a severity is placed (R540); which free slot is a free value. -/
def State.place (s : State) (sev : Nat) : Option Nat :=
  let rs := s.records
  let free := 16384 - rs.length
  let low := (rs.filter fun e => decide (e.2.sev < 4)).length
  if 0 < free ∧ (4 ≤ sev ∨ low < 15360) then some (kthFree (rs.map (·.1)) (s.freeVal % free))
  else (oldestAtMost sev rs).map (·.1)

/-- A record that is not stored (R540). -/
def State.unstored (s : State) (sev : Nat) : State :=
  (s.bump .evr 0 EVR_UNSTORED_COUNT EVR_UNSTORED_OVF).raiseOpen .evr 0 2 (if sev < 3 then 1 else 3)

/-- An entry is written into a slot, in three NVM writes (R539), and RECORD is set from the severity of EVR_CFG on. -/
def State.store (s : State) (x : EvrIn) (slot : Nat) : State :=
  let r := s.evrRecord x
  let e := s.evr
  let s := s.setEvr { e with
    slots := mapSet (fun _ => none) e.slots slot (some r), torn := e.torn.filter fun t => t != slot, topSeq := some r.seq }
  let s := (s.nvmCount 3).drawn
  if s.fld .evr 0 EVR_CFG_INT_SEV ≤ x.level then s.int .evr 0 0 else s

/-- The recorder makes a record of an entry (R539, R540). -/
def State.makeRecord (s : State) (x : EvrIn) : State :=
  match s.place x.level with
  | some slot => s.store x slot
  | none => s.unstored x.level

/-- The entry of the queue that is served next: the highest severity, the first to arrive within one (R541). -/
def nextEntry : List EvrIn → Option EvrIn
  | [] => none
  | x :: r =>
    match nextEntry r with
    | some y => if x.level < y.level then some y else some x
    | none => some x

/-- A held entry takes a free place (R541). -/
def State.offerHeld (s : State) : State :=
  match s.evr.held with
  | x :: r => if s.evr.queue.length < 32 then s.setEvr { s.evr with queue := s.evr.queue ++ [x], held := r } else s
  | [] => s

/-- EVR_RECORD_WRITE (R539 to R541); entries wait while a clear runs (R546). -/
def evrRecordWrite (s : State) : State :=
  match nextEntry s.evr.queue with
  | none => s
  | some x =>
    if s.evr.clearing.isSome then s
    else ((s.setEvr { s.evr with queue := s.evr.queue.erase x }).offerHeld).makeRecord x

/-- The recorder works while the Steward does: not in OFF or BOOT. -/
def State.recorderOn (s : State) : Bool := s.powered && s.dev != .boot

def execEvrRecordWrite (s : State) : Host.Outcome State Fault Refusal := done (if s.recorderOn then evrRecordWrite s else s)

/-- The class with most drops, the earliest first among equals (R542). -/
def mostDrops : List ((Nat × Nat) × Nat) → (Nat × Nat) × Nat
  | [] => ((0, 0), 0)
  | d :: r => if (mostDrops r).2 ≤ d.2 then d else mostDrops r

/-- A Notice of the recorder itself, with its DATA words, written as a record at once; the page's history holds it as a fault entry. -/
def State.ownRecord (s : State) (cls : Nat) (summary : Bool) (data : List Word) : State :=
  let x : EvrIn := { s.evrEntry .evr 0 cls 1 1 s.freeWord with summary := summary, data := data }
  ((s.recordFault false .evr 0 cls 1 s.freeWord).drawn).makeRecord x

/-- EVR_SUMMARY (R542): the queue is empty after drops. Word 12 holds TYPE and CLASS where the drop table has them. -/
def evrSummary (s : State) : State :=
  if s.evr.since = 0 ∨ !s.evr.queue.isEmpty ∨ !s.evr.held.isEmpty ∨ s.evr.clearing.isSome then s
  else
    let m := mostDrops s.evr.drops
    let data : List Word := [BitVec.ofNat 32 s.evr.since, BitVec.ofNat 32 (m.1.1 * 2 ^ 16 + m.1.2 * 2 ^ 8), BitVec.ofNat 32 m.2]
    ((s.setEvr { s.evr with drops := [], dropOther := 0, since := 0 }).ownRecord 1 true data).int .evr 0 2

def execEvrSummary (s : State) : Host.Outcome State Fault Refusal := done (if s.recorderOn then evrSummary s else s)

/-! ### The cursor -/

/-- The committed record with the lowest SEQ from `seq` on and a severity of at least `minSev` (R545). -/
def nextRecord (seq minSev : Nat) : List (Nat × EvrRec) → Option EvrRec
  | [] => none
  | e :: r =>
    let here := decide (seq ≤ e.2.seq) && decide (minSev ≤ e.2.sev)
    match nextRecord seq minSev r with
    | some m => if here && decide (e.2.seq < m.seq) then some e.2 else some m
    | none => if here then some e.2 else none

/-- The cursor is put at a sequence number. -/
def State.putCursor (s : State) (seq : Nat) : State :=
  (s.put .evr 0 EVR_CURSOR_LO_SEQ_LO (seq % 2 ^ 32)).put .evr 0 EVR_CURSOR_HI_SEQ_HI (seq / 2 ^ 32)

/-- The snapshot of the first record that qualifies from `seq` on, or the end (R545). -/
def State.loadSnap (s : State) (seq : Nat) : State :=
  match nextRecord seq (s.fld .evr 0 EVR_CURSOR_HI_MINSEV) s.records with
  | some r =>
    let s := (s.putCursor r.seq).put .evr 0 EVR_CURSOR_HI_LOADED 1
    (s.put .evr 0 EVR_CURSOR_HI_END 0).putWords .evr 0 EVR_DATA ((List.range 16).map fun j => r.words.getD j 0)
  | none =>
    let s := (s.put .evr 0 EVR_CURSOR_HI_LOADED 0).put .evr 0 EVR_CURSOR_HI_END 1
    s.putWords .evr 0 EVR_DATA (List.replicate 16 0)

def State.cursorSeq (s : State) : Nat := s.fld .evr 0 EVR_CURSOR_HI_SEQ_HI * 2 ^ 32 + s.fld .evr 0 EVR_CURSOR_LO_SEQ_LO

/-- EVR_CURSOR_HI (R545): written with the buffered low word (R50). -/
def evrCursorHi (value : Word) (s : State) : State :=
  let s := s.applyHigh (fldOff .evr 0 EVR_CURSOR_LO_SEQ_LO 0) (s.rd (fldOff .evr 0 EVR_CURSOR_HI_SEQ_HI 0))
  let s := (s.put .evr 0 EVR_CURSOR_HI_MINSEV (bitsOf value 26 24)).put .evr 0 EVR_CURSOR_HI_SEQ_HI (bitsOf value 15 0)
  s.loadSnap s.cursorSeq

def execEvrCursorHi (value : Word) (s : State) : Host.Outcome State Fault Refusal := done (s.asHostOn .evr 0 (evrCursorHi value))

/-- EVR_DATA15_READ (R545): the word, and then the next qualifying record. -/
def evrData15Read (s : State) : State := (s.answer (s.rd (fldOff .evr 0 EVR_DATA 15))).loadSnap (s.cursorSeq + 1)

def execEvrData15Read (s : State) : Host.Outcome State Fault Refusal := done (if s.live then evrData15Read s else s.answer 0)

/-! ### Clearing -/

/-- EVR_CLEAR (R546): Owner role; ignored while a clear runs. -/
def evrClear (value : Word) (s : State) : State :=
  if !value.getLsbD 31 || s.evr.clearing.isSome then s
  else (s.setEvr { s.evr with clearing := some (bitsOf value 2 0, s.role) }).put .evr 0 EVR_STAT_CLEARING 1

def execEvrClear (value : Word) (s : State) : Host.Outcome State Fault Refusal :=
  done (s.asHost (pageBase .evr 0) 1 (evrClear value))

/-- EVR_CLEAR_DONE (R546). The layout of MAXSEV and the role in DATA word 11 is not stated: a free word. -/
def evrClearDone (s : State) : State :=
  match s.evr.clearing with
  | none => s
  | some (maxSev, _) =>
    let keep : Nat × Option EvrRec → Bool := fun e => e.2.all fun r => decide (maxSev < r.sev)
    let s := s.setEvr { s.evr with clearing := none, slots := s.evr.slots.filter keep }
    let s := (s.put .evr 0 EVR_STAT_CLEARING 0).drawn
    (s.ownRecord 3 false [s.freeWord]).int .evr 0 3

def execEvrClearDone (s : State) : Host.Outcome State Fault Refusal := done (evrClearDone s)

end Sys2Proof.Machine
end

