-- ==== Sys2Proof/Machine/Settings.lean ====
section
/-! DEFINITION. The board settings image (R531 to R535, R76): its checks, its records, and what they are applied to. -/

namespace Sys2Proof.Machine
open Sys2Proof Reg

/-! ### The image -/

/-- Where the image lies in the flash, and its largest size (R531). -/
def settingsBase : Nat := 0x200000
def settingsMax : Nat := 262144

/-- The bytes of the image as the flash holds them: LEN of its header says how many; none where LEN is out of the limit, or leaves no room
for header, CRC and signature. -/
def State.flashImage (s : State) : Option (List Byte) :=
  let len := leNat ((List.range 4).map fun i => s.flashByte (settingsBase + 8 + i))
  if len ≤ settingsMax ∧ 0x40 + 100 ≤ len then some ((List.range len).map fun i => s.flashByte (settingsBase + i)) else none

def imgSigner (b : List Byte) : Nat := leAt b 0x14 1
def imgChainLen (b : List Byte) : Nat := leAt b 0x18 4

/-- Where the CRC lies. -/
def imgCrcAt (b : List Byte) : Nat := b.length - 100 - imgChainLen b

/-- The key that an image is signed with: that of an enrolled Owner, or of a certified board maker (R533). -/
def State.settingsKey (s : State) (b : List Byte) : Option (List Byte) :=
  let chain := subBytes b (imgCrcAt b + 4) (imgChainLen b)
  if imgSigner b = 0xFF then (if Config.boardMaker chain then Config.chainKey chain else none)
  else if imgSigner b < 8 ∧ imgChainLen b = 0 then (s.ownerKey (imgSigner b)).map OwnerKey.key
  else none

/-- Checks 1 to 3 of R533. -/
def State.imageSigned (s : State) (b : List Byte) : Bool :=
  leAt b 0 4 == 0x53424B4D && leAt b 4 2 == 1 && leAt b 8 4 == b.length && decide (imgChainLen b + 0x40 + 100 ≤ b.length)
    && leAt b (imgCrcAt b) 4 == (crc32c (b.take (imgCrcAt b))).toNat
    && (match s.settingsKey b with
        | some k => Config.verify k (b.take (b.length - 96)) (b.drop (b.length - 96))
        | none => false)

/-! ### Records -/

/-- A record: its type and its value (R532). -/
structure SetRec where
  typ : Nat
  val : List Byte
  deriving DecidableEq, Repr

/-- `n` records that fill the bytes exactly; none where they do not. -/
def parseRecs : Nat → List Byte → Option (List SetRec)
  | 0, bs => if bs.isEmpty then some [] else none
  | n + 1, bs =>
    let vlen := leAt bs 4 4
    let room := 8 + 4 * ceilDiv vlen 4
    if bs.length < room ∨ !zeroAt bs 2 2 ∨ !zeroAt bs (8 + vlen) (room - 8 - vlen) then none
    else (parseRecs n (bs.drop room)).map fun r => ⟨leAt bs 0 2, subBytes bs 8 vlen⟩ :: r

/-- Whether a record is well formed as far as the image's check goes: a critical type must be known, and a value of fixed length have it
(R532). -/
def SetRec.ok (r : SetRec) : Bool :=
  match r.typ with
  | 1 => r.val.length == 4
  | 2 => r.val.length == 1
  | 3 => r.val.length == 8
  | 4 => r.val.length == 2
  | 0x10 => true
  | 0x20 => r.val.length % 8 == 0
  | t => !bitAt t 15

/-- Whether a type other than TEMPLATE and SUPPLY_LIMIT appears twice. -/
def repeats : List SetRec → Bool
  | [] => false
  | r :: rs => (r.typ != 0x10 && r.typ != 0x20 && rs.any fun x => x.typ == r.typ) || repeats rs

/-- The records of an image whose structure passes check 4 (R533). -/
def imageRecs (b : List Byte) : Option (List SetRec) :=
  match parseRecs (leAt b 0x0C 4) (subBytes b 0x40 (imgCrcAt b - 0x40)) with
  | some rs => if rs.all SetRec.ok && !repeats rs then some rs else none
  | none => none

/-- An image that passes every check, with its records (R533). -/
def State.checkImage (s : State) : Option (List Byte × List SetRec) :=
  match s.flashImage with
  | some b => if s.imageSigned b then (imageRecs b).map fun rs => (b, rs) else none
  | none => none

/-- The value of a record of a type, as a number. -/
def recNum (rs : List SetRec) (typ : Nat) : Option Nat := (rs.find? fun r => r.typ == typ).map fun r => leNat r.val

/-! ### Templates -/

/-- The length of a placement, padded to an even number of bytes. -/
def placeLen (pins ndps hv : Nat) : Nat := 2 * ceilDiv (2 * pins + ndps + hv) 2

/-- Placement `j` of a template record. -/
def placeOf (v : List Byte) (pins ndps hv j : Nat) : List Nat × List Nat × Option Nat :=
  let o := 6 + j * placeLen pins ndps hv
  ((List.range pins).map fun i => leAt v (o + 2 * i) 2, (List.range ndps).map fun i => leAt v (o + 2 * pins + i) 1,
   if hv = 1 then some (leAt v (o + 2 * pins + ndps) 1) else none)

/-- Whether a placement passes (R259). -/
def placeOk (p : List Nat × List Nat × Option Nat) : Bool :=
  p.1.all (fun k => decide (k < 768)) && p.2.1.all (fun d => decide (d < 72)) && p.2.2.all (fun h => decide (h < 24))
    && p.1.eraseDups.length == p.1.length && p.2.1.eraseDups.length == p.2.1.length

/-- A template of a record; none where it fails its check (R258, R259, R532). -/
def templateOf (v : List Byte) : Option (Nat × Template) :=
  let pins := leAt v 1 1
  let ndps := leAt v 2 1
  let hv := leAt v 3 1
  let n := leAt v 4 2
  if 6 ≤ v.length ∧ leAt v 0 1 < 16 ∧ 1 ≤ pins ∧ pins ≤ 128 ∧ ndps ≤ 4 ∧ hv ≤ 1 ∧ 1 ≤ n ∧ n ≤ 256
      ∧ v.length = 6 + n * placeLen pins ndps hv then
    let ps := (List.range n).map (placeOf v pins ndps hv)
    if ps.all placeOk then some (leAt v 0 1, ⟨pins, ndps, hv == 1, ps⟩) else none
  else none

/-- TEMPLATE_INVALID with the template number (R259). -/
def State.templateBad (s : State) (v : List Byte) : State :=
  match v with
  | [] => s.raiseOpen .sfb 0 2 2
  | b :: _ => s.raise .sfb 0 2 2 (b.setWidth 32)

def State.putTemplates (s : State) (ts : SMap (Option Template)) : State := { s with sfb := { s.sfb with templates := ts } }

/-- A TEMPLATE record is applied: a second one with a number already held is discarded (R532). -/
def State.applyTemplate (s : State) (r : SetRec) : State :=
  if r.typ ≠ 0x10 then s
  else
    match templateOf r.val with
    | some (n, t) =>
      if (s.template n).isSome then s.templateBad r.val
      else s.putTemplates (mapSet (fun _ => none) s.sfb.templates n (some t))
    | none => s.templateBad r.val

/-! ### Supply limits and the other records -/

/-- The supply that an INDEX of a SUPPLY_LIMIT entry names. -/
def limitUnit (i : Nat) : Option Nat := if i < 72 then some i else if 0x80 ≤ i ∧ i < 0x98 then some (72 + (i - 0x80)) else none

/-- One entry of 8 bytes (R534). -/
def State.applyLimit (s : State) (e : List Byte) : State :=
  match limitUnit (leAt e 0 1) with
  | some u => s.setSup u { s.sup u with ilimMax := some (leAt e 2 2), vMax := some (leAt e 4 4 % 2 ^ 20) }
  | none => s

/-- The limits of every supply are dropped. -/
def State.dropLimits (s : State) : State :=
  (List.range 96).foldl (fun s u => s.setSup u { s.sup u with ilimMax := none, vMax := none }) s

/-- A SUPPLY_LIMIT record is applied. -/
def State.applyLimits (s : State) (r : SetRec) : State :=
  if r.typ = 0x20 then (List.range (r.val.length / 8)).foldl (fun s i => s.applyLimit (subBytes r.val (8 * i) 8)) s else s

/-- SYNC roles, as stored (R101). -/
def State.applySync (s : State) (rs : List SetRec) : State :=
  match recNum rs 3 with
  | some v => (List.range 8).foldl (fun s n => s.putAt .epcCtl 0 SYNC_CFG_ROLE n (v / 256 ^ n)) s
  | none => s

/-- What every load applies alike: templates, supply limits, SYNC roles, the seed and the Pairs role. -/
def State.applyRecs (s : State) (rs : List SetRec) : State :=
  let s := rs.foldl State.applyTemplate (s.putTemplates [])
  let s := (rs.foldl State.applyLimits s.dropLimits).applySync rs
  let s := match recNum rs 4 with
    | some v => s.setSeed v
    | none => s
  match recNum rs 2 with
  | some v => if v < 3 then s.roleWrite v else s
  | none => s

/-- The settings at start-up (R533, R76); the ceiling follows at step 12. -/
def State.bootSettings (s : State) : State :=
  match s.checkImage with
  | some (b, rs) => { s.applyRecs rs with settings := some b }
  | none => { s.raiseOpen .stw 0 2 3 with settings := none }

/-- The ceiling of the image loaded (R31). -/
def State.imageCeiling (s : State) : Nat :=
  match s.settings.bind imageRecs with
  | some rs => min 60000 ((recNum rs 1).getD 60000)
  | none => 60000

/-- What a reload that is accepted does (R535): the RESULT it completes with, and the state. -/
def State.reload (s : State) : Nat × State :=
  match s.checkImage with
  | some (b, rs) =>
    let s := { s.applyRecs rs with settings := some b }
    (0, match recNum rs 1 with
        | some v => (s.ceilWrite ⟨.steward, .vendor⟩ v).1
        | none => s)
  | none => (5, s.raiseOpen .stw 0 2 3)

end Sys2Proof.Machine
end

