-- ==== Sys2Proof/Machine/Mailbox.lean ====
section
/-! DEFINITION. The Steward mailbox (R66, R67, R535): its commands act as they are taken, and report when they complete; the last block of
a recovery image is checked and programmed at its completion. -/

namespace Sys2Proof.Machine
open Sys2Proof Reg

def State.setMbx (s : State) (x : MbxSt) : State := { s with mbx := x }

/-- A command of the mailbox: ignored while one runs (R66); a LENGTH above 512 is a bad argument. `f` gives the RESULT. -/
def State.mbxStart (s : State) (opcode length : Nat) (f : State → Nat × State) : State :=
  s.asHostOn .stw 0 fun s =>
    if s.mbx.running.isSome then s.setMbx { s.mbx with busyWrite := true }
    else
      let r := if 512 < length then (2, s) else f s
      (r.2.setMbx { r.2.mbx with running := some opcode, result := r.1, busyWrite := false }).put .stw 0 STW_RESP_BUSY 1

/-- Words written to DATA from word 0 on. -/
def State.mbxData (s : State) (ws : List Word) : State := s.putWords .stw 0 STW_WIN_DATA ws

/-- An opcode that names no command (R66). -/
def State.mbxUnknown (s : State) (opcode length : Nat) : State := s.mbxStart opcode length fun s => (1, s)

/-- GET_FW_INFO (R66): version, slot and digest; free words where no firmware has been loaded. -/
def getFwInfo (s : State) : Nat × State :=
  match s.mbx.fwSlot with
  | some slot => (0, s.mbxData ([s.mbx.fwVersion, BitVec.ofNat 32 slot] ++ (List.range 12).map fun j => s.mbx.fwDigest.getD j 0))
  | none =>
    let r := freshWords 14 s
    (0, r.1.mbxData r.2)

def execGetFwInfo (length : BitVec 16) (s : State) : Host.Outcome State Fault Refusal :=
  done (s.mbxStart 1 length.toNat getFwInfo)

/-- Whether a site is bound. -/
def State.anyBound (s : State) : Bool := (List.range 256).any fun i => s.flag .site i SITE_BIND_BOUND

/-- RELOAD_SETTINGS (R535). -/
def execReloadSettings (length : BitVec 16) (s : State) : Host.Outcome State Fault Refusal :=
  done (s.mbxStart 2 length.toNat fun s => if s.dev ≠ .ready ∨ s.anyBound then (2, s) else s.reload)

/-- GET_BOOT_LOG (R66): the timestamps of start-up steps 1 to 12. -/
def execGetBootLog (length : BitVec 16) (s : State) : Host.Outcome State Fault Refusal :=
  done (s.mbxStart 4 length.toNat fun s => (0, s.mbxData ((List.range 12).map fun j => s.mbx.bootLog.getD j 0)))

/-! ### Recovery firmware -/

/-- The blocks received so far are discarded (R67). -/
def State.dropRecovery (s : State) : State := s.setMbx { s.mbx with recovNext := 0, recov := [], recovLast := false }

/-- The image bytes of a block (R67). -/
def State.blockBytes (s : State) (length pad : Nat) : List Byte :=
  let bs := ((List.range (length - 1)).map fun i => s.rd (fldOff .stw 0 STW_WIN_DATA (i + 1))).flatMap bytesOf
  bs.take (bs.length - pad)

/-- A block of a recovery image (R67). -/
def loadRecovery (length : Nat) (s : State) : Nat × State :=
  let h := s.rd (fldOff .stw 0 STW_WIN_DATA 0)
  let last := h.getLsbD 31
  let pad := bitsOf h 30 29
  if !s.role.meets 2 then (3, s)
  else if length < 2 ∨ bitsOf h 15 0 ≠ s.mbx.recovNext ∨ (pad ≠ 0 ∧ !last)
      ∨ 0x100000 < s.mbx.recov.length + (4 * (length - 1) - pad) then (2, s.dropRecovery)
  else
    (0, s.setMbx { s.mbx with
      recovNext := s.mbx.recovNext + 1, recov := s.mbx.recov ++ s.blockBytes length pad, recovLast := last })

def execLoadRecoveryFw (length : BitVec 16) (s : State) : Host.Outcome State Fault Refusal :=
  done (s.mbxStart 3 length.toNat (loadRecovery length.toNat))

/-- Whether an image passes the checks that apply to a flash slot (R75, R496). -/
def State.fwGood (s : State) (b : List Byte) : Bool :=
  match Config.fwImageSvn b with
  | some v => decide (s.fld .secCnt 0 SEC_FW_SVN ≤ v)
  | none => false

/-- Flash slot A after a programming or read-back failure: partly written, so free values. -/
def State.slotFree (s : State) : State :=
  (List.range 0x100000).foldl (fun s a => (s.setFlashByte a (BitVec.ofNat 8 s.freeVal)).drawn) s

/-- The last block's command ends: its RESULT, and the state (R67). -/
def finishRecovery (programOk : Bool) (s : State) : Nat × State :=
  let img := s.mbx.recov
  let t := s.dropRecovery
  if !s.fwGood img then (5, t)
  else if programOk then
    let t := (t.eraseRange 0 0x100000).programBytes 0 img
    (0, t.setMbx { t.mbx with resetDue := true })
  else (6, t.slotFree)

/-- MBX_DONE (R66, R67): the running command completes. -/
def mbxDone (programOk : Bool) (s : State) : State :=
  match s.mbx.running with
  | none => s
  | some _ =>
    let r := if s.mbx.recovLast then finishRecovery programOk s else (s.mbx.result, s)
    let s := r.2
    let s := s.put .stw 0 STW_RESP_RESULT (if s.mbx.busyWrite then 4 else r.1)
    ((s.setMbx { s.mbx with running := none, busyWrite := false }).put .stw 0 STW_RESP_BUSY 0).int .stw 0 0

def execMbxDone (programOk : Bool) (s : State) : Host.Outcome State Fault Refusal := done (mbxDone programOk s)

end Sys2Proof.Machine
end

