-- ==== Sys2Proof/Machine/Resets.lean ====
section
/-! DEFINITION. Resets (R68 to R70), the loss of a rail (R550, R553), and start-up (R72 to R76). -/

namespace Sys2Proof.Machine
open Sys2Proof Reg

/-! ### What NVM keeps -/

/-- The registers that show NVM content: the enrolment counter, FW_SVN, the anti-rollback counters (R474, R479, R496) and the power-cycle count
(R538). -/
def isNvmReg (o : Nat) : Bool :=
  o == fldOff .secCtl 0 SEC_ENROLL_CTR 0 || o == fldOff .secCnt 0 SEC_FW_SVN 0 || o == fldOff .evr 0 EVR_BOOTS 0
    || within (fldOff .secCnt 0 SEC_ARB 0) (fldOff .secCnt 0 SEC_ARB 63) o

/-- The registers of the always-on domain that a system reset keeps beside (R68, R462): the operating seconds, THM_LAST and THM_LAST_SEC. -/
def isAonReg (o : Nat) : Bool :=
  o == fldOff .evr 0 EVR_OPSEC 0 || o == fldOff .thm 0 THM_LAST_VALID 0 || o == fldOff .thm 0 THM_LAST_SEC 0

/-- A supply as a reset leaves it: its PUV values, which NVM holds (R374). -/
def SupplySt.afterReset (u : Nat) (x : SupplySt) : SupplySt := { supRest u with puvCode := x.puvCode, puvConn := x.puvConn }

/-- A calibration record as a reset leaves it: its stored copies (R450). -/
def CalRec.afterReset (x : CalRec) : CalRec := { CalRec.fresh with copies := x.copies }

/-- A map whose entries take a value each. -/
def mapEach {α : Type} [DecidableEq α] (d : Nat → α) (f : Nat → α → α) (m : SMap α) : SMap α :=
  m.filterMap fun e => if f e.1 e.2 = d e.1 then none else some (e.1, f e.1 e.2)

/-- A map whose first `n` keys take the values of `f`. -/
def mapOver {α : Type} [DecidableEq α] (d : Nat → α) (n : Nat) (f : Nat → α) : SMap α :=
  (List.range n).foldl (fun m k => mapSet d m k (f k)) []

/-- The write that NVM was busy with when a reset came: whether it took effect is a free value, as the spec does not say. -/
def State.cutNvm (s : State) : State :=
  match nextJob s.nvmJobs with
  | some j => (if s.freeVal % 2 = 0 then s.jobDone true j else s).drawn
  | none => s

/-- SEC_STAT.ENROLLED shows the slots. -/
def State.putEnrolled (s : State) : State :=
  s.put .secCtl 0 SEC_STAT_ENROLLED (((List.range 8).map fun i => bit (s.ownerKey i).isSome * 2 ^ i).foldr (· + ·) 0)

/-- Everything back to its reset value but what NVM and the flash hold and the registers that `keep` names (R68). The block's queue, its
clock, its count of free values and the level of PERST_N are not the reset's. -/
def State.resetAll (s : State) (keep : Nat → Bool) : State :=
  let s := s.cutNvm
  let r := State.reset
  ({ r with
    pending := s.pending, clock := s.clock, free := s.free
    regs := mapDrop (fun o => !(isNvmReg o || keep o)) s.regs
    hif := { r.hif with perst := s.hif.perst }
    evr := { r.evr with slots := s.evr.slots, torn := s.evr.torn, topSeq := s.evr.topSeq, checkpoint := s.evr.checkpoint }
    sups := mapOver supRest 96 fun u => SupplySt.afterReset u (s.sup u)
    sec := { SecSt.idle with slots := s.sec.slots }
    spm := { SpmSt.idle with flash := s.spm.flash }
    cal := mapOver (fun _ => CalRec.fresh) 25 fun r => CalRec.afterReset (s.calRec r)
    boardIds := s.boardIds }).putEnrolled

/-- The power-on reset (R68): the device is OFF until it releases (R553). -/
def State.powerReset (s : State) : State := s.resetAll fun _ => false

/-- An event record whose slot a power loss caught being written is lost (R544). -/
def State.tearSlot (s : State) (slot : Nat) : State :=
  s.setEvr { s.evr with
    slots := mapSet (fun _ => none) s.evr.slots slot none, torn := slot :: s.evr.torn.filter fun t => t != slot }

/-- RAIL_FAIL (R550, R553): a rail leaves its good window. -/
def execRailFail (torn : Option (Fin 16384)) (s : State) : Host.Outcome State Fault Refusal :=
  done (match torn with
    | some k => s.powerReset.tearSlot k.val
    | none => s.powerReset)

/-! ### Start-up -/

/-- Start-up steps 1 to 4 (R73): the always-on domain, the host interface, the Steward and the Security Engine are on, the identity is read,
the crystal runs. The timestamps of GET_BOOT_LOG are free values. -/
def State.startSteps (s : State) : State :=
  let s := { s with dev := .boot, domains := 0xF }
  let s := s.putWords .secCtl 0 SEC_SERIAL (devidWords Config.deviceId)
  let s := (s.put .secCtl 0 SEC_BOOTRND_BR s.freeVal).drawn
  let r := freshWords 12 (s.put .epcSrc 0 EPC_SRCSTAT_XTAL_OK 1)
  r.1.setMbx { r.1.mbx with bootLog := r.2 }

/-- POR_RELEASE (R73, R538): the power-cycle count increments and the operating seconds resume. -/
def porRelease (s : State) : State :=
  let s := s.put .evr 0 EVR_BOOTS (s.fld .evr 0 EVR_BOOTS + 1)
  (s.put .evr 0 EVR_OPSEC (s.evr.checkpoint + 60)).startSteps

def execPorRelease (s : State) : Host.Outcome State Fault Refusal := done (if s.dev = .off then porRelease s else s)

/-- A system reset (R68): the device enters BOOT; the power-cycle count stands. -/
def State.systemReset (s : State) : State := (s.resetAll isAonReg).startSteps

/-- SYS_RST_N (R68). -/
def execSysRstN (s : State) : Host.Outcome State Fault Refusal := done (if s.powered then s.systemReset else s)

/-- CHIP (R68): a write of 1 to HIF_RESET.CHIP. -/
def execChip (s : State) : Host.Outcome State Fault Refusal := done (s.asHostOn .hifRst 0 State.systemReset)

/-- RECOVERY_RESET (R67): the reset that follows a successful recovery. -/
def execRecoveryReset (s : State) : Host.Outcome State Fault Refusal := done (if s.mbx.resetDue then s.systemReset else s)

/-- Whether start-up step 6 has ended: its domains are on. -/
def State.clocked (s : State) : Bool := s.domains.getLsbD 6

/-- REFCLK_WATCH_END (R73, R80): the PLL locks, SOURCE takes its first value, which is no change of it, and the domains of step 6 and the
clusters that PWR_CTRL requests come up. -/
def refclkWatchEnd (present : Bool) (s : State) : State :=
  let s := { s with epc := { s.epc with source := if present then .refclk else .crystalStart }, domains := s.domains ||| 0xBF0 }
  let s := (s.put .epcSrc 0 EPC_SRCSTAT_PLL_LOCK 1).put .epcSrc 0 EPC_SRCSTAT_REF_PRESENT (bit present)
  if present then (s.put .epcSrc 0 EPC_LEARNED s.freeVal).drawn else s

def execRefclkWatchEnd (present : Bool) (s : State) : Host.Outcome State Fault Refusal :=
  done (if decide (s.dev = .boot) && !s.clocked then refclkWatchEnd present s else s)

/-- Whether a slot's firmware passes (R75, R496). -/
def State.fwTakes (s : State) (x : Option FwInfo) : Option FwInfo :=
  x.filter fun i => decide (s.fld .secCnt 0 SEC_FW_SVN ≤ i.svn.toNat)

/-- The firmware the boot ROM takes: slot A, else slot B (R75). -/
def State.fwChosen (s : State) (a b : Option FwInfo) : Option (Nat × FwInfo) :=
  match s.fwTakes a, s.fwTakes b with
  | some i, _ => some (0, i)
  | none, some i => some (1, i)
  | none, none => none

/-- What GET_FW_INFO reports. -/
def State.putFw (s : State) (slot : Nat) (i : FwInfo) : State :=
  s.setMbx { s.mbx with
    fwSlot := some slot, fwVersion := i.version, fwDigest := digestWords i.digest, fwSvn := i.svn.toNat, fwCommit := i.commit }

/-- SPM_XIP_INFO as the SFDP table gives it (R527); the defaults of the register otherwise. -/
def State.putSfdp (s : State) (x : Option Sfdp) : State :=
  match x with
  | none => s
  | some x =>
    let s := (s.put .spm 0 SPM_STAT_SFDP_OK 1).put .spm 0 SPM_XIP_INFO_DENS_LOG2 x.densLog2.toNat
    let s := (s.put .spm 0 SPM_XIP_INFO_ADDR4 (bit x.addr4)).put .spm 0 SPM_XIP_INFO_PAGE_LOG2 x.pageLog2.toNat
    (s.put .spm 0 SPM_XIP_INFO_SECT_LOG2 x.sectLog2.toNat).put .spm 0 SPM_XIP_INFO_BLK_LOG2 x.blkLog2.toNat

/-- An item of NVM that holds an uncorrectable word is not intact (R537). -/
def State.damage (s : State) : NvmItem → State
  | .event k => s.tearSlot k.val
  | .calCopy r j =>
    let c := s.calRec r.val
    s.setCal r.val { c with copies := setAt c.copies j.val { c.copies.getD j.val ⟨0, false, CalData.factory⟩ with intact := false } }
  | .other => s

/-- One error met by a read of NVM (R537). -/
def State.nvmHit (s : State) (h : NvmHit) : State :=
  if h.uncorrectable then
    let s := (s.put .nvm 0 NVM_UE_VALID 1).put .nvm 0 NVM_UE_OFF h.off.toNat
    (s.raiseOpen .nvm 0 2 3).damage h.item
  else s.bump .nvm 0 NVM_CE_COUNT NVM_CE_OVF

/-- The errors that start-up meets: the correctable ones raise NVM_CE once (R537). -/
def State.nvmHits (s : State) (hs : List NvmHit) : State :=
  let s := hs.foldl State.nvmHit s
  if hs.any fun h => !h.uncorrectable then s.raiseOpen .nvm 0 1 1 else s

/-- EVR_SCAN (R544). -/
def State.evrScan (s : State) : State :=
  (s.put .evr 0 EVR_TORN s.evr.torn.length).setEvr { s.evr with torn := [] }

/-- The Fatal record of a shutdown before a system reset (R462): what it holds beyond type, class and severity is free. -/
def State.shutdownRecord (s : State) : State :=
  if s.flag .thm 0 THM_LAST_VALID then
    let r := freshWords 4 s
    (r.1.put .thm 0 THM_LAST_VALID 0).evrOffer
      { r.1.evrEntry .thm 0 5 5 5 (r.2.getD 0 0) with data := r.2.drop 1 }
  else s

/-- The registers of a supply show the PUV values of NVM, and its setpoint takes the code (R375). -/
def State.supStart (s : State) (u : Nat) : State :=
  let x := s.sup u
  let s := (s.put (supKind u) (supInst u) DPS_PUV_CODE x.puvCode).put (supKind u) (supInst u) DPS_PUV_CONN (bit x.puvConn)
  s.put (supKind u) (supInst u) DPS_V_CODE x.puvCode

/-- Start-up step 11 (R31, R463, R556): the Steward requests every bank, each held SAFE. -/
def State.startBanks (s : State) : State :=
  let s := (List.range 96).foldl State.supStart s
  let s := (List.range 24).foldl (fun s b => s.setBank b { s.bank b with held := true }) s
  ((List.range 4).foldl State.holdFe s).pwrBankWrite .steward 0xFFFFFF

/-- Both slots fail (R75): the STW page records FW_VERIFY at Fatal, and the device enters FAULT with cause FW_VERIFY. -/
def State.fwFails (s : State) : State := { (s.raiseOpen .stw 0 1 5).enterFault 3 (typeOf .stw) with grave := none }

/-- The identity is checked when DEVICE_STATE first becomes SAFE (R466). -/
def State.identity (s : State) (ok : Bool) : State := if ok then s.put .secCtl 0 SEC_STAT_ID_VALID 1 else s.raiseOpen .secCtl 0 1 5

/-- Start-up steps 8 to 11 with a good firmware (R73, R451, R527, R533, R537, R544); where the identity fails the device enters FAULT (R466),
which powers no bank. -/
def State.steward (s : State) (slot : Nat) (i : FwInfo) (idOk : Bool) (sfdp : Option Sfdp) (nvm : List NvmHit) : State :=
  let s := ({ s.putFw slot i with dev := .safe }).identity idOk
  let s := (((s.putSfdp sfdp).bootSettings.nvmHits nvm).evrScan).shutdownRecord
  let s := (List.range 25).foldl State.chooseCopy s
  if idOk then s.calAllTmus.startBanks else s

/-- BOOT_FW_LOADED (R75). -/
def bootFwLoaded (a b : Option FwInfo) (idOk : Bool) (sfdp : Option Sfdp) (nvm : List NvmHit) (s : State) : State :=
  match s.fwChosen a b with
  | some (slot, i) => s.steward slot i idOk sfdp nvm
  | none => s.fwFails

def execBootFwLoaded (a b : Option FwInfo) (idOk : Bool) (sfdp : Option Sfdp) (nvm : List NvmHit) (s : State) :
    Host.Outcome State Fault Refusal :=
  done (if decide (s.dev = .boot) && s.clocked then bootFwLoaded a b idOk sfdp nvm s else s)

/-- A channel whose PUV.CONN is 1 is enabled and connected by the Steward, or reports PUV_REFUSED (R375). -/
def State.puvEnable (s : State) (u : Nat) : State :=
  if (s.sup u).puvConn then
    let (s, r) := s.enWrite ⟨.steward, .vendor⟩ u true
    if r = 0 then (s.connWrite u true).1 else s.raiseOpen (supKind u) (supInst u) 8 2
  else s

/-- FW_SVN follows the image (R496). -/
def State.svnCommit (s : State) : State :=
  if s.mbx.fwCommit && decide (s.fld .secCnt 0 SEC_FW_SVN < s.mbx.fwSvn) then
    { s with nvmJobs := s.nvmJobs ++ [NvmJob.fwSvn s.mbx.fwSvn] }
  else s

/-- STARTUP_READY (R73): step 12. -/
def startupReady (s : State) : State :=
  let s := s.put .pgv 0 PGV_CEIL_CEIL_MW s.imageCeiling
  let s := (List.range 8).foldl State.vendorLoad s
  let s := (List.range 96).foldl State.puvEnable s
  let s := if s.fld .plk 0 PLK_CFG_ROLE = 0 then s else s.plkEnWrite .steward true
  ({ s with dev := .ready }).svnCommit.settle

/-- Whether a bank's power-up is under way. -/
def State.anyRising (s : State) : Bool := (List.range 24).any fun b => decide ((s.bank b).phase = .rising)

def execStartupReady (s : State) : Host.Outcome State Fault Refusal :=
  done (if decide (s.dev = .safe) && !s.anyRising then startupReady s else s)

/-! ### PERST_N and the Function Level Reset -/

/-- PERST_N (R69). -/
def perstN (high : Bool) (s : State) : State :=
  if high then { s with hif := { s.hif with perst := false } }
  else ({ (linkDown s) with hif := { (linkDown s).hif with perst := true } }).functionReset

def execPerstN (high : Bool) (s : State) : Host.Outcome State Fault Refusal := done (perstN high s)

/-- A PSQ at a Function Level Reset (R70, R210, R223): its burst ends and is tainted; one that waits for τ0 does not start. -/
def State.flrPsq (s : State) (n : Nat) : State :=
  if s.psqBurst n then (s.taintAll n 5).endBurst n (((s.psq n).ending).getD (3, 0, 0))
  else if s.psqRunning n then s.startOver n 12
  else s

/-- Every site is released and its retirement ends (R70, R263, R281); a command of the allocator in progress is abandoned. -/
def State.flrSites (s : State) : State :=
  let s := if s.sfb.cmd.isSome then ({ s with sfb := { s.sfb with cmd := none } }).sfbRefused 1 0 else s
  let s := s.freeSitesOf ((List.range 256).filter s.siteBound)
  (List.range 256).foldl
    (fun s i => ((s.put .site i SITE_STATE_RETIRED 0).put .site i SITE_STATE_CAUSE 0).setSite i { s.site i with changes := [] }) s

/-- A supply at its NVM value, as a bank held SAFE has it (R34). -/
def State.supSafe (s : State) (u : Nat) : State :=
  let x := s.sup u
  let s := s.setSup u { x with queue := [], issued := none, wait := 0, starting := false, hold := none }
  let s := (s.put (supKind u) (supInst u) DPS_Q_STAT_RUNNING 0).queueStat u
  let s := if x.puvConn then s else s.openSwitch u
  if s.fld (supKind u) (supInst u) DPS_V_CODE = x.puvCode then s
  else (s.put (supKind u) (supInst u) DPS_V_CODE x.puvCode).supTransition u

/-- Every bank is held SAFE (R34). -/
def State.holdBanks (s : State) : State :=
  let s := (List.range 24).foldl (fun s b => s.setBank b { s.bank b with held := true }) s
  ((List.range 96).foldl State.supSafe s).safeAllPins

/-- A sealed program leaves its PSQ. -/
def State.flrSealed (s : State) (n : Nat) : State := if (s.psq n).bundle.isSome then s.leaveSealed n else s

/-- The slots that hold a SEALED object. -/
def State.sealedSlots (s : State) : List Nat :=
  s.vs.objs.filterMap fun e => if e.2.any fun o => o.kind == .sealedObj then some e.1 else none

/-- A page-table entry after a Function Level Reset (R310). -/
def Pte.afterFlr (e : Pte) : Pte := if e.isSealed then Pte.blank else if e.host then { e with present := false } else e

/-- Sealed content, its objects and keys, and the Lift's staged pages go (R70, R303, R310). -/
def State.flrStore (s : State) : State :=
  let s := (List.range 8).foldl State.flrSealed s.secAbort
  let s := s.sealedSlots.foldl State.freeSlot s
  { s with vs := { s.vs with
    pte := mapEach (fun _ => Pte.blank) (fun _ => Pte.afterFlr) s.vs.pte, xlat := [], staged := [], fetches := [] } }

/-- Sessions and the Vendor token end (R70, R473, R478). -/
def State.flrRoles (s : State) : State := (s.sec.sessions.foldl State.dropSession s).endVendorRole

/-- The Piste is cleared, unlogged, and every quiet window closes (R110, R113). -/
def State.flrPiste (s : State) : State :=
  let s := ({ s with pst := { s.pst with entries := [] } }).put .pst 0 PST_QUIET_OPEN 0
  (List.range 24).foldl State.gapEnds s

/-- DEVICE_STATE after a Function Level Reset (R70, R78). -/
def devAfterFlr : DevState → DevState
  | .ready | .armed | .run | .hold => .ready
  | d => d

/-- FUNCTION_LEVEL_RESET (R70, R504, R517). -/
def flr (s : State) : State :=
  let s := (List.range 8).foldl State.flrPsq s.functionReset
  let s := s.flrSites.flrPiste.flrStore
  let s := ((List.range 24).foldl State.dropMeasures s).holdBanks.flrRoles
  let s := (s.plkDown).put .plk 0 PLK_GEN 0
  ({ s with dev := devAfterFlr s.dev }).settle

def execFunctionLevelReset (s : State) : Host.Outcome State Fault Refusal :=
  done (if s.powered && !s.hif.perst then flr s else s)

end Sys2Proof.Machine
end

