-- ==== Sys2Proof/Machine/Frame.lean ====
section
/-! DEFINITION. MCLK and the frame boundary: the changes of MULT (R84, R432), the counters of MCLK cycles (R255), what a frame boundary
brings (R89, R94, R99, R441, R505), and skew measurements (R99, R100). -/

namespace Sys2Proof.Machine
open Sys2Proof Reg

/-! ### MULT -/

/-- MULT_WRITE (R84). -/
def execMultWrite (value : Nat) (s : State) : Host.Outcome State Fault Refusal :=
  done (s.asHostOn .epcSrc 0 (multWrite (value % 32)))

/-- PLL_RELOCK_DONE (R84, R432): the PLL is locked again and every bin table is measured anew. -/
def pllRelockDone (s : State) : State :=
  if s.epc.relocking then
    let s := s.put .epcSrc 0 EPC_SRCSTAT_PLL_LOCK 1
    ({ s with epc := { s.epc with relocking := false } }).calAllTmus
  else s

def execPllRelockDone (s : State) : Host.Outcome State Fault Refusal := done (pllRelockDone s)

/-! ### Cycles -/

/-- PCN_CYCLE of a sequencer counts while its cluster is on (R255, R53); so do its events that are cycles: RUN_CYCLES, STALL_CYCLES,
WAIT_CYCLES and PAUSE_CYCLES. -/
def State.psqCycles (d : Nat) (s : State) (n : Nat) : State :=
  if !s.clusterOn n then s
  else
    let v := s.fld .pcn n PCN_CYCLE_LO + 2 ^ 32 * s.fld .pcn n PCN_CYCLE_HI + d
    let s := (s.put .pcn n PCN_CYCLE_LO (v % 2 ^ 32)).put .pcn n PCN_CYCLE_HI (v / 2 ^ 32)
    let s := if 2 ^ 64 ≤ v then s.put .pcn n PCN_OVF_CYCLE 1 else s
    let run := s.fld .psq n PSQ_STAT_RUNSTATE
    let s := if run = 0 then s else s.pcn n 1 d
    match run with
    | 4 => s.pcn n 5 d
    | 6 => s.pcn n 6 d
    | 3 => s.pcn n 7 d
    | _ => s

/-- The time spent in a holdover, as HOLD_ELAPSED_MS shows it. -/
def State.holdCycles (d : Nat) (s : State) : State :=
  if s.epc.source = .holdover then
    let h := s.epc.heldFor + d
    { s.put .epcSrc 0 EPC_HOLD_ELAPSED_MS (min 65535 (h / (100000 * s.mult))) with epc := { s.epc with heldFor := h } }
  else s

/-- `d` cycles of MCLK pass, within one frame. -/
def State.cyclesPass (s : State) (d : Nat) : State :=
  let s := { s with clock := s.clock + d }
  ((List.range 8).foldl (State.psqCycles d) (s.pcnChip 0x10 d)).holdCycles d

/-! ### The frame boundary -/

/-- A measured TRIM is put to use at a frame boundary at which no PSQ is running (R99). -/
def State.useTrim (s : State) : State :=
  if s.anyRunning then s else { s with epc := { s.epc with trimUsed := s.fld .epcCtl 0 EPC_SKEW_TRIM } }

/-- The counter wraps to p = 0 of the next frame (R89), with what a frame boundary brings: a realignment that waits (R94), a measured TRIM
(R99), temperature sets that wait (R441), a MIRROR message (R505) and a skew measurement that waits for a TMU (R433). -/
def State.frameBoundary (s : State) : State :=
  let s := (s.nextFrame.tryRealign.useTrim).trySkew
  let s := (List.range 25).foldl State.trySelect s
  if s.mirrorOn then s.sendFlit else s

/-- FRAME_BOUNDARY (R89): the rest of the frame passes. -/
def frameBoundary (s : State) : State :=
  if s.dev = .off then s else (s.cyclesPass (max 1 (s.frameN - s.epc.p))).frameBoundary

def execFrameBoundary (s : State) : Host.Outcome State Fault Refusal := done (frameBoundary s)

/-! ### Skew -/

/-- SKEW_CAL (R99). -/
def execSkewCal (s : State) : Host.Outcome State Fault Refusal := done (s.asHostOn .epcCtl 0 State.wantSkew)

/-- SKEW_MEASURE_DONE (R99, R100): `result` is the measured delay, none where the measurement failed its repeat-and-agree check. -/
def skewMeasureDone (result : Option Nat) (s : State) : State :=
  match s.epc.skewTmu with
  | none => s
  | some t =>
    let s := (s.freeTmu t).put .epcCtl 0 EPC_SKEW_CAL_BUSY 0
    let s := { s with epc := { s.epc with skewTmu := none } }
    match result with
    | some v => s.put .epcCtl 0 EPC_SKEW_TRIM v
    | none => s.raiseOpen .epcCtl 0 5 2

def execSkewMeasureDone (result : Option Nat) (s : State) : Host.Outcome State Fault Refusal :=
  done (skewMeasureDone result s)

end Sys2Proof.Machine
end

