-- ==== Sys2Proof/Machine/Write.lean ====
section
/-! DEFINITION. Register writes: the fields with no behaviour of their own (R9 to R11, R53), the 64-bit quantities (R50), what is sealed
from a writer (R152, R160, R180, R205, R247, R283, R352, R360), and the register writes of the Piste (R105). -/

namespace Sys2Proof.Machine
open Sys2Proof Reg

/-! ### What is sealed from a role -/

/-- Whether a register's access at this offset of a page is closed to a role by a seal. -/
def State.offSealed (s : State) (role : Role) (r : PageRef) : Bool :=
  match r.kind with
  | .pec =>
    ([0x40, 0x44, 0x48, 0x60].contains r.off || within 0x500 0x6FC r.off || decide (0x800 ≤ r.off)) && s.sealedTo r.inst role
  | .psq =>
    (within 0x40 0x58 r.off || within 0x64 0x6C r.off || r.off == 0x98 || within 0x100 0x23C r.off || decide (0x800 ≤ r.off))
      && s.psqSealedTo r.inst
  | .apg =>
    (within 0x40 0xDC r.off || r.off == 0xE4 || r.off == 0xEC || decide (0x800 ≤ r.off)) && s.apgSealed r.inst
  | .fre =>
    ([0x40, 0x44, 0x48, 0x68, 0x6C, 0x70].contains r.off || within 0x100 0x17C r.off || decide (0x400 ≤ r.off)) && s.psqSealedTo r.inst
  | .site =>
    within 0x60 0x9C r.off && s.regSealed r.inst
      && (match s.sitePsq r.inst with | some n => s.psqSealedTo n | none => false)
  | .lde =>
    decide (0x100 ≤ r.off) && decide (r.off < 0x500) && decide ((r.off - 0x100) % 32 < 24)
      && bitAt (s.fld .lde r.inst LDE_SEALED) ((r.off - 0x100) / 32)
      && s.sealedTo (32 * r.inst + (r.off - 0x100) / 32) role
  | _ => false

/-! ### Fields with no behaviour of their own -/

/-- Whether a write of a field is one that R11 reports when the field needs a higher role. -/
def Fld.wouldChange (f : Fld) (old v : Nat) : Bool :=
  match f.acc with
  | .rw | .rwl => v != old
  | .w1c | .w1s | .wo => v != 0
  | .ro | .rc => false

/-- The part of a register write that falls in one field (R9, R11). -/
def State.plainField (who : Asker) (r : PageRef) (value : Word) (s : State) (f : Fld) : State :=
  match f.at? r.off with
  | none => s
  | some j =>
    let old := s.fldAt r.kind r.inst f j
    let v := bitsOf value f.hi f.lo
    if who.role.meets f.need then s.putAt r.kind r.inst f j (f.stored old v)
    else if f.wouldChange old v then s.denied r.page else s

/-- A register write to the fields of an offset that have no behaviour of their own; a gated bank's shadow takes it (R45, R520). -/
def State.plainStore (s : State) (who : Asker) (r : PageRef) (value : Word) : State :=
  let s := ((fieldsOf r.kind).filter fun f => !f.own).foldl (State.plainField who r value) s
  match bankOfPage r.kind r.inst with
  | some b => s.touchShadow b
  | none => s

/-- The PPMU force of a channel has been written: a major transition of its output is held (R357), and what is out of range shows (R122). -/
def State.ppmuForced (s : State) (k old : Nat) : State :=
  let new := s.fld .pec k PEC_PPMU_FORCE_VALUE
  (if majorStep old new then s.holdLevel (k / 32) (8 * (k % 32) + 6) old else s).relimit k

/-- HVC_CLAMP.ILIM is stored within the limit of the board settings (R534). -/
def State.hvcLimit (s : State) (b : Nat) : State :=
  match (s.sup (72 + b)).ilimMax with
  | some m => s.put .hvc b HVC_CLAMP_ILIM (min m (s.fld .hvc b HVC_CLAMP_ILIM))
  | none => s

/-- What a register write that has been stored brings with it; `was` is the state before it. -/
def State.written (s was : State) (r : PageRef) : State :=
  match r.kind, r.off with
  | .pec, 0x48 => s.clampWritten r.inst
  | .pec, 0x50 => s.relimit r.inst
  | .pec, 0x54 => s.ppmuForced r.inst (was.fld .pec r.inst PEC_PPMU_FORCE_VALUE)
  | .hvc, 0x48 => s.hvcLimit r.inst
  | .msixTab, _ => s.release
  | .epcSrc, 0x40 => s.trySwitch
  | .cal, 0x80 =>
    if s.flag .cal 0 CAL_FACT_USE_FACTORY == was.flag .cal 0 CAL_FACT_USE_FACTORY then s
    else (List.range 25).foldl State.recompute s
  | .thm, 0x54 => s.pullLevers
  | _, _ => s

/-- A register write to the plain fields of an offset, with what it brings. -/
def State.plainWrite (s : State) (who : Asker) (r : PageRef) (value : Word) : State := (s.plainStore who r value).written s r

/-! ### Writes that a supply or a bank page judges -/

/-- The first refusal among the writes of one register, with the state after all of them (R105). -/
def Wrote.andThen (w : Wrote) (f : State → Wrote) : Wrote :=
  match f w.1 with
  | (s, r) => (s, if w.2 = 0 then r else w.2)

/-- A write of DPS_CTRL or HVC_CTRL by a source: SENSE, CONN and EN where their value changes, RELEASE and SENSE_RETRY where written 1. -/
def State.supCtrlWrite (s : State) (who : Asker) (u : Nat) (value : Word) : Wrote :=
  let k := supKind u
  let i := supInst u
  let w : Wrote := if value.getLsbD 31 then s.releaseWrite who u else s.took
  let w := w.andThen fun s =>
    if u < 72 && value.getLsbD 30 then (s.put .dps u DPS_STAT_SENSE_LOST 0).took else s.took
  let w := w.andThen fun s =>
    if u < 72 && value.getLsbD 4 != s.flag .dps u DPS_CTRL_SENSE then s.senseWrite u (value.getLsbD 4) else s.took
  let w := w.andThen fun s =>
    if value.getLsbD 1 != s.flag k i DPS_CTRL_CONN || (value.getLsbD 1 && s.faultHeld u) then s.connWrite u (value.getLsbD 1)
    else s.took
  let w := w.andThen fun s =>
    if value.getLsbD 0 != s.flag k i DPS_CTRL_EN then s.enWrite who u (value.getLsbD 0) else s.took
  w.andThen fun s =>
    if u < 72 then s.took else (s.plainWrite who ⟨.hvc, u - 72, pageBase .hvc (u - 72), pageBase .hvc (u - 72), 0x40⟩ value).took

/-- A register write of a DPS page or an HVC page by a source; none where the offset holds plain fields only. -/
def State.supRegWrite (s : State) (who : Asker) (u off : Nat) (value : Word) : Option Wrote :=
  match off with
  | 0x40 => some (s.supCtrlWrite who u value)
  | 0x44 => some (s.voltWrite u (bitsOf value 19 0))
  | 0x48 => if u < 72 then some (s.ilimWrite who u (bitsOf value 9 0)) else none
  | 0x4C => if u < 72 then some (s.rangeWrite u (bitsOf value 2 0)) else none
  | 0x50 => if u < 72 && u % 3 == 0 then some (s.gangWrite (u / 3) (bitsOf value 1 0)) else none
  | 0x54 => some (s.puvWrite who u value)
  | 0x58 => some (s.pushWrite u value)
  | 0x5C => some (s.qctrlWrite u value)
  | _ => none

/-- A register write of an ACQ page by a source (R402, R406, R411, R418). -/
def State.acqRegWrite (s : State) (b off : Nat) (value : Word) : Option Wrote :=
  match off with
  | 0x60 => some (s.commitWrite b value)
  | 0x6C => some (s.relWrite b value)
  | 0x100 => some (s.capCtrlWrite b value)
  | 0x140 => some (s.segCurWrite b value)
  | _ => if isCapReg off then some (s.capRegWrite b off value) else none

/-- A register write of a GMN page by a source (R379, R380, R384). -/
def State.gmnRegWrite (s : State) (b off : Nat) (value : Word) : Option Wrote :=
  if off = 0x5C then some (s.blankWrite b value)
  else if 0x100 ≤ off ∧ off < 0x238 then
    some (if off % 8 = 0 then s.winWrite b ((off - 0x100) / 8) value else s.gmnCfgWrite b ((off - 0x100) / 8) value)
  else none

/-- A level of the LDE page by offset. -/
def State.ldeRegWrite (s : State) (who : Asker) (b off : Nat) (value : Word) : Option Wrote :=
  if 0x100 ≤ off ∧ off < 0x500 ∧ (off - 0x100) % 32 < 24 then
    some (s.levelWrite who (32 * b + (off - 0x100) / 32) ((off - 0x100) % 32 / 4) (bitsOf value 19 0))
  else none

/-- A register write of a PEC page by a source: IDLE_HOLD and CONN act beside the plain fields of their words. -/
def State.pecRegWrite (s : State) (who : Asker) (r : PageRef) (value : Word) : Option Wrote :=
  match r.off with
  | 0x40 =>
    some (if s.sealedTo r.inst who.role then s.deniedAt .pec r.inst
      else Wrote.andThen (s.plainWrite who r value).took fun s => s.idleHoldWrite who r.inst (value.getLsbD 10))
  | 0x50 =>
    some (Wrote.andThen (s.plainWrite who r value).took fun s =>
      if value.getLsbD 31 == s.flag .pec r.inst PEC_PPMU_CONN then s.took else s.ppmuWrite r.inst (value.getLsbD 31))
  | _ => none

/-- PGV_CEIL by a source: the ceiling, then LOCK (R30, R9). -/
def State.ceilRegWrite (s : State) (who : Asker) (value : Word) : Wrote :=
  Wrote.andThen (s.ceilWrite who (bitsOf value 15 0)) fun s =>
    (if value.getLsbD 31 then s.put .pgv 0 PGV_CEIL_LOCK 1 else s).took

/-- The registers of the pages a REG_WRITE may target whose writes are judged (R105). -/
def State.judgedWrite (s : State) (who : Asker) (r : PageRef) (value : Word) : Option Wrote :=
  match r.kind with
  | .bnk => if r.off = 0x40 then some (s.modeWrite who r.inst (bitsOf value 1 0)) else none
  | .dps => s.supRegWrite who r.inst r.off value
  | .hvc => s.supRegWrite who (72 + r.inst) r.off value
  | .acq => s.acqRegWrite r.inst r.off value
  | .gmn => s.gmnRegWrite r.inst r.off value
  | .lde => s.ldeRegWrite who r.inst r.off value
  | .pec => s.pecRegWrite who r value
  | .pgv => if r.off = 0x40 then some (s.ceilRegWrite who value) else none
  | _ => none

/-- A register write of the Piste to a page R105 allows, in the committing role. -/
def State.pisteWrite (s : State) (who : Asker) (r : PageRef) (value : Word) : Wrote :=
  if !who.role.meets (wrMin r.kind) then s.deniedAt r.kind r.inst
  else
    match s.judgedWrite who r value with
    | some w => w
    | none => if s.offSealed who.role r then s.deniedAt r.kind r.inst else (s.plainWrite who r value).took

/-- REG_WRITE (R105): word offset SUB of page TARGET; the reason word tells a refusal. -/
def regWrite (e : PstEntry) (s : State) : State × PstEnd :=
  match pageOf (e.target * 0x1000 + 4 * e.sub) with
  | none => (s, .took 0)
  | some r =>
    match s.pisteWrite ⟨.piste, e.role⟩ r e.arg with
    | (s, 0) => (s, .took 0)
    | (s, w) => (s, .refused (BitVec.ofNat 32 w))

def execRegWrite (s : State) : Host.Outcome State Fault Refusal := done (s.pisteAct 10 regWrite)

/-! ### 64-bit quantities -/

/-- Whether the low word of a 64-bit RW quantity lies at an offset of a page (R50): a start value, seed or polynomial of the APG, a
performance counter, FRE_LIM_MASK, TMU_EPOCH, EVR_WALL and EVR_CURSOR. -/
def lowWordAt (k : PageKind) (off : Nat) : Bool :=
  match k with
  | .apg => decide (0x60 ≤ off) && decide (off < 0xE0) && decide ((off - 0x60) % 0x20 < 0x18) && off % 8 == 0
  | .pcn => off == 0x50 || (decide (0x64 ≤ off) && decide (off < 0xE4) && (off - 0x64) % 16 == 0)
  | .pcnChip => decide (0x64 ≤ off) && decide (off < 0xE4) && (off - 0x64) % 16 == 0
  | .fre => off == 0x58
  | .tmu => off == 0x18
  | .evr => off == 0x5C || off == 0x78
  | _ => false

/-- Whether the high word of such a quantity lies at an offset. -/
def highWordAt (k : PageKind) (off : Nat) : Bool := decide (4 ≤ off) && lowWordAt k (off - 4)

/-- A host access to a register that its role may make: not denied by the page's minimum or by a seal (R11, R44). -/
def State.hostAllowed (s : State) (r : PageRef) (f : State → State) : State :=
  if s.role.meets (wrMin r.kind) && !s.offSealed s.role r then f s else s.denied r.page

/-- LOW_WORD_WRITE (R50): the low word is held in its buffer. -/
def lowWordWrite (r : PageRef) (value : Word) (s : State) : State :=
  match r.kind with
  | .apg => apgRegisterWrite r.inst r.off value s
  | .tmu => tmuConfigWrite r.inst r.off value s
  | _ => s.holdLow (r.base + r.off) value

def execLowWordWrite (off : Nat) (value : Word) (s : State) : Host.Outcome State Fault Refusal :=
  done (match pageOf off with
    | some r => if s.live && lowWordAt r.kind r.off then s.hostAllowed r (lowWordWrite r value) else s
    | none => s)

/-- HIGH_WORD_WRITE (R50): both words apply; the high word alone where none is held. -/
def highWordWrite (r : PageRef) (value : Word) (s : State) : State :=
  match r.kind with
  | .apg => apgRegisterWrite r.inst r.off value s
  | .tmu => tmuConfigWrite r.inst r.off value s
  | .evr => if r.off = 0x60 then evrWall value s else evrCursorHi value s
  | .fre => s.applyHigh (r.base + r.off - 4) value
  | _ => s.applyHigh (r.base + r.off - 4) (if r.off = 0x54 then value else value &&& 0xFFFF)

def execHighWordWrite (off : Nat) (value : Word) (s : State) : Host.Outcome State Fault Refusal :=
  done (match pageOf off with
    | some r => if s.live && highWordAt r.kind r.off then s.hostAllowed r (highWordWrite r value) else s
    | none => s)

/-! ### Host writes -/

/-- The counter that shares a word with its sticky overflow bit, and that bit (R53). -/
def counterAt (k : PageKind) (off : Nat) : Option (Fld × Fld) :=
  let here := (fieldsOf k).filter fun f => f.off == off
  match here.find? fun f => f.acc == .w1c && f.lo == 31, here.find? fun f => f.acc == .rw && f.lo == 0 with
  | some o, some c => some (c, o)
  | _, _ => none

/-- The increment that a counter has in the cycle in which it is written (R53). -/
def State.collide (s : State) (r : PageRef) (inc : Nat) : State :=
  if inc = 0 then s
  else
    match counterAt r.kind r.off with
    | some (c, o) => s.bumpBy r.kind r.inst c o inc
    | none => s

/-- SENSE of DPS_CTRL, and the registers of the site window, which the host writes as plain fields (R366, R332); else the plain fields. -/
def State.hostPlain (s : State) (r : PageRef) (value : Word) : State :=
  match r.kind, r.off with
  | .dps, 0x40 =>
    if value.getLsbD 4 == s.flag .dps r.inst DPS_CTRL_SENSE then s else (s.senseWrite r.inst (value.getLsbD 4)).1
  | .freSite, 0x5C => s.setSite s.freSite { s.site s.freSite with bmapHandle := value }
  | .freSite, 0x60 => s.setSite s.freSite { s.site s.freSite with bmapOff := value }
  | .freG, 0x40 | .freG, 0x44 => if s.flag .freG 0 FRE_RING_CFG_EN then s else s.plainWrite s.host r value
  | .freG, 0x48 =>
    if s.flag .freG 0 FRE_RING_CFG_EN then s.put .freG 0 FRE_RING_CFG_EN (bitsOf value 31 31) else s.plainWrite s.host r value
  | .stw, 0x40 =>
    if 1 ≤ bitsOf value 31 16 ∧ bitsOf value 31 16 ≤ 4 then s else s.mbxUnknown (bitsOf value 31 16) (bitsOf value 15 0)
  | .secCtl, 0x40 =>
    if 1 ≤ bitsOf value 31 16 ∧ bitsOf value 31 16 ≤ 4 then s else s.secCmd (value.extractLsb' 0 16) fun s => (s, 1)
  | _, _ => s.plainWrite s.host r value

/-- REGISTER_WRITE at a resolved offset: header registers are rows of their own; 64-bit quantities follow R50; `inc` is the increment of a
counter in the same cycle. -/
def registerWriteAt (r : PageRef) (value : Word) (inc : Nat) (s : State) : State :=
  if hasHeader r.kind && decide (r.base + r.off < r.page + 0x40) then
    (if s.role.meets (wrMin r.kind) then s else s.denied r.page)
  else if lowWordAt r.kind r.off then s.hostAllowed r (lowWordWrite r value)
  else if highWordAt r.kind r.off then s.hostAllowed r (highWordWrite r value)
  else s.hostAllowed r fun s => (s.hostPlain r value).collide r inc

/-- REGISTER_WRITE (R9 to R11, R45, R53, R54): a write to a reserved offset is ignored (R45). -/
def registerWrite (off : Nat) (value : Word) (inc : Nat) (s : State) : State :=
  match pageOf off with
  | some r => if s.live && off % 4 == 0 then registerWriteAt r value inc s else s
  | none => s

def execRegisterWrite (off : Nat) (value : Word) (inc : Nat) (s : State) : Host.Outcome State Fault Refusal :=
  done (registerWrite off value inc s)

end Sys2Proof.Machine
end

