-- ==== Sys2Proof/Machine/BlockReset.lean ====
section
/-! DEFINITION. The block reset of a page (R46, R68, R71): whether the page is busy, what a block reset keeps, and what it brings with it
on each kind of page. -/

namespace Sys2Proof.Machine
open Sys2Proof Reg

/-! ### STAT.BUSY -/

/-- Whether an instrument of a bank has a request, an item or a capture. -/
def State.measBusy (s : State) (b : Nat) : Bool :=
  !(s.measOf b).reqs.isEmpty || (s.measOf b).run.isSome || (s.measOf b).cap.isSome

/-- Whether a supply drains its queue or is about to. -/
def State.queueBusy (s : State) (u : Nat) : Bool := s.flag (supKind u) (supInst u) DPS_Q_STAT_RUNNING || (s.sup u).starting

/-- STAT.BUSY (R46): the block serves a running PSQ or a queued operation. -/
def State.pageBusy (s : State) (k : PageKind) (i : Nat) : Bool :=
  match k with
  | .stw => s.mbx.running.isSome
  | .spm => s.spm.job.isSome || !s.spm.ops.isEmpty
  | .evr => !s.evr.queue.isEmpty || s.evr.clearing.isSome
  | .nvm => !s.nvmJobs.isEmpty
  | .secLoad => s.sec.job.isSome
  | .pst => !s.pst.entries.isEmpty
  | .epcSrc => s.epc.relocking
  | .epcCtl => s.epc.skewWait || s.epc.skewTmu.isSome
  | .tmu =>
    [i / 2 * 2, i / 2 * 2 + 1].any fun t => s.tmuBusy t || s.tmuState t == 4
  | .cal => s.fld .cal 0 CAL_RUNNING != 0
  | .plk => s.flag .plk 0 PLK_STAT_FEEDING || s.flag .plk 0 PLK_STAT_SERVING
  | .sfb => s.sfb.cmd.isSome
  | .ovl => s.ovlDma.isSome || s.anyRunning
  | .psq => s.psqRunning i || (s.psq i).load.isSome
  | .mce => s.psqRunning i || (s.mceOf i).job.isSome
  | .apg | .pcn => s.psqRunning i
  | .site => match s.sitePsq i with | some n => s.psqRunning n | none => false
  | .vmc => s.vs.job.isSome || s.anyRunning
  | .lftG => s.vs.mapCmd.isSome || !s.vs.fetches.isEmpty || s.anyRunning
  | .lft => s.psqRunning i || (s.psq i).load.isSome
  | .freG => !s.fre.store.isEmpty || s.anyRunning
  | .fre => s.psqRunning i || s.fld .fre i FRE_STATE_PHASE != 0
  | .freSite => s.anyRunning
  | .bnk =>
    s.bankBusy i || s.flag .bnk i BNK_MODE_TRANSITION || decide ((s.bank i).phase = .rising) || decide ((s.bank i).phase = .falling)
  | .dps => s.bankBusy (i / 3) || s.queueBusy i
  | .hvc => s.bankBusy i || s.queueBusy (72 + i)
  | .pmu | .acq => s.measBusy i
  | .gmn | .lde => s.bankBusy i
  | .pec => s.pinRunning i
  | .hifId | .hifRst | .pgv | .secCtl | .secDbg | .secCnt | .thm | .gmnSum | .pcnChip | .msixTab | .msixPba | .mceWin => false

/-! ### What a block reset keeps -/

/-- The offset of a page's word with the response of its last command, which a block reset clears; the other read-only fields show live
state and stay. -/
def respOffs : PageKind → List Nat
  | .stw => [0x44]
  | .pst => [0x54]
  | .psq => [0x5C, 0x60]
  | .mce => [0x4C]
  | .sfb => [0x48]
  | .ovl => [0x54]
  | .vmc => [0x48]
  | .lftG => [0x5C]
  | .acq => [0x68, 0x108]
  | .tmu => [0x08]
  | .secCtl => [0x44]
  | .secLoad => [0x50]
  | .plk => [0x48]
  | .spm => [0x4C, 0x68]
  | .pgv => [0x4C]
  | _ => []

/-- Registers that a block reset leaves: those whose chapter says so (R125, R267, R377), those a page's lock holds until a reset that clears
it (R9), those counted or held since power-on, and those whose change R84, R88, R312, R350 or R374 binds to conditions of their own. -/
def State.survives (s : State) (k : PageKind) (i off : Nat) : Bool :=
  match k with
  | .bnk => off == 0x40
  | .site => within 0x60 0x9C off || off == 0x40
  | .hifRst => true
  | .epcSrc => off == 0x44
  | .epcCtl => off == 0x40
  | .dps => off == 0x54 || (off == 0x44 && s.faultHeld i)
  | .hvc => off == 0x54 || (off == 0x44 && s.faultHeld (72 + i))
  | .pgv => off == 0x40 && s.flag .pgv 0 PGV_CEIL_LOCK
  | .thm => (within 0x40 0x50 off && s.flag .thm 0 THM_CFG_LOCK) || off == 0x58
  | .evr => within 0x5C 0x60 off
  | .freG => off == 0x50
  | .lft => within 0x40 0x5C off && s.flag .psq i PSQ_STAT_LOADED
  | .lftG => off == 0x64
  | .lde => decide (0x100 ≤ off)
  | .plk => off == 0x40
  | _ => false

/-- Whether a block reset returns a field to its reset value: what can be written, what clears on reading, a response, and what shares its
word with a W1C bit [31]. -/
def Fld.cleared (f : Fld) (k : PageKind) (off : Nat) : Bool :=
  match f.acc with
  | .rw | .rwl | .w1c | .w1s | .rc => !(f == EPC_SRC_MULT)
  | .wo => false
  | .ro =>
    (respOffs k).contains off || ((fieldsOf k).any fun g => g.acc == .w1c && g.lo == 31 && (g.at? off).isSome)

/-- The bits of a word that a block reset returns to their reset value. -/
def clearMask (k : PageKind) (off : Nat) : Word :=
  (fieldsOf k).foldl (fun m f => match f.at? off with
    | some _ => if f.cleared k off then m ||| maskOf f.hi f.lo else m
    | none => m) 0

/-- One listed word at a block reset of instance `i` of a kind in a role. -/
def State.clearWord (k : PageKind) (i : Nat) (role : Role) (s : State) (e : Nat × Word) : State :=
  match pageOf e.1 with
  | none => s
  | some r =>
    if r.kind = k ∧ r.inst = i ∧ r.page + 0x40 ≤ e.1 ∧ !s.survives k i r.off ∧ !s.offSealed role r then
      let m := clearMask k r.off
      s.wr e.1 ((s.rd e.1 &&& ~~~m) ||| (regReset e.1 &&& m))
    else s

/-- The block registers of a page back at their reset values, as far as they do not survive and are open to the role. -/
def State.clearRegs (s : State) (k : PageKind) (i : Nat) (role : Role) : State := s.regs.foldl (State.clearWord k i role) s

/-! ### What a block reset brings with it -/

/-- The registers that take their reset value from the board settings image (R98, R101, R498). -/
def State.pageSettings (s : State) (k : PageKind) : State :=
  match s.settings.bind imageRecs, k with
  | some rs, .epcCtl =>
    let s := s.applySync rs
    match recNum rs 4 with
    | some v => s.setSeed v
    | none => s
  | some rs, .plk => match recNum rs 2 with
    | some v => if v < 3 then s.roleWrite v else s
    | none => s
  | _, _ => s

/-- The six levels of every lane of a bank at their reset codes, sealed lanes apart (R359, R360). -/
def State.resetLevels (s : State) (b : Nat) (role : Role) : State :=
  (List.range 32).foldl (fun s l =>
    if s.sealedTo (32 * b + l) role then s
    else (List.range 6).foldl (fun s j =>
      s.levelStore (32 * b + l) j (bitsOf (regReset (fldOff .lde b (lvlFld j) l)) 19 0)) s) s

/-- A supply at a block reset of its page: disabled, its queue empty, its setpoint at the reset code unless it is held (R377); the gang
that the page of DPS b.0 joins is dissolved. -/
def State.resetSupply (s : State) (u : Nat) : State :=
  let s := (s.disableSup u).flushQueue u
  let s := s.setSup u { s.sup u with issued := none }
  let s := if s.faultHeld u then s
    else s.setOne (bitsOf (regReset (fldOff (supKind u) (supInst u) DPS_V_CODE 0)) 19 0) u
  if u < 72 && u % 3 == 0 then (s.put .dps (u + 1) DPS_STAT_FOLLOWER 0).put .dps (u + 2) DPS_STAT_FOLLOWER 0 else s

/-- A channel at a block reset of its page: the PPMU leaves, the edge table is open to the role and cleared. -/
def State.resetChannel (s : State) (k : Nat) (role : Role) : State :=
  let s := (s.ppmuWrite k false).1
  if s.sealedTo k role then s else { s with edgeTab := mapDrop (fun e => e / 2048 == k) s.edgeTab }

/-- What a block reset of a page does beside its registers, before them. -/
def State.resetBefore (s : State) (k : PageKind) (i : Nat) (role : Role) : State :=
  match k with
  | .lde => s.resetLevels i role
  | .dps => s.resetSupply i
  | .hvc => s.resetSupply (72 + i)
  | .pec => s.resetChannel i role
  | .plk => s.plkEnWrite .host false
  | .site => if s.flag .site i SITE_CTRL_MASK then siteMask i false s else s
  | .gmn => (List.range 39).foldl (fun s m => s.setGuard (39 * i + m) ⟨false, false⟩) s
  | .lftG => lftStageWrite 0 s
  | .freSite => s.sites.foldl (fun s e => s.setSite e.1 { s.site e.1 with bmapHandle := 0, bmapOff := 0 }) s
  | .apg =>
    { s with scramble := mapDrop (fun e => e / 4096 == i) s.scramble, topo := mapDrop (fun e => e / 2048 == i) s.topo }
  | .psq => s.put .psq i PSQ_STAT_AJ_PEND 0
  | _ => s

/-- PLK_CFG beside EN and ROLE, whose reset value the settings give. -/
def State.resetPlkCfg (s : State) : State :=
  (((s.put .plk 0 PLK_CFG_FEED_EN 1).put .plk 0 PLK_CFG_SHORT_ACT 0).put .plk 0 PLK_CFG_FEED_MB 28000).roleWrite 0

/-- The lanes of a bank whose SELFCHK_FAIL a block reset of the BNK page clears. -/
def State.clearSelfCheck (s : State) (b : Nat) : State :=
  (List.range 32).foldl (fun s l => s.put .pec (32 * b + l) PEC_STAT_SELFCHK_FAIL 0) s

/-- What it does after them. -/
def State.resetAfter (s : State) (k : PageKind) (i : Nat) : State :=
  match k with
  | .bnk => s.clearSelfCheck i
  | .lde => s.relimitBank i
  | .pec => s.clampWritten i
  | .dps => s.recharge (i / 3)
  | .hvc => s.recharge i
  | .plk => s.resetPlkCfg.pageSettings .plk
  | .epcCtl => s.pageSettings .epcCtl
  | .epcSrc => s.trySwitch
  | .cal => (List.range 25).foldl State.recompute s
  | .thm => s.pullLevers
  | .apg =>
    -- the working state returns to its reset values with the start values (R247)
    s.clearBlock (baseOf .apg i) fun o => decide (o < 0x40)
  | _ => s

/-- A block reset of one page in the role that asks for it. -/
def State.blockReset (s : State) (k : PageKind) (i : Nat) (role : Role) : State :=
  let s := ((s.resetBefore k i role).clearRegs k i role).resetAfter k i
  match bankOfPage k i with
  | some b => s.touchShadow b
  | none => s

/-- BLK_RESET at a page (R71): RESET_BUSY while it is busy; ACCESS_DENIED on a sealed APG page (R247); a TMU page holds two units. -/
def blkResetAt (r : PageRef) (s : State) : State :=
  if s.pageBusy r.kind r.inst then s.raiseOpen r.kind r.inst 255 1
  else
    match r.kind with
    | .apg => if s.apgSealed r.inst then s.denied r.page else s.blockReset .apg r.inst s.role
    | .tmu => (s.blockReset .tmu r.inst s.role).blockReset .tmu (r.inst + 1) s.role
    | k => s.blockReset k r.inst s.role

def blkReset (page : Nat) (s : State) : State :=
  match headerPage page with
  | some r => s.asHost page (wrMin r.kind) (blkResetAt r)
  | none => s

/-- BLK_RESET (R71). -/
def execBlkReset (page : Nat) (s : State) : Host.Outcome State Fault Refusal := done (blkReset page s)

end Sys2Proof.Machine
end

