-- ==== Sys2Proof/Machine/Read.lean ====
section
/-! DEFINITION. Register reads: the words that show live state (the header and the read-only registers of each page), what is closed to a
role (R11, R16, R44, R251, R352), the shadows of 64-bit quantities (R48, R49) and the field that clears on reading (R52). -/

namespace Sys2Proof.Machine
open Sys2Proof Reg

/-- The word with the bits of a mask given by a number, the others kept. -/
def masked (w : Word) (mask v : Nat) : Word := (w &&& ~~~BitVec.ofNat 32 mask) ||| (BitVec.ofNat 32 v &&& BitVec.ofNat 32 mask)

/-- The number whose bit `i` tells whether `p i`, for `i` below `n`. -/
def bitMask (n : Nat) (p : Nat → Bool) : Nat := ((List.range n).map fun i => bit (p i) * 2 ^ i).foldr (· + ·) 0

/-! ### The common header -/

/-- STAT.GATED: the power domain of the page is off (R45, R46, R554). -/
def State.pageGated (s : State) (k : PageKind) (i : Nat) : Bool :=
  match k with
  | .psq | .mce | .apg | .pcn | .lft | .fre => !s.clusterOn i
  | .plk => !s.domains.getLsbD 10
  | k =>
    match bankOfPage k i with
    | some b => s.gatedSpan b
    | none => false

/-- The unacknowledged class of the highest level, the most recent among equals. -/
def topUnacked : List (Nat × Nat) → Option (Nat × Nat)
  | [] => none
  | e :: r =>
    match topUnacked r with
    | some m => if e.2 < m.2 then some m else some e
    | none => some e

/-- FLT_LEVEL. -/
def PageFault.levelWord (pf : PageFault) : Word :=
  match topUnacked pf.unacked with
  | .none => 0
  | .some (c, l) => BitVec.ofNat 32 (c % 256 * 2 ^ 24 + min 255 pf.unacked.length * 2 ^ 16 + 2 ^ 7 + l % 8)

/-- PAGE_PRIV as an access in a role reads it. -/
def privWord (k : PageKind) (role : Role) : Word :=
  BitVec.ofNat 32 (role.code * 64 + rdMin k * 16 + wrMin k * 4 + bit (fieldRules k) * 2)

/-- The bits [31:29] of STAT. -/
def State.statTop (s : State) (r : PageRef) : Nat :=
  let busy := match r.kind with
    | .tmu => s.pageBusy .tmu r.inst || s.pageBusy .tmu (r.inst + 1)
    | k => s.pageBusy k r.inst
  bit (!(s.fault r.page).unacked.isEmpty) * 2 ^ 31 + bit busy * 2 ^ 30 + bit (s.pageGated r.kind r.inst) * 2 ^ 29

/-- A header register (the tables after R46); STAT below bit 29 and CTRL are the block's own. -/
def State.headerWord (s : State) (r : PageRef) (own : Word) (role : Role) : Word :=
  match r.off with
  | 0x00 => BitVec.ofNat 32 (typeOf r.kind * 2 ^ 16 + instanceOf r.kind r.inst)
  | 0x04 => 0x0100B000
  | 0x08 => 0
  | 0x0C => 0
  | 0x14 => masked own 0xF0000000 (s.statTop r)
  | 0x20 => 0
  | 0x28 => (s.fault r.page).levelWord
  | 0x2C => 0
  | 0x34 => s.histWord r.page
  | 0x38 => privWord r.kind role
  | 0x3C => 0
  | _ => own

/-! ### Chapters 2 and 3 -/

/-- The code of a device state (R77). -/
def DevState.code : DevState → Nat
  | .off => 0
  | .boot => 1
  | .safe => 2
  | .ready => 3
  | .armed => 4
  | .run => 5
  | .hold => 6
  | .fault => 7

/-- The identity, clock-source, epoch and Piste pages. -/
def State.timeWord (s : State) (k : PageKind) (off : Nat) (own : Word) : Word :=
  match k, off with
  | .hifId, 0x44 => BitVec.ofNat 32 (s.causeType * 2 ^ 16 + s.cause % 256 * 2 ^ 8 + s.dev.code)
  | .hifRst, 0x88 => s.domains.extractLsb' 0 32
  | .hifRst, 0x8C => BitVec.ofNat 32 (s.domains.toNat / 2 ^ 32)
  | .epcSrc, 0x40 => masked own 3 s.epc.source.code
  | .epcCtl, 0x50 => s.epc.f.extractLsb' 0 32
  | .epcCtl, 0x54 => BitVec.ofNat 32 (s.epc.p % 2 ^ 16 * 2 ^ 16 + s.epc.f.toNat / 2 ^ 32)
  | .epcCtl, 0x58 =>
    masked own 0xE000FFFF (bit s.epc.valid * 2 ^ 31 + bit (s.epc.source == .holdover) * 2 ^ 30
      + bit (s.epc.realign.isSome || s.epc.armWait) * 2 ^ 29 + s.frameN)
  | .pst, 0x58 => BitVec.ofNat 32 s.pst.entries.length
  | .pst, 0x60 => match s.pst.entries with | e :: _ => BitVec.ofNat 32 e.f | [] => 0xFFFFFFFF
  | .pst, 0x64 => match s.pst.entries with | e :: _ => BitVec.ofNat 32 (e.p % 2 ^ 16 * 2 ^ 16 + e.f / 2 ^ 32) | [] => 0xFFFFFFFF
  | .pst, 0x74 => s.logWord
  | _, _ => own

/-! ### Power, banks, pins, supplies and guards -/

/-- PGV_BANK_CHARGE of a bank. -/
def State.bankChargeWord (s : State) (b : Nat) : Word :=
  BitVec.ofNat 32 (bit (s.gatedSpan b) * 2 ^ 18 + s.fld .bnk b BNK_MODE_ACTIVE * 2 ^ 16 + (s.bank b).charge % 2 ^ 16)

/-- PGV_CHARGED. -/
def State.chargedWord (s : State) : Word :=
  BitVec.ofNat 32 ((s.fld .pgv 0 PGV_CEIL_CEIL_MW - s.charged) % 2 ^ 16 * 2 ^ 16 + s.charged % 2 ^ 16)

/-- The bits of PEC_STAT that follow other state: TERM_OFF (R141), THR_INV (R124), PIN_STATE (R116). -/
def State.pecStat (s : State) (k : Nat) : Nat :=
  bit (s.fld .pec k PEC_CFG_TERM_MODE == 1 && s.fld .bnk (k / 32) BNK_MODE_ACTIVE == 2) * 32
    + bit (decide (s.level k 2 < s.level k 3)) * 16 + s.pinState k

/-- The pages of the banks. PEC_CMP_LIVE follows the pad, which the model does not hold: a free value, 0 while the bank is gated (R48). -/
def State.bankWord (s : State) (k : PageKind) (i off : Nat) (own : Word) : Word :=
  match k, off with
  | .pgv, 0x44 => s.chargedWord
  | .pgv, o => if 0x60 ≤ o ∧ o < 0xC0 then s.bankChargeWord ((o - 0x60) / 4) else own
  | .bnk, 0x48 => BitVec.ofNat 32 (bitMask 32 fun l => s.pinSafe (32 * i + l))
  | .bnk, 0x64 => BitVec.ofNat 32 (bitMask 32 fun l => s.rd (baseOf .pec (32 * i + l) + 0x58) != 0)
  | .pec, 0x14 => masked own 0x33 (s.pecStat i)
  | .pec, 0x50 => masked own 0x4000 (bit (s.ppmuHeld i) * 2 ^ 14)
  | .pec, 0x60 => if s.gatedSpan (i / 32) then 0 else s.freeWord &&& 3
  | .gmn, 0x50 => BitVec.ofNat 32 (bitMask 32 fun m => s.gmnBlanked i m)
  | .gmn, 0x54 => BitVec.ofNat 32 (bitMask 7 fun m => s.gmnBlanked i (32 + m))
  | .gmn, 0x64 => BitVec.ofNat 32 (s.fastOthers i 39)
  | .gmnSum, 0x44 =>
    BitVec.ofNat 32 (bitMask 24 fun b => s.fld .gmn b GMN_TRIP0 != 0 || s.fld .gmn b GMN_TRIP1 != 0)
  | _, _ => own

/-! ### Sites, sequencers and control stores -/

/-- SFB_TPL_INFO of the selected template. -/
def State.templateWord (s : State) : Word :=
  match s.template (s.fld .sfb 0 SFB_TPL_SEL) with
  | none => 0
  | some t =>
    BitVec.ofNat 32 (2 ^ 31 + (t.pins - 1) % 128 * 2 ^ 24 + (t.width - 1) % 4 * 2 ^ 22 + t.ndps % 8 * 2 ^ 19 + bit t.hv * 2 ^ 18
      + t.places.length % 512)

/-- The allocator, site and sequencer pages. Loop and call entries above the depth read as zero; PSQ_MATCH shows the conditions of R198 while
a site is bound. -/
def State.siteWord (s : State) (k : PageKind) (i off : Nat) (own : Word) : Word :=
  match k, off with
  | .sfb, 0x98 => s.templateWord
  | .sfb, o =>
    if 0xA0 ≤ o ∧ o < 0xC0 then BitVec.ofNat 32 (bitMask 32 fun m => s.siteActive (8 * (o - 0xA0) + m)) else own
  | .site, 0x4C => masked own 0x80100000 (bit (s.siteActive i) * 2 ^ 31 + bit (s.regSealed i) * 2 ^ 20)
  | .psq, 0xB4 =>
    if (s.sitesOf i).isEmpty then 0
    else BitVec.ofNat 32 (bit (s.condHolds i 4) * 2 ^ 31 + bit (s.condHolds i 5) * 2 ^ 30)
  | .psq, o =>
    if 0x100 ≤ o ∧ o < 0x200 then (if (o - 0x100) / 16 < s.loopDepth i then own else 0)
    else if 0x200 ≤ o ∧ o < 0x240 then (if (o - 0x200) / 4 < s.fld .psq i PSQ_DEPTH_CALL then own else 0)
    else own
  | _, _ => own

/-- Word `i` of an area, 0 where it is invalid. -/
def StoreArea.word (a : StoreArea) (i : Nat) : Word :=
  match a with
  | .invalid => 0
  | .words ws => ws.getD i 0

/-- Where a window offset of a control store leads: whether into the vendor area, and at which word of the image; none for a reserved
word. `ubank` and `nbank` are MCE_WIN's. -/
def windowAt (ubank nbank off : Nat) : Option (Bool × Nat) :=
  if off < 0x400 then
    (let op := off / 4
     if op < 0xC0 then some (true, 16 + op) else some (false, 16 + (op - 0xC0)))
  else if off < 0x4000 then none
  else if off < 0x8000 then
    (let u := 4096 * ubank + (off - 0x4000) / 4
     if u < 12288 then some (true, 208 + u) else some (false, 80 + (u - 12288)))
  else
    (let a := 512 * nbank + (off - 0x8000) / 32
     let w := (off - 0x8000) % 32 / 4
     if 6 ≤ w then none
     else if a < 1536 then some (true, 12496 + 6 * a + w) else some (false, 4176 + 6 * (a - 1536) + w))

/-- The word of a control store that a window offset of instance `n` shows. -/
def State.windowWord (s : State) (n off : Nat) : Word :=
  match windowAt (s.fld .mce n MCE_WIN_UBANK) (s.fld .mce n MCE_WIN_NBANK) off with
  | some (true, i) => (s.mceOf n).vendor.word i
  | some (false, i) => (s.mceOf n).user.word i
  | none => 0

/-- Whether a window offset is closed to a role (R251): the vendor area below Vendor, the open area below Owner while it is sealed. -/
def State.windowSealed (s : State) (n off : Nat) (role : Role) : Bool :=
  match windowAt (s.fld .mce n MCE_WIN_UBANK) (s.fld .mce n MCE_WIN_NBANK) off with
  | some (true, _) => !role.meets 2
  | some (false, _) => s.flag .mce n MCE_STAT_SEALED && !s.opens role (s.psqOrigin n)
  | none => false

/-! ### The Vector Store, the Lift and the Fail Reduction Engine -/

/-- VMC_OBJ_INFO. -/
def State.objInfo (s : State) : Word :=
  let h := BitVec.ofNat 32 (s.fld .vmc 0 VMC_OBJ_SEL_HANDLE)
  match s.objAt h with
  | none => 0
  | some o =>
    let kind := if o.kind == .sealedObj then 1 else if s.stageHandle == h then 2 else 0
    BitVec.ofNat 32 (2 ^ 31 + kind * 2 ^ 29 + bit (s.referenced h o) * 2 ^ 28 + (o.granules.length - 1) % 2 ^ 18)

/-- An entry of the page table as one number (R308). -/
def Pte.number (e : Pte) : Nat :=
  bit e.v * 2 ^ 63 + bit e.host * 2 ^ 62 + bit e.isSealed * 2 ^ 61 + bit e.present * 2 ^ 60 + bit e.failed * 2 ^ 59
    + e.granule % 2 ^ 18 * 2 ^ 36 + e.haddr % 2 ^ 36

/-- The sum of D, or of H, over the loaded sequencers, `n` apart (R319). -/
def State.loadedSum (s : State) (n : Nat) (need : PsqSt → Nat) : Nat :=
  ((List.range 8).map fun m => if m != n && s.flag .psq m PSQ_STAT_LOADED then need (s.psq m) else 0).foldr (· + ·) 0

/-- FRE_S_STAT of a site. -/
def SiteSt.statWord (x : SiteSt) : Word :=
  BitVec.ofNat 32 (bit x.pending * 2 ^ 31 + bit x.pass * 2 ^ 30 + bit x.nonrep * 2 ^ 29 + bit x.matchTo * 2 ^ 28
    + x.repair.status % 16 * 2 ^ 24 + x.repair.reason % 16 * 2 ^ 20 + x.taint % 256 * 2 ^ 8)

/-- The site window. -/
def State.freSiteWord (s : State) (off : Nat) (own : Word) : Word :=
  let x := s.site s.freSite
  match off with
  | 0x44 => x.statWord
  | 0x48 => BitVec.ofNat 32 x.fails
  | 0x4C => BitVec.ofNat 32 (x.fails / 2 ^ 32)
  | 0x50 => BitVec.ofNat 32 x.cmps
  | 0x54 => BitVec.ofNat 32 (x.cmps / 2 ^ 32)
  | 0x58 => BitVec.ofNat 32 x.ffr.length
  | 0x5C => x.bmapHandle
  | 0x60 => x.bmapOff
  | 0x64 => BitVec.ofNat 32 x.bmapLost
  | 0x68 => BitVec.ofNat 32 x.limFail
  | 0x6C => BitVec.ofNat 32 (x.limFail / 2 ^ 32)
  | 0x70 => BitVec.ofNat 32 (x.bin % 2 ^ 16)
  | 0x78 => s.ffrWord
  | 0x80 => s.pinWord
  | _ => own

/-- The Vector Store, Lift and Fail Reduction pages. -/
def State.storeWord (s : State) (k : PageKind) (i off : Nat) (own : Word) : Word :=
  match k, off with
  | .vmc, 0x58 => s.objInfo
  | .lftG, 0x68 => BitVec.ofNat 32 (s.loadedSum 8 PsqSt.needD)
  | .lftG, 0x6C => BitVec.ofNat 32 (s.loadedSum 8 PsqSt.needH)
  | .lftG, 0x78 => BitVec.ofNat 32 (s.pteAt (s.fld .lftG 0 LFT_PTE_SEL_VPN)).number
  | .lftG, 0x7C => BitVec.ofNat 32 ((s.pteAt (s.fld .lftG 0 LFT_PTE_SEL_VPN)).number / 2 ^ 32)
  | .lft, 0x6C => BitVec.ofNat 32 (400000 - s.loadedSum i PsqSt.needD)
  | .freSite, o => s.freSiteWord o own
  | _, _ => own

/-! ### Measurement, calibration, security, Pairs and the recorder -/

/-- The oldest entry of a bank's result FIFO, and the bin a TMU's cursor selects. -/
def State.measWord (s : State) (k : PageKind) (i off : Nat) (own : Word) : Word :=
  let e := (s.measOf i).fifo.headD []
  match k, off with
  | .acq, 0x80 => e.getD 0 0
  | .acq, 0x84 => e.getD 1 0
  | .acq, 0x88 => e.getD 2 0
  | .acq, 0x8C => BitVec.ofNat 32 (s.measOf i).fifo.length
  | .acq, 0x144 =>
    (((s.measOf i).snap.getD (s.measOf i).segs).getD (s.fld .acq i ACQ_SEG_CUR_SEG) []).getD (s.fld .acq i ACQ_SEG_CUR_WORD) 0
  | _, _ => own

/-- The record that CAL_REC_SEL shows, 0x064 to 0x07C; a selection above 24 shows nothing. -/
def State.calRecWord (s : State) (off : Nat) (own : Word) : Word :=
  let r := s.fld .cal 0 CAL_REC_SEL_RECORD
  let c := s.calRec r
  if 24 < r then 0
  else
    match off with
    | 0x64 =>
      BitVec.ofNat 32 (c.source % 4 * 2 ^ 30 + bitMask 3 (fun i => ((c.copies[i]?).map CalCopy.intact).getD false) * 2 ^ 27
        + c.steps.length % 256)
    | 0x68 | 0x6C | 0x70 =>
      match c.copies[(off - 0x68) / 4]? with
      | some x => if x.intact then BitVec.ofNat 32 x.gen else 0
      | none => 0
    | 0x74 =>
      match s.lastT r (s.calModeOf r) with
      | some t => BitVec.ofNat 32 (cutInt 16 t * 2 ^ 16)
      | none => 0
    | 0x78 =>
      match c.ran with
      | some t => BitVec.ofNat 32 (s.fld .evr 0 EVR_OPSEC - t)
      | none => 0xFFFFFFFF
    | 0x7C => BitVec.ofNat 32 (c.next.getD 7 % 8 * 8 + c.set % 8)
    | _ => own

/-- The calibration page. -/
def State.calWord (s : State) (off : Nat) (own : Word) : Word :=
  if off = 0x54 then BitVec.ofNat 32 (bitMask 24 s.inGap)
  else if 0x64 ≤ off ∧ off < 0x80 then s.calRecWord off own
  else own

/-- The bundle of the sequencer that SEC_BSEL selects (R486). -/
def State.bundleWord (s : State) (off : Nat) : Word :=
  match (s.psq (s.fld .secLoad 0 SEC_BSEL_PSQ)).bundle with
  | none => 0
  | some b =>
    if off = 0x58 then
      BitVec.ofNat 32 (2 ^ 31 + bit b.enc * 2 ^ 30 + bit b.debug * 2 ^ 29 + b.slot % 8 * 2 ^ 24 + b.counter % 64 * 2 ^ 16
        + b.template % 16)
    else if off = 0x5C then BitVec.ofNat 32 b.version
    else (digestWords b.digest).getD ((off - 0x60) / 4) 0

/-- The highest and the lowest of the committed sequence numbers. -/
def State.oldestSeq (s : State) : Nat :=
  match s.records with
  | [] => 0
  | e :: r => (r.map fun x => x.2.seq).foldl min e.2.seq

/-- An entry of the drop table; entry 16 is OTHER (R542). -/
def State.dropWord (s : State) (off : Nat) : Word :=
  let i := (off - 0xC0) / 8
  let count := decide (off % 8 = 4)
  if i = 16 then (if count then BitVec.ofNat 32 s.evr.dropOther else 0)
  else
    match s.evr.drops[i]? with
    | some ((t, c), n) => BitVec.ofNat 32 (if count then n else t % 2 ^ 16 * 2 ^ 16 + c % 256 * 2 ^ 8)
    | none => 0

/-- The event recorder's page. -/
def State.evrWord (s : State) (off : Nat) (own : Word) : Word :=
  match off with
  | 0x14 => masked own 0x3F0000 (s.evr.queue.length * 2 ^ 16)
  | 0x48 =>
    BitVec.ofNat 32 ((s.records.filter fun e => decide (4 ≤ e.2.sev)).length * 2 ^ 16 + s.records.length)
  | 0x4C => BitVec.ofNat 32 s.evrNextSeq
  | 0x50 => BitVec.ofNat 32 (s.evrNextSeq / 2 ^ 32)
  | 0x54 => BitVec.ofNat 32 s.oldestSeq
  | 0x58 => BitVec.ofNat 32 (s.oldestSeq / 2 ^ 32)
  | o => if 0xC0 ≤ o ∧ o < 0x148 then s.dropWord o else own

/-- The pages of these blocks. -/
def State.deviceWord (s : State) (k : PageKind) (i off : Nat) (own : Word) : Word :=
  match k with
  | .acq => s.measWord k i off own
  | .tmu => if off = 0x184 then BitVec.ofNat 32 (mapGet (fun _ => 0) (s.tmu i).bins (s.fld .tmu i TMU_BIN_CUR_BIN)) else own
  | .cal => s.calWord off own
  | .secLoad => if 0x58 ≤ off ∧ off < 0x90 then s.bundleWord off else own
  | .plk => if off = 0x14 then masked own 0x200000 (bit (!s.mirrorOn) * 2 ^ 21) else own
  | .evr => s.evrWord off own
  | _ => own

/-! ### A register's live word -/

/-- The block register at an offset as it reads now. -/
def State.blockWord (s : State) (r : PageRef) : Word :=
  let own := s.rd (r.base + r.off)
  match r.kind with
  | .hifId | .hifRst | .epcSrc | .epcCtl | .pst => s.timeWord r.kind r.off own
  | .pgv | .bnk | .pec | .gmn | .gmnSum => s.bankWord r.kind r.inst r.off own
  | .sfb | .site | .psq => s.siteWord r.kind r.inst r.off own
  | .vmc | .lftG | .lft | .freSite => s.storeWord r.kind r.inst r.off own
  | .mceWin => s.windowWord r.inst r.off
  | k => s.deviceWord k r.inst r.off own

/-- The bits of a word that are write-only fields, which read as zero (R9). -/
def writeOnlyMask (k : PageKind) (off : Nat) : Word :=
  (fieldsOf k).foldl (fun m f => if f.acc == .wo && (f.at? off).isSome then m ||| maskOf f.hi f.lo else m) 0

/-- Whether an offset lies in the common header. -/
def PageRef.inHeader (r : PageRef) : Bool := hasHeader r.kind && decide (r.base + r.off < r.page + 0x40)

/-- The register at a resolved offset as an access in a role reads it now. -/
def State.regWord (s : State) (r : PageRef) (role : Role) : Word :=
  let w := s.blockWord r &&& ~~~ writeOnlyMask r.kind r.off
  if r.inHeader then s.headerWord r w role else w

/-! ### What a read is refused -/

/-- Whether PASS, LIMFAIL and BIN of the site window are closed (R352). -/
def State.decisionSealed (s : State) : Bool :=
  match s.sitePsq s.freSite with
  | some n => s.psqSealedTo n
  | none => false

/-- The bits of a register that read as zero with ACCESS_DENIED in a role: all of them, or PASS in the site window's FRE_S_STAT. -/
def State.readClosed (s : State) (r : PageRef) (role : Role) : Option Word :=
  if r.inHeader then none
  else if !role.meets (rdMin r.kind) || s.offSealed role r then some 0xFFFFFFFF
  else
    match r.kind with
    | .mceWin => if s.windowSealed r.inst r.off role then some 0xFFFFFFFF else none
    | .freSite =>
      if !s.decisionSealed then none
      else if r.off = 0x44 then some 0x40000000
      else if r.off = 0x68 ∨ r.off = 0x6C ∨ r.off = 0x70 then some 0xFFFFFFFF
      else none
    | _ => none

/-! ### 64-bit quantities -/

/-- Whether the low word of a 64-bit quantity lies at an offset of a page: those of R50, and the read-only ones. -/
def lowReadAt (k : PageKind) (off : Nat) : Bool :=
  lowWordAt k off ||
  match k with
  | .epcCtl => off == 0x50 || (decide (0xA0 ≤ off) && decide (off < 0xE0) && off % 8 == 0)
  | .pst => off == 0x60
  | .psq => [0x70, 0x78, 0xA8].contains off
  | .apg => (decide (0x108 ≤ off) && decide (off < 0x128) && off % 8 == 0) || (decide (0x800 ≤ off) && off % 8 == 0)
  | .site => off == 0x50
  | .lftG => off == 0x78
  | .freG => off == 0x5C
  | .freSite => [0x48, 0x50, 0x68].contains off
  | .tmu => off == 0x80 || (decide (0x100 ≤ off) && decide (off < 0x140) && off % 8 == 0)
  | .plk => off == 0xA0
  | .evr => off == 0x4C || off == 0x54
  | _ => false

/-- The key of a requester's shadow of the quantity whose low word lies at an offset. -/
def shadowKey (who : Requester) (off : Nat) : Nat :=
  match who with
  | .host => 2 * off
  | .steward => 2 * off + 1

/-- The role a requester reads in: the Steward reads as the block's own firmware, which no role bounds. -/
def State.readRole (s : State) (who : Requester) : Role :=
  match who with
  | .host => s.role
  | .steward => .vendor

/-- A word that an access reads, with the bits that are closed to it, and ACCESS_DENIED where some are (R11, R16). -/
def State.readWord32 (s : State) (who : Requester) (r : PageRef) (w : Word) : State × Word :=
  match who with
  | .steward => (s, w)
  | .host =>
    match s.readClosed r (s.readRole who) with
    | none => (s, w)
    | some m => (s.denied r.page, w &&& ~~~m)

/-- The requester gets its answer: the host's completion. -/
def State.answerTo (s : State) (who : Requester) (w : Word) : State :=
  match who with
  | .host => s.answer w
  | .steward => s

/-- A read of a register (R48, R49): at the low word of a 64-bit quantity it latches the live high word into the requester's shadow; at
a high word it returns the shadow, which is then used up, or the live word. -/
def readAt (who : Requester) (r : PageRef) (s : State) : State :=
  let role := s.readRole who
  let a := r.base + r.off
  let hi := decide (4 ≤ r.off) && lowReadAt r.kind (r.off - 4)
  let live := s.regWord r role
  let w := if hi then (lookupKey s.hif.shadow (shadowKey who (a - 4))).getD live else live
  let s' := if r.kind = .pec ∧ r.off = 0x60 then s.drawn else s
  let shadow :=
    if lowReadAt r.kind r.off then
      (shadowKey who a, s.regWord { r with off := r.off + 4 } role)
        :: s.hif.shadow.filter fun e => e.1 != shadowKey who a
    else if hi then s.hif.shadow.filter fun e => e.1 != shadowKey who (a - 4)
    else s.hif.shadow
  let (t, v) := State.readWord32 { s' with hif := { s'.hif with shadow := shadow } } who r w
  t.answerTo who v

/-- LOW_WORD_READ at a BAR0 offset: a reserved offset reads as zero (R45). -/
def lowWordRead (who : Requester) (off : Nat) (s : State) : State :=
  match pageOf off with
  | some r => readAt who r s
  | none => s.answerTo who 0

/-- LOW_WORD_READ (R48, R49). -/
def execLowWordRead (who : Requester) (off : Nat) (s : State) : Host.Outcome State Fault Refusal :=
  done (if s.live then lowWordRead who off s else s.answerTo who 0)

/-! ### Fields that clear on reading -/

/-- The fields of a word that clear on reading. -/
def clearOnRead (k : PageKind) (off : Nat) : Word :=
  (fieldsOf k).foldl (fun m f => if f.acc == .rc && (f.at? off).isSome then m ||| maskOf f.hi f.lo else m) 0

/-- RC_FIELD_READ (R52) of a resolved offset: the value before any set is answered; then the field is 0, or holds what hardware sets in
the same cycle. -/
def rcFieldReadAt (r : PageRef) (hwSet : Option Word) (s : State) : State :=
  let m := clearOnRead r.kind r.off
  let a := r.base + r.off
  match s.readClosed r s.role with
  | some _ => readAt .host r s
  | none =>
    let t := readAt .host r s
    t.wr a ((t.rd a &&& ~~~m) ||| (hwSet.getD 0 &&& m))

def rcFieldRead (off : Nat) (hwSet : Option Word) (s : State) : State :=
  match pageOf off with
  | some r => rcFieldReadAt r hwSet s
  | none => s.answer 0

/-- RC_FIELD_READ (R52). -/
def execRcFieldRead (off : Nat) (hwSet : Option Word) (s : State) : Host.Outcome State Fault Refusal :=
  done (if s.live then rcFieldRead off hwSet s else s.answer 0)

end Sys2Proof.Machine
end

