-- ==== Sys2Proof/Machine/Dispatch.lean ====
section
/-! DEFINITION. One arm per command: its meaning, called directly. -/

namespace Sys2Proof.Machine
open Sys2Proof

/-- What a command does to the state, its queue apart. -/
def exec (i : Instr) (s : State) : Host.Outcome State Fault Refusal :=
  match i with
  | .registerWrite off value inc => Sys2Proof.Machine.execRegisterWrite off value inc s
  | .bar0BadAccess write => Sys2Proof.Machine.execBar0BadAccess write s
  | .lowWordRead who off => Sys2Proof.Machine.execLowWordRead who off s
  | .lowWordWrite off value => Sys2Proof.Machine.execLowWordWrite off value s
  | .highWordWrite off value => Sys2Proof.Machine.execHighWordWrite off value s
  | .rcFieldRead off hwSet => Sys2Proof.Machine.execRcFieldRead off hwSet s
  | .intStatClear page value hwSet => Sys2Proof.Machine.execIntStatClear page value hwSet s
  | .intSet page value => Sys2Proof.Machine.execIntSet page value s
  | .intEnWrite page value => Sys2Proof.Machine.execIntEnWrite page value s
  | .intVecWrite page value => Sys2Proof.Machine.execIntVecWrite page value s
  | .msixUnmask change => Sys2Proof.Machine.execMsixUnmask change s
  | .fltAck page value => Sys2Proof.Machine.execFltAck page value s
  | .fltHistCursorWrite page value => Sys2Proof.Machine.execFltHistCursorWrite page value s
  | .fltHistDataRead page => Sys2Proof.Machine.execFltHistDataRead page s
  | .getFwInfo length => Sys2Proof.Machine.execGetFwInfo length s
  | .reloadSettings length => Sys2Proof.Machine.execReloadSettings length s
  | .loadRecoveryFw length => Sys2Proof.Machine.execLoadRecoveryFw length s
  | .getBootLog length => Sys2Proof.Machine.execGetBootLog length s
  | .recoveryReset => Sys2Proof.Machine.execRecoveryReset s
  | .sysRstN => Sys2Proof.Machine.execSysRstN s
  | .chip => Sys2Proof.Machine.execChip s
  | .perstN high => Sys2Proof.Machine.execPerstN high s
  | .functionLevelReset => Sys2Proof.Machine.execFunctionLevelReset s
  | .blkReset page => Sys2Proof.Machine.execBlkReset page s
  | .porRelease => Sys2Proof.Machine.execPorRelease s
  | .refclkWatchEnd present => Sys2Proof.Machine.execRefclkWatchEnd present s
  | .configRequest req ready => Sys2Proof.Machine.execConfigRequest req ready s
  | .hifLinkTrained width speed => Sys2Proof.Machine.execHifLinkTrained width speed s
  | .hifLinkDown => Sys2Proof.Machine.execHifLinkDown s
  | .bootFwLoaded a b idOk sfdp nvm => Sys2Proof.Machine.execBootFwLoaded a b idOk sfdp nvm s
  | .startupReady => Sys2Proof.Machine.execStartupReady s
  | .ceilMwWrite value => Sys2Proof.Machine.execCeilMwWrite value s
  | .ceilLock => Sys2Proof.Machine.execCeilLock s
  | .refclkLost => Sys2Proof.Machine.execRefclkLost s
  | .refclkReturn => Sys2Proof.Machine.execRefclkReturn s
  | .multWrite value => Sys2Proof.Machine.execMultWrite value s
  | .pllRelockDone => Sys2Proof.Machine.execPllRelockDone s
  | .holdExpired => Sys2Proof.Machine.execHoldExpired s
  | .fmkMarker width => Sys2Proof.Machine.execFmkMarker width s
  | .fmkRealign => Sys2Proof.Machine.execFmkRealign s
  | .fmkMissing => Sys2Proof.Machine.execFmkMissing s
  | .frameBoundary => Sys2Proof.Machine.execFrameBoundary s
  | .frameLenWrite value => Sys2Proof.Machine.execFrameLenWrite value s
  | .arm => Sys2Proof.Machine.execArm s
  | .seedPsWrite value => Sys2Proof.Machine.execSeedPsWrite value s
  | .skewCal => Sys2Proof.Machine.execSkewCal s
  | .skewMeasureDone result => Sys2Proof.Machine.execSkewMeasureDone result s
  | .skewTrimApply => Sys2Proof.Machine.execSkewTrimApply s
  | .syncEdge lane width => Sys2Proof.Machine.execSyncEdge lane width s
  | .syncPulseEnd lane held => Sys2Proof.Machine.execSyncPulseEnd lane held s
  | .go => Sys2Proof.Machine.execGo s
  | .cancel => Sys2Proof.Machine.execCancel s
  | .mark => Sys2Proof.Machine.execMark s
  | .psqStart => Sys2Proof.Machine.execPsqStart s
  | .psqStop => Sys2Proof.Machine.execPsqStop s
  | .quietOpen => Sys2Proof.Machine.execQuietOpen s
  | .quietClose => Sys2Proof.Machine.execQuietClose s
  | .syncPulse => Sys2Proof.Machine.execSyncPulse s
  | .supplyGo => Sys2Proof.Machine.execSupplyGo s
  | .acqArm => Sys2Proof.Machine.execAcqArm s
  | .tmuArm => Sys2Proof.Machine.execTmuArm s
  | .msrRelease => Sys2Proof.Machine.execMsrRelease s
  | .regWrite => Sys2Proof.Machine.execRegWrite s
  | .pisteDrop => Sys2Proof.Machine.execPisteDrop s
  | .pstLogCursorWrite value => Sys2Proof.Machine.execPstLogCursorWrite value s
  | .pstLogDataRead => Sys2Proof.Machine.execPstLogDataRead s
  | .conn k on => Sys2Proof.Machine.execConn k on s
  | .ppmuConnect k => Sys2Proof.Machine.execPpmuConnect k s
  | .measureExit k => Sys2Proof.Machine.execMeasureExit k s
  | .idleHold k on => Sys2Proof.Machine.execIdleHold k on s
  | .ppmuCompliance k on => Sys2Proof.Machine.execPpmuCompliance k on s
  | .req b mode => Sys2Proof.Machine.execReq b mode s
  | .modeLimitsApply b => Sys2Proof.Machine.execModeLimitsApply b s
  | .modeCalApply b fails => Sys2Proof.Machine.execModeCalApply b fails s
  | .modeDone b => Sys2Proof.Machine.execModeDone b s
  | .map k w value => Sys2Proof.Machine.execMap k w value s
  | .d2dFrame b inbound crcOk => Sys2Proof.Machine.execD2dFrame b inbound crcOk s
  | .vectorPeriod n => Sys2Proof.Machine.execVectorPeriod n s
  | .stallResume n => Sys2Proof.Machine.execStallResume n s
  | .outcomeDelivery site obs => Sys2Proof.Machine.execOutcomeDelivery site obs s
  | .periodWrite n t value => Sys2Proof.Machine.execPeriodWrite n t value s
  | .edgeWindowWrite k off value => Sys2Proof.Machine.execEdgeWindowWrite k off value s
  | .deskewApply k => Sys2Proof.Machine.execDeskewApply k s
  | .nop n => Sys2Proof.Machine.execNop n s
  | .run n => Sys2Proof.Machine.execRun n s
  | .vset n => Sys2Proof.Machine.execVset n s
  | .loop n => Sys2Proof.Machine.execLoop n s
  | .endloop n => Sys2Proof.Machine.execEndloop n s
  | .jump n => Sys2Proof.Machine.execJump n s
  | .call n => Sys2Proof.Machine.execCall n s
  | .ret n => Sys2Proof.Machine.execRet n s
  | .matchVec n => Sys2Proof.Machine.execMatchVec n s
  | .matchEnd n => Sys2Proof.Machine.execMatchEnd n s
  | .pausept n => Sys2Proof.Machine.execPausept n s
  | .epochwait n => Sys2Proof.Machine.execEpochwait n s
  | .epochwaitTarget n => Sys2Proof.Machine.execEpochwaitTarget n s
  | .resolutionPoint n => Sys2Proof.Machine.execResolutionPoint n s
  | .subst n => Sys2Proof.Machine.execSubst n s
  | .alu n => Sys2Proof.Machine.execAlu n s
  | .outcome n => Sys2Proof.Machine.execOutcome n s
  | .siteState n => Sys2Proof.Machine.execSiteState n s
  | .mwait n => Sys2Proof.Machine.execMwait n s
  | .mwaitTimeout n => Sys2Proof.Machine.execMwaitTimeout n s
  | .apg n => Sys2Proof.Machine.execApg n s
  | .halt n => Sys2Proof.Machine.execHalt n s
  | .microword n => Sys2Proof.Machine.execMicroword n s
  | .ucntLd n => Sys2Proof.Machine.execUcntLd n s
  | .apgLdx n => Sys2Proof.Machine.execApgLdx n s
  | .apgLdy n => Sys2Proof.Machine.execApgLdy n s
  | .apgLdd n => Sys2Proof.Machine.execApgLdd n s
  | .pcnRd n => Sys2Proof.Machine.execPcnRd n s
  | .load n => Sys2Proof.Machine.execLoad n s
  | .preloadDone n => Sys2Proof.Machine.execPreloadDone n s
  | .start n => Sys2Proof.Machine.execStart n s
  | .startCheck n source => Sys2Proof.Machine.execStartCheck n source s
  | .firstVector n => Sys2Proof.Machine.execFirstVector n s
  | .stop n => Sys2Proof.Machine.execStop n s
  | .burstEnd n => Sys2Proof.Machine.execBurstEnd n s
  | .pause n on => Sys2Proof.Machine.execPause n on s
  | .pauseRelease n => Sys2Proof.Machine.execPauseRelease n s
  | .psqAjumpWrite n value => Sys2Proof.Machine.execPsqAjumpWrite n value s
  | .mceLoad n => Sys2Proof.Machine.execMceLoad n s
  | .mceLoadDone n hits => Sys2Proof.Machine.execMceLoadDone n hits s
  | .storeScan n part addr uncorrectable => Sys2Proof.Machine.execStoreScan n part addr uncorrectable s
  | .vendorReload n => Sys2Proof.Machine.execVendorReload n s
  | .apgScrDataAccess n write => Sys2Proof.Machine.execApgScrDataAccess n write s
  | .apgTopoDataAccess n write => Sys2Proof.Machine.execApgTopoDataAccess n write s
  | .pcnWrap n ctr => Sys2Proof.Machine.execPcnWrap n ctr s
  | .sfbBind => Sys2Proof.Machine.execSfbBind s
  | .relPsq => Sys2Proof.Machine.execRelPsq s
  | .relSites => Sys2Proof.Machine.execRelSites s
  | .sfbCmdComplete => Sys2Proof.Machine.execSfbCmdComplete s
  | .siteRegWrite site r value => Sys2Proof.Machine.execSiteRegWrite site r value s
  | .siteStateWrite site value => Sys2Proof.Machine.execSiteStateWrite site value s
  | .mask site on => Sys2Proof.Machine.execMask site on s
  | .retire site => Sys2Proof.Machine.execRetire site s
  | .unretire site => Sys2Proof.Machine.execUnretire site s
  | .ovlDataAccess write => Sys2Proof.Machine.execOvlDataAccess write s
  | .descriptorWrite d w value => Sys2Proof.Machine.execDescriptorWrite d w value s
  | .ovlDma => Sys2Proof.Machine.execOvlDma s
  | .ovlDmaDone hits => Sys2Proof.Machine.execOvlDmaDone hits s
  | .bar2Read addr len hits => Sys2Proof.Machine.execBar2Read addr len hits s
  | .bar2Write addr data hits => Sys2Proof.Machine.execBar2Write addr data hits s
  | .bucketLeak => Sys2Proof.Machine.execBucketLeak s
  | .vsChannelFail c => Sys2Proof.Machine.execVsChannelFail c s
  | .scrubRead hits => Sys2Proof.Machine.execScrubRead hits s
  | .vmcAlloc granulesM1 => Sys2Proof.Machine.execVmcAlloc granulesM1 s
  | .vmcFree granulesM1 => Sys2Proof.Machine.execVmcFree granulesM1 s
  | .vmcAllocDone => Sys2Proof.Machine.execVmcAllocDone s
  | .mapVs => Sys2Proof.Machine.execMapVs s
  | .mapHost => Sys2Proof.Machine.execMapHost s
  | .unmap => Sys2Proof.Machine.execUnmap s
  | .mapDone => Sys2Proof.Machine.execMapDone s
  | .lftStageWrite handle => Sys2Proof.Machine.execLftStageWrite handle s
  | .lookaheadFetch n => Sys2Proof.Machine.execLookaheadFetch n s
  | .cacheFill n block hits forward => Sys2Proof.Machine.execCacheFill n block hits forward s
  | .hostPageFetch vpn => Sys2Proof.Machine.execHostPageFetch vpn s
  | .hostPageStaged vpn data => Sys2Proof.Machine.execHostPageStaged vpn data s
  | .markDrain n bad => Sys2Proof.Machine.execMarkDrain n bad s
  | .bmapClr n => Sys2Proof.Machine.execBmapClr n s
  | .bmapClrDone n => Sys2Proof.Machine.execBmapClrDone n s
  | .solveStart n => Sys2Proof.Machine.execSolveStart n s
  | .solveDone site hits => Sys2Proof.Machine.execSolveDone site hits s
  | .limGo n => Sys2Proof.Machine.execLimGo n s
  | .limDone n => Sys2Proof.Machine.execLimDone n s
  | .issue n => Sys2Proof.Machine.execIssue n s
  | .recordIssue n => Sys2Proof.Machine.execRecordIssue n s
  | .ringWrite => Sys2Proof.Machine.execRingWrite s
  | .tail value => Sys2Proof.Machine.execTail value s
  | .ffrCursorWrite pins value => Sys2Proof.Machine.execFfrCursorWrite pins value s
  | .ffrDataRead pins => Sys2Proof.Machine.execFfrDataRead pins s
  | .levelWrite k j code => Sys2Proof.Machine.execLevelWrite k j code s
  | .deglitchRelease b out => Sys2Proof.Machine.execDeglitchRelease b out s
  | .dacReadback b out good => Sys2Proof.Machine.execDacReadback b out good s
  | .dpsEn u on => Sys2Proof.Machine.execDpsEn u on s
  | .dpsReady u => Sys2Proof.Machine.execDpsReady u s
  | .dpsConn u on => Sys2Proof.Machine.execDpsConn u on s
  | .dpsSwitchClosed u => Sys2Proof.Machine.execDpsSwitchClosed u s
  | .dpsV u code => Sys2Proof.Machine.execDpsV u code s
  | .ilim u value => Sys2Proof.Machine.execIlim u value s
  | .clamped u on => Sys2Proof.Machine.execClamped u on s
  | .dpsRange u value => Sys2Proof.Machine.execDpsRange u value s
  | .senseLost u => Sys2Proof.Machine.execSenseLost u s
  | .senseRetry u => Sys2Proof.Machine.execSenseRetry u s
  | .dpsGang b mode => Sys2Proof.Machine.execDpsGang b mode s
  | .hvcEn b on => Sys2Proof.Machine.execHvcEn b on s
  | .qPush u value => Sys2Proof.Machine.execQPush u value s
  | .qGo u => Sys2Proof.Machine.execQGo u s
  | .flush u => Sys2Proof.Machine.execFlush u s
  | .updateTick => Sys2Proof.Machine.execUpdateTick s
  | .release u => Sys2Proof.Machine.execRelease u s
  | .puvWrite u value => Sys2Proof.Machine.execPuvWrite u value s
  | .gmnWinWrite b m value => Sys2Proof.Machine.execGmnWinWrite b m value s
  | .gmnCfgWrite b m value => Sys2Proof.Machine.execGmnCfgWrite b m value s
  | .guardTick obs => Sys2Proof.Machine.execGuardTick obs s
  | .guardCrossing obs => Sys2Proof.Machine.execGuardCrossing obs s
  | .gmnBlank1 b value => Sys2Proof.Machine.execGmnBlank1 b value s
  | .blankEnd obs scheduled => Sys2Proof.Machine.execBlankEnd obs scheduled s
  | .pmuEn b on => Sys2Proof.Machine.execPmuEn b on s
  | .acqEn b on => Sys2Proof.Machine.execAcqEn b on s
  | .pmuCompliance b on => Sys2Proof.Machine.execPmuCompliance b on s
  | .msrCommit b group => Sys2Proof.Machine.execMsrCommit b group s
  | .msrCancel b group => Sys2Proof.Machine.execMsrCancel b group s
  | .msrFlush b group => Sys2Proof.Machine.execMsrFlush b group s
  | .msrRel b group all => Sys2Proof.Machine.execMsrRel b group all s
  | .msrDispatch b => Sys2Proof.Machine.execMsrDispatch b s
  | .itemDone b sum clipped limited => Sys2Proof.Machine.execItemDone b sum clipped limited s
  | .resData2Read b => Sys2Proof.Machine.execResData2Read b s
  | .capArm b desc => Sys2Proof.Machine.execCapArm b desc s
  | .capDisarm b desc => Sys2Proof.Machine.execCapDisarm b desc s
  | .captureResult b sum clipped limited => Sys2Proof.Machine.execCaptureResult b sum clipped limited s
  | .capRearm b => Sys2Proof.Machine.execCapRearm b s
  | .segCurWrite b value => Sys2Proof.Machine.execSegCurWrite b value s
  | .segDataRead b => Sys2Proof.Machine.execSegDataRead b s
  | .tmuCtrlArm t reserve => Sys2Proof.Machine.execTmuCtrlArm t reserve s
  | .disarm t reserve => Sys2Proof.Machine.execDisarm t reserve s
  | .tmuEdge t src cycle code => Sys2Proof.Machine.execTmuEdge t src cycle code s
  | .tmuTimeout t => Sys2Proof.Machine.execTmuTimeout t s
  | .calGo t reserve => Sys2Proof.Machine.execCalGo t reserve s
  | .tmuCalDone t runs aborted => Sys2Proof.Machine.execTmuCalDone t runs aborted s
  | .tmuBinDataRead t => Sys2Proof.Machine.execTmuBinDataRead t s
  | .calCtrlGo => Sys2Proof.Machine.execCalCtrlGo s
  | .abort => Sys2Proof.Machine.execAbort s
  | .calStepStart core => Sys2Proof.Machine.execCalStepStart core s
  | .calStepDone rec trims sel slices => Sys2Proof.Machine.execCalStepDone rec trims sel slices s
  | .calCopyCommit rec ok => Sys2Proof.Machine.execCalCopyCommit rec ok s
  | .calAgeDue rec => Sys2Proof.Machine.execCalAgeDue rec s
  | .calOverdue rec => Sys2Proof.Machine.execCalOverdue rec s
  | .thermalSample readings => Sys2Proof.Machine.execThermalSample readings s
  | .throttlePhase region => Sys2Proof.Machine.execThrottlePhase region s
  | .thmThresholdWrite off value => Sys2Proof.Machine.execThmThresholdWrite off value s
  | .lock value => Sys2Proof.Machine.execLock value s
  | .fePowerRetry fe => Sys2Proof.Machine.execFePowerRetry fe s
  | .getVersion ses => Sys2Proof.Machine.execGetVersion ses s
  | .getCapabilities ses => Sys2Proof.Machine.execGetCapabilities ses s
  | .negotiateAlgorithms ses offer => Sys2Proof.Machine.execNegotiateAlgorithms ses offer s
  | .getDigests ses => Sys2Proof.Machine.execGetDigests ses s
  | .getCertificate ses slot off len => Sys2Proof.Machine.execGetCertificate ses slot off len s
  | .challenge ses slot transcript => Sys2Proof.Machine.execChallenge ses slot transcript s
  | .getMeasurements ses index sign transcript => Sys2Proof.Machine.execGetMeasurements ses index sign transcript s
  | .keyExchange ses owner transcript => Sys2Proof.Machine.execKeyExchange ses owner transcript s
  | .finish ses sig message => Sys2Proof.Machine.execFinish ses sig message s
  | .endSession ses => Sys2Proof.Machine.execEndSession ses s
  | .unsupportedRequest code ses => Sys2Proof.Machine.execUnsupportedRequest code ses s
  | .sessionIdleTimeout => Sys2Proof.Machine.execSessionIdleTimeout s
  | .getNonce length => Sys2Proof.Machine.execGetNonce length s
  | .token length nvmOk => Sys2Proof.Machine.execToken length nvmOk s
  | .endVendor length => Sys2Proof.Machine.execEndVendor length s
  | .getSlot length => Sys2Proof.Machine.execGetSlot length s
  | .vendorExpiry => Sys2Proof.Machine.execVendorExpiry s
  | .nonceExpiry => Sys2Proof.Machine.execNonceExpiry s
  | .bundleLoad n => Sys2Proof.Machine.execBundleLoad n s
  | .bundleApplyDone nvmOk => Sys2Proof.Machine.execBundleApplyDone nvmOk s
  | .unload n => Sys2Proof.Machine.execUnload n s
  | .ovlApply n => Sys2Proof.Machine.execOvlApply n s
  | .debugWindowRead off => Sys2Proof.Machine.execDebugWindowRead off s
  | .jtagPrivate => Sys2Proof.Machine.execJtagPrivate s
  | .plkEn on => Sys2Proof.Machine.execPlkEn on s
  | .plkRole value => Sys2Proof.Machine.execPlkRole value s
  | .linkTrained ok => Sys2Proof.Machine.execLinkTrained ok s
  | .identDone ident => Sys2Proof.Machine.execIdentDone ident s
  | .authDone auth => Sys2Proof.Machine.execAuthDone auth s
  | .retrain => Sys2Proof.Machine.execRetrain s
  | .linkDownRetry => Sys2Proof.Machine.execLinkDownRetry s
  | .flitReceive type seq ack crcOk tagOk epochN => Sys2Proof.Machine.execFlitReceive type seq ack crcOk tagOk epochN s
  | .flitReplay seq => Sys2Proof.Machine.execFlitReplay seq s
  | .mirror msg => Sys2Proof.Machine.execMirror msg s
  | .feedReq n block hits => Sys2Proof.Machine.execFeedReq n block hits s
  | .feedData n block got => Sys2Proof.Machine.execFeedData n block got s
  | .linkSilence => Sys2Proof.Machine.execLinkSilence s
  | .check => Sys2Proof.Machine.execCheck s
  | .refresh => Sys2Proof.Machine.execRefresh s
  | .plkMselWrite value => Sys2Proof.Machine.execPlkMselWrite value s
  | .plkMdataRead => Sys2Proof.Machine.execPlkMdataRead s
  | .spmGo => Sys2Proof.Machine.execSpmGo s
  | .spmAbort bits => Sys2Proof.Machine.execSpmAbort bits s
  | .spmTransferDone status rx => Sys2Proof.Machine.execSpmTransferDone status rx s
  | .spmRetryWait status => Sys2Proof.Machine.execSpmRetryWait status s
  | .bar4Read addr len => Sys2Proof.Machine.execBar4Read addr len s
  | .bar4Write addr data => Sys2Proof.Machine.execBar4Write addr data s
  | .xipErase value => Sys2Proof.Machine.execXipErase value s
  | .xipPoll clear => Sys2Proof.Machine.execXipPoll clear s
  | .nvmWriteDone first retry => Sys2Proof.Machine.execNvmWriteDone first retry s
  | .opsecTick => Sys2Proof.Machine.execOpsecTick s
  | .opsecCheckpoint => Sys2Proof.Machine.execOpsecCheckpoint s
  | .evrRecordWrite => Sys2Proof.Machine.execEvrRecordWrite s
  | .evrSummary => Sys2Proof.Machine.execEvrSummary s
  | .evrCursorHi value => Sys2Proof.Machine.execEvrCursorHi value s
  | .evrData15Read => Sys2Proof.Machine.execEvrData15Read s
  | .evrClear value => Sys2Proof.Machine.execEvrClear value s
  | .evrClearDone => Sys2Proof.Machine.execEvrClearDone s
  | .evrWall value => Sys2Proof.Machine.execEvrWall value s
  | .railFail torn => Sys2Proof.Machine.execRailFail torn s
  | .pwrBank value => Sys2Proof.Machine.execPwrBank value s
  | .pwrCtrl value => Sys2Proof.Machine.execPwrCtrl value s
  | .bankPowerUpDone b fails => Sys2Proof.Machine.execBankPowerUpDone b fails s
  | .bankPowerDownDone b => Sys2Proof.Machine.execBankPowerDownDone b s
  | .feCommonOff fe => Sys2Proof.Machine.execFeCommonOff fe s
  | .clusterPowerUpDone c => Sys2Proof.Machine.execClusterPowerUpDone c s
  | .mbxDone programOk => Sys2Proof.Machine.execMbxDone programOk s
  | .progRegisterWrite n off value => Sys2Proof.Machine.execProgRegisterWrite n off value s
  | .apgRegisterWrite n off value => Sys2Proof.Machine.execApgRegisterWrite n off value s
  | .lftPinWrite n r value => Sys2Proof.Machine.execLftPinWrite n r value s
  | .capDescriptorWrite b off value => Sys2Proof.Machine.execCapDescriptorWrite b off value s
  | .tmuConfigWrite t off value => Sys2Proof.Machine.execTmuConfigWrite t off value s
  | .limitEntryWrite n e w value => Sys2Proof.Machine.execLimitEntryWrite n e w value s
  | .hvcVWrite b code => Sys2Proof.Machine.execHvcVWrite b code s
  | .hvcConnWrite b on => Sys2Proof.Machine.execHvcConnWrite b on s
  | .feedMbWrite value => Sys2Proof.Machine.execFeedMbWrite value s

end Sys2Proof.Machine
end

