-- ==== Sys2Proof/Machine/Tick.lean ====
section
/-! DEFINITION. One MCLK cycle with no command waiting. -/

namespace Sys2Proof.Machine
open Sys2Proof

/-- One MCLK cycle (R89): the cycle counters and the epoch counter advance, and the epoch counter wraps where p has reached N − 1. Off and
unpowered everything stands still. -/
def tick (s : State) : State :=
  if s.dev = .off then s
  else
    let s := s.cyclesPass 1
    if s.frameN ≤ s.epc.p + 1 then s.frameBoundary else { s with epc := { s.epc with p := s.epc.p + 1 } }

end Sys2Proof.Machine
end

