-- ==== Sys2Proof/Machine/Step.lean ====
section
/-! DEFINITION. One step of the block: the command at the front of the queue, or one MCLK cycle when the queue is empty. -/

namespace Sys2Proof.Machine
open Sys2Proof

/-- The command a table word spells is put at the front of the queue; the state stays where the word spells none. -/
def State.withFetchWord (s : State) (nbits w : Nat) : State :=
  match decodeTableWord nbits w with
  | some i => { s with pending := i :: s.pending }
  | none => s

/-- One step: the front command runs with the rest of the queue waiting; with nothing waiting, one MCLK cycle passes. -/
def step (s : State) : Host.Outcome State Fault Refusal :=
  match s.pending with
  | c :: rest => exec c { s with pending := rest }
  | [] => done (tick s)

end Sys2Proof.Machine
end

