-- ==== Sys2Proof/Laws/Maps.lean ====
section
/-! SUPPORT. Laws of the sparse stores and of bit fields: what is read after a write, and that every operation keeps the canonical form. -/

namespace Sys2Proof.Machine

section Stores
variable {α : Type}

theorem mapGet_mapDel_same (d : Nat → α) (m : SMap α) (k : Nat) : mapGet d (mapDel m k) k = d k := by
  induction m with
  | nil => rfl
  | cons e r ih =>
    by_cases h : e.1 = k
    · simp [mapDel, h, ih]
    · simp [mapDel, h, mapGet, ih]

theorem mapGet_mapDel_other (d : Nat → α) (m : SMap α) {k j : Nat} (h : j ≠ k) :
    mapGet d (mapDel m k) j = mapGet d m j := by
  induction m with
  | nil => rfl
  | cons e r ih =>
    obtain ⟨a, v⟩ := e
    by_cases he : a = k
    · subst he
      simp [mapDel, mapGet, ih, Ne.symm h]
    · by_cases hj : a = j
      · simp [mapDel, he, mapGet, hj, h]
      · simp [mapDel, he, mapGet, hj, ih]

theorem mapGet_mapPut_same (d : Nat → α) (m : SMap α) (k : Nat) (v : α) : mapGet d (mapPut m k v) k = v := by
  induction m with
  | nil => simp [mapPut, mapGet]
  | cons e r ih =>
    by_cases h1 : k < e.1
    · simp [mapPut, h1, mapGet]
    · by_cases h2 : e.1 = k <;> simp [mapPut, h1, h2, mapGet, ih]

theorem mapGet_mapPut_other (d : Nat → α) (m : SMap α) {k j : Nat} (v : α) (h : j ≠ k) :
    mapGet d (mapPut m k v) j = mapGet d m j := by
  have hk : ¬ k = j := fun hk => h hk.symm
  induction m with
  | nil => simp [mapPut, mapGet, hk]
  | cons e r ih =>
    by_cases h1 : k < e.1
    · simp [mapPut, h1, mapGet, hk]
    · by_cases h2 : e.1 = k
      · simp [mapPut, h2, mapGet, hk]
      · simp [mapPut, h1, h2, mapGet, ih]

/-- A read after a write of the same key gives the value written. -/
@[simp] theorem mapGet_mapSet_same [DecidableEq α] (d : Nat → α) (m : SMap α) (k : Nat) (v : α) :
    mapGet d (mapSet d m k v) k = v := by
  unfold mapSet
  split
  · next h => rw [mapGet_mapDel_same, h]
  · exact mapGet_mapPut_same d m k v

/-- A write leaves every other key alone. -/
theorem mapGet_mapSet_other [DecidableEq α] (d : Nat → α) (m : SMap α) {k j : Nat} (v : α) (h : j ≠ k) :
    mapGet d (mapSet d m k v) j = mapGet d m j := by
  unfold mapSet
  split
  · exact mapGet_mapDel_other d m h
  · exact mapGet_mapPut_other d m v h

theorem mapGet_mapSet [DecidableEq α] (d : Nat → α) (m : SMap α) (k j : Nat) (v : α) :
    mapGet d (mapSet d m k v) j = if j = k then v else mapGet d m j := by
  by_cases h : j = k
  · subst h; simp
  · simp [h, mapGet_mapSet_other]

/-- What a store reads at a key that `mapDrop` drops, and at one it keeps. -/
theorem mapGet_mapDrop (d : Nat → α) (p : Nat → Bool) (m : SMap α) (k : Nat) :
    mapGet d (mapDrop p m) k = if p k then d k else mapGet d m k := by
  induction m with
  | nil => simp [mapDrop, mapGet]
  | cons e r ih =>
    by_cases hp : p e.1 <;> by_cases hk : e.1 = k <;> simp_all [mapDrop, mapGet]

/-! ### The canonical form -/

/-- Keys strictly rising, as a pairwise property. -/
theorem keysRise_iff (m : SMap α) : keysRise m = true ↔ (m.map Prod.fst).Pairwise (· < ·) := by
  induction m with
  | nil => simp [keysRise]
  | cons e r ih =>
    cases r with
    | nil => simp [keysRise]
    | cons f r =>
      rw [keysRise]
      simp only [Bool.and_eq_true, decide_eq_true_eq, ih, List.map_cons, List.pairwise_cons]
      constructor
      · rintro ⟨h, h', hr⟩
        refine ⟨?_, h', hr⟩
        intro a ha
        rcases List.mem_cons.mp ha with rfl | ha
        · exact h
        · exact lt_trans h (h' a ha)
      · rintro ⟨h, h', hr⟩
        exact ⟨h _ (List.mem_cons_self ..), h', hr⟩

theorem mem_mapDel (m : SMap α) (k : Nat) (e : Nat × α) (h : e ∈ mapDel m k) : e ∈ m := by
  induction m with
  | nil => exact h
  | cons f r ih =>
    by_cases hf : f.1 = k
    · simp only [mapDel, hf, if_true] at h
      exact List.mem_cons_of_mem _ (ih h)
    · simp only [mapDel, hf, if_false, List.mem_cons] at h ⊢
      exact h.imp id ih

theorem mem_mapPut (m : SMap α) (k : Nat) (v : α) (e : Nat × α) (h : e ∈ mapPut m k v) : e = (k, v) ∨ e ∈ m := by
  induction m with
  | nil => simpa [mapPut] using h
  | cons f r ih =>
    by_cases h1 : k < f.1
    · simpa [mapPut, h1] using h
    · by_cases h2 : f.1 = k
      · simp only [mapPut, h2, lt_irrefl, if_false, if_true, List.mem_cons] at h ⊢
        tauto
      · simp only [mapPut, h1, h2, if_false, List.mem_cons] at h ⊢
        rcases h with h | h
        · exact .inr (.inl h)
        · exact (ih h).imp id .inr

theorem keysRise_mapDel (m : SMap α) (k : Nat) (h : keysRise m = true) : keysRise (mapDel m k) = true := by
  rw [keysRise_iff] at *
  induction m with
  | nil => simp [mapDel]
  | cons f r ih =>
    simp only [List.map_cons, List.pairwise_cons] at h
    by_cases hf : f.1 = k
    · simpa [mapDel, hf] using ih h.2
    · simp only [mapDel, hf, if_false, List.map_cons, List.pairwise_cons]
      refine ⟨?_, ih h.2⟩
      intro a ha
      obtain ⟨e, he, rfl⟩ := List.mem_map.mp ha
      exact h.1 _ (List.mem_map.mpr ⟨e, mem_mapDel r k e he, rfl⟩)

theorem keysRise_mapPut (m : SMap α) (k : Nat) (v : α) (h : keysRise m = true) : keysRise (mapPut m k v) = true := by
  rw [keysRise_iff] at *
  induction m with
  | nil => simp [mapPut]
  | cons f r ih =>
    simp only [List.map_cons, List.pairwise_cons] at h
    by_cases h1 : k < f.1
    · simp only [mapPut, h1, if_true, List.map_cons, List.pairwise_cons]
      refine ⟨?_, h.1, h.2⟩
      intro a ha
      rcases List.mem_cons.mp ha with rfl | ha
      · exact h1
      · exact lt_trans h1 (h.1 a ha)
    · by_cases h2 : f.1 = k
      · subst h2
        simp only [mapPut, lt_irrefl, if_false, if_true, List.map_cons, List.pairwise_cons]
        exact h
      · simp only [mapPut, h1, h2, if_false, List.map_cons, List.pairwise_cons]
        refine ⟨?_, ih h.2⟩
        intro a ha
        obtain ⟨e, he, rfl⟩ := List.mem_map.mp ha
        rcases mem_mapPut r k v e he with rfl | he
        · exact lt_of_le_of_ne (not_lt.mp h1) h2
        · exact h.1 _ (List.mem_map.mpr ⟨e, he, rfl⟩)

/-- A write keeps the canonical form. -/
theorem mapSet_wf [DecidableEq α] (d : Nat → α) (m : SMap α) (k : Nat) (v : α) (h : mapWf d m = true) :
    mapWf d (mapSet d m k v) = true := by
  simp only [mapWf, Bool.and_eq_true, List.all_eq_true] at *
  unfold mapSet
  split
  · exact ⟨keysRise_mapDel m k h.1, fun e he => h.2 e (mem_mapDel m k e he)⟩
  · next hv =>
    refine ⟨keysRise_mapPut m k v h.1, fun e he => ?_⟩
    rcases mem_mapPut m k v e he with rfl | he
    · simpa using hv
    · exact h.2 e he

/-- Removing an entry keeps the canonical form. -/
theorem mapDel_wf [DecidableEq α] (d : Nat → α) (m : SMap α) (k : Nat) (h : mapWf d m = true) : mapWf d (mapDel m k) = true := by
  simp only [mapWf, Bool.and_eq_true, List.all_eq_true] at *
  exact ⟨keysRise_mapDel m k h.1, fun e he => h.2 e (mem_mapDel m k e he)⟩

/-- Dropping entries keeps the canonical form. -/
theorem mapDrop_wf [DecidableEq α] (d : Nat → α) (p : Nat → Bool) (m : SMap α) (h : mapWf d m = true) :
    mapWf d (mapDrop p m) = true := by
  simp only [mapWf, Bool.and_eq_true, List.all_eq_true, keysRise_iff] at *
  refine ⟨?_, fun e he => h.2 e (List.mem_of_mem_filter he)⟩
  exact List.Pairwise.sublist (List.Sublist.map _ List.filter_sublist) h.1

end Stores

/-! ### Bit fields -/

theorem maskOf_getLsbD (hi lo i : Nat) (h : hi < 32) (hl : lo ≤ hi) :
    (maskOf hi lo).getLsbD i = (decide (lo ≤ i) && decide (i ≤ hi)) := by
  have h2 : ∀ a b : Nat, b ≤ a → (2 ^ a - 2 ^ b).testBit i = (decide (b ≤ i) && decide (i < a)) := by
    intro a b hab
    have : 2 ^ a - 2 ^ b = 2 ^ b * (2 ^ (a - b) - 1) := by
      rw [Nat.mul_sub, ← pow_add, Nat.add_sub_cancel' hab, Nat.mul_one]
    rw [this, Nat.testBit_two_pow_mul, Nat.testBit_two_pow_sub_one]
    by_cases hb : b ≤ i
    · simp [hb]; omega
    · simp [hb]
  simp only [maskOf, BitVec.getLsbD_ofNat]
  rw [h2 (hi + 1) lo (by omega)]
  by_cases h3 : i ≤ hi
  · have : i < 32 := by omega
    simp [this, Nat.lt_succ_of_le h3, h3]
  · simp [h3]

/-- A field read after it is written: the value, cut to the field's width. -/
theorem bitsOf_putBits_same (w : Word) (hi lo v : Nat) (h : hi < 32) (hl : lo ≤ hi) :
    bitsOf (putBits w hi lo v) hi lo = v % 2 ^ (hi + 1 - lo) := by
  apply Nat.eq_of_testBit_eq
  intro i
  simp only [bitsOf, Nat.testBit_mod_two_pow, Nat.testBit_shiftRight]
  by_cases hi' : i < hi + 1 - lo
  · simp only [hi', decide_true, Bool.true_and]
    rw [← BitVec.getLsbD, putBits]
    simp only [BitVec.getLsbD_or, BitVec.getLsbD_and, BitVec.getLsbD_not, maskOf_getLsbD _ _ _ h hl, BitVec.getLsbD_ofNat,
      Nat.testBit_shiftLeft]
    have h1 : lo + i < 32 := by omega
    have h2 : lo + i ≤ hi := by omega
    simp [h1, h2]
  · simp [hi']

/-- A field read after another, disjoint one is written. -/
theorem bitsOf_putBits_disjoint (w : Word) (hi lo hi' lo' v : Nat) (h : hi < 32) (hl : lo ≤ hi)
    (hd : hi' < lo ∨ hi < lo') (h' : hi' < 32) : bitsOf (putBits w hi lo v) hi' lo' = bitsOf w hi' lo' := by
  apply Nat.eq_of_testBit_eq
  intro i
  simp only [bitsOf, Nat.testBit_mod_two_pow, Nat.testBit_shiftRight]
  by_cases hi2 : i < hi' + 1 - lo'
  · simp only [hi2, decide_true, Bool.true_and]
    rw [← BitVec.getLsbD, ← BitVec.getLsbD, putBits]
    simp only [BitVec.getLsbD_or, BitVec.getLsbD_and, BitVec.getLsbD_not, maskOf_getLsbD _ _ _ h hl]
    have h1 : lo' + i < 32 := by omega
    have h2 : ¬ (lo ≤ lo' + i ∧ lo' + i ≤ hi) := by omega
    by_cases h3 : lo ≤ lo' + i
    · have h4 : ¬ lo' + i ≤ hi := fun h4 => h2 ⟨h3, h4⟩
      simp [h1, h4]
    · simp [h1, h3]
  · simp [hi2]

end Sys2Proof.Machine
end

