-- ==== Sys2Proof/Laws/State.lean ====
section
/-! SUPPORT. One lemma per field per update of the state: what each elementary operation leaves alone, and what it gives back when read. -/

namespace Sys2Proof.Machine
open Sys2Proof

/-! ### `State.wr` -/

@[simp] theorem wr_pending (s : State) (off : Nat) (v : Word) : (s.wr off v).pending = s.pending := rfl
@[simp] theorem wr_dev (s : State) (off : Nat) (v : Word) : (s.wr off v).dev = s.dev := rfl
@[simp] theorem wr_cause (s : State) (off : Nat) (v : Word) : (s.wr off v).cause = s.cause := rfl
@[simp] theorem wr_causeType (s : State) (off : Nat) (v : Word) : (s.wr off v).causeType = s.causeType := rfl
@[simp] theorem wr_role (s : State) (off : Nat) (v : Word) : (s.wr off v).role = s.role := rfl
@[simp] theorem wr_faults (s : State) (off : Nat) (v : Word) : (s.wr off v).faults = s.faults := rfl
@[simp] theorem wr_hif (s : State) (off : Nat) (v : Word) : (s.wr off v).hif = s.hif := rfl
@[simp] theorem wr_mbx (s : State) (off : Nat) (v : Word) : (s.wr off v).mbx = s.mbx := rfl
@[simp] theorem wr_epc (s : State) (off : Nat) (v : Word) : (s.wr off v).epc = s.epc := rfl
@[simp] theorem wr_pst (s : State) (off : Nat) (v : Word) : (s.wr off v).pst = s.pst := rfl
@[simp] theorem wr_evr (s : State) (off : Nat) (v : Word) : (s.wr off v).evr = s.evr := rfl
@[simp] theorem wr_pins (s : State) (off : Nat) (v : Word) : (s.wr off v).pins = s.pins := rfl
@[simp] theorem wr_banks (s : State) (off : Nat) (v : Word) : (s.wr off v).banks = s.banks := rfl
@[simp] theorem wr_sups (s : State) (off : Nat) (v : Word) : (s.wr off v).sups = s.sups := rfl
@[simp] theorem wr_guards (s : State) (off : Nat) (v : Word) : (s.wr off v).guards = s.guards := rfl
@[simp] theorem wr_fes (s : State) (off : Nat) (v : Word) : (s.wr off v).fes = s.fes := rfl
@[simp] theorem wr_domains (s : State) (off : Nat) (v : Word) : (s.wr off v).domains = s.domains := rfl
@[simp] theorem wr_clusterRise (s : State) (off : Nat) (v : Word) : (s.wr off v).clusterRise = s.clusterRise := rfl
@[simp] theorem wr_psqs (s : State) (off : Nat) (v : Word) : (s.wr off v).psqs = s.psqs := rfl
@[simp] theorem wr_mces (s : State) (off : Nat) (v : Word) : (s.wr off v).mces = s.mces := rfl
@[simp] theorem wr_edgeTab (s : State) (off : Nat) (v : Word) : (s.wr off v).edgeTab = s.edgeTab := rfl
@[simp] theorem wr_scramble (s : State) (off : Nat) (v : Word) : (s.wr off v).scramble = s.scramble := rfl
@[simp] theorem wr_topo (s : State) (off : Nat) (v : Word) : (s.wr off v).topo = s.topo := rfl
@[simp] theorem wr_sites (s : State) (off : Nat) (v : Word) : (s.wr off v).sites = s.sites := rfl
@[simp] theorem wr_sfb (s : State) (off : Nat) (v : Word) : (s.wr off v).sfb = s.sfb := rfl
@[simp] theorem wr_overlay (s : State) (off : Nat) (v : Word) : (s.wr off v).overlay = s.overlay := rfl
@[simp] theorem wr_ovlDma (s : State) (off : Nat) (v : Word) : (s.wr off v).ovlDma = s.ovlDma := rfl
@[simp] theorem wr_vs (s : State) (off : Nat) (v : Word) : (s.wr off v).vs = s.vs := rfl
@[simp] theorem wr_fre (s : State) (off : Nat) (v : Word) : (s.wr off v).fre = s.fre := rfl
@[simp] theorem wr_meas (s : State) (off : Nat) (v : Word) : (s.wr off v).meas = s.meas := rfl
@[simp] theorem wr_tmus (s : State) (off : Nat) (v : Word) : (s.wr off v).tmus = s.tmus := rfl
@[simp] theorem wr_cal (s : State) (off : Nat) (v : Word) : (s.wr off v).cal = s.cal := rfl
@[simp] theorem wr_thm (s : State) (off : Nat) (v : Word) : (s.wr off v).thm = s.thm := rfl
@[simp] theorem wr_plk (s : State) (off : Nat) (v : Word) : (s.wr off v).plk = s.plk := rfl
@[simp] theorem wr_spm (s : State) (off : Nat) (v : Word) : (s.wr off v).spm = s.spm := rfl
@[simp] theorem wr_sec (s : State) (off : Nat) (v : Word) : (s.wr off v).sec = s.sec := rfl
@[simp] theorem wr_chipWraps (s : State) (off : Nat) (v : Word) : (s.wr off v).chipWraps = s.chipWraps := rfl
@[simp] theorem wr_boardIds (s : State) (off : Nat) (v : Word) : (s.wr off v).boardIds = s.boardIds := rfl
@[simp] theorem wr_settings (s : State) (off : Nat) (v : Word) : (s.wr off v).settings = s.settings := rfl
@[simp] theorem wr_nvmJobs (s : State) (off : Nat) (v : Word) : (s.wr off v).nvmJobs = s.nvmJobs := rfl
@[simp] theorem wr_sig (s : State) (off : Nat) (v : Word) : (s.wr off v).sig = s.sig := rfl
@[simp] theorem wr_grave (s : State) (off : Nat) (v : Word) : (s.wr off v).grave = s.grave := rfl
@[simp] theorem wr_clock (s : State) (off : Nat) (v : Word) : (s.wr off v).clock = s.clock := rfl
@[simp] theorem wr_free (s : State) (off : Nat) (v : Word) : (s.wr off v).free = s.free := rfl

/-! ### `State.putAt` -/

@[simp] theorem putAt_pending (s : State) (k : PageKind) (i : Nat) (f : Fld) (j v : Nat) : (s.putAt k i f j v).pending = s.pending := rfl
@[simp] theorem putAt_dev (s : State) (k : PageKind) (i : Nat) (f : Fld) (j v : Nat) : (s.putAt k i f j v).dev = s.dev := rfl
@[simp] theorem putAt_cause (s : State) (k : PageKind) (i : Nat) (f : Fld) (j v : Nat) : (s.putAt k i f j v).cause = s.cause := rfl
@[simp] theorem putAt_causeType (s : State) (k : PageKind) (i : Nat) (f : Fld) (j v : Nat) : (s.putAt k i f j v).causeType = s.causeType := rfl
@[simp] theorem putAt_role (s : State) (k : PageKind) (i : Nat) (f : Fld) (j v : Nat) : (s.putAt k i f j v).role = s.role := rfl
@[simp] theorem putAt_faults (s : State) (k : PageKind) (i : Nat) (f : Fld) (j v : Nat) : (s.putAt k i f j v).faults = s.faults := rfl
@[simp] theorem putAt_hif (s : State) (k : PageKind) (i : Nat) (f : Fld) (j v : Nat) : (s.putAt k i f j v).hif = s.hif := rfl
@[simp] theorem putAt_mbx (s : State) (k : PageKind) (i : Nat) (f : Fld) (j v : Nat) : (s.putAt k i f j v).mbx = s.mbx := rfl
@[simp] theorem putAt_epc (s : State) (k : PageKind) (i : Nat) (f : Fld) (j v : Nat) : (s.putAt k i f j v).epc = s.epc := rfl
@[simp] theorem putAt_pst (s : State) (k : PageKind) (i : Nat) (f : Fld) (j v : Nat) : (s.putAt k i f j v).pst = s.pst := rfl
@[simp] theorem putAt_evr (s : State) (k : PageKind) (i : Nat) (f : Fld) (j v : Nat) : (s.putAt k i f j v).evr = s.evr := rfl
@[simp] theorem putAt_pins (s : State) (k : PageKind) (i : Nat) (f : Fld) (j v : Nat) : (s.putAt k i f j v).pins = s.pins := rfl
@[simp] theorem putAt_banks (s : State) (k : PageKind) (i : Nat) (f : Fld) (j v : Nat) : (s.putAt k i f j v).banks = s.banks := rfl
@[simp] theorem putAt_sups (s : State) (k : PageKind) (i : Nat) (f : Fld) (j v : Nat) : (s.putAt k i f j v).sups = s.sups := rfl
@[simp] theorem putAt_guards (s : State) (k : PageKind) (i : Nat) (f : Fld) (j v : Nat) : (s.putAt k i f j v).guards = s.guards := rfl
@[simp] theorem putAt_fes (s : State) (k : PageKind) (i : Nat) (f : Fld) (j v : Nat) : (s.putAt k i f j v).fes = s.fes := rfl
@[simp] theorem putAt_domains (s : State) (k : PageKind) (i : Nat) (f : Fld) (j v : Nat) : (s.putAt k i f j v).domains = s.domains := rfl
@[simp] theorem putAt_clusterRise (s : State) (k : PageKind) (i : Nat) (f : Fld) (j v : Nat) : (s.putAt k i f j v).clusterRise = s.clusterRise := rfl
@[simp] theorem putAt_psqs (s : State) (k : PageKind) (i : Nat) (f : Fld) (j v : Nat) : (s.putAt k i f j v).psqs = s.psqs := rfl
@[simp] theorem putAt_mces (s : State) (k : PageKind) (i : Nat) (f : Fld) (j v : Nat) : (s.putAt k i f j v).mces = s.mces := rfl
@[simp] theorem putAt_edgeTab (s : State) (k : PageKind) (i : Nat) (f : Fld) (j v : Nat) : (s.putAt k i f j v).edgeTab = s.edgeTab := rfl
@[simp] theorem putAt_scramble (s : State) (k : PageKind) (i : Nat) (f : Fld) (j v : Nat) : (s.putAt k i f j v).scramble = s.scramble := rfl
@[simp] theorem putAt_topo (s : State) (k : PageKind) (i : Nat) (f : Fld) (j v : Nat) : (s.putAt k i f j v).topo = s.topo := rfl
@[simp] theorem putAt_sites (s : State) (k : PageKind) (i : Nat) (f : Fld) (j v : Nat) : (s.putAt k i f j v).sites = s.sites := rfl
@[simp] theorem putAt_sfb (s : State) (k : PageKind) (i : Nat) (f : Fld) (j v : Nat) : (s.putAt k i f j v).sfb = s.sfb := rfl
@[simp] theorem putAt_overlay (s : State) (k : PageKind) (i : Nat) (f : Fld) (j v : Nat) : (s.putAt k i f j v).overlay = s.overlay := rfl
@[simp] theorem putAt_ovlDma (s : State) (k : PageKind) (i : Nat) (f : Fld) (j v : Nat) : (s.putAt k i f j v).ovlDma = s.ovlDma := rfl
@[simp] theorem putAt_vs (s : State) (k : PageKind) (i : Nat) (f : Fld) (j v : Nat) : (s.putAt k i f j v).vs = s.vs := rfl
@[simp] theorem putAt_fre (s : State) (k : PageKind) (i : Nat) (f : Fld) (j v : Nat) : (s.putAt k i f j v).fre = s.fre := rfl
@[simp] theorem putAt_meas (s : State) (k : PageKind) (i : Nat) (f : Fld) (j v : Nat) : (s.putAt k i f j v).meas = s.meas := rfl
@[simp] theorem putAt_tmus (s : State) (k : PageKind) (i : Nat) (f : Fld) (j v : Nat) : (s.putAt k i f j v).tmus = s.tmus := rfl
@[simp] theorem putAt_cal (s : State) (k : PageKind) (i : Nat) (f : Fld) (j v : Nat) : (s.putAt k i f j v).cal = s.cal := rfl
@[simp] theorem putAt_thm (s : State) (k : PageKind) (i : Nat) (f : Fld) (j v : Nat) : (s.putAt k i f j v).thm = s.thm := rfl
@[simp] theorem putAt_plk (s : State) (k : PageKind) (i : Nat) (f : Fld) (j v : Nat) : (s.putAt k i f j v).plk = s.plk := rfl
@[simp] theorem putAt_spm (s : State) (k : PageKind) (i : Nat) (f : Fld) (j v : Nat) : (s.putAt k i f j v).spm = s.spm := rfl
@[simp] theorem putAt_sec (s : State) (k : PageKind) (i : Nat) (f : Fld) (j v : Nat) : (s.putAt k i f j v).sec = s.sec := rfl
@[simp] theorem putAt_chipWraps (s : State) (k : PageKind) (i : Nat) (f : Fld) (j v : Nat) : (s.putAt k i f j v).chipWraps = s.chipWraps := rfl
@[simp] theorem putAt_boardIds (s : State) (k : PageKind) (i : Nat) (f : Fld) (j v : Nat) : (s.putAt k i f j v).boardIds = s.boardIds := rfl
@[simp] theorem putAt_settings (s : State) (k : PageKind) (i : Nat) (f : Fld) (j v : Nat) : (s.putAt k i f j v).settings = s.settings := rfl
@[simp] theorem putAt_nvmJobs (s : State) (k : PageKind) (i : Nat) (f : Fld) (j v : Nat) : (s.putAt k i f j v).nvmJobs = s.nvmJobs := rfl
@[simp] theorem putAt_sig (s : State) (k : PageKind) (i : Nat) (f : Fld) (j v : Nat) : (s.putAt k i f j v).sig = s.sig := rfl
@[simp] theorem putAt_grave (s : State) (k : PageKind) (i : Nat) (f : Fld) (j v : Nat) : (s.putAt k i f j v).grave = s.grave := rfl
@[simp] theorem putAt_clock (s : State) (k : PageKind) (i : Nat) (f : Fld) (j v : Nat) : (s.putAt k i f j v).clock = s.clock := rfl
@[simp] theorem putAt_free (s : State) (k : PageKind) (i : Nat) (f : Fld) (j v : Nat) : (s.putAt k i f j v).free = s.free := rfl

/-! ### `State.put` -/

@[simp] theorem put_pending (s : State) (k : PageKind) (i : Nat) (f : Fld) (v : Nat) : (s.put k i f v).pending = s.pending := rfl
@[simp] theorem put_dev (s : State) (k : PageKind) (i : Nat) (f : Fld) (v : Nat) : (s.put k i f v).dev = s.dev := rfl
@[simp] theorem put_cause (s : State) (k : PageKind) (i : Nat) (f : Fld) (v : Nat) : (s.put k i f v).cause = s.cause := rfl
@[simp] theorem put_causeType (s : State) (k : PageKind) (i : Nat) (f : Fld) (v : Nat) : (s.put k i f v).causeType = s.causeType := rfl
@[simp] theorem put_role (s : State) (k : PageKind) (i : Nat) (f : Fld) (v : Nat) : (s.put k i f v).role = s.role := rfl
@[simp] theorem put_faults (s : State) (k : PageKind) (i : Nat) (f : Fld) (v : Nat) : (s.put k i f v).faults = s.faults := rfl
@[simp] theorem put_hif (s : State) (k : PageKind) (i : Nat) (f : Fld) (v : Nat) : (s.put k i f v).hif = s.hif := rfl
@[simp] theorem put_mbx (s : State) (k : PageKind) (i : Nat) (f : Fld) (v : Nat) : (s.put k i f v).mbx = s.mbx := rfl
@[simp] theorem put_epc (s : State) (k : PageKind) (i : Nat) (f : Fld) (v : Nat) : (s.put k i f v).epc = s.epc := rfl
@[simp] theorem put_pst (s : State) (k : PageKind) (i : Nat) (f : Fld) (v : Nat) : (s.put k i f v).pst = s.pst := rfl
@[simp] theorem put_evr (s : State) (k : PageKind) (i : Nat) (f : Fld) (v : Nat) : (s.put k i f v).evr = s.evr := rfl
@[simp] theorem put_pins (s : State) (k : PageKind) (i : Nat) (f : Fld) (v : Nat) : (s.put k i f v).pins = s.pins := rfl
@[simp] theorem put_banks (s : State) (k : PageKind) (i : Nat) (f : Fld) (v : Nat) : (s.put k i f v).banks = s.banks := rfl
@[simp] theorem put_sups (s : State) (k : PageKind) (i : Nat) (f : Fld) (v : Nat) : (s.put k i f v).sups = s.sups := rfl
@[simp] theorem put_guards (s : State) (k : PageKind) (i : Nat) (f : Fld) (v : Nat) : (s.put k i f v).guards = s.guards := rfl
@[simp] theorem put_fes (s : State) (k : PageKind) (i : Nat) (f : Fld) (v : Nat) : (s.put k i f v).fes = s.fes := rfl
@[simp] theorem put_domains (s : State) (k : PageKind) (i : Nat) (f : Fld) (v : Nat) : (s.put k i f v).domains = s.domains := rfl
@[simp] theorem put_clusterRise (s : State) (k : PageKind) (i : Nat) (f : Fld) (v : Nat) : (s.put k i f v).clusterRise = s.clusterRise := rfl
@[simp] theorem put_psqs (s : State) (k : PageKind) (i : Nat) (f : Fld) (v : Nat) : (s.put k i f v).psqs = s.psqs := rfl
@[simp] theorem put_mces (s : State) (k : PageKind) (i : Nat) (f : Fld) (v : Nat) : (s.put k i f v).mces = s.mces := rfl
@[simp] theorem put_edgeTab (s : State) (k : PageKind) (i : Nat) (f : Fld) (v : Nat) : (s.put k i f v).edgeTab = s.edgeTab := rfl
@[simp] theorem put_scramble (s : State) (k : PageKind) (i : Nat) (f : Fld) (v : Nat) : (s.put k i f v).scramble = s.scramble := rfl
@[simp] theorem put_topo (s : State) (k : PageKind) (i : Nat) (f : Fld) (v : Nat) : (s.put k i f v).topo = s.topo := rfl
@[simp] theorem put_sites (s : State) (k : PageKind) (i : Nat) (f : Fld) (v : Nat) : (s.put k i f v).sites = s.sites := rfl
@[simp] theorem put_sfb (s : State) (k : PageKind) (i : Nat) (f : Fld) (v : Nat) : (s.put k i f v).sfb = s.sfb := rfl
@[simp] theorem put_overlay (s : State) (k : PageKind) (i : Nat) (f : Fld) (v : Nat) : (s.put k i f v).overlay = s.overlay := rfl
@[simp] theorem put_ovlDma (s : State) (k : PageKind) (i : Nat) (f : Fld) (v : Nat) : (s.put k i f v).ovlDma = s.ovlDma := rfl
@[simp] theorem put_vs (s : State) (k : PageKind) (i : Nat) (f : Fld) (v : Nat) : (s.put k i f v).vs = s.vs := rfl
@[simp] theorem put_fre (s : State) (k : PageKind) (i : Nat) (f : Fld) (v : Nat) : (s.put k i f v).fre = s.fre := rfl
@[simp] theorem put_meas (s : State) (k : PageKind) (i : Nat) (f : Fld) (v : Nat) : (s.put k i f v).meas = s.meas := rfl
@[simp] theorem put_tmus (s : State) (k : PageKind) (i : Nat) (f : Fld) (v : Nat) : (s.put k i f v).tmus = s.tmus := rfl
@[simp] theorem put_cal (s : State) (k : PageKind) (i : Nat) (f : Fld) (v : Nat) : (s.put k i f v).cal = s.cal := rfl
@[simp] theorem put_thm (s : State) (k : PageKind) (i : Nat) (f : Fld) (v : Nat) : (s.put k i f v).thm = s.thm := rfl
@[simp] theorem put_plk (s : State) (k : PageKind) (i : Nat) (f : Fld) (v : Nat) : (s.put k i f v).plk = s.plk := rfl
@[simp] theorem put_spm (s : State) (k : PageKind) (i : Nat) (f : Fld) (v : Nat) : (s.put k i f v).spm = s.spm := rfl
@[simp] theorem put_sec (s : State) (k : PageKind) (i : Nat) (f : Fld) (v : Nat) : (s.put k i f v).sec = s.sec := rfl
@[simp] theorem put_chipWraps (s : State) (k : PageKind) (i : Nat) (f : Fld) (v : Nat) : (s.put k i f v).chipWraps = s.chipWraps := rfl
@[simp] theorem put_boardIds (s : State) (k : PageKind) (i : Nat) (f : Fld) (v : Nat) : (s.put k i f v).boardIds = s.boardIds := rfl
@[simp] theorem put_settings (s : State) (k : PageKind) (i : Nat) (f : Fld) (v : Nat) : (s.put k i f v).settings = s.settings := rfl
@[simp] theorem put_nvmJobs (s : State) (k : PageKind) (i : Nat) (f : Fld) (v : Nat) : (s.put k i f v).nvmJobs = s.nvmJobs := rfl
@[simp] theorem put_sig (s : State) (k : PageKind) (i : Nat) (f : Fld) (v : Nat) : (s.put k i f v).sig = s.sig := rfl
@[simp] theorem put_grave (s : State) (k : PageKind) (i : Nat) (f : Fld) (v : Nat) : (s.put k i f v).grave = s.grave := rfl
@[simp] theorem put_clock (s : State) (k : PageKind) (i : Nat) (f : Fld) (v : Nat) : (s.put k i f v).clock = s.clock := rfl
@[simp] theorem put_free (s : State) (k : PageKind) (i : Nat) (f : Fld) (v : Nat) : (s.put k i f v).free = s.free := rfl

/-! ### `State.drawn` -/

@[simp] theorem drawn_pending (s : State) : s.drawn.pending = s.pending := rfl
@[simp] theorem drawn_regs (s : State) : s.drawn.regs = s.regs := rfl
@[simp] theorem drawn_dev (s : State) : s.drawn.dev = s.dev := rfl
@[simp] theorem drawn_cause (s : State) : s.drawn.cause = s.cause := rfl
@[simp] theorem drawn_causeType (s : State) : s.drawn.causeType = s.causeType := rfl
@[simp] theorem drawn_role (s : State) : s.drawn.role = s.role := rfl
@[simp] theorem drawn_faults (s : State) : s.drawn.faults = s.faults := rfl
@[simp] theorem drawn_hif (s : State) : s.drawn.hif = s.hif := rfl
@[simp] theorem drawn_mbx (s : State) : s.drawn.mbx = s.mbx := rfl
@[simp] theorem drawn_epc (s : State) : s.drawn.epc = s.epc := rfl
@[simp] theorem drawn_pst (s : State) : s.drawn.pst = s.pst := rfl
@[simp] theorem drawn_evr (s : State) : s.drawn.evr = s.evr := rfl
@[simp] theorem drawn_pins (s : State) : s.drawn.pins = s.pins := rfl
@[simp] theorem drawn_banks (s : State) : s.drawn.banks = s.banks := rfl
@[simp] theorem drawn_sups (s : State) : s.drawn.sups = s.sups := rfl
@[simp] theorem drawn_guards (s : State) : s.drawn.guards = s.guards := rfl
@[simp] theorem drawn_fes (s : State) : s.drawn.fes = s.fes := rfl
@[simp] theorem drawn_domains (s : State) : s.drawn.domains = s.domains := rfl
@[simp] theorem drawn_clusterRise (s : State) : s.drawn.clusterRise = s.clusterRise := rfl
@[simp] theorem drawn_psqs (s : State) : s.drawn.psqs = s.psqs := rfl
@[simp] theorem drawn_mces (s : State) : s.drawn.mces = s.mces := rfl
@[simp] theorem drawn_edgeTab (s : State) : s.drawn.edgeTab = s.edgeTab := rfl
@[simp] theorem drawn_scramble (s : State) : s.drawn.scramble = s.scramble := rfl
@[simp] theorem drawn_topo (s : State) : s.drawn.topo = s.topo := rfl
@[simp] theorem drawn_sites (s : State) : s.drawn.sites = s.sites := rfl
@[simp] theorem drawn_sfb (s : State) : s.drawn.sfb = s.sfb := rfl
@[simp] theorem drawn_overlay (s : State) : s.drawn.overlay = s.overlay := rfl
@[simp] theorem drawn_ovlDma (s : State) : s.drawn.ovlDma = s.ovlDma := rfl
@[simp] theorem drawn_vs (s : State) : s.drawn.vs = s.vs := rfl
@[simp] theorem drawn_fre (s : State) : s.drawn.fre = s.fre := rfl
@[simp] theorem drawn_meas (s : State) : s.drawn.meas = s.meas := rfl
@[simp] theorem drawn_tmus (s : State) : s.drawn.tmus = s.tmus := rfl
@[simp] theorem drawn_cal (s : State) : s.drawn.cal = s.cal := rfl
@[simp] theorem drawn_thm (s : State) : s.drawn.thm = s.thm := rfl
@[simp] theorem drawn_plk (s : State) : s.drawn.plk = s.plk := rfl
@[simp] theorem drawn_spm (s : State) : s.drawn.spm = s.spm := rfl
@[simp] theorem drawn_sec (s : State) : s.drawn.sec = s.sec := rfl
@[simp] theorem drawn_chipWraps (s : State) : s.drawn.chipWraps = s.chipWraps := rfl
@[simp] theorem drawn_boardIds (s : State) : s.drawn.boardIds = s.boardIds := rfl
@[simp] theorem drawn_settings (s : State) : s.drawn.settings = s.settings := rfl
@[simp] theorem drawn_nvmJobs (s : State) : s.drawn.nvmJobs = s.nvmJobs := rfl
@[simp] theorem drawn_sig (s : State) : s.drawn.sig = s.sig := rfl
@[simp] theorem drawn_grave (s : State) : s.drawn.grave = s.grave := rfl
@[simp] theorem drawn_clock (s : State) : s.drawn.clock = s.clock := rfl

/-! ### `State.setPin` -/

@[simp] theorem setPin_pending (s : State) (k : Nat) (v : PinSt) : (s.setPin k v).pending = s.pending := rfl
@[simp] theorem setPin_regs (s : State) (k : Nat) (v : PinSt) : (s.setPin k v).regs = s.regs := rfl
@[simp] theorem setPin_dev (s : State) (k : Nat) (v : PinSt) : (s.setPin k v).dev = s.dev := rfl
@[simp] theorem setPin_cause (s : State) (k : Nat) (v : PinSt) : (s.setPin k v).cause = s.cause := rfl
@[simp] theorem setPin_causeType (s : State) (k : Nat) (v : PinSt) : (s.setPin k v).causeType = s.causeType := rfl
@[simp] theorem setPin_role (s : State) (k : Nat) (v : PinSt) : (s.setPin k v).role = s.role := rfl
@[simp] theorem setPin_faults (s : State) (k : Nat) (v : PinSt) : (s.setPin k v).faults = s.faults := rfl
@[simp] theorem setPin_hif (s : State) (k : Nat) (v : PinSt) : (s.setPin k v).hif = s.hif := rfl
@[simp] theorem setPin_mbx (s : State) (k : Nat) (v : PinSt) : (s.setPin k v).mbx = s.mbx := rfl
@[simp] theorem setPin_epc (s : State) (k : Nat) (v : PinSt) : (s.setPin k v).epc = s.epc := rfl
@[simp] theorem setPin_pst (s : State) (k : Nat) (v : PinSt) : (s.setPin k v).pst = s.pst := rfl
@[simp] theorem setPin_evr (s : State) (k : Nat) (v : PinSt) : (s.setPin k v).evr = s.evr := rfl
@[simp] theorem setPin_banks (s : State) (k : Nat) (v : PinSt) : (s.setPin k v).banks = s.banks := rfl
@[simp] theorem setPin_sups (s : State) (k : Nat) (v : PinSt) : (s.setPin k v).sups = s.sups := rfl
@[simp] theorem setPin_guards (s : State) (k : Nat) (v : PinSt) : (s.setPin k v).guards = s.guards := rfl
@[simp] theorem setPin_fes (s : State) (k : Nat) (v : PinSt) : (s.setPin k v).fes = s.fes := rfl
@[simp] theorem setPin_domains (s : State) (k : Nat) (v : PinSt) : (s.setPin k v).domains = s.domains := rfl
@[simp] theorem setPin_clusterRise (s : State) (k : Nat) (v : PinSt) : (s.setPin k v).clusterRise = s.clusterRise := rfl
@[simp] theorem setPin_psqs (s : State) (k : Nat) (v : PinSt) : (s.setPin k v).psqs = s.psqs := rfl
@[simp] theorem setPin_mces (s : State) (k : Nat) (v : PinSt) : (s.setPin k v).mces = s.mces := rfl
@[simp] theorem setPin_edgeTab (s : State) (k : Nat) (v : PinSt) : (s.setPin k v).edgeTab = s.edgeTab := rfl
@[simp] theorem setPin_scramble (s : State) (k : Nat) (v : PinSt) : (s.setPin k v).scramble = s.scramble := rfl
@[simp] theorem setPin_topo (s : State) (k : Nat) (v : PinSt) : (s.setPin k v).topo = s.topo := rfl
@[simp] theorem setPin_sites (s : State) (k : Nat) (v : PinSt) : (s.setPin k v).sites = s.sites := rfl
@[simp] theorem setPin_sfb (s : State) (k : Nat) (v : PinSt) : (s.setPin k v).sfb = s.sfb := rfl
@[simp] theorem setPin_overlay (s : State) (k : Nat) (v : PinSt) : (s.setPin k v).overlay = s.overlay := rfl
@[simp] theorem setPin_ovlDma (s : State) (k : Nat) (v : PinSt) : (s.setPin k v).ovlDma = s.ovlDma := rfl
@[simp] theorem setPin_vs (s : State) (k : Nat) (v : PinSt) : (s.setPin k v).vs = s.vs := rfl
@[simp] theorem setPin_fre (s : State) (k : Nat) (v : PinSt) : (s.setPin k v).fre = s.fre := rfl
@[simp] theorem setPin_meas (s : State) (k : Nat) (v : PinSt) : (s.setPin k v).meas = s.meas := rfl
@[simp] theorem setPin_tmus (s : State) (k : Nat) (v : PinSt) : (s.setPin k v).tmus = s.tmus := rfl
@[simp] theorem setPin_cal (s : State) (k : Nat) (v : PinSt) : (s.setPin k v).cal = s.cal := rfl
@[simp] theorem setPin_thm (s : State) (k : Nat) (v : PinSt) : (s.setPin k v).thm = s.thm := rfl
@[simp] theorem setPin_plk (s : State) (k : Nat) (v : PinSt) : (s.setPin k v).plk = s.plk := rfl
@[simp] theorem setPin_spm (s : State) (k : Nat) (v : PinSt) : (s.setPin k v).spm = s.spm := rfl
@[simp] theorem setPin_sec (s : State) (k : Nat) (v : PinSt) : (s.setPin k v).sec = s.sec := rfl
@[simp] theorem setPin_chipWraps (s : State) (k : Nat) (v : PinSt) : (s.setPin k v).chipWraps = s.chipWraps := rfl
@[simp] theorem setPin_boardIds (s : State) (k : Nat) (v : PinSt) : (s.setPin k v).boardIds = s.boardIds := rfl
@[simp] theorem setPin_settings (s : State) (k : Nat) (v : PinSt) : (s.setPin k v).settings = s.settings := rfl
@[simp] theorem setPin_nvmJobs (s : State) (k : Nat) (v : PinSt) : (s.setPin k v).nvmJobs = s.nvmJobs := rfl
@[simp] theorem setPin_sig (s : State) (k : Nat) (v : PinSt) : (s.setPin k v).sig = s.sig := rfl
@[simp] theorem setPin_grave (s : State) (k : Nat) (v : PinSt) : (s.setPin k v).grave = s.grave := rfl
@[simp] theorem setPin_clock (s : State) (k : Nat) (v : PinSt) : (s.setPin k v).clock = s.clock := rfl
@[simp] theorem setPin_free (s : State) (k : Nat) (v : PinSt) : (s.setPin k v).free = s.free := rfl

/-! ### `State.setBank` -/

@[simp] theorem setBank_pending (s : State) (k : Nat) (v : BankSt) : (s.setBank k v).pending = s.pending := rfl
@[simp] theorem setBank_regs (s : State) (k : Nat) (v : BankSt) : (s.setBank k v).regs = s.regs := rfl
@[simp] theorem setBank_dev (s : State) (k : Nat) (v : BankSt) : (s.setBank k v).dev = s.dev := rfl
@[simp] theorem setBank_cause (s : State) (k : Nat) (v : BankSt) : (s.setBank k v).cause = s.cause := rfl
@[simp] theorem setBank_causeType (s : State) (k : Nat) (v : BankSt) : (s.setBank k v).causeType = s.causeType := rfl
@[simp] theorem setBank_role (s : State) (k : Nat) (v : BankSt) : (s.setBank k v).role = s.role := rfl
@[simp] theorem setBank_faults (s : State) (k : Nat) (v : BankSt) : (s.setBank k v).faults = s.faults := rfl
@[simp] theorem setBank_hif (s : State) (k : Nat) (v : BankSt) : (s.setBank k v).hif = s.hif := rfl
@[simp] theorem setBank_mbx (s : State) (k : Nat) (v : BankSt) : (s.setBank k v).mbx = s.mbx := rfl
@[simp] theorem setBank_epc (s : State) (k : Nat) (v : BankSt) : (s.setBank k v).epc = s.epc := rfl
@[simp] theorem setBank_pst (s : State) (k : Nat) (v : BankSt) : (s.setBank k v).pst = s.pst := rfl
@[simp] theorem setBank_evr (s : State) (k : Nat) (v : BankSt) : (s.setBank k v).evr = s.evr := rfl
@[simp] theorem setBank_pins (s : State) (k : Nat) (v : BankSt) : (s.setBank k v).pins = s.pins := rfl
@[simp] theorem setBank_sups (s : State) (k : Nat) (v : BankSt) : (s.setBank k v).sups = s.sups := rfl
@[simp] theorem setBank_guards (s : State) (k : Nat) (v : BankSt) : (s.setBank k v).guards = s.guards := rfl
@[simp] theorem setBank_fes (s : State) (k : Nat) (v : BankSt) : (s.setBank k v).fes = s.fes := rfl
@[simp] theorem setBank_domains (s : State) (k : Nat) (v : BankSt) : (s.setBank k v).domains = s.domains := rfl
@[simp] theorem setBank_clusterRise (s : State) (k : Nat) (v : BankSt) : (s.setBank k v).clusterRise = s.clusterRise := rfl
@[simp] theorem setBank_psqs (s : State) (k : Nat) (v : BankSt) : (s.setBank k v).psqs = s.psqs := rfl
@[simp] theorem setBank_mces (s : State) (k : Nat) (v : BankSt) : (s.setBank k v).mces = s.mces := rfl
@[simp] theorem setBank_edgeTab (s : State) (k : Nat) (v : BankSt) : (s.setBank k v).edgeTab = s.edgeTab := rfl
@[simp] theorem setBank_scramble (s : State) (k : Nat) (v : BankSt) : (s.setBank k v).scramble = s.scramble := rfl
@[simp] theorem setBank_topo (s : State) (k : Nat) (v : BankSt) : (s.setBank k v).topo = s.topo := rfl
@[simp] theorem setBank_sites (s : State) (k : Nat) (v : BankSt) : (s.setBank k v).sites = s.sites := rfl
@[simp] theorem setBank_sfb (s : State) (k : Nat) (v : BankSt) : (s.setBank k v).sfb = s.sfb := rfl
@[simp] theorem setBank_overlay (s : State) (k : Nat) (v : BankSt) : (s.setBank k v).overlay = s.overlay := rfl
@[simp] theorem setBank_ovlDma (s : State) (k : Nat) (v : BankSt) : (s.setBank k v).ovlDma = s.ovlDma := rfl
@[simp] theorem setBank_vs (s : State) (k : Nat) (v : BankSt) : (s.setBank k v).vs = s.vs := rfl
@[simp] theorem setBank_fre (s : State) (k : Nat) (v : BankSt) : (s.setBank k v).fre = s.fre := rfl
@[simp] theorem setBank_meas (s : State) (k : Nat) (v : BankSt) : (s.setBank k v).meas = s.meas := rfl
@[simp] theorem setBank_tmus (s : State) (k : Nat) (v : BankSt) : (s.setBank k v).tmus = s.tmus := rfl
@[simp] theorem setBank_cal (s : State) (k : Nat) (v : BankSt) : (s.setBank k v).cal = s.cal := rfl
@[simp] theorem setBank_thm (s : State) (k : Nat) (v : BankSt) : (s.setBank k v).thm = s.thm := rfl
@[simp] theorem setBank_plk (s : State) (k : Nat) (v : BankSt) : (s.setBank k v).plk = s.plk := rfl
@[simp] theorem setBank_spm (s : State) (k : Nat) (v : BankSt) : (s.setBank k v).spm = s.spm := rfl
@[simp] theorem setBank_sec (s : State) (k : Nat) (v : BankSt) : (s.setBank k v).sec = s.sec := rfl
@[simp] theorem setBank_chipWraps (s : State) (k : Nat) (v : BankSt) : (s.setBank k v).chipWraps = s.chipWraps := rfl
@[simp] theorem setBank_boardIds (s : State) (k : Nat) (v : BankSt) : (s.setBank k v).boardIds = s.boardIds := rfl
@[simp] theorem setBank_settings (s : State) (k : Nat) (v : BankSt) : (s.setBank k v).settings = s.settings := rfl
@[simp] theorem setBank_nvmJobs (s : State) (k : Nat) (v : BankSt) : (s.setBank k v).nvmJobs = s.nvmJobs := rfl
@[simp] theorem setBank_sig (s : State) (k : Nat) (v : BankSt) : (s.setBank k v).sig = s.sig := rfl
@[simp] theorem setBank_grave (s : State) (k : Nat) (v : BankSt) : (s.setBank k v).grave = s.grave := rfl
@[simp] theorem setBank_clock (s : State) (k : Nat) (v : BankSt) : (s.setBank k v).clock = s.clock := rfl
@[simp] theorem setBank_free (s : State) (k : Nat) (v : BankSt) : (s.setBank k v).free = s.free := rfl

/-! ### `State.setSup` -/

@[simp] theorem setSup_pending (s : State) (k : Nat) (v : SupplySt) : (s.setSup k v).pending = s.pending := rfl
@[simp] theorem setSup_regs (s : State) (k : Nat) (v : SupplySt) : (s.setSup k v).regs = s.regs := rfl
@[simp] theorem setSup_dev (s : State) (k : Nat) (v : SupplySt) : (s.setSup k v).dev = s.dev := rfl
@[simp] theorem setSup_cause (s : State) (k : Nat) (v : SupplySt) : (s.setSup k v).cause = s.cause := rfl
@[simp] theorem setSup_causeType (s : State) (k : Nat) (v : SupplySt) : (s.setSup k v).causeType = s.causeType := rfl
@[simp] theorem setSup_role (s : State) (k : Nat) (v : SupplySt) : (s.setSup k v).role = s.role := rfl
@[simp] theorem setSup_faults (s : State) (k : Nat) (v : SupplySt) : (s.setSup k v).faults = s.faults := rfl
@[simp] theorem setSup_hif (s : State) (k : Nat) (v : SupplySt) : (s.setSup k v).hif = s.hif := rfl
@[simp] theorem setSup_mbx (s : State) (k : Nat) (v : SupplySt) : (s.setSup k v).mbx = s.mbx := rfl
@[simp] theorem setSup_epc (s : State) (k : Nat) (v : SupplySt) : (s.setSup k v).epc = s.epc := rfl
@[simp] theorem setSup_pst (s : State) (k : Nat) (v : SupplySt) : (s.setSup k v).pst = s.pst := rfl
@[simp] theorem setSup_evr (s : State) (k : Nat) (v : SupplySt) : (s.setSup k v).evr = s.evr := rfl
@[simp] theorem setSup_pins (s : State) (k : Nat) (v : SupplySt) : (s.setSup k v).pins = s.pins := rfl
@[simp] theorem setSup_banks (s : State) (k : Nat) (v : SupplySt) : (s.setSup k v).banks = s.banks := rfl
@[simp] theorem setSup_guards (s : State) (k : Nat) (v : SupplySt) : (s.setSup k v).guards = s.guards := rfl
@[simp] theorem setSup_fes (s : State) (k : Nat) (v : SupplySt) : (s.setSup k v).fes = s.fes := rfl
@[simp] theorem setSup_domains (s : State) (k : Nat) (v : SupplySt) : (s.setSup k v).domains = s.domains := rfl
@[simp] theorem setSup_clusterRise (s : State) (k : Nat) (v : SupplySt) : (s.setSup k v).clusterRise = s.clusterRise := rfl
@[simp] theorem setSup_psqs (s : State) (k : Nat) (v : SupplySt) : (s.setSup k v).psqs = s.psqs := rfl
@[simp] theorem setSup_mces (s : State) (k : Nat) (v : SupplySt) : (s.setSup k v).mces = s.mces := rfl
@[simp] theorem setSup_edgeTab (s : State) (k : Nat) (v : SupplySt) : (s.setSup k v).edgeTab = s.edgeTab := rfl
@[simp] theorem setSup_scramble (s : State) (k : Nat) (v : SupplySt) : (s.setSup k v).scramble = s.scramble := rfl
@[simp] theorem setSup_topo (s : State) (k : Nat) (v : SupplySt) : (s.setSup k v).topo = s.topo := rfl
@[simp] theorem setSup_sites (s : State) (k : Nat) (v : SupplySt) : (s.setSup k v).sites = s.sites := rfl
@[simp] theorem setSup_sfb (s : State) (k : Nat) (v : SupplySt) : (s.setSup k v).sfb = s.sfb := rfl
@[simp] theorem setSup_overlay (s : State) (k : Nat) (v : SupplySt) : (s.setSup k v).overlay = s.overlay := rfl
@[simp] theorem setSup_ovlDma (s : State) (k : Nat) (v : SupplySt) : (s.setSup k v).ovlDma = s.ovlDma := rfl
@[simp] theorem setSup_vs (s : State) (k : Nat) (v : SupplySt) : (s.setSup k v).vs = s.vs := rfl
@[simp] theorem setSup_fre (s : State) (k : Nat) (v : SupplySt) : (s.setSup k v).fre = s.fre := rfl
@[simp] theorem setSup_meas (s : State) (k : Nat) (v : SupplySt) : (s.setSup k v).meas = s.meas := rfl
@[simp] theorem setSup_tmus (s : State) (k : Nat) (v : SupplySt) : (s.setSup k v).tmus = s.tmus := rfl
@[simp] theorem setSup_cal (s : State) (k : Nat) (v : SupplySt) : (s.setSup k v).cal = s.cal := rfl
@[simp] theorem setSup_thm (s : State) (k : Nat) (v : SupplySt) : (s.setSup k v).thm = s.thm := rfl
@[simp] theorem setSup_plk (s : State) (k : Nat) (v : SupplySt) : (s.setSup k v).plk = s.plk := rfl
@[simp] theorem setSup_spm (s : State) (k : Nat) (v : SupplySt) : (s.setSup k v).spm = s.spm := rfl
@[simp] theorem setSup_sec (s : State) (k : Nat) (v : SupplySt) : (s.setSup k v).sec = s.sec := rfl
@[simp] theorem setSup_chipWraps (s : State) (k : Nat) (v : SupplySt) : (s.setSup k v).chipWraps = s.chipWraps := rfl
@[simp] theorem setSup_boardIds (s : State) (k : Nat) (v : SupplySt) : (s.setSup k v).boardIds = s.boardIds := rfl
@[simp] theorem setSup_settings (s : State) (k : Nat) (v : SupplySt) : (s.setSup k v).settings = s.settings := rfl
@[simp] theorem setSup_nvmJobs (s : State) (k : Nat) (v : SupplySt) : (s.setSup k v).nvmJobs = s.nvmJobs := rfl
@[simp] theorem setSup_sig (s : State) (k : Nat) (v : SupplySt) : (s.setSup k v).sig = s.sig := rfl
@[simp] theorem setSup_grave (s : State) (k : Nat) (v : SupplySt) : (s.setSup k v).grave = s.grave := rfl
@[simp] theorem setSup_clock (s : State) (k : Nat) (v : SupplySt) : (s.setSup k v).clock = s.clock := rfl
@[simp] theorem setSup_free (s : State) (k : Nat) (v : SupplySt) : (s.setSup k v).free = s.free := rfl

/-! ### `State.setGuard` -/

@[simp] theorem setGuard_pending (s : State) (k : Nat) (v : GuardSt) : (s.setGuard k v).pending = s.pending := rfl
@[simp] theorem setGuard_regs (s : State) (k : Nat) (v : GuardSt) : (s.setGuard k v).regs = s.regs := rfl
@[simp] theorem setGuard_dev (s : State) (k : Nat) (v : GuardSt) : (s.setGuard k v).dev = s.dev := rfl
@[simp] theorem setGuard_cause (s : State) (k : Nat) (v : GuardSt) : (s.setGuard k v).cause = s.cause := rfl
@[simp] theorem setGuard_causeType (s : State) (k : Nat) (v : GuardSt) : (s.setGuard k v).causeType = s.causeType := rfl
@[simp] theorem setGuard_role (s : State) (k : Nat) (v : GuardSt) : (s.setGuard k v).role = s.role := rfl
@[simp] theorem setGuard_faults (s : State) (k : Nat) (v : GuardSt) : (s.setGuard k v).faults = s.faults := rfl
@[simp] theorem setGuard_hif (s : State) (k : Nat) (v : GuardSt) : (s.setGuard k v).hif = s.hif := rfl
@[simp] theorem setGuard_mbx (s : State) (k : Nat) (v : GuardSt) : (s.setGuard k v).mbx = s.mbx := rfl
@[simp] theorem setGuard_epc (s : State) (k : Nat) (v : GuardSt) : (s.setGuard k v).epc = s.epc := rfl
@[simp] theorem setGuard_pst (s : State) (k : Nat) (v : GuardSt) : (s.setGuard k v).pst = s.pst := rfl
@[simp] theorem setGuard_evr (s : State) (k : Nat) (v : GuardSt) : (s.setGuard k v).evr = s.evr := rfl
@[simp] theorem setGuard_pins (s : State) (k : Nat) (v : GuardSt) : (s.setGuard k v).pins = s.pins := rfl
@[simp] theorem setGuard_banks (s : State) (k : Nat) (v : GuardSt) : (s.setGuard k v).banks = s.banks := rfl
@[simp] theorem setGuard_sups (s : State) (k : Nat) (v : GuardSt) : (s.setGuard k v).sups = s.sups := rfl
@[simp] theorem setGuard_fes (s : State) (k : Nat) (v : GuardSt) : (s.setGuard k v).fes = s.fes := rfl
@[simp] theorem setGuard_domains (s : State) (k : Nat) (v : GuardSt) : (s.setGuard k v).domains = s.domains := rfl
@[simp] theorem setGuard_clusterRise (s : State) (k : Nat) (v : GuardSt) : (s.setGuard k v).clusterRise = s.clusterRise := rfl
@[simp] theorem setGuard_psqs (s : State) (k : Nat) (v : GuardSt) : (s.setGuard k v).psqs = s.psqs := rfl
@[simp] theorem setGuard_mces (s : State) (k : Nat) (v : GuardSt) : (s.setGuard k v).mces = s.mces := rfl
@[simp] theorem setGuard_edgeTab (s : State) (k : Nat) (v : GuardSt) : (s.setGuard k v).edgeTab = s.edgeTab := rfl
@[simp] theorem setGuard_scramble (s : State) (k : Nat) (v : GuardSt) : (s.setGuard k v).scramble = s.scramble := rfl
@[simp] theorem setGuard_topo (s : State) (k : Nat) (v : GuardSt) : (s.setGuard k v).topo = s.topo := rfl
@[simp] theorem setGuard_sites (s : State) (k : Nat) (v : GuardSt) : (s.setGuard k v).sites = s.sites := rfl
@[simp] theorem setGuard_sfb (s : State) (k : Nat) (v : GuardSt) : (s.setGuard k v).sfb = s.sfb := rfl
@[simp] theorem setGuard_overlay (s : State) (k : Nat) (v : GuardSt) : (s.setGuard k v).overlay = s.overlay := rfl
@[simp] theorem setGuard_ovlDma (s : State) (k : Nat) (v : GuardSt) : (s.setGuard k v).ovlDma = s.ovlDma := rfl
@[simp] theorem setGuard_vs (s : State) (k : Nat) (v : GuardSt) : (s.setGuard k v).vs = s.vs := rfl
@[simp] theorem setGuard_fre (s : State) (k : Nat) (v : GuardSt) : (s.setGuard k v).fre = s.fre := rfl
@[simp] theorem setGuard_meas (s : State) (k : Nat) (v : GuardSt) : (s.setGuard k v).meas = s.meas := rfl
@[simp] theorem setGuard_tmus (s : State) (k : Nat) (v : GuardSt) : (s.setGuard k v).tmus = s.tmus := rfl
@[simp] theorem setGuard_cal (s : State) (k : Nat) (v : GuardSt) : (s.setGuard k v).cal = s.cal := rfl
@[simp] theorem setGuard_thm (s : State) (k : Nat) (v : GuardSt) : (s.setGuard k v).thm = s.thm := rfl
@[simp] theorem setGuard_plk (s : State) (k : Nat) (v : GuardSt) : (s.setGuard k v).plk = s.plk := rfl
@[simp] theorem setGuard_spm (s : State) (k : Nat) (v : GuardSt) : (s.setGuard k v).spm = s.spm := rfl
@[simp] theorem setGuard_sec (s : State) (k : Nat) (v : GuardSt) : (s.setGuard k v).sec = s.sec := rfl
@[simp] theorem setGuard_chipWraps (s : State) (k : Nat) (v : GuardSt) : (s.setGuard k v).chipWraps = s.chipWraps := rfl
@[simp] theorem setGuard_boardIds (s : State) (k : Nat) (v : GuardSt) : (s.setGuard k v).boardIds = s.boardIds := rfl
@[simp] theorem setGuard_settings (s : State) (k : Nat) (v : GuardSt) : (s.setGuard k v).settings = s.settings := rfl
@[simp] theorem setGuard_nvmJobs (s : State) (k : Nat) (v : GuardSt) : (s.setGuard k v).nvmJobs = s.nvmJobs := rfl
@[simp] theorem setGuard_sig (s : State) (k : Nat) (v : GuardSt) : (s.setGuard k v).sig = s.sig := rfl
@[simp] theorem setGuard_grave (s : State) (k : Nat) (v : GuardSt) : (s.setGuard k v).grave = s.grave := rfl
@[simp] theorem setGuard_clock (s : State) (k : Nat) (v : GuardSt) : (s.setGuard k v).clock = s.clock := rfl
@[simp] theorem setGuard_free (s : State) (k : Nat) (v : GuardSt) : (s.setGuard k v).free = s.free := rfl

/-! ### `State.setFe` -/

@[simp] theorem setFe_pending (s : State) (k : Nat) (v : FeSt) : (s.setFe k v).pending = s.pending := rfl
@[simp] theorem setFe_regs (s : State) (k : Nat) (v : FeSt) : (s.setFe k v).regs = s.regs := rfl
@[simp] theorem setFe_dev (s : State) (k : Nat) (v : FeSt) : (s.setFe k v).dev = s.dev := rfl
@[simp] theorem setFe_cause (s : State) (k : Nat) (v : FeSt) : (s.setFe k v).cause = s.cause := rfl
@[simp] theorem setFe_causeType (s : State) (k : Nat) (v : FeSt) : (s.setFe k v).causeType = s.causeType := rfl
@[simp] theorem setFe_role (s : State) (k : Nat) (v : FeSt) : (s.setFe k v).role = s.role := rfl
@[simp] theorem setFe_faults (s : State) (k : Nat) (v : FeSt) : (s.setFe k v).faults = s.faults := rfl
@[simp] theorem setFe_hif (s : State) (k : Nat) (v : FeSt) : (s.setFe k v).hif = s.hif := rfl
@[simp] theorem setFe_mbx (s : State) (k : Nat) (v : FeSt) : (s.setFe k v).mbx = s.mbx := rfl
@[simp] theorem setFe_epc (s : State) (k : Nat) (v : FeSt) : (s.setFe k v).epc = s.epc := rfl
@[simp] theorem setFe_pst (s : State) (k : Nat) (v : FeSt) : (s.setFe k v).pst = s.pst := rfl
@[simp] theorem setFe_evr (s : State) (k : Nat) (v : FeSt) : (s.setFe k v).evr = s.evr := rfl
@[simp] theorem setFe_pins (s : State) (k : Nat) (v : FeSt) : (s.setFe k v).pins = s.pins := rfl
@[simp] theorem setFe_banks (s : State) (k : Nat) (v : FeSt) : (s.setFe k v).banks = s.banks := rfl
@[simp] theorem setFe_sups (s : State) (k : Nat) (v : FeSt) : (s.setFe k v).sups = s.sups := rfl
@[simp] theorem setFe_guards (s : State) (k : Nat) (v : FeSt) : (s.setFe k v).guards = s.guards := rfl
@[simp] theorem setFe_domains (s : State) (k : Nat) (v : FeSt) : (s.setFe k v).domains = s.domains := rfl
@[simp] theorem setFe_clusterRise (s : State) (k : Nat) (v : FeSt) : (s.setFe k v).clusterRise = s.clusterRise := rfl
@[simp] theorem setFe_psqs (s : State) (k : Nat) (v : FeSt) : (s.setFe k v).psqs = s.psqs := rfl
@[simp] theorem setFe_mces (s : State) (k : Nat) (v : FeSt) : (s.setFe k v).mces = s.mces := rfl
@[simp] theorem setFe_edgeTab (s : State) (k : Nat) (v : FeSt) : (s.setFe k v).edgeTab = s.edgeTab := rfl
@[simp] theorem setFe_scramble (s : State) (k : Nat) (v : FeSt) : (s.setFe k v).scramble = s.scramble := rfl
@[simp] theorem setFe_topo (s : State) (k : Nat) (v : FeSt) : (s.setFe k v).topo = s.topo := rfl
@[simp] theorem setFe_sites (s : State) (k : Nat) (v : FeSt) : (s.setFe k v).sites = s.sites := rfl
@[simp] theorem setFe_sfb (s : State) (k : Nat) (v : FeSt) : (s.setFe k v).sfb = s.sfb := rfl
@[simp] theorem setFe_overlay (s : State) (k : Nat) (v : FeSt) : (s.setFe k v).overlay = s.overlay := rfl
@[simp] theorem setFe_ovlDma (s : State) (k : Nat) (v : FeSt) : (s.setFe k v).ovlDma = s.ovlDma := rfl
@[simp] theorem setFe_vs (s : State) (k : Nat) (v : FeSt) : (s.setFe k v).vs = s.vs := rfl
@[simp] theorem setFe_fre (s : State) (k : Nat) (v : FeSt) : (s.setFe k v).fre = s.fre := rfl
@[simp] theorem setFe_meas (s : State) (k : Nat) (v : FeSt) : (s.setFe k v).meas = s.meas := rfl
@[simp] theorem setFe_tmus (s : State) (k : Nat) (v : FeSt) : (s.setFe k v).tmus = s.tmus := rfl
@[simp] theorem setFe_cal (s : State) (k : Nat) (v : FeSt) : (s.setFe k v).cal = s.cal := rfl
@[simp] theorem setFe_thm (s : State) (k : Nat) (v : FeSt) : (s.setFe k v).thm = s.thm := rfl
@[simp] theorem setFe_plk (s : State) (k : Nat) (v : FeSt) : (s.setFe k v).plk = s.plk := rfl
@[simp] theorem setFe_spm (s : State) (k : Nat) (v : FeSt) : (s.setFe k v).spm = s.spm := rfl
@[simp] theorem setFe_sec (s : State) (k : Nat) (v : FeSt) : (s.setFe k v).sec = s.sec := rfl
@[simp] theorem setFe_chipWraps (s : State) (k : Nat) (v : FeSt) : (s.setFe k v).chipWraps = s.chipWraps := rfl
@[simp] theorem setFe_boardIds (s : State) (k : Nat) (v : FeSt) : (s.setFe k v).boardIds = s.boardIds := rfl
@[simp] theorem setFe_settings (s : State) (k : Nat) (v : FeSt) : (s.setFe k v).settings = s.settings := rfl
@[simp] theorem setFe_nvmJobs (s : State) (k : Nat) (v : FeSt) : (s.setFe k v).nvmJobs = s.nvmJobs := rfl
@[simp] theorem setFe_sig (s : State) (k : Nat) (v : FeSt) : (s.setFe k v).sig = s.sig := rfl
@[simp] theorem setFe_grave (s : State) (k : Nat) (v : FeSt) : (s.setFe k v).grave = s.grave := rfl
@[simp] theorem setFe_clock (s : State) (k : Nat) (v : FeSt) : (s.setFe k v).clock = s.clock := rfl
@[simp] theorem setFe_free (s : State) (k : Nat) (v : FeSt) : (s.setFe k v).free = s.free := rfl

/-! ### `State.setPsq` -/

@[simp] theorem setPsq_pending (s : State) (k : Nat) (v : PsqSt) : (s.setPsq k v).pending = s.pending := rfl
@[simp] theorem setPsq_regs (s : State) (k : Nat) (v : PsqSt) : (s.setPsq k v).regs = s.regs := rfl
@[simp] theorem setPsq_dev (s : State) (k : Nat) (v : PsqSt) : (s.setPsq k v).dev = s.dev := rfl
@[simp] theorem setPsq_cause (s : State) (k : Nat) (v : PsqSt) : (s.setPsq k v).cause = s.cause := rfl
@[simp] theorem setPsq_causeType (s : State) (k : Nat) (v : PsqSt) : (s.setPsq k v).causeType = s.causeType := rfl
@[simp] theorem setPsq_role (s : State) (k : Nat) (v : PsqSt) : (s.setPsq k v).role = s.role := rfl
@[simp] theorem setPsq_faults (s : State) (k : Nat) (v : PsqSt) : (s.setPsq k v).faults = s.faults := rfl
@[simp] theorem setPsq_hif (s : State) (k : Nat) (v : PsqSt) : (s.setPsq k v).hif = s.hif := rfl
@[simp] theorem setPsq_mbx (s : State) (k : Nat) (v : PsqSt) : (s.setPsq k v).mbx = s.mbx := rfl
@[simp] theorem setPsq_epc (s : State) (k : Nat) (v : PsqSt) : (s.setPsq k v).epc = s.epc := rfl
@[simp] theorem setPsq_pst (s : State) (k : Nat) (v : PsqSt) : (s.setPsq k v).pst = s.pst := rfl
@[simp] theorem setPsq_evr (s : State) (k : Nat) (v : PsqSt) : (s.setPsq k v).evr = s.evr := rfl
@[simp] theorem setPsq_pins (s : State) (k : Nat) (v : PsqSt) : (s.setPsq k v).pins = s.pins := rfl
@[simp] theorem setPsq_banks (s : State) (k : Nat) (v : PsqSt) : (s.setPsq k v).banks = s.banks := rfl
@[simp] theorem setPsq_sups (s : State) (k : Nat) (v : PsqSt) : (s.setPsq k v).sups = s.sups := rfl
@[simp] theorem setPsq_guards (s : State) (k : Nat) (v : PsqSt) : (s.setPsq k v).guards = s.guards := rfl
@[simp] theorem setPsq_fes (s : State) (k : Nat) (v : PsqSt) : (s.setPsq k v).fes = s.fes := rfl
@[simp] theorem setPsq_domains (s : State) (k : Nat) (v : PsqSt) : (s.setPsq k v).domains = s.domains := rfl
@[simp] theorem setPsq_clusterRise (s : State) (k : Nat) (v : PsqSt) : (s.setPsq k v).clusterRise = s.clusterRise := rfl
@[simp] theorem setPsq_mces (s : State) (k : Nat) (v : PsqSt) : (s.setPsq k v).mces = s.mces := rfl
@[simp] theorem setPsq_edgeTab (s : State) (k : Nat) (v : PsqSt) : (s.setPsq k v).edgeTab = s.edgeTab := rfl
@[simp] theorem setPsq_scramble (s : State) (k : Nat) (v : PsqSt) : (s.setPsq k v).scramble = s.scramble := rfl
@[simp] theorem setPsq_topo (s : State) (k : Nat) (v : PsqSt) : (s.setPsq k v).topo = s.topo := rfl
@[simp] theorem setPsq_sites (s : State) (k : Nat) (v : PsqSt) : (s.setPsq k v).sites = s.sites := rfl
@[simp] theorem setPsq_sfb (s : State) (k : Nat) (v : PsqSt) : (s.setPsq k v).sfb = s.sfb := rfl
@[simp] theorem setPsq_overlay (s : State) (k : Nat) (v : PsqSt) : (s.setPsq k v).overlay = s.overlay := rfl
@[simp] theorem setPsq_ovlDma (s : State) (k : Nat) (v : PsqSt) : (s.setPsq k v).ovlDma = s.ovlDma := rfl
@[simp] theorem setPsq_vs (s : State) (k : Nat) (v : PsqSt) : (s.setPsq k v).vs = s.vs := rfl
@[simp] theorem setPsq_fre (s : State) (k : Nat) (v : PsqSt) : (s.setPsq k v).fre = s.fre := rfl
@[simp] theorem setPsq_meas (s : State) (k : Nat) (v : PsqSt) : (s.setPsq k v).meas = s.meas := rfl
@[simp] theorem setPsq_tmus (s : State) (k : Nat) (v : PsqSt) : (s.setPsq k v).tmus = s.tmus := rfl
@[simp] theorem setPsq_cal (s : State) (k : Nat) (v : PsqSt) : (s.setPsq k v).cal = s.cal := rfl
@[simp] theorem setPsq_thm (s : State) (k : Nat) (v : PsqSt) : (s.setPsq k v).thm = s.thm := rfl
@[simp] theorem setPsq_plk (s : State) (k : Nat) (v : PsqSt) : (s.setPsq k v).plk = s.plk := rfl
@[simp] theorem setPsq_spm (s : State) (k : Nat) (v : PsqSt) : (s.setPsq k v).spm = s.spm := rfl
@[simp] theorem setPsq_sec (s : State) (k : Nat) (v : PsqSt) : (s.setPsq k v).sec = s.sec := rfl
@[simp] theorem setPsq_chipWraps (s : State) (k : Nat) (v : PsqSt) : (s.setPsq k v).chipWraps = s.chipWraps := rfl
@[simp] theorem setPsq_boardIds (s : State) (k : Nat) (v : PsqSt) : (s.setPsq k v).boardIds = s.boardIds := rfl
@[simp] theorem setPsq_settings (s : State) (k : Nat) (v : PsqSt) : (s.setPsq k v).settings = s.settings := rfl
@[simp] theorem setPsq_nvmJobs (s : State) (k : Nat) (v : PsqSt) : (s.setPsq k v).nvmJobs = s.nvmJobs := rfl
@[simp] theorem setPsq_sig (s : State) (k : Nat) (v : PsqSt) : (s.setPsq k v).sig = s.sig := rfl
@[simp] theorem setPsq_grave (s : State) (k : Nat) (v : PsqSt) : (s.setPsq k v).grave = s.grave := rfl
@[simp] theorem setPsq_clock (s : State) (k : Nat) (v : PsqSt) : (s.setPsq k v).clock = s.clock := rfl
@[simp] theorem setPsq_free (s : State) (k : Nat) (v : PsqSt) : (s.setPsq k v).free = s.free := rfl

/-! ### `State.setFault` -/

@[simp] theorem setFault_pending (s : State) (k : Nat) (v : PageFault) : (s.setFault k v).pending = s.pending := rfl
@[simp] theorem setFault_regs (s : State) (k : Nat) (v : PageFault) : (s.setFault k v).regs = s.regs := rfl
@[simp] theorem setFault_dev (s : State) (k : Nat) (v : PageFault) : (s.setFault k v).dev = s.dev := rfl
@[simp] theorem setFault_cause (s : State) (k : Nat) (v : PageFault) : (s.setFault k v).cause = s.cause := rfl
@[simp] theorem setFault_causeType (s : State) (k : Nat) (v : PageFault) : (s.setFault k v).causeType = s.causeType := rfl
@[simp] theorem setFault_role (s : State) (k : Nat) (v : PageFault) : (s.setFault k v).role = s.role := rfl
@[simp] theorem setFault_hif (s : State) (k : Nat) (v : PageFault) : (s.setFault k v).hif = s.hif := rfl
@[simp] theorem setFault_mbx (s : State) (k : Nat) (v : PageFault) : (s.setFault k v).mbx = s.mbx := rfl
@[simp] theorem setFault_epc (s : State) (k : Nat) (v : PageFault) : (s.setFault k v).epc = s.epc := rfl
@[simp] theorem setFault_pst (s : State) (k : Nat) (v : PageFault) : (s.setFault k v).pst = s.pst := rfl
@[simp] theorem setFault_evr (s : State) (k : Nat) (v : PageFault) : (s.setFault k v).evr = s.evr := rfl
@[simp] theorem setFault_pins (s : State) (k : Nat) (v : PageFault) : (s.setFault k v).pins = s.pins := rfl
@[simp] theorem setFault_banks (s : State) (k : Nat) (v : PageFault) : (s.setFault k v).banks = s.banks := rfl
@[simp] theorem setFault_sups (s : State) (k : Nat) (v : PageFault) : (s.setFault k v).sups = s.sups := rfl
@[simp] theorem setFault_guards (s : State) (k : Nat) (v : PageFault) : (s.setFault k v).guards = s.guards := rfl
@[simp] theorem setFault_fes (s : State) (k : Nat) (v : PageFault) : (s.setFault k v).fes = s.fes := rfl
@[simp] theorem setFault_domains (s : State) (k : Nat) (v : PageFault) : (s.setFault k v).domains = s.domains := rfl
@[simp] theorem setFault_clusterRise (s : State) (k : Nat) (v : PageFault) : (s.setFault k v).clusterRise = s.clusterRise := rfl
@[simp] theorem setFault_psqs (s : State) (k : Nat) (v : PageFault) : (s.setFault k v).psqs = s.psqs := rfl
@[simp] theorem setFault_mces (s : State) (k : Nat) (v : PageFault) : (s.setFault k v).mces = s.mces := rfl
@[simp] theorem setFault_edgeTab (s : State) (k : Nat) (v : PageFault) : (s.setFault k v).edgeTab = s.edgeTab := rfl
@[simp] theorem setFault_scramble (s : State) (k : Nat) (v : PageFault) : (s.setFault k v).scramble = s.scramble := rfl
@[simp] theorem setFault_topo (s : State) (k : Nat) (v : PageFault) : (s.setFault k v).topo = s.topo := rfl
@[simp] theorem setFault_sites (s : State) (k : Nat) (v : PageFault) : (s.setFault k v).sites = s.sites := rfl
@[simp] theorem setFault_sfb (s : State) (k : Nat) (v : PageFault) : (s.setFault k v).sfb = s.sfb := rfl
@[simp] theorem setFault_overlay (s : State) (k : Nat) (v : PageFault) : (s.setFault k v).overlay = s.overlay := rfl
@[simp] theorem setFault_ovlDma (s : State) (k : Nat) (v : PageFault) : (s.setFault k v).ovlDma = s.ovlDma := rfl
@[simp] theorem setFault_vs (s : State) (k : Nat) (v : PageFault) : (s.setFault k v).vs = s.vs := rfl
@[simp] theorem setFault_fre (s : State) (k : Nat) (v : PageFault) : (s.setFault k v).fre = s.fre := rfl
@[simp] theorem setFault_meas (s : State) (k : Nat) (v : PageFault) : (s.setFault k v).meas = s.meas := rfl
@[simp] theorem setFault_tmus (s : State) (k : Nat) (v : PageFault) : (s.setFault k v).tmus = s.tmus := rfl
@[simp] theorem setFault_cal (s : State) (k : Nat) (v : PageFault) : (s.setFault k v).cal = s.cal := rfl
@[simp] theorem setFault_thm (s : State) (k : Nat) (v : PageFault) : (s.setFault k v).thm = s.thm := rfl
@[simp] theorem setFault_plk (s : State) (k : Nat) (v : PageFault) : (s.setFault k v).plk = s.plk := rfl
@[simp] theorem setFault_spm (s : State) (k : Nat) (v : PageFault) : (s.setFault k v).spm = s.spm := rfl
@[simp] theorem setFault_sec (s : State) (k : Nat) (v : PageFault) : (s.setFault k v).sec = s.sec := rfl
@[simp] theorem setFault_chipWraps (s : State) (k : Nat) (v : PageFault) : (s.setFault k v).chipWraps = s.chipWraps := rfl
@[simp] theorem setFault_boardIds (s : State) (k : Nat) (v : PageFault) : (s.setFault k v).boardIds = s.boardIds := rfl
@[simp] theorem setFault_settings (s : State) (k : Nat) (v : PageFault) : (s.setFault k v).settings = s.settings := rfl
@[simp] theorem setFault_nvmJobs (s : State) (k : Nat) (v : PageFault) : (s.setFault k v).nvmJobs = s.nvmJobs := rfl
@[simp] theorem setFault_sig (s : State) (k : Nat) (v : PageFault) : (s.setFault k v).sig = s.sig := rfl
@[simp] theorem setFault_grave (s : State) (k : Nat) (v : PageFault) : (s.setFault k v).grave = s.grave := rfl
@[simp] theorem setFault_clock (s : State) (k : Nat) (v : PageFault) : (s.setFault k v).clock = s.clock := rfl
@[simp] theorem setFault_free (s : State) (k : Nat) (v : PageFault) : (s.setFault k v).free = s.free := rfl

/-! ### `State.setSite` -/

@[simp] theorem setSite_pending (s : State) (k : Nat) (v : SiteSt) : (s.setSite k v).pending = s.pending := rfl
@[simp] theorem setSite_regs (s : State) (k : Nat) (v : SiteSt) : (s.setSite k v).regs = s.regs := rfl
@[simp] theorem setSite_dev (s : State) (k : Nat) (v : SiteSt) : (s.setSite k v).dev = s.dev := rfl
@[simp] theorem setSite_cause (s : State) (k : Nat) (v : SiteSt) : (s.setSite k v).cause = s.cause := rfl
@[simp] theorem setSite_causeType (s : State) (k : Nat) (v : SiteSt) : (s.setSite k v).causeType = s.causeType := rfl
@[simp] theorem setSite_role (s : State) (k : Nat) (v : SiteSt) : (s.setSite k v).role = s.role := rfl
@[simp] theorem setSite_faults (s : State) (k : Nat) (v : SiteSt) : (s.setSite k v).faults = s.faults := rfl
@[simp] theorem setSite_hif (s : State) (k : Nat) (v : SiteSt) : (s.setSite k v).hif = s.hif := rfl
@[simp] theorem setSite_mbx (s : State) (k : Nat) (v : SiteSt) : (s.setSite k v).mbx = s.mbx := rfl
@[simp] theorem setSite_epc (s : State) (k : Nat) (v : SiteSt) : (s.setSite k v).epc = s.epc := rfl
@[simp] theorem setSite_pst (s : State) (k : Nat) (v : SiteSt) : (s.setSite k v).pst = s.pst := rfl
@[simp] theorem setSite_evr (s : State) (k : Nat) (v : SiteSt) : (s.setSite k v).evr = s.evr := rfl
@[simp] theorem setSite_pins (s : State) (k : Nat) (v : SiteSt) : (s.setSite k v).pins = s.pins := rfl
@[simp] theorem setSite_banks (s : State) (k : Nat) (v : SiteSt) : (s.setSite k v).banks = s.banks := rfl
@[simp] theorem setSite_sups (s : State) (k : Nat) (v : SiteSt) : (s.setSite k v).sups = s.sups := rfl
@[simp] theorem setSite_guards (s : State) (k : Nat) (v : SiteSt) : (s.setSite k v).guards = s.guards := rfl
@[simp] theorem setSite_fes (s : State) (k : Nat) (v : SiteSt) : (s.setSite k v).fes = s.fes := rfl
@[simp] theorem setSite_domains (s : State) (k : Nat) (v : SiteSt) : (s.setSite k v).domains = s.domains := rfl
@[simp] theorem setSite_clusterRise (s : State) (k : Nat) (v : SiteSt) : (s.setSite k v).clusterRise = s.clusterRise := rfl
@[simp] theorem setSite_psqs (s : State) (k : Nat) (v : SiteSt) : (s.setSite k v).psqs = s.psqs := rfl
@[simp] theorem setSite_mces (s : State) (k : Nat) (v : SiteSt) : (s.setSite k v).mces = s.mces := rfl
@[simp] theorem setSite_edgeTab (s : State) (k : Nat) (v : SiteSt) : (s.setSite k v).edgeTab = s.edgeTab := rfl
@[simp] theorem setSite_scramble (s : State) (k : Nat) (v : SiteSt) : (s.setSite k v).scramble = s.scramble := rfl
@[simp] theorem setSite_topo (s : State) (k : Nat) (v : SiteSt) : (s.setSite k v).topo = s.topo := rfl
@[simp] theorem setSite_sfb (s : State) (k : Nat) (v : SiteSt) : (s.setSite k v).sfb = s.sfb := rfl
@[simp] theorem setSite_overlay (s : State) (k : Nat) (v : SiteSt) : (s.setSite k v).overlay = s.overlay := rfl
@[simp] theorem setSite_ovlDma (s : State) (k : Nat) (v : SiteSt) : (s.setSite k v).ovlDma = s.ovlDma := rfl
@[simp] theorem setSite_vs (s : State) (k : Nat) (v : SiteSt) : (s.setSite k v).vs = s.vs := rfl
@[simp] theorem setSite_fre (s : State) (k : Nat) (v : SiteSt) : (s.setSite k v).fre = s.fre := rfl
@[simp] theorem setSite_meas (s : State) (k : Nat) (v : SiteSt) : (s.setSite k v).meas = s.meas := rfl
@[simp] theorem setSite_tmus (s : State) (k : Nat) (v : SiteSt) : (s.setSite k v).tmus = s.tmus := rfl
@[simp] theorem setSite_cal (s : State) (k : Nat) (v : SiteSt) : (s.setSite k v).cal = s.cal := rfl
@[simp] theorem setSite_thm (s : State) (k : Nat) (v : SiteSt) : (s.setSite k v).thm = s.thm := rfl
@[simp] theorem setSite_plk (s : State) (k : Nat) (v : SiteSt) : (s.setSite k v).plk = s.plk := rfl
@[simp] theorem setSite_spm (s : State) (k : Nat) (v : SiteSt) : (s.setSite k v).spm = s.spm := rfl
@[simp] theorem setSite_sec (s : State) (k : Nat) (v : SiteSt) : (s.setSite k v).sec = s.sec := rfl
@[simp] theorem setSite_chipWraps (s : State) (k : Nat) (v : SiteSt) : (s.setSite k v).chipWraps = s.chipWraps := rfl
@[simp] theorem setSite_boardIds (s : State) (k : Nat) (v : SiteSt) : (s.setSite k v).boardIds = s.boardIds := rfl
@[simp] theorem setSite_settings (s : State) (k : Nat) (v : SiteSt) : (s.setSite k v).settings = s.settings := rfl
@[simp] theorem setSite_nvmJobs (s : State) (k : Nat) (v : SiteSt) : (s.setSite k v).nvmJobs = s.nvmJobs := rfl
@[simp] theorem setSite_sig (s : State) (k : Nat) (v : SiteSt) : (s.setSite k v).sig = s.sig := rfl
@[simp] theorem setSite_grave (s : State) (k : Nat) (v : SiteSt) : (s.setSite k v).grave = s.grave := rfl
@[simp] theorem setSite_clock (s : State) (k : Nat) (v : SiteSt) : (s.setSite k v).clock = s.clock := rfl
@[simp] theorem setSite_free (s : State) (k : Nat) (v : SiteSt) : (s.setSite k v).free = s.free := rfl

/-! ### `State.setMeas` -/

@[simp] theorem setMeas_pending (s : State) (k : Nat) (v : MeasSt) : (s.setMeas k v).pending = s.pending := rfl
@[simp] theorem setMeas_regs (s : State) (k : Nat) (v : MeasSt) : (s.setMeas k v).regs = s.regs := rfl
@[simp] theorem setMeas_dev (s : State) (k : Nat) (v : MeasSt) : (s.setMeas k v).dev = s.dev := rfl
@[simp] theorem setMeas_cause (s : State) (k : Nat) (v : MeasSt) : (s.setMeas k v).cause = s.cause := rfl
@[simp] theorem setMeas_causeType (s : State) (k : Nat) (v : MeasSt) : (s.setMeas k v).causeType = s.causeType := rfl
@[simp] theorem setMeas_role (s : State) (k : Nat) (v : MeasSt) : (s.setMeas k v).role = s.role := rfl
@[simp] theorem setMeas_faults (s : State) (k : Nat) (v : MeasSt) : (s.setMeas k v).faults = s.faults := rfl
@[simp] theorem setMeas_hif (s : State) (k : Nat) (v : MeasSt) : (s.setMeas k v).hif = s.hif := rfl
@[simp] theorem setMeas_mbx (s : State) (k : Nat) (v : MeasSt) : (s.setMeas k v).mbx = s.mbx := rfl
@[simp] theorem setMeas_epc (s : State) (k : Nat) (v : MeasSt) : (s.setMeas k v).epc = s.epc := rfl
@[simp] theorem setMeas_pst (s : State) (k : Nat) (v : MeasSt) : (s.setMeas k v).pst = s.pst := rfl
@[simp] theorem setMeas_evr (s : State) (k : Nat) (v : MeasSt) : (s.setMeas k v).evr = s.evr := rfl
@[simp] theorem setMeas_pins (s : State) (k : Nat) (v : MeasSt) : (s.setMeas k v).pins = s.pins := rfl
@[simp] theorem setMeas_banks (s : State) (k : Nat) (v : MeasSt) : (s.setMeas k v).banks = s.banks := rfl
@[simp] theorem setMeas_sups (s : State) (k : Nat) (v : MeasSt) : (s.setMeas k v).sups = s.sups := rfl
@[simp] theorem setMeas_guards (s : State) (k : Nat) (v : MeasSt) : (s.setMeas k v).guards = s.guards := rfl
@[simp] theorem setMeas_fes (s : State) (k : Nat) (v : MeasSt) : (s.setMeas k v).fes = s.fes := rfl
@[simp] theorem setMeas_domains (s : State) (k : Nat) (v : MeasSt) : (s.setMeas k v).domains = s.domains := rfl
@[simp] theorem setMeas_clusterRise (s : State) (k : Nat) (v : MeasSt) : (s.setMeas k v).clusterRise = s.clusterRise := rfl
@[simp] theorem setMeas_psqs (s : State) (k : Nat) (v : MeasSt) : (s.setMeas k v).psqs = s.psqs := rfl
@[simp] theorem setMeas_mces (s : State) (k : Nat) (v : MeasSt) : (s.setMeas k v).mces = s.mces := rfl
@[simp] theorem setMeas_edgeTab (s : State) (k : Nat) (v : MeasSt) : (s.setMeas k v).edgeTab = s.edgeTab := rfl
@[simp] theorem setMeas_scramble (s : State) (k : Nat) (v : MeasSt) : (s.setMeas k v).scramble = s.scramble := rfl
@[simp] theorem setMeas_topo (s : State) (k : Nat) (v : MeasSt) : (s.setMeas k v).topo = s.topo := rfl
@[simp] theorem setMeas_sites (s : State) (k : Nat) (v : MeasSt) : (s.setMeas k v).sites = s.sites := rfl
@[simp] theorem setMeas_sfb (s : State) (k : Nat) (v : MeasSt) : (s.setMeas k v).sfb = s.sfb := rfl
@[simp] theorem setMeas_overlay (s : State) (k : Nat) (v : MeasSt) : (s.setMeas k v).overlay = s.overlay := rfl
@[simp] theorem setMeas_ovlDma (s : State) (k : Nat) (v : MeasSt) : (s.setMeas k v).ovlDma = s.ovlDma := rfl
@[simp] theorem setMeas_vs (s : State) (k : Nat) (v : MeasSt) : (s.setMeas k v).vs = s.vs := rfl
@[simp] theorem setMeas_fre (s : State) (k : Nat) (v : MeasSt) : (s.setMeas k v).fre = s.fre := rfl
@[simp] theorem setMeas_tmus (s : State) (k : Nat) (v : MeasSt) : (s.setMeas k v).tmus = s.tmus := rfl
@[simp] theorem setMeas_cal (s : State) (k : Nat) (v : MeasSt) : (s.setMeas k v).cal = s.cal := rfl
@[simp] theorem setMeas_thm (s : State) (k : Nat) (v : MeasSt) : (s.setMeas k v).thm = s.thm := rfl
@[simp] theorem setMeas_plk (s : State) (k : Nat) (v : MeasSt) : (s.setMeas k v).plk = s.plk := rfl
@[simp] theorem setMeas_spm (s : State) (k : Nat) (v : MeasSt) : (s.setMeas k v).spm = s.spm := rfl
@[simp] theorem setMeas_sec (s : State) (k : Nat) (v : MeasSt) : (s.setMeas k v).sec = s.sec := rfl
@[simp] theorem setMeas_chipWraps (s : State) (k : Nat) (v : MeasSt) : (s.setMeas k v).chipWraps = s.chipWraps := rfl
@[simp] theorem setMeas_boardIds (s : State) (k : Nat) (v : MeasSt) : (s.setMeas k v).boardIds = s.boardIds := rfl
@[simp] theorem setMeas_settings (s : State) (k : Nat) (v : MeasSt) : (s.setMeas k v).settings = s.settings := rfl
@[simp] theorem setMeas_nvmJobs (s : State) (k : Nat) (v : MeasSt) : (s.setMeas k v).nvmJobs = s.nvmJobs := rfl
@[simp] theorem setMeas_sig (s : State) (k : Nat) (v : MeasSt) : (s.setMeas k v).sig = s.sig := rfl
@[simp] theorem setMeas_grave (s : State) (k : Nat) (v : MeasSt) : (s.setMeas k v).grave = s.grave := rfl
@[simp] theorem setMeas_clock (s : State) (k : Nat) (v : MeasSt) : (s.setMeas k v).clock = s.clock := rfl
@[simp] theorem setMeas_free (s : State) (k : Nat) (v : MeasSt) : (s.setMeas k v).free = s.free := rfl

/-! ### `State.setTmu` -/

@[simp] theorem setTmu_pending (s : State) (k : Nat) (v : TmuSt) : (s.setTmu k v).pending = s.pending := rfl
@[simp] theorem setTmu_regs (s : State) (k : Nat) (v : TmuSt) : (s.setTmu k v).regs = s.regs := rfl
@[simp] theorem setTmu_dev (s : State) (k : Nat) (v : TmuSt) : (s.setTmu k v).dev = s.dev := rfl
@[simp] theorem setTmu_cause (s : State) (k : Nat) (v : TmuSt) : (s.setTmu k v).cause = s.cause := rfl
@[simp] theorem setTmu_causeType (s : State) (k : Nat) (v : TmuSt) : (s.setTmu k v).causeType = s.causeType := rfl
@[simp] theorem setTmu_role (s : State) (k : Nat) (v : TmuSt) : (s.setTmu k v).role = s.role := rfl
@[simp] theorem setTmu_faults (s : State) (k : Nat) (v : TmuSt) : (s.setTmu k v).faults = s.faults := rfl
@[simp] theorem setTmu_hif (s : State) (k : Nat) (v : TmuSt) : (s.setTmu k v).hif = s.hif := rfl
@[simp] theorem setTmu_mbx (s : State) (k : Nat) (v : TmuSt) : (s.setTmu k v).mbx = s.mbx := rfl
@[simp] theorem setTmu_epc (s : State) (k : Nat) (v : TmuSt) : (s.setTmu k v).epc = s.epc := rfl
@[simp] theorem setTmu_pst (s : State) (k : Nat) (v : TmuSt) : (s.setTmu k v).pst = s.pst := rfl
@[simp] theorem setTmu_evr (s : State) (k : Nat) (v : TmuSt) : (s.setTmu k v).evr = s.evr := rfl
@[simp] theorem setTmu_pins (s : State) (k : Nat) (v : TmuSt) : (s.setTmu k v).pins = s.pins := rfl
@[simp] theorem setTmu_banks (s : State) (k : Nat) (v : TmuSt) : (s.setTmu k v).banks = s.banks := rfl
@[simp] theorem setTmu_sups (s : State) (k : Nat) (v : TmuSt) : (s.setTmu k v).sups = s.sups := rfl
@[simp] theorem setTmu_guards (s : State) (k : Nat) (v : TmuSt) : (s.setTmu k v).guards = s.guards := rfl
@[simp] theorem setTmu_fes (s : State) (k : Nat) (v : TmuSt) : (s.setTmu k v).fes = s.fes := rfl
@[simp] theorem setTmu_domains (s : State) (k : Nat) (v : TmuSt) : (s.setTmu k v).domains = s.domains := rfl
@[simp] theorem setTmu_clusterRise (s : State) (k : Nat) (v : TmuSt) : (s.setTmu k v).clusterRise = s.clusterRise := rfl
@[simp] theorem setTmu_psqs (s : State) (k : Nat) (v : TmuSt) : (s.setTmu k v).psqs = s.psqs := rfl
@[simp] theorem setTmu_mces (s : State) (k : Nat) (v : TmuSt) : (s.setTmu k v).mces = s.mces := rfl
@[simp] theorem setTmu_edgeTab (s : State) (k : Nat) (v : TmuSt) : (s.setTmu k v).edgeTab = s.edgeTab := rfl
@[simp] theorem setTmu_scramble (s : State) (k : Nat) (v : TmuSt) : (s.setTmu k v).scramble = s.scramble := rfl
@[simp] theorem setTmu_topo (s : State) (k : Nat) (v : TmuSt) : (s.setTmu k v).topo = s.topo := rfl
@[simp] theorem setTmu_sites (s : State) (k : Nat) (v : TmuSt) : (s.setTmu k v).sites = s.sites := rfl
@[simp] theorem setTmu_sfb (s : State) (k : Nat) (v : TmuSt) : (s.setTmu k v).sfb = s.sfb := rfl
@[simp] theorem setTmu_overlay (s : State) (k : Nat) (v : TmuSt) : (s.setTmu k v).overlay = s.overlay := rfl
@[simp] theorem setTmu_ovlDma (s : State) (k : Nat) (v : TmuSt) : (s.setTmu k v).ovlDma = s.ovlDma := rfl
@[simp] theorem setTmu_vs (s : State) (k : Nat) (v : TmuSt) : (s.setTmu k v).vs = s.vs := rfl
@[simp] theorem setTmu_fre (s : State) (k : Nat) (v : TmuSt) : (s.setTmu k v).fre = s.fre := rfl
@[simp] theorem setTmu_meas (s : State) (k : Nat) (v : TmuSt) : (s.setTmu k v).meas = s.meas := rfl
@[simp] theorem setTmu_cal (s : State) (k : Nat) (v : TmuSt) : (s.setTmu k v).cal = s.cal := rfl
@[simp] theorem setTmu_thm (s : State) (k : Nat) (v : TmuSt) : (s.setTmu k v).thm = s.thm := rfl
@[simp] theorem setTmu_plk (s : State) (k : Nat) (v : TmuSt) : (s.setTmu k v).plk = s.plk := rfl
@[simp] theorem setTmu_spm (s : State) (k : Nat) (v : TmuSt) : (s.setTmu k v).spm = s.spm := rfl
@[simp] theorem setTmu_sec (s : State) (k : Nat) (v : TmuSt) : (s.setTmu k v).sec = s.sec := rfl
@[simp] theorem setTmu_chipWraps (s : State) (k : Nat) (v : TmuSt) : (s.setTmu k v).chipWraps = s.chipWraps := rfl
@[simp] theorem setTmu_boardIds (s : State) (k : Nat) (v : TmuSt) : (s.setTmu k v).boardIds = s.boardIds := rfl
@[simp] theorem setTmu_settings (s : State) (k : Nat) (v : TmuSt) : (s.setTmu k v).settings = s.settings := rfl
@[simp] theorem setTmu_nvmJobs (s : State) (k : Nat) (v : TmuSt) : (s.setTmu k v).nvmJobs = s.nvmJobs := rfl
@[simp] theorem setTmu_sig (s : State) (k : Nat) (v : TmuSt) : (s.setTmu k v).sig = s.sig := rfl
@[simp] theorem setTmu_grave (s : State) (k : Nat) (v : TmuSt) : (s.setTmu k v).grave = s.grave := rfl
@[simp] theorem setTmu_clock (s : State) (k : Nat) (v : TmuSt) : (s.setTmu k v).clock = s.clock := rfl
@[simp] theorem setTmu_free (s : State) (k : Nat) (v : TmuSt) : (s.setTmu k v).free = s.free := rfl

/-! ### `State.setCal` -/

@[simp] theorem setCal_pending (s : State) (k : Nat) (v : CalRec) : (s.setCal k v).pending = s.pending := rfl
@[simp] theorem setCal_regs (s : State) (k : Nat) (v : CalRec) : (s.setCal k v).regs = s.regs := rfl
@[simp] theorem setCal_dev (s : State) (k : Nat) (v : CalRec) : (s.setCal k v).dev = s.dev := rfl
@[simp] theorem setCal_cause (s : State) (k : Nat) (v : CalRec) : (s.setCal k v).cause = s.cause := rfl
@[simp] theorem setCal_causeType (s : State) (k : Nat) (v : CalRec) : (s.setCal k v).causeType = s.causeType := rfl
@[simp] theorem setCal_role (s : State) (k : Nat) (v : CalRec) : (s.setCal k v).role = s.role := rfl
@[simp] theorem setCal_faults (s : State) (k : Nat) (v : CalRec) : (s.setCal k v).faults = s.faults := rfl
@[simp] theorem setCal_hif (s : State) (k : Nat) (v : CalRec) : (s.setCal k v).hif = s.hif := rfl
@[simp] theorem setCal_mbx (s : State) (k : Nat) (v : CalRec) : (s.setCal k v).mbx = s.mbx := rfl
@[simp] theorem setCal_epc (s : State) (k : Nat) (v : CalRec) : (s.setCal k v).epc = s.epc := rfl
@[simp] theorem setCal_pst (s : State) (k : Nat) (v : CalRec) : (s.setCal k v).pst = s.pst := rfl
@[simp] theorem setCal_evr (s : State) (k : Nat) (v : CalRec) : (s.setCal k v).evr = s.evr := rfl
@[simp] theorem setCal_pins (s : State) (k : Nat) (v : CalRec) : (s.setCal k v).pins = s.pins := rfl
@[simp] theorem setCal_banks (s : State) (k : Nat) (v : CalRec) : (s.setCal k v).banks = s.banks := rfl
@[simp] theorem setCal_sups (s : State) (k : Nat) (v : CalRec) : (s.setCal k v).sups = s.sups := rfl
@[simp] theorem setCal_guards (s : State) (k : Nat) (v : CalRec) : (s.setCal k v).guards = s.guards := rfl
@[simp] theorem setCal_fes (s : State) (k : Nat) (v : CalRec) : (s.setCal k v).fes = s.fes := rfl
@[simp] theorem setCal_domains (s : State) (k : Nat) (v : CalRec) : (s.setCal k v).domains = s.domains := rfl
@[simp] theorem setCal_clusterRise (s : State) (k : Nat) (v : CalRec) : (s.setCal k v).clusterRise = s.clusterRise := rfl
@[simp] theorem setCal_psqs (s : State) (k : Nat) (v : CalRec) : (s.setCal k v).psqs = s.psqs := rfl
@[simp] theorem setCal_mces (s : State) (k : Nat) (v : CalRec) : (s.setCal k v).mces = s.mces := rfl
@[simp] theorem setCal_edgeTab (s : State) (k : Nat) (v : CalRec) : (s.setCal k v).edgeTab = s.edgeTab := rfl
@[simp] theorem setCal_scramble (s : State) (k : Nat) (v : CalRec) : (s.setCal k v).scramble = s.scramble := rfl
@[simp] theorem setCal_topo (s : State) (k : Nat) (v : CalRec) : (s.setCal k v).topo = s.topo := rfl
@[simp] theorem setCal_sites (s : State) (k : Nat) (v : CalRec) : (s.setCal k v).sites = s.sites := rfl
@[simp] theorem setCal_sfb (s : State) (k : Nat) (v : CalRec) : (s.setCal k v).sfb = s.sfb := rfl
@[simp] theorem setCal_overlay (s : State) (k : Nat) (v : CalRec) : (s.setCal k v).overlay = s.overlay := rfl
@[simp] theorem setCal_ovlDma (s : State) (k : Nat) (v : CalRec) : (s.setCal k v).ovlDma = s.ovlDma := rfl
@[simp] theorem setCal_vs (s : State) (k : Nat) (v : CalRec) : (s.setCal k v).vs = s.vs := rfl
@[simp] theorem setCal_fre (s : State) (k : Nat) (v : CalRec) : (s.setCal k v).fre = s.fre := rfl
@[simp] theorem setCal_meas (s : State) (k : Nat) (v : CalRec) : (s.setCal k v).meas = s.meas := rfl
@[simp] theorem setCal_tmus (s : State) (k : Nat) (v : CalRec) : (s.setCal k v).tmus = s.tmus := rfl
@[simp] theorem setCal_thm (s : State) (k : Nat) (v : CalRec) : (s.setCal k v).thm = s.thm := rfl
@[simp] theorem setCal_plk (s : State) (k : Nat) (v : CalRec) : (s.setCal k v).plk = s.plk := rfl
@[simp] theorem setCal_spm (s : State) (k : Nat) (v : CalRec) : (s.setCal k v).spm = s.spm := rfl
@[simp] theorem setCal_sec (s : State) (k : Nat) (v : CalRec) : (s.setCal k v).sec = s.sec := rfl
@[simp] theorem setCal_chipWraps (s : State) (k : Nat) (v : CalRec) : (s.setCal k v).chipWraps = s.chipWraps := rfl
@[simp] theorem setCal_boardIds (s : State) (k : Nat) (v : CalRec) : (s.setCal k v).boardIds = s.boardIds := rfl
@[simp] theorem setCal_settings (s : State) (k : Nat) (v : CalRec) : (s.setCal k v).settings = s.settings := rfl
@[simp] theorem setCal_nvmJobs (s : State) (k : Nat) (v : CalRec) : (s.setCal k v).nvmJobs = s.nvmJobs := rfl
@[simp] theorem setCal_sig (s : State) (k : Nat) (v : CalRec) : (s.setCal k v).sig = s.sig := rfl
@[simp] theorem setCal_grave (s : State) (k : Nat) (v : CalRec) : (s.setCal k v).grave = s.grave := rfl
@[simp] theorem setCal_clock (s : State) (k : Nat) (v : CalRec) : (s.setCal k v).clock = s.clock := rfl
@[simp] theorem setCal_free (s : State) (k : Nat) (v : CalRec) : (s.setCal k v).free = s.free := rfl

/-! ### `State.setMce` -/

@[simp] theorem setMce_pending (s : State) (k : Nat) (v : MceSt) : (s.setMce k v).pending = s.pending := rfl
@[simp] theorem setMce_regs (s : State) (k : Nat) (v : MceSt) : (s.setMce k v).regs = s.regs := rfl
@[simp] theorem setMce_dev (s : State) (k : Nat) (v : MceSt) : (s.setMce k v).dev = s.dev := rfl
@[simp] theorem setMce_cause (s : State) (k : Nat) (v : MceSt) : (s.setMce k v).cause = s.cause := rfl
@[simp] theorem setMce_causeType (s : State) (k : Nat) (v : MceSt) : (s.setMce k v).causeType = s.causeType := rfl
@[simp] theorem setMce_role (s : State) (k : Nat) (v : MceSt) : (s.setMce k v).role = s.role := rfl
@[simp] theorem setMce_faults (s : State) (k : Nat) (v : MceSt) : (s.setMce k v).faults = s.faults := rfl
@[simp] theorem setMce_hif (s : State) (k : Nat) (v : MceSt) : (s.setMce k v).hif = s.hif := rfl
@[simp] theorem setMce_mbx (s : State) (k : Nat) (v : MceSt) : (s.setMce k v).mbx = s.mbx := rfl
@[simp] theorem setMce_epc (s : State) (k : Nat) (v : MceSt) : (s.setMce k v).epc = s.epc := rfl
@[simp] theorem setMce_pst (s : State) (k : Nat) (v : MceSt) : (s.setMce k v).pst = s.pst := rfl
@[simp] theorem setMce_evr (s : State) (k : Nat) (v : MceSt) : (s.setMce k v).evr = s.evr := rfl
@[simp] theorem setMce_pins (s : State) (k : Nat) (v : MceSt) : (s.setMce k v).pins = s.pins := rfl
@[simp] theorem setMce_banks (s : State) (k : Nat) (v : MceSt) : (s.setMce k v).banks = s.banks := rfl
@[simp] theorem setMce_sups (s : State) (k : Nat) (v : MceSt) : (s.setMce k v).sups = s.sups := rfl
@[simp] theorem setMce_guards (s : State) (k : Nat) (v : MceSt) : (s.setMce k v).guards = s.guards := rfl
@[simp] theorem setMce_fes (s : State) (k : Nat) (v : MceSt) : (s.setMce k v).fes = s.fes := rfl
@[simp] theorem setMce_domains (s : State) (k : Nat) (v : MceSt) : (s.setMce k v).domains = s.domains := rfl
@[simp] theorem setMce_clusterRise (s : State) (k : Nat) (v : MceSt) : (s.setMce k v).clusterRise = s.clusterRise := rfl
@[simp] theorem setMce_psqs (s : State) (k : Nat) (v : MceSt) : (s.setMce k v).psqs = s.psqs := rfl
@[simp] theorem setMce_edgeTab (s : State) (k : Nat) (v : MceSt) : (s.setMce k v).edgeTab = s.edgeTab := rfl
@[simp] theorem setMce_scramble (s : State) (k : Nat) (v : MceSt) : (s.setMce k v).scramble = s.scramble := rfl
@[simp] theorem setMce_topo (s : State) (k : Nat) (v : MceSt) : (s.setMce k v).topo = s.topo := rfl
@[simp] theorem setMce_sites (s : State) (k : Nat) (v : MceSt) : (s.setMce k v).sites = s.sites := rfl
@[simp] theorem setMce_sfb (s : State) (k : Nat) (v : MceSt) : (s.setMce k v).sfb = s.sfb := rfl
@[simp] theorem setMce_overlay (s : State) (k : Nat) (v : MceSt) : (s.setMce k v).overlay = s.overlay := rfl
@[simp] theorem setMce_ovlDma (s : State) (k : Nat) (v : MceSt) : (s.setMce k v).ovlDma = s.ovlDma := rfl
@[simp] theorem setMce_vs (s : State) (k : Nat) (v : MceSt) : (s.setMce k v).vs = s.vs := rfl
@[simp] theorem setMce_fre (s : State) (k : Nat) (v : MceSt) : (s.setMce k v).fre = s.fre := rfl
@[simp] theorem setMce_meas (s : State) (k : Nat) (v : MceSt) : (s.setMce k v).meas = s.meas := rfl
@[simp] theorem setMce_tmus (s : State) (k : Nat) (v : MceSt) : (s.setMce k v).tmus = s.tmus := rfl
@[simp] theorem setMce_cal (s : State) (k : Nat) (v : MceSt) : (s.setMce k v).cal = s.cal := rfl
@[simp] theorem setMce_thm (s : State) (k : Nat) (v : MceSt) : (s.setMce k v).thm = s.thm := rfl
@[simp] theorem setMce_plk (s : State) (k : Nat) (v : MceSt) : (s.setMce k v).plk = s.plk := rfl
@[simp] theorem setMce_spm (s : State) (k : Nat) (v : MceSt) : (s.setMce k v).spm = s.spm := rfl
@[simp] theorem setMce_sec (s : State) (k : Nat) (v : MceSt) : (s.setMce k v).sec = s.sec := rfl
@[simp] theorem setMce_chipWraps (s : State) (k : Nat) (v : MceSt) : (s.setMce k v).chipWraps = s.chipWraps := rfl
@[simp] theorem setMce_boardIds (s : State) (k : Nat) (v : MceSt) : (s.setMce k v).boardIds = s.boardIds := rfl
@[simp] theorem setMce_settings (s : State) (k : Nat) (v : MceSt) : (s.setMce k v).settings = s.settings := rfl
@[simp] theorem setMce_nvmJobs (s : State) (k : Nat) (v : MceSt) : (s.setMce k v).nvmJobs = s.nvmJobs := rfl
@[simp] theorem setMce_sig (s : State) (k : Nat) (v : MceSt) : (s.setMce k v).sig = s.sig := rfl
@[simp] theorem setMce_grave (s : State) (k : Nat) (v : MceSt) : (s.setMce k v).grave = s.grave := rfl
@[simp] theorem setMce_clock (s : State) (k : Nat) (v : MceSt) : (s.setMce k v).clock = s.clock := rfl
@[simp] theorem setMce_free (s : State) (k : Nat) (v : MceSt) : (s.setMce k v).free = s.free := rfl

/-! ### `State.answer` -/

@[simp] theorem answer_pending (s : State) (v : Word) : (s.answer v).pending = s.pending := rfl
@[simp] theorem answer_regs (s : State) (v : Word) : (s.answer v).regs = s.regs := rfl
@[simp] theorem answer_dev (s : State) (v : Word) : (s.answer v).dev = s.dev := rfl
@[simp] theorem answer_cause (s : State) (v : Word) : (s.answer v).cause = s.cause := rfl
@[simp] theorem answer_causeType (s : State) (v : Word) : (s.answer v).causeType = s.causeType := rfl
@[simp] theorem answer_role (s : State) (v : Word) : (s.answer v).role = s.role := rfl
@[simp] theorem answer_faults (s : State) (v : Word) : (s.answer v).faults = s.faults := rfl
@[simp] theorem answer_mbx (s : State) (v : Word) : (s.answer v).mbx = s.mbx := rfl
@[simp] theorem answer_epc (s : State) (v : Word) : (s.answer v).epc = s.epc := rfl
@[simp] theorem answer_pst (s : State) (v : Word) : (s.answer v).pst = s.pst := rfl
@[simp] theorem answer_evr (s : State) (v : Word) : (s.answer v).evr = s.evr := rfl
@[simp] theorem answer_pins (s : State) (v : Word) : (s.answer v).pins = s.pins := rfl
@[simp] theorem answer_banks (s : State) (v : Word) : (s.answer v).banks = s.banks := rfl
@[simp] theorem answer_sups (s : State) (v : Word) : (s.answer v).sups = s.sups := rfl
@[simp] theorem answer_guards (s : State) (v : Word) : (s.answer v).guards = s.guards := rfl
@[simp] theorem answer_fes (s : State) (v : Word) : (s.answer v).fes = s.fes := rfl
@[simp] theorem answer_domains (s : State) (v : Word) : (s.answer v).domains = s.domains := rfl
@[simp] theorem answer_clusterRise (s : State) (v : Word) : (s.answer v).clusterRise = s.clusterRise := rfl
@[simp] theorem answer_psqs (s : State) (v : Word) : (s.answer v).psqs = s.psqs := rfl
@[simp] theorem answer_mces (s : State) (v : Word) : (s.answer v).mces = s.mces := rfl
@[simp] theorem answer_edgeTab (s : State) (v : Word) : (s.answer v).edgeTab = s.edgeTab := rfl
@[simp] theorem answer_scramble (s : State) (v : Word) : (s.answer v).scramble = s.scramble := rfl
@[simp] theorem answer_topo (s : State) (v : Word) : (s.answer v).topo = s.topo := rfl
@[simp] theorem answer_sites (s : State) (v : Word) : (s.answer v).sites = s.sites := rfl
@[simp] theorem answer_sfb (s : State) (v : Word) : (s.answer v).sfb = s.sfb := rfl
@[simp] theorem answer_overlay (s : State) (v : Word) : (s.answer v).overlay = s.overlay := rfl
@[simp] theorem answer_ovlDma (s : State) (v : Word) : (s.answer v).ovlDma = s.ovlDma := rfl
@[simp] theorem answer_vs (s : State) (v : Word) : (s.answer v).vs = s.vs := rfl
@[simp] theorem answer_fre (s : State) (v : Word) : (s.answer v).fre = s.fre := rfl
@[simp] theorem answer_meas (s : State) (v : Word) : (s.answer v).meas = s.meas := rfl
@[simp] theorem answer_tmus (s : State) (v : Word) : (s.answer v).tmus = s.tmus := rfl
@[simp] theorem answer_cal (s : State) (v : Word) : (s.answer v).cal = s.cal := rfl
@[simp] theorem answer_thm (s : State) (v : Word) : (s.answer v).thm = s.thm := rfl
@[simp] theorem answer_plk (s : State) (v : Word) : (s.answer v).plk = s.plk := rfl
@[simp] theorem answer_spm (s : State) (v : Word) : (s.answer v).spm = s.spm := rfl
@[simp] theorem answer_sec (s : State) (v : Word) : (s.answer v).sec = s.sec := rfl
@[simp] theorem answer_chipWraps (s : State) (v : Word) : (s.answer v).chipWraps = s.chipWraps := rfl
@[simp] theorem answer_boardIds (s : State) (v : Word) : (s.answer v).boardIds = s.boardIds := rfl
@[simp] theorem answer_settings (s : State) (v : Word) : (s.answer v).settings = s.settings := rfl
@[simp] theorem answer_nvmJobs (s : State) (v : Word) : (s.answer v).nvmJobs = s.nvmJobs := rfl
@[simp] theorem answer_sig (s : State) (v : Word) : (s.answer v).sig = s.sig := rfl
@[simp] theorem answer_grave (s : State) (v : Word) : (s.answer v).grave = s.grave := rfl
@[simp] theorem answer_clock (s : State) (v : Word) : (s.answer v).clock = s.clock := rfl
@[simp] theorem answer_free (s : State) (v : Word) : (s.answer v).free = s.free := rfl

/-! ### What is read after a write -/

@[simp] theorem rd_wr_same (s : State) (o : Nat) (v : Word) : (s.wr o v).rd o = v := mapGet_mapSet_same _ _ _ _

theorem rd_wr (s : State) (o p : Nat) (v : Word) : (s.wr o v).rd p = if p = o then v else s.rd p := mapGet_mapSet _ _ _ _ _

theorem rd_wr_other (s : State) {o p : Nat} (v : Word) (h : p ≠ o) : (s.wr o v).rd p = s.rd p := mapGet_mapSet_other _ _ _ h

theorem putAt_eq_wr (s : State) (k : PageKind) (i : Nat) (f : Fld) (j v : Nat) :
    s.putAt k i f j v = s.wr (fldOff k i f j) (putBits (s.rd (fldOff k i f j)) f.hi f.lo v) := rfl

/-- A field read back after it is written. -/
theorem fldAt_putAt_same (s : State) (k : PageKind) (i : Nat) (f : Fld) (j v : Nat) (h : f.hi < 32) (hl : f.lo ≤ f.hi) :
    (s.putAt k i f j v).fldAt k i f j = v % 2 ^ (f.hi + 1 - f.lo) := by
  rw [putAt_eq_wr, State.fldAt, rd_wr_same, bitsOf_putBits_same _ _ _ _ h hl]

/-- Another field read after a write: one at another offset, or at other bits of the word. -/
theorem fldAt_putAt_other (s : State) {k k' : PageKind} {i i' : Nat} {f f' : Fld} {j j' : Nat} (v : Nat) (h : f.hi < 32)
    (hl : f.lo ≤ f.hi) (h' : f'.hi < 32)
    (hd : fldOff k' i' f' j' ≠ fldOff k i f j ∨ f'.hi < f.lo ∨ f.hi < f'.lo) :
    (s.putAt k i f j v).fldAt k' i' f' j' = s.fldAt k' i' f' j' := by
  rw [putAt_eq_wr, State.fldAt, rd_wr]
  split
  · next he =>
    rcases hd with hd | hd
    · exact absurd he hd
    · rw [bitsOf_putBits_disjoint _ _ _ _ _ _ h hl hd h', State.fldAt, he]
  · rfl

/-- A word read after a field of another word is written. -/
theorem rd_putAt_other (s : State) {k : PageKind} {i : Nat} {f : Fld} {j o : Nat} (v : Nat) (h : o ≠ fldOff k i f j) :
    (s.putAt k i f j v).rd o = s.rd o := rd_wr_other s _ h

@[simp] theorem pin_setPin_same (s : State) (k : Nat) (v : PinSt) : (s.setPin k v).pin k = v := mapGet_mapSet_same _ _ _ _
theorem pin_setPin (s : State) (k j : Nat) (v : PinSt) : (s.setPin k v).pin j = if j = k then v else s.pin j :=
  mapGet_mapSet _ _ _ _ _
@[simp] theorem bank_setBank_same (s : State) (k : Nat) (v : BankSt) : (s.setBank k v).bank k = v := mapGet_mapSet_same _ _ _ _
theorem bank_setBank (s : State) (k j : Nat) (v : BankSt) : (s.setBank k v).bank j = if j = k then v else s.bank j :=
  mapGet_mapSet _ _ _ _ _
@[simp] theorem sup_setSup_same (s : State) (k : Nat) (v : SupplySt) : (s.setSup k v).sup k = v := mapGet_mapSet_same _ _ _ _
theorem sup_setSup (s : State) (k j : Nat) (v : SupplySt) : (s.setSup k v).sup j = if j = k then v else s.sup j :=
  mapGet_mapSet _ _ _ _ _
@[simp] theorem guard_setGuard_same (s : State) (k : Nat) (v : GuardSt) : (s.setGuard k v).guard k = v :=
  mapGet_mapSet_same _ _ _ _
theorem guard_setGuard (s : State) (k j : Nat) (v : GuardSt) : (s.setGuard k v).guard j = if j = k then v else s.guard j :=
  mapGet_mapSet _ _ _ _ _
@[simp] theorem fe_setFe_same (s : State) (k : Nat) (v : FeSt) : (s.setFe k v).fe k = v := mapGet_mapSet_same _ _ _ _
@[simp] theorem psq_setPsq_same (s : State) (k : Nat) (v : PsqSt) : (s.setPsq k v).psq k = v := mapGet_mapSet_same _ _ _ _
theorem psq_setPsq (s : State) (k j : Nat) (v : PsqSt) : (s.setPsq k v).psq j = if j = k then v else s.psq j :=
  mapGet_mapSet _ _ _ _ _
@[simp] theorem fault_setFault_same (s : State) (k : Nat) (v : PageFault) : (s.setFault k v).fault k = v :=
  mapGet_mapSet_same _ _ _ _
theorem fault_setFault (s : State) (k j : Nat) (v : PageFault) : (s.setFault k v).fault j = if j = k then v else s.fault j :=
  mapGet_mapSet _ _ _ _ _
@[simp] theorem site_setSite_same (s : State) (k : Nat) (v : SiteSt) : (s.setSite k v).site k = v := mapGet_mapSet_same _ _ _ _
theorem site_setSite (s : State) (k j : Nat) (v : SiteSt) : (s.setSite k v).site j = if j = k then v else s.site j :=
  mapGet_mapSet _ _ _ _ _
@[simp] theorem measOf_setMeas_same (s : State) (k : Nat) (v : MeasSt) : (s.setMeas k v).measOf k = v :=
  mapGet_mapSet_same _ _ _ _
theorem measOf_setMeas (s : State) (k j : Nat) (v : MeasSt) :
    (s.setMeas k v).measOf j = if j = k then v else s.measOf j := mapGet_mapSet _ _ _ _ _
@[simp] theorem tmu_setTmu_same (s : State) (k : Nat) (v : TmuSt) : (s.setTmu k v).tmu k = v := mapGet_mapSet_same _ _ _ _
theorem tmu_setTmu (s : State) (k j : Nat) (v : TmuSt) : (s.setTmu k v).tmu j = if j = k then v else s.tmu j :=
  mapGet_mapSet _ _ _ _ _
@[simp] theorem calRec_setCal_same (s : State) (k : Nat) (v : CalRec) : (s.setCal k v).calRec k = v :=
  mapGet_mapSet_same _ _ _ _
theorem calRec_setCal (s : State) (k j : Nat) (v : CalRec) : (s.setCal k v).calRec j = if j = k then v else s.calRec j :=
  mapGet_mapSet _ _ _ _ _
@[simp] theorem mceOf_setMce_same (s : State) (k : Nat) (v : MceSt) : (s.setMce k v).mceOf k = v := mapGet_mapSet_same _ _ _ _

end Sys2Proof.Machine
end

