-- ==== Sys2Proof/Safety.lean ====
section
/-! DEFINITION. The terms claims are stated in: a safe run, a state between commands, and what a command leaves alone. -/

namespace Sys2Proof
open Machine

/-- A step is safe where it answers a next state. -/
def Safe (o : Host.Outcome State Fault Refusal) : Prop :=
  match o with
  | .next _ => True
  | _ => False

/-- What holds between commands: no entry at Critical or above waits to take effect, no vector counts as signalled in a cycle that has
passed, and READY, ARMED and RUN are what the sequencers make them (R78). -/
abbrev Steady (s : State) : Prop := s.grave = none ∧ s.sig = [] ∧ s.settle = s

/-- The device is powered and started, and memory accesses of the host act (R42, R461). -/
abbrev Serving (s : State) : Prop := Steady s ∧ s.live = true

/-- Every register but those at the offsets given reads as before. -/
def RegsBut (offs : List Nat) (s t : State) : Prop := ∀ o, o ∉ offs → t.rd o = s.rd o

/-- The offsets of the pending bits of the MSI-X vectors, which an interrupt that cannot be sent sets (R57). -/
def pbaOffs : List Nat := [0x5000, 0x5004, 0x5008, 0x500C, 0x5010, 0x5014, 0x5018, 0x501C]

/-- The offsets that the event recorder's ingress changes: INT_STAT of its page and EVR_DROPPED (R541). -/
def evrOffs : List Nat := [0x32018, 0x3206C]

end Sys2Proof
end

