-- ==== Sys2Proof/Laws/Done.lean ====
section
/-! SUPPORT. The outcome of a command: every command ends in `done`, what `done` leaves, and what it changes. -/

namespace Sys2Proof.Machine
open Sys2Proof Reg

/-- Every command answers a next state, and answers it through `done`. -/
theorem exec_is_done (i : Instr) (s : State) : ∃ t, exec i s = done t := by
  cases i <;> first
    | exact ⟨_, rfl⟩
    | (simp only [exec, execBar0BadAccess, execIntStatClear, execConfigRequest, execHifLinkTrained, execPisteDrop]
       split <;> first
         | exact ⟨_, rfl⟩
         | (split <;> exact ⟨_, rfl⟩))

/-- A step answers through `done`. -/
theorem step_is_done (s : State) : ∃ t, step s = done t := by
  unfold step
  split
  · exact exec_is_done _ _
  · exact ⟨_, rfl⟩

/-- `settle` changes DEVICE_STATE only. -/
theorem settle_eq_with (s : State) : s.settle = { s with dev := s.settle.dev } := by
  unfold State.settle
  split <;> rfl

/-- The word that holds the run state, BOUND and LOADED of a sequencer. -/
theorem psqBurst_congr {s t : State} {n : Nat} (h : t.rd (baseOf .psq n + 0x14) = s.rd (baseOf .psq n + 0x14)) :
    t.psqBurst n = s.psqBurst n := by
  have hr : t.fld .psq n PSQ_STAT_RUNSTATE = s.fld .psq n PSQ_STAT_RUNSTATE := by
    simp only [State.fld, State.fldAt, fldOff, PSQ_STAT_RUNSTATE, Nat.mul_zero, Nat.add_zero, h]
  rw [State.psqBurst, State.psqBurst, hr]

theorem psqQualifies_congr {s t : State} {n : Nat} (h : t.rd (baseOf .psq n + 0x14) = s.rd (baseOf .psq n + 0x14)) :
    t.psqQualifies n = s.psqQualifies n := by
  simp only [State.psqQualifies, State.flag, State.fld, State.fldAt, fldOff, PSQ_STAT_BOUND, PSQ_STAT_LOADED, Nat.mul_zero,
    Nat.add_zero, h]

/-- A state with the DEVICE_STATE and the sequencer status words of a settled one is settled. -/
theorem settle_of_same {s t : State} (hs : s.settle = s) (hd : t.dev = s.dev)
    (h : ∀ n < 8, t.rd (baseOf .psq n + 0x14) = s.rd (baseOf .psq n + 0x14)) : t.settle = t := by
  have hb : (List.range 8).any t.psqBurst = (List.range 8).any s.psqBurst := by
    rw [Bool.eq_iff_iff, List.any_eq_true, List.any_eq_true]
    constructor <;> rintro ⟨n, hn, hx⟩ <;> refine ⟨n, hn, ?_⟩ <;>
      simpa [psqBurst_congr (h n (List.mem_range.mp hn))] using hx
  have hq : (List.range 8).any t.psqQualifies = (List.range 8).any s.psqQualifies := by
    rw [Bool.eq_iff_iff, List.any_eq_true, List.any_eq_true]
    constructor <;> rintro ⟨n, hn, hx⟩ <;> refine ⟨n, hn, ?_⟩ <;>
      simpa [psqQualifies_congr (h n (List.mem_range.mp hn))] using hx
  have hs' : s.settle.dev = s.dev := by rw [hs]
  rw [settle_eq_with]
  have : t.settle.dev = t.dev := by
    rw [hd, ← hs']
    unfold State.settle
    rw [hd, hb, hq]
    cases s.dev <;> simp [hd]
  rw [this]

/-- The outcome of a command that notes nothing for its end and leaves DEVICE_STATE and the sequencers' status words alone. -/
theorem done_of_steady {s u : State} (hs : Steady s) (hg : u.grave = none) (hd : u.dev = s.dev)
    (h : ∀ n < 8, u.rd (baseOf .psq n + 0x14) = s.rd (baseOf .psq n + 0x14)) : done u = .next { u with sig := [] } := by
  have hf : u.fall = u := by simp only [State.fall, hg]
  rw [done, hf, settle_of_same hs.2.2 hd h]

/-- A state between commands: nothing waits, and its device state is the one that settling gives. -/
theorem steady_of {s : State} (hg : s.grave = none) (hs : s.sig = []) (hd : s.settle.dev = s.dev) : Steady s :=
  ⟨hg, hs, by rw [settle_eq_with, hd]⟩

/-- A state in which the host is served. -/
theorem serving_of {s : State} (hg : s.grave = none) (hs : s.sig = []) (hd : s.settle.dev = s.dev) (hl : s.live = true) : Serving s :=
  ⟨steady_of hg hs hd, hl⟩

/-- The outcome of a command that leaves a state between commands as it is. -/
theorem done_self {s : State} (hs : Steady s) : done s = .next s := by
  rw [done_of_steady hs hs.1 rfl fun _ _ => rfl, ← hs.2.1]

/-! ### What every command leaves -/

theorem foldl_grave {α : Type} (f : State → α → State) (h : ∀ s a, (f s a).grave = s.grave) (l : List α) (s : State) :
    (l.foldl f s).grave = s.grave := by
  induction l generalizing s with
  | nil => rfl
  | cons a r ih => rw [List.foldl_cons, ih, h]

theorem freeTmu_grave (s : State) (t : Nat) : (s.freeTmu t).grave = s.grave := by
  unfold State.freeTmu
  split <;> simp

theorem calAbandon_grave (s : State) (r : Nat) : (s.calAbandon r).grave = s.grave := by
  simp only [State.calAbandon, setCal_grave]
  split
  · exact freeTmu_grave _ _
  · rfl

theorem calAbandonAll_grave (s : State) : s.calAbandonAll.grave = s.grave := foldl_grave _ calAbandon_grave _ _

/-- A Fatal entry that takes effect is gone. -/
theorem fall_grave (s : State) : s.fall.grave = none := by
  rw [State.fall]
  split
  · assumption
  · simp only
    split
    · rw [calAbandonAll_grave]
    · rfl

end Sys2Proof.Machine
end

