-- ==== Sys2Proof/Laws/Ops.lean ====
section
/-! SUPPORT. What the shared operations can do, said once: interrupts and messages, counters, the event recorder's ingress, fault entries. -/

namespace Sys2Proof.Machine
open Sys2Proof Reg

/-! ### Messages and interrupts -/

theorem pend_eq_with (s : State) (v : Nat) : s.pend v = { s with regs := (s.pend v).regs } := rfl

theorem sendOrPend_eq_with (s : State) (v : Nat) :
    s.sendOrPend v = { s with regs := (s.sendOrPend v).regs, hif := (s.sendOrPend v).hif } := by
  unfold State.sendOrPend
  split <;> rfl

/-- Signalling a vector changes pending bits, the messages sent, and the vectors signalled in this cycle. -/
theorem signal_eq_with (s : State) (v : Nat) :
    s.signal v = { s with regs := (s.signal v).regs, hif := (s.signal v).hif, sig := (s.signal v).sig } := by
  unfold State.signal
  split
  · rfl
  · rw [sendOrPend_eq_with]

theorem mem_pbaOffs (v : Nat) (h : v < 256) : fldOff .msixPba 0 MSIX_PBA_PENDING (v / 32) ∈ pbaOffs := by
  have : v / 32 < 8 := by omega
  simp only [fldOff, baseOf, MSIX_PBA_PENDING, pbaOffs, List.mem_cons, List.not_mem_nil, or_false]
  omega

theorem rd_sendOrPend_other (s : State) {v o : Nat} (hv : v < 256) (ho : o ∉ pbaOffs) : (s.sendOrPend v).rd o = s.rd o := by
  unfold State.sendOrPend
  split
  · rfl
  · exact rd_wr_other s _ fun h => ho (h ▸ mem_pbaOffs v hv)

theorem rd_signal_other (s : State) {v o : Nat} (hv : v < 256) (ho : o ∉ pbaOffs) : (s.signal v).rd o = s.rd o := by
  unfold State.signal
  split
  · rfl
  · exact rd_sendOrPend_other s hv ho

theorem bitsOf_lt (w : Word) (hi lo : Nat) : bitsOf w hi lo < 2 ^ (hi + 1 - lo) := Nat.mod_lt _ (Nat.two_pow_pos _)

theorem intVec_lt (s : State) (page : Nat) : s.intVec page < 256 := bitsOf_lt _ 7 0

/-- A hardware set of INT_STAT bits changes registers, messages and the vectors signalled in this cycle. -/
theorem intSet_eq_with (s : State) (page : Nat) (m : Word) :
    s.intSet page m
      = { s with regs := (s.intSet page m).regs, hif := (s.intSet page m).hif, sig := (s.intSet page m).sig } := by
  simp only [State.intSet]
  split
  · rfl
  · rw [signal_eq_with]; rfl

/-- INT_STAT after a hardware set of its bits. -/
theorem rd_intSet_same (s : State) (page : Nat) (m : Word) (h : page + 0x18 ∉ pbaOffs) :
    (s.intSet page m).rd (page + 0x18) = s.rd (page + 0x18) ||| m := by
  simp only [State.intSet]
  split
  · exact rd_wr_same _ _ _
  · rw [rd_signal_other _ (intVec_lt _ _) h]
    exact rd_wr_same _ _ _

/-- Another register after a hardware set of INT_STAT bits. -/
theorem rd_intSet_other (s : State) {page o : Nat} (m : Word) (ho : o ≠ page + 0x18) (hp : o ∉ pbaOffs) :
    (s.intSet page m).rd o = s.rd o := by
  simp only [State.intSet]
  split
  · exact rd_wr_other s _ ho
  · rw [rd_signal_other _ (intVec_lt _ _) hp]
    exact rd_wr_other s _ ho

/-! ### Counters -/

theorem bumpBy_eq_with (s : State) (k : PageKind) (i : Nat) (c o : Fld) (n : Nat) :
    s.bumpBy k i c o n = { s with regs := (s.bumpBy k i c o n).regs } := by
  simp only [State.bumpBy]
  split <;> rfl

/-- A register outside the counter's word and its overflow bit's. -/
theorem rd_bumpBy_other (s : State) {k : PageKind} {i : Nat} {c o : Fld} {n a : Nat} (h1 : a ≠ fldOff k i c 0)
    (h2 : a ≠ fldOff k i o 0) : (s.bumpBy k i c o n).rd a = s.rd a := by
  simp only [State.bumpBy, State.put]
  split
  · rw [rd_putAt_other _ _ h2, rd_putAt_other _ _ h1]
  · rw [rd_putAt_other _ _ h1]

/-! ### The event recorder's ingress -/

/-- An entry offered to the recorder changes its ingress; a drop also counts, and sets INT_STAT.DROPPED. -/
theorem evrOffer_eq_with (s : State) (x : EvrIn) :
    s.evrOffer x
      = { s with
          evr := (s.evrOffer x).evr, regs := (s.evrOffer x).regs, hif := (s.evrOffer x).hif, sig := (s.evrOffer x).sig } := by
  have hd : ∀ y : EvrIn, s.evrDrop y
      = { s with
          evr := (s.evrDrop y).evr, regs := (s.evrDrop y).regs, hif := (s.evrDrop y).hif, sig := (s.evrDrop y).sig } := by
    intro y
    simp only [State.evrDrop, State.int]
    rw [intSet_eq_with, State.bump, bumpBy_eq_with]
  unfold State.evrOffer
  split
  · rfl
  · split
    · rfl
    · split
      · exact hd x
      · split
        · simp only
          rw [hd]
        · rfl

/-! ### Fault entries -/

/-- An entry that the page records below Critical changes the page's fault state, registers, messages and the recorder's ingress. -/
theorem recordFault_eq_with (s : State) (offer : Bool) (k : PageKind) (i cls base : Nat) (d : Word)
    (h : recordedLevel (s.fault (pageBase k i)) cls base < 4) :
    s.recordFault offer k i cls base d
      = { s with
          faults := (s.recordFault offer k i cls base d).faults, regs := (s.recordFault offer k i cls base d).regs
          hif := (s.recordFault offer k i cls base d).hif, sig := (s.recordFault offer k i cls base d).sig
          evr := (s.recordFault offer k i cls base d).evr } := by
  have hi : ∀ (c : Prop) [Decidable c] (u : State) (p : Nat) (m : Word), (if c then u.intSet p m else u)
      = { u with
          regs := (if c then u.intSet p m else u).regs, hif := (if c then u.intSet p m else u).hif
          sig := (if c then u.intSet p m else u).sig } := by
    intro c _ u p m
    split
    · exact intSet_eq_with u p m
    · rfl
  have hj : ∀ (c : Prop) [Decidable c] (u : State) (p : Nat) (m : Word), (if c then u else u.intSet p m)
      = { u with
          regs := (if c then u else u.intSet p m).regs, hif := (if c then u else u.intSet p m).hif
          sig := (if c then u else u.intSet p m).sig } := by
    intro c _ u p m
    split
    · rfl
    · exact intSet_eq_with u p m
  have ho : ∀ (c : Prop) [Decidable c] (u : State) (x : EvrIn), (if c then u.evrOffer x else u)
      = { u with
          regs := (if c then u.evrOffer x else u).regs, hif := (if c then u.evrOffer x else u).hif
          sig := (if c then u.evrOffer x else u).sig, evr := (if c then u.evrOffer x else u).evr } := by
    intro c _ u x
    split
    · rw [evrOffer_eq_with]
    · rfl
  simp only [State.recordFault, h, if_true]
  rw [ho, hj, hi]
  rfl

/-- A Notice or an Info entry is recorded at its base level (R60). -/
theorem recordedLevel_low (pf : PageFault) (cls base : Nat) (h : base < 2) : recordedLevel pf cls base = base := by
  simp [recordedLevel, h]

end Sys2Proof.Machine
end

