-- ==== Sys2Proof/Certificates/Slice0/Obligations.lean ====
section
/-! DEFINITION. What is to be proved of the model: the rules of the spec as statements over its commands. -/

namespace Sys2Proof
open Machine Machine.Reg

/-! ### Terms of the statements -/

/-- The messages of a vector sent so far (R55). -/
def msgs (s : State) (v : Nat) : Nat := mapGet (fun _ => 0) s.hif.sent v

/-- The message of a vector goes out, or waits in the pending bits where it cannot be sent (R55, R57). -/
abbrev Signalled (v : Nat) (s t : State) : Prop :=
  if s.canSend && !s.vectorMasked v then msgs t v = msgs s v + 1 else t.pbaBit v = true

/-- A header page that the host may write in its role. -/
abbrev Header (s : State) (page : Nat) (r : PageRef) : Prop :=
  Serving s ∧ headerPage page = some r ∧ s.role.meets (wrMin r.kind) = true

/-- A page has an entry newest in its history, of this class and base level, at the level R60 gives it and the present epoch position. -/
abbrev Raised (page cls base : Nat) (s t : State) : Prop :=
  (t.fault page).hist.head?.map (fun e => (e.cls, e.base, e.level, e.seq, e.f, e.p))
    = some (cls, base, recordedLevel (s.fault page) cls base, (s.fault page).seq, s.epc.f, s.epc.p)

/-- The faults recorded in every page but those given are as before. -/
def FaultsBut (pages : List Nat) (s t : State) : Prop := ∀ q, q ∉ pages → t.fault q = s.fault q

/-- Nothing changes but registers at the offsets given. -/
abbrev OnlyRegs (offs : List Nat) (s t : State) : Prop := RegsBut offs s t ∧ t = { s with regs := t.regs }

/-- Nothing changes but registers at the offsets given and what reporting an interrupt cause of the pages given changes: their INT_STAT,
the pending bits and the messages sent. -/
abbrev OnlyInts (pages offs : List Nat) (s t : State) : Prop :=
  RegsBut (pages.map (· + 0x18) ++ offs ++ pbaOffs) s t ∧ t = { s with regs := t.regs, hif := { s.hif with sent := t.hif.sent } }

/-- Registers at the offsets given change, and what recording faults in the pages given changes of the registers, the histories and the host
interface. -/
abbrev Reported (pages offs : List Nat) (s t : State) : Prop :=
  RegsBut (pages.map (· + 0x18) ++ offs ++ pbaOffs ++ evrOffs) s t ∧ FaultsBut pages s t
    ∧ t.hif = { s.hif with sent := t.hif.sent }

/-- A class of a page is acknowledged: an entry of it at a base level below Critical is recorded at that level (R60). -/
abbrev Acked (s : State) (page cls : Nat) : Prop := lookupKey (s.fault page).unacked cls = none

/-- An answer to a read of the host is all that changes, but for registers at the offsets given. -/
abbrev OnlyAnswer (w : Word) (offs : List Nat) (s t : State) : Prop :=
  t.hif.resp = .words [w] ∧ RegsBut offs s t ∧ t = { s with regs := t.regs, hif := { s.hif with resp := t.hif.resp } }

/-- A counter of `w` bits counts one more (R53). -/
abbrev Counts (k : PageKind) (i : Nat) (cnt : Fld) (s t : State) : Prop :=
  t.fld k i cnt = (s.fld k i cnt + 1) % 2 ^ (cnt.hi + 1 - cnt.lo)

/-- The offsets of these fields of these supplies. -/
def supOffs (fs : List Fld) (us : List Nat) : List Nat := us.flatMap fun u => fs.map fun f => fldOff (supKind u) (supInst u) f 0

/-- The page of a supply. -/
abbrev supPage (u : Nat) : Nat := pageBase (supKind u) (supInst u)

/-- A field of a supply, and a flag of one. -/
abbrev supFld (s : State) (u : Nat) (f : Fld) : Nat := s.fld (supKind u) (supInst u) f
abbrev supFlag (s : State) (u : Nat) (f : Fld) : Bool := s.flag (supKind u) (supInst u) f

/-- A write that a supply ignores changes nothing but what raising this class at Notice changes (R367, R371, R377). -/
abbrev SupIgnores (u cls : Nat) (s t : State) : Prop :=
  Raised (supPage u) cls 1 s t ∧ Reported [supPage u] [] s t
    ∧ t = { s with regs := t.regs, hif := t.hif, faults := t.faults, evr := t.evr, free := t.free }

/-- What the Governor reports of an admitted write of the host whose new total is `total` (R27, R32). -/
abbrev PgvAdmitted (total : Nat) (t : State) : Prop :=
  t.fld .pgv 0 PGV_RESP_RESULT = 1 ∧ t.fld .pgv 0 PGV_RESP_SOURCE = 0 ∧ t.fld .pgv 0 PGV_RESP_TOTAL_MW = total % 2 ^ 24

/-- A host write refused for the ceiling changes nothing but what its refusal reports (R27, R32, R33). -/
abbrev PgvRefused (total : Nat) (s t : State) : Prop :=
  t.fld .pgv 0 PGV_RESP_RESULT = 2 ∧ t.fld .pgv 0 PGV_RESP_SOURCE = 0 ∧ t.fld .pgv 0 PGV_RESP_TOTAL_MW = total % 2 ^ 24
    ∧ Counts .pgv 0 PGV_REFUSED_COUNT s t ∧ Raised 0x3000 1 1 s t ∧ Reported [0x3000] [0x304C, 0x3050] s t
    ∧ t = { s with regs := t.regs, hif := t.hif, faults := t.faults, evr := t.evr, free := t.free }

/-- Whether the charge `draw` of a bank fits under the ceiling, or at least does not raise the charged total (R27). -/
abbrev Fits (s : State) (b draw : Nat) : Prop :=
  s.charged - (s.bank b).charge + draw ≤ s.fld .pgv 0 PGV_CEIL_CEIL_MW ∨ s.charged - (s.bank b).charge + draw ≤ s.charged

/-- The total a change of a bank's charge would give. -/
abbrev newTotal (s : State) (b draw : Nat) : Nat := s.charged - (s.bank b).charge + draw

/-- Every byte of the overlay store outside `a` to `a + n − 1` reads as before. -/
def OverlayBut (a n : Nat) (s t : State) : Prop := ∀ x, x < a ∨ a + n ≤ x → t.ovlByte x = s.ovlByte x

/-- Every byte of the Vector Store outside the addresses `p` selects reads as before, and so does the written-map. -/
def StoreBut (p : Nat → Bool) (s t : State) : Prop := ∀ x, p x = false → t.vsByte x = s.vsByte x ∧ (t.vsWritten (x / 4096) = true ∨ t.vsWritten (x / 4096) = s.vsWritten (x / 4096))

/-- The channels and pins of a template's placements exist (R258). -/
abbrev TemplateOk (t : Template) : Prop :=
  t.pins ≤ 128 ∧ ∀ p ∈ t.places, p.1.length = t.pins ∧ 0 < t.pins ∧ (∀ k ∈ p.1, k < 768) ∧ p.2.1.length ≤ 4 ∧ (∀ u ∈ p.2.1, u < 72) ∧ ∀ h ∈ p.2.2, h < 24

/-- Every site but those given is as before. -/
def SitesBut (l : List Nat) (s t : State) : Prop := ∀ j, j ∉ l → t.site j = s.site j

/-- Every sequencer but those given stands as before. -/
def PsqsBut (l : List Nat) (s t : State) : Prop := ∀ j, j ∉ l → t.psq j = s.psq j

/-- The counters of a sequencer's counter page, which its events advance (R255). -/
def pcnOffs (n : Nat) : List Nat :=
  (baseOf .pcn n + 0x44) :: (List.range 8).flatMap fun i => [baseOf .pcn n + 0x64 + 16 * i, baseOf .pcn n + 0x68 + 16 * i]

/-- Nothing changes but one sequencer, its event counters, and registers at the offsets given. -/
abbrev PsqOnly (n : Nat) (offs : List Nat) (s t : State) : Prop :=
  RegsBut (pcnOffs n ++ offs) s t ∧ PsqsBut [n] s t ∧ t = { s with regs := t.regs, psqs := t.psqs }

/-- The next instruction of a running sequencer is to act: nothing holds the output, the vectors before it are out, and its word in the
vector cache names this function of the vendor opcodes (R191, R192). -/
abbrev NextOp (s : State) (n : Nat) (f : Func) : Prop :=
  s.bursting n = true ∧ (s.psq n).hold = .none ∧ (s.psq n).emit = none ∧ (s.psq n).micro = none ∧ (s.psq n).atEnd = false
    ∧ s.fetchPc n = .word (s.instr n) ∧ s.vendorFunc n (s.instr n) = some (some f)

/-- An instruction is complete at the output: it took one slot, and `pc` is next (R203). -/
abbrev Completes (n pc : Nat) (s t : State) : Prop :=
  t.fld .psq n PSQ_PC = pc % 2 ^ 24 ∧ (t.psq n).completed = (s.psq n).completed + 1 ∧ (t.psq n).slots = (s.psq n).slots - 1
    ∧ (t.psq n).emit = none ∧ (t.psq n).hold = .none ∧ (t.psq n).ending = none

/-- An instruction emits vectors, and stays at PC until they are out. -/
abbrev Emits (n : Nat) (e : Emit) (s t : State) : Prop :=
  (t.psq n).emit = some e ∧ (t.psq n).slots = (s.psq n).slots - 1 ∧ t.fld .psq n PSQ_PC = s.fld .psq n PSQ_PC

/-- A pattern fault fixes the burst's end (R222). -/
abbrev Faults (n code : Nat) (s t : State) : Prop :=
  (t.psq n).ending = some (2, code, 0) ∧ t.fld .psq n PSQ_FAULT_PC = s.fld .psq n PSQ_PC ∧ t.fld .psq n PSQ_STAT_RUNSTATE = 8

/-- The page table stands as before but for the pages `p` selects. -/
def PagesBut (p : Nat → Bool) (s t : State) : Prop := ∀ v, p v = false → t.pteAt v = s.pteAt v

/-- A BAR0 offset lies on one of these pages. -/
def onPages (pages : List Nat) (o : Nat) : Bool := pages.any fun p => decide (p ≤ o) && decide (o < p + 0x1000)

/-- Every register at whose offset `p` is false reads as before. -/
def RegsOff (p : Nat → Bool) (s t : State) : Prop := ∀ o, p o = false → t.rd o = s.rd o

/-- Registers and recorded faults change on these pages only, apart from the pending bits of vectors and the recorder's counts. -/
abbrev StaysOn (pages : List Nat) (s t : State) : Prop :=
  RegsOff (fun o => onPages pages o || pbaOffs.contains o || evrOffs.contains o) s t ∧ FaultsBut pages s t
    ∧ t.hif = { s.hif with sent := t.hif.sent }

/-- The measuring instruments of every bank but these stand as before. -/
def MeasBut (l : List Nat) (s t : State) : Prop := ∀ b, b ∉ l → t.measOf b = s.measOf b

/-- Every TMU but these stands as before. -/
def TmusBut (l : List Nat) (s t : State) : Prop := ∀ u, u ∉ l → t.tmu u = s.tmu u

/-- The request descriptor a bank has staged. -/
def stagedWords (s : State) (b : Nat) : List Word := (List.range 8).map fun j => BitVec.ofNat 32 (s.fldAt .acq b MSR_W j)

/-- The pages a measurement of a bank works on: its ACQ, PMU, bank, guard, level, pin-electronics and DPS pages. -/
def measPages (b : Nat) : List Nat :=
  [pageBase .acq b, pageBase .pmu b, pageBase .bnk b, pageBase .gmn b, pageBase .lde b] ++ (List.range 32).map (fun j => pageBase .pec (32 * b + j))
    ++ (List.range 3).map fun j => pageBase .dps (3 * b + j)

/-- An entry of the host result FIFO for item `it` of a request: its status, LATE, site, handle and TAG (R406). -/
abbrev ResultEntry (r : MsrReq) (site : Option Nat) (st : Nat) (late : Bool) (e : List Word) : Prop :=
  (e.getD 1 0).getLsbD 31 = true ∧ bitsOf (e.getD 1 0) 30 28 = st ∧ (e.getD 1 0).getLsbD 27 = late
    ∧ (e.getD 1 0).getLsbD 24 = site.isSome ∧ bitsOf (e.getD 1 0) 23 16 = site.getD 0 % 256
    ∧ bitsOf (e.getD 1 0) 15 0 = r.handle % 65536 ∧ e.getD 2 0 = r.words.getD 5 0

/-- The capture that an arm of a descriptor would make, before it takes effect (R411). -/
def armOf (s : State) (b d : Nat) (piste : Bool) : Capture :=
  ⟨if wordBits (s.capWords b d) 6 31 31 = 1 then 2 else if piste then 1 else 0, s.capWords b d, .waiting s.clock, 0, 0, none, false, 0, [], 0, 0⟩

/-- The result a capture takes from a sum of samples (R396, R412). -/
def resultOf (c : Capture) (sum : Int) : Int := averageOf (wordBits c.words 0 12 8) (sampleSum (wordBits c.words 0 12 8) sum)

/-- Position `pos` of a bank's capture memory holds a word, and every other position what it held. -/
abbrev CapWrites (b pos : Nat) (w : Word) (s t : State) : Prop :=
  mapGet (fun _ => (0 : Word)) (t.measOf b).mem pos = w
    ∧ ∀ p, p ≠ pos → mapGet (fun _ => (0 : Word)) (t.measOf b).mem p = mapGet (fun _ => (0 : Word)) (s.measOf b).mem p

/-- A capture that is between two segments (R415, R416). -/
def Machine.Capture.between (c : Capture) : Bool :=
  match c.stage with
  | .rearm .. => true
  | _ => false

/-- Whether a capture between segments must wait for its hold-off (R415). -/
def Machine.Capture.waitsOn (c : Capture) (s : State) : Bool :=
  match c.stage with
  | .rearm _ since =>
    (decide (c.cls ≠ 0) && wordBits c.words 5 31 31 == 0 && decide (s.clock < since + s.cycles50 (wordBits c.words 5 23 0)))
      || decide (0 < c.hold)
  | _ => false

/-- The offsets of a TMU's registers that a measurement writes: its state, count, response, start position and results. -/
def tmuOffs (u : Nat) : List Nat :=
  [fldOff .tmu u TMU_STAT_STATE 0, fldOff .tmu u TMU_RESP_RESULT 0, fldOff .tmu u TMU_COUNT 0, fldOff .tmu u TMU_T0_F_LO 0,
      fldOff .tmu u TMU_T0_F_HI 0, fldOff .tmu u TMU_T0_FINE 0, fldOff .tmu u TMU_CTRL_HOST_RESERVE 0]
    ++ (List.range 15).flatMap fun i => [fldOff .tmu u TMU_RES_LO i, fldOff .tmu u TMU_RES_HI i]

/-- What one TMU's commands change: that unit, its registers, and what they report on its page. -/
abbrev TmuOnly (u : Nat) (offs : List Nat) (s t : State) : Prop :=
  TmusBut [u] s t ∧ Reported [pageBase .tmu u] (tmuOffs u ++ offs) s t
    ∧ t = { s with regs := t.regs, hif := t.hif, faults := t.faults, evr := t.evr, free := t.free, tmus := t.tmus }

/-- The interval from the start to an edge of source `c` for stop `i`, in edge-time units (R427). -/
def intervalOf (s : State) (u c i : Nat) (e : Int) : Int := e + s.fixShift u i c * s.tmuLsb - (s.tmu u).start

/-- An edge of source `c` at time `e` is the one that gives stop `i` its result: the stop has none, its occurrence is due, the edge does not
come before the window, and it does not merge with the one before it (R424). -/
abbrev GivesStop (s : State) (u c i : Nat) (e : Int) : Prop :=
  s.tmuSrc u i = c ∧ s.stopHas u i = false ∧ -(8000 * s.tmuLsb) ≤ intervalOf s u c i e
    ∧ mapGet (fun _ => 0) (s.tmu u).counts i + 1 = s.tmuOcc u i
    ∧ ∀ l ∈ lookupKey (s.tmu u).last c, 5000 * s.tmuLsb ≤ e - l

/-- The TRIP bit and the LIVE bit of a monitor. -/
abbrev tripped (s : State) (b m : Nat) : Bool := s.gmnBit b GMN_TRIP0 GMN_TRIP1 m
abbrev live (s : State) (b m : Nat) : Bool := s.gmnBit b GMN_LIVE0 GMN_LIVE1 m

/-- What an evaluation of a monitor leaves on an observation of it (R378, R385): nothing where it does not run or is blanked; else LIVE says
whether the quantity lies outside, TRIP sets with it and clears only where the monitor does not latch, and a new trip counts. -/
abbrev Evaluates (o : GuardObs) (s t : State) : Prop :=
  if s.gmnRuns o.bank o.m = false ∨ s.gmnBlanked o.bank o.m = true then t = s
  else
    live t o.bank o.m = s.gmnOutside o.bank o.m o.value
      ∧ tripped t o.bank o.m = (s.gmnOutside o.bank o.m o.value
          || (tripped s o.bank o.m && s.fldAt .gmn o.bank GMN_CFG_LATCH o.m != 1))
      ∧ (s.gmnOutside o.bank o.m o.value = true → tripped s o.bank o.m = false →
          Counts .gmn o.bank GMN_TRIPS_COUNT s t ∧ Counts .gmnSum 0 GMN_TOTAL_COUNT s t
            ∧ (t.intStat (pageBase .gmn o.bank)).getLsbD 0 = true ∧ (t.intStat 0x42000).getLsbD 0 = true
            ∧ (s.fldAt .gmn o.bank GMN_CFG_ACTION o.m = 0 → s.fldAt .gmn o.bank GMN_CFG_WAKE o.m = 0 →
                Raised (pageBase .gmn o.bank) (guardClass o.m) 1 s t
                  ∧ StaysOn [pageBase .gmn o.bank, 0x42000] s t
                  ∧ t = { s with regs := t.regs, hif := t.hif, faults := t.faults, evr := t.evr, free := t.free })
            ∧ (s.fldAt .gmn o.bank GMN_CFG_ACTION o.m = 1 → 32 ≤ o.m.val →
                (supFlag t (gmnSupply o.bank o.m) DPS_CTRL_CONN = false ∧ (t.sup (gmnSupply o.bank o.m)).queue = []))
            ∧ (s.fldAt .gmn o.bank GMN_CFG_ACTION o.m = 1 → o.m.val < 32 →
                s.flag .pec (32 * o.bank + o.m) PEC_SITE_BOUND = true →
                  t.flag .site (s.fld .pec (32 * o.bank + o.m) PEC_SITE) SITE_CTRL_MASK = true)
            ∧ (s.fldAt .gmn o.bank GMN_CFG_ACTION o.m = 2 → ∀ u < 96, supFlag t u DPS_STAT_FAULT_HELD = true))
      ∧ (¬(s.gmnOutside o.bank o.m o.value = true ∧ tripped s o.bank o.m = false) →
          RegsOff (onPages [pageBase .gmn o.bank]) s t ∧ t = { s with regs := t.regs })

/-- The bad readings of a sensor in a row after a sample (R453). -/
def badRun (s : State) (i : Nat) (x : Reading) : Nat :=
  if x.refOk = false ∨ x.temp < -640 ∨ 2400 < x.temp then mapGet (fun _ => 0) s.thm.bad i + 1 else 0

/-- What a sample does to a state of a region (R455): entered at the tenth consecutive sample that reaches it, left at the tenth that clears
it. -/
abbrev Dwells (g st : Nat) (reach clear : Bool) (s t : State) : Prop :=
  t.inThermal g st = (if s.inThermal g st then !(clear && decide (s.dwell g st 1 = 9)) else reach && decide (s.dwell g st 0 = 9))

/-- The role that the Vendor role and the Owner session give host accesses (R479). -/
def roleOf (s : State) : Role :=
  if s.sec.vendor.any (fun p => bitAt p 0) then .vendor
  else if (s.sec.owner.bind s.ownerKey).any (fun k => bitAt k.perms 2) then .owner else .operator

/-- Only what the Security Engine holds changes. -/
abbrev SecOnly (s t : State) : Prop := t = { s with sec := t.sec }

/-- What the SPDM responder changes where it opens or ends sessions: the sessions and what SEC_STAT shows of them, and interrupt causes. -/
abbrev SecSessions (s t : State) : Prop :=
  Reported [0x20000] [0x20014, 0x20048] s t
    ∧ t = { s with regs := t.regs, hif := t.hif, faults := t.faults, evr := t.evr, free := t.free, sec := t.sec, role := t.role }

/-- What a SEC_CMD changes in registers: its response, the data window, and what it shows of slots and roles. -/
abbrev SecRegs (s t : State) : Prop :=
  RegsOff (fun o => onPages [0x20000] o || pbaOffs.contains o || evrOffs.contains o) s t ∧ FaultsBut [0x20000] s t

/-- A SEC_CMD has ended with this RESULT (R475). -/
abbrev SecEnds (r : Nat) (t : State) : Prop := t.fld .secCtl 0 SEC_RESP_RESULT = r ∧ (t.intStat 0x20000).getLsbD 0 = true

/-- The link ends a command in a state of its own (R500). -/
abbrev Lands (v : Nat) (t : State) : Prop := t.lstate = v

/-- Pairing is refused for a reason: the link is REFUSED, and class 1 is raised (R500). -/
abbrev Refuses (reason : Nat) (s t : State) : Prop :=
  t.lstate = 6 ∧ t.fld .plk 0 PLK_REFUSE_REASON = reason ∧ (t.intStat 0x50000).getLsbD 2 = true ∧ Raised 0x50000 1 2 s t

/-- What the forming of a couple changes: the link's own state, its registers, and what it reports. -/
abbrev PlkOnly (s t : State) : Prop :=
  StaysOn [0x50000] s t ∧ t = { s with regs := t.regs, hif := t.hif, faults := t.faults, evr := t.evr, free := t.free, plk := t.plk }

/-- The mirror holds an item under a key: what the partner sent, and how many frames it had waited (R505, R506). -/
abbrev Mirrors (key : Nat) (f : BitVec 48) (psq : Option Nat) (words : List Word) (s t : State) : Prop :=
  t.mirrorItem key = some ⟨(s.epc.f - f).toNat, psq, words⟩ ∧ t.fld .plk 0 PLK_AGE_MAX = t.ageMax

/-- A mirrored item changes nothing of the device's own but the age it shows. -/
abbrev MirrorOnly (s t : State) : Prop := RegsBut [0x500a8] s t ∧ t = { s with regs := t.regs, plk := t.plk }

/-- What the serial master's commands change: its own state, its registers, what it reports, and the answers of BAR4 reads that waited. -/
abbrev SpmOnly (s t : State) : Prop :=
  RegsOff (fun o => onPages [0x31000] o || pbaOffs.contains o || evrOffs.contains o) s t ∧ FaultsBut [0x31000] s t
    ∧ t = { s with regs := t.regs, hif := { s.hif with sent := t.hif.sent, resp := t.hif.resp }, faults := t.faults, evr := t.evr, free := t.free, spm := t.spm }

/-- Every byte of the flash reads as before but those of a range. -/
def FlashBut (a n : Nat) (s t : State) : Prop := ∀ x, x < a ∨ a + n ≤ x → t.flashByte x = s.flashByte x

/-- What BAR4 reads at an address (R528). -/
abbrev flashRead (s : State) (a n : Nat) : List Byte := (List.range n).map fun i => if a + i < s.flashEnd then s.flashByte (a + i) else 0

/-- The reads that waited are answered, the last of them last, and none waits (R524, R528). -/
abbrev ReadsServed (s t : State) : Prop :=
  t.spm.reads = [] ∧ ∀ r ∈ s.spm.reads.getLast?, t.hif.resp = .bytes (flashRead t r.1 r.2)

/-- A page transfer ends with this result, cause bit and count of bits (R524). -/
abbrev Transferred (result cause bits : Nat) (t : State) : Prop :=
  t.spm.job = none ∧ t.fld .spm 0 SPM_STAT_BUSY = 0 ∧ t.fld .spm 0 SPM_RESP_RESULT = result ∧ t.fld .spm 0 SPM_RESP_BITS = bits % 8192
    ∧ (t.intStat 0x31000).getLsbD cause = true

/-- The page programs among the flash operations: their write, their address, their bytes. -/
def programs (l : List XipOp) : List (Nat × Nat × List Byte) :=
  l.filterMap fun o => match o with
    | .program i a bs => some (i, a, bs)
    | .erase _ _ => none

/-- Whether an operation is a part of a write. -/
def partOf (id : Nat) : XipOp → Bool
  | .program i _ _ => i == id
  | .erase _ _ => false

/-- The slots of the recorder but these hold what they held. -/
def SlotsBut (l : List Nat) (s t : State) : Prop := ∀ k, k ∉ l → mapGet (fun _ => none) t.evr.slots k = mapGet (fun _ => none) s.evr.slots k

/-- The record that a slot of the recorder holds. -/
def recordAt (t : State) (k : Nat) : Option EvrRec := mapGet (fun _ => none) t.evr.slots k

/-- What the recorder's commands change: its own state, its registers and those of NVM, and what it reports. -/
abbrev RecorderOnly (s t : State) : Prop :=
  StaysOn [0x32000, 0x33000] s t ∧ t = { s with regs := t.regs, hif := t.hif, faults := t.faults, evr := t.evr, free := t.free }

/-- The records the cursor may give from a sequence number on (R545). -/
def qualifying (s : State) (seq minSev : Nat) : List EvrRec :=
  (s.records.map (·.2)).filter fun r => decide (seq ≤ r.seq) && decide (minSev ≤ r.sev)

/-- The cursor holds the qualifying record with the lowest SEQ, or shows the end (R545). -/
abbrev CursorAt (seq minSev : Nat) (s t : State) : Prop :=
  (qualifying s seq minSev = [] → t.flag .evr 0 EVR_CURSOR_HI_END = true ∧ t.flag .evr 0 EVR_CURSOR_HI_LOADED = false ∧ ∀ j < 16, t.fldAt .evr 0 EVR_DATA j = 0)
    ∧ (qualifying s seq minSev ≠ [] → t.flag .evr 0 EVR_CURSOR_HI_END = false ∧ t.flag .evr 0 EVR_CURSOR_HI_LOADED = true
      ∧ (qualifying s seq minSev).any (fun r => (qualifying s seq minSev).all (fun q => decide (r.seq ≤ q.seq))
          && decide (t.cursorSeq = r.seq % 2 ^ 48) && (List.range 16).all fun j => t.fldAt .evr 0 EVR_DATA j == (r.words.getD j 0).toNat) = true)

/-- The words of the recorder that a move of the cursor writes. -/
def cursorOffs : List Nat := [0x32078, 0x3207C] ++ (List.range 16).map fun j => 0x32080 + 4 * j

/-- A mailbox command is taken: it runs, and its result is as given (R66). -/
abbrev MbxTaken (op result : Nat) (s t : State) : Prop :=
  t.mbx.running = some op ∧ t.mbx.result = result ∧ t.mbx.busyWrite = false ∧ t.fld .stw 0 STW_RESP_BUSY = 1
    ∧ t.fld .stw 0 STW_RESP_RESULT = s.fld .stw 0 STW_RESP_RESULT

/-- A command sent while another runs only marks it (R66). -/
abbrev MbxBusy (s t : State) : Prop := t = { s with mbx := { s.mbx with busyWrite := true } }

/-- A mailbox command changes the mailbox and, of the registers, its page's at these offsets. -/
abbrev MbxOnly (offs : List Nat) (s t : State) : Prop :=
  RegsBut (0x30044 :: offs) s t ∧ t = { s with regs := t.regs, mbx := t.mbx, free := t.free }

/-- The offsets of the first words of the mailbox window. -/
def winOffs (n : Nat) : List Nat := (List.range n).map fun j => 0x30800 + 4 * j

/-- The block of a recovery image that the window holds (R67): header, whether it is the last, and the count of padding bytes. -/
abbrev blockHead (s : State) : Word := s.rd 0x30800
abbrev blockPad (s : State) : Nat := bitsOf (s.rd 0x30800) 30 29

/-- Whether a block may not be taken (R67). -/
abbrev BadBlock (len : Nat) (s : State) : Prop :=
  len < 2 ∨ bitsOf (blockHead s) 15 0 ≠ s.mbx.recovNext ∨ blockPad s ≠ 0 ∧ (blockHead s).getLsbD 31 = false
    ∨ 0x100000 < s.mbx.recov.length + (4 * (len - 1) - blockPad s)

/-- The registers that show what NVM keeps over every reset: enrolment counter, FW_SVN, anti-rollback counters, power-cycle count. -/
def nvmOffs : List Nat :=
  [fldOff .secCtl 0 SEC_ENROLL_CTR 0, fldOff .secCnt 0 SEC_FW_SVN 0, fldOff .evr 0 EVR_BOOTS 0]
    ++ (List.range 64).map fun j => fldOff .secCnt 0 SEC_ARB j

/-- The registers that a system reset keeps beside: the operating seconds, THM_LAST and THM_LAST_SEC. -/
def aonOffs : List Nat := [fldOff .evr 0 EVR_OPSEC 0, fldOff .thm 0 THM_LAST_VALID 0, fldOff .thm 0 THM_LAST_SEC 0]

/-- The registers that start-up steps 1 to 4 and the enrolled slots set: SERIAL, BOOTRND, XTAL_OK, ENROLLED. -/
def startOffs : List Nat :=
  [fldOff .secCtl 0 SEC_BOOTRND_BR 0, fldOff .epcSrc 0 EPC_SRCSTAT_XTAL_OK 0, fldOff .secCtl 0 SEC_STAT_ENROLLED 0]
    ++ (List.range 4).map fun j => fldOff .secCtl 0 SEC_SERIAL j

/-- Every register at whose offset `p` is false holds its reset value. -/
def RegsFresh (p : Nat → Bool) (t : State) : Prop := ∀ o, p o = false → t.rd o = regReset o

/-- What NVM, the flash and the board keep over a reset stands, and all else of the state but registers and the device state is as after
power-on; an NVM write caught in flight may have taken effect (assumption log). -/
abbrev KeepsNvm (s t : State) : Prop :=
  t = { State.reset with pending := s.pending, clock := s.clock, free := t.free, regs := t.regs, dev := t.dev, domains := t.domains, mbx := { State.reset.mbx with bootLog := t.mbx.bootLog }, hif := { State.reset.hif with perst := s.hif.perst }, evr := { State.reset.evr with slots := t.evr.slots, torn := t.evr.torn, topSeq := s.evr.topSeq, checkpoint := t.evr.checkpoint }, sups := t.sups, sec := { State.reset.sec with slots := s.sec.slots }, spm := { State.reset.spm with flash := s.spm.flash }, cal := t.cal, boardIds := s.boardIds }
    ∧ (∀ r < 25, t.calRec r = { CalRec.fresh with copies := (s.calRec r).copies })
    ∧ (∀ u < 96, t.sup u = { supRest u with puvCode := (t.sup u).puvCode, puvConn := (t.sup u).puvConn })
    ∧ (s.nvmJobs = [] → t.evr.checkpoint = s.evr.checkpoint ∧ (∀ u < 96, (t.sup u).puvCode = (s.sup u).puvCode ∧ (t.sup u).puvConn = (s.sup u).puvConn)
        ∧ ∀ o ∈ nvmOffs, t.rd o = s.rd o ∨ o = fldOff .evr 0 EVR_BOOTS 0 ∨ startOffs.contains o = true)

/-- What start-up steps 1 to 4 leave (R73). -/
abbrev StepsOneToFour (t : State) : Prop :=
  t.dev = .boot ∧ t.domains = 0xF ∧ t.flag .epcSrc 0 EPC_SRCSTAT_XTAL_OK = true ∧ t.mbx.bootLog.length = 12
    ∧ ∀ j < 4, t.fldAt .secCtl 0 SEC_SERIAL j = (Config.deviceId.extractLsb' (32 * j) 32).toNat

/-- A system reset (R68): the device is in BOOT, with every register at its reset value but those it keeps and those start-up sets. -/
abbrev SystemReset (s t : State) : Prop :=
  StepsOneToFour t ∧ KeepsNvm s t ∧ t.evr.slots = s.evr.slots ∧ t.evr.torn = s.evr.torn
    ∧ RegsFresh (fun o => nvmOffs.contains o || aonOffs.contains o || startOffs.contains o) t
    ∧ (∀ o ∈ aonOffs, t.rd o = s.rd o) ∧ t.fld .evr 0 EVR_BOOTS = s.fld .evr 0 EVR_BOOTS

/-- The function's own reset leaves the configuration space, the MSI-X table and HIF_BADACC at their reset values (R68, R69). -/
abbrev FunctionReset (t : State) : Prop :=
  t.hif.msixEn = false ∧ t.hif.funcMask = false ∧ t.hif.busMaster = false ∧ t.hif.d3hot = false ∧ t.hif.cfg = [] ∧ t.hif.shadow = [] ∧ t.hif.lowBuf = []
    ∧ t.rd 0x4C = regReset 0x4C ∧ RegsFresh (fun o => !(decide (0x4000 ≤ o) && decide (o < 0x5000))) t

/-- Whether a slot's firmware passes (R75, R496). -/
abbrev FwPasses (s : State) (x : Option FwInfo) : Prop := x.any (fun i => decide (s.fld .secCnt 0 SEC_FW_SVN ≤ i.svn.toNat)) = true

/-- What a Function Level Reset leaves of the host's work: no burst, no bound or retired site, no session, no Piste entry, no waiting
measurement, the role of the operator, and no sealed page (R70). -/
abbrev Flushed (s t : State) : Prop :=
  (∀ n < 8, t.psqRunning n = false) ∧ (∀ i < 256, t.siteBound i = false ∧ t.flag .site i SITE_STATE_RETIRED = false)
    ∧ t.sec.sessions = [] ∧ t.role ≠ .vendor ∧ t.pst.entries = [] ∧ t.fld .pst 0 PST_QUIET_OPEN = 0
    ∧ (∀ b < 24, (t.measOf b).reqs = [] ∧ (t.bank b).held = true) ∧ t.sfb.cmd = none ∧ t.vs.staged = [] ∧ t.vs.xlat = [] ∧ t.fld .plk 0 PLK_GEN = 0
    ∧ t.fre.store = s.fre.store ∧ t.settings = s.settings ∧ t.spm = s.spm ∧ t.thm = s.thm

/-- An access that the role may not make does nothing but set ACCESS_DENIED of the page (R11, R47). -/
abbrev Denied (page : Nat) (s t : State) : Prop :=
  t.rd (page + 0x18) = s.rd (page + 0x18) ||| 0x40000000 ∧ RegsBut ((page + 0x18) :: pbaOffs) s t
    ∧ t = { s with regs := t.regs, hif := { s.hif with sent := t.hif.sent } }

/-- An offset of a page's header. -/
abbrev InHeader (r : PageRef) : Prop := hasHeader r.kind = true ∧ r.base + r.off < r.page + 0x40

/-- The role may write the block registers at an offset: neither the page's minimum nor a seal closes it (R11, R44). -/
abbrev MayWrite (s : State) (r : PageRef) : Prop := s.role.meets (wrMin r.kind) = true ∧ s.offSealed s.role r = false

/-- The offsets whose write acts beyond a store of the fields: the controls of a DPS, the two command words, the site window and the ring of
the fail-reduction engines. -/
def actsAt (k : PageKind) (off : Nat) : Bool :=
  (k == .dps && off == 0x40) || (k == .stw && off == 0x40) || (k == .secCtl && off == 0x40)
    || (k == .freSite && (off == 0x5C || off == 0x60)) || (k == .freG && (off == 0x40 || off == 0x44 || off == 0x48))

/-- The offsets whose stored value shows elsewhere at once: clamp and PPMU force of a channel, the current limit of an HVC, a mask of the MSI-X
table, the reference clock's selection, the factory set of calibration, the thermal levers. -/
def showsAt (k : PageKind) (off : Nat) : Bool :=
  (k == .pec && (off == 0x48 || off == 0x50 || off == 0x54)) || (k == .hvc && off == 0x48) || k == .msixTab
    || (k == .epcSrc && off == 0x40) || (k == .cal && off == 0x80) || (k == .thm && off == 0x54)

/-- Every field at an offset that the role may write takes its part of the value by its access code (R9); the others stand. -/
abbrev FieldsStored (who : Role) (r : PageRef) (value : Word) (s t : State) : Prop :=
  ∀ f ∈ fieldsOf r.kind, ∀ j ∈ f.at? r.off, t.fldAt r.kind r.inst f j
    = if f.own = false ∧ who.meets f.need = true then f.stored (s.fldAt r.kind r.inst f j) (bitsOf value f.hi f.lo) else s.fldAt r.kind r.inst f j

/-- The bank whose shadow a write of a page touches is the only one that changes (R45). -/
abbrev ShadowOnly (r : PageRef) (s t : State) : Prop := ∀ b < 24, bankOfPage r.kind r.inst ≠ some b → t.bank b = s.bank b

/-- The word an offset reads as for a requester: the shadow of the high half of a 64-bit quantity where one is held, else the live word (R48,
R49). -/
abbrev readWord (who : Requester) (off : Nat) (r : PageRef) (s : State) : Word :=
  if 4 ≤ r.off ∧ lowReadAt r.kind (r.off - 4) = true then (lookupKey s.hif.shadow (shadowKey who (off - 4))).getD (s.regWord r (s.readRole who))
  else s.regWord r (s.readRole who)

/-- A command gives this next state. -/
def gives (o : Host.Outcome State Fault Refusal) (t : State) : Bool :=
  match o with
  | .next q => decide (q = t)
  | _ => false

end Sys2Proof

open Sys2Proof Sys2Proof.Machine Sys2Proof.Machine.Reg

/-! ### The queue, and what every step keeps -/

/-- A step runs the front command with the queue's rest; on an empty queue one MCLK cycle passes (DESIGN CHOICE, assumption log). -/
def Obligations.StepRunsFrontCommand : Prop :=
 
    (∀ (c : Instr) (rest : List Instr) (s : State),
       step { s with pending := c :: rest } = exec c { s with pending := rest })
    ∧ (∀ s : State, step { s with pending := [] } = done (tick { s with pending := [] }))

/-- Every step from a state between commands answers one: no entry at Critical or above is left waiting (R61), no vector counts as signalled, and DEVICE_STATE in READY, ARMED and RUN is the one that R78 gives for the sequencers. -/
def Obligations.StepKeepsSteady : Prop :=
 
    ∀ s : State, Steady s → ∃ t, step s = .next t ∧ Steady t

/-- The machine after power-on reset is a state between commands, with DEVICE_STATE OFF, the host in the Operator role, no site bound, every domain off and no command waiting (R68, R553; the model's reading of what power-on leaves, assumption log). -/
def Obligations.ResetIsSteady : Prop :=
 
    Steady State.reset ∧ State.reset.dev = .off ∧ State.reset.role = .operator ∧ State.reset.domains = 0
     ∧ State.reset.pending = [] ∧ ∀ i < 256, State.reset.siteBound i = false

/-! ### Chapter 2: the register pages -/

/-- The writes to a page's interrupt registers (R46, R51, R55, R56): INT_STAT clears what is written 1 unless hardware sets it in the cycle, INT_SET sets, INT_EN and INT_VEC take the value and signal the causes that are enabled; nothing else changes. -/
def Obligations.InterruptRegisters : Prop :=
  ∀ (s : State) (page : Nat) (r : PageRef) (v w : Word), Header s page r →
    (∃ t, exec (.intStatClear page v w) s = .next t
         ∧ t.rd (page + 0x18) = (s.rd (page + 0x18) &&& ~~~v) ||| w
         ∧ OnlyInts [page] [] s t)
    ∧ (∃ t, exec (.intSet page v) s = .next t
         ∧ t.rd (page + 0x18) = s.rd (page + 0x18) ||| v
         ∧ (v &&& ~~~s.rd (page + 0x18) &&& s.rd (page + 0x1C) ≠ 0 → Signalled (s.intVec page) s t)
         ∧ OnlyInts [page] [] s t)
    ∧ (∃ t, exec (.intEnWrite page v) s = .next t
         ∧ t.rd (page + 0x1C) = v
         ∧ (v &&& ~~~s.rd (page + 0x1C) &&& s.rd (page + 0x18) ≠ 0 → Signalled (s.intVec page) s t)
         ∧ OnlyInts [] [page + 0x1C] s t)
    ∧ (∃ t, exec (.intVecWrite page v) s = .next t
         ∧ t.rd (page + 0x24) = v &&& 0xFF
         ∧ (s.rd (page + 0x18) &&& s.rd (page + 0x1C) ≠ 0 → Signalled (v &&& 0xFF).toNat s t)
         ∧ OnlyInts [] [page + 0x24] s t)

/-- A write of a header register in a role below the page's WR_MIN does nothing but set INT_STAT.ACCESS_DENIED (R11, R47). -/
def Obligations.HeaderWritesNeedTheRole : Prop :=
  ∀ (s : State) (page : Nat) (r : PageRef) (v : Word), Serving s → headerPage page = some r → s.role.meets (wrMin r.kind) = false →
    ∀ c ∈ [Instr.intSet page v, .intEnWrite page v, .intVecWrite page v, .fltAck page v, .blkReset page],
      ∃ t, exec c s = .next t ∧ t.rd (page + 0x18) = s.rd (page + 0x18) ||| 0x40000000 ∧ OnlyInts [page] [] s t

/-- FLT_ACK ends the unacknowledged state of one class, or of all, and marks its entries; the cursor takes a snapshot of the history, and FLT_HIST_DATA returns the word at the cursor and advances WORD, then ENTRY (R62, R64). -/
def Obligations.FaultRegisters : Prop :=
  ∀ (s : State) (page : Nat) (r : PageRef) (v : Word), Header s page r →
    (∃ t, exec (.fltAck page v) s = .next t
         ∧ (∀ e ∈ (t.fault page).unacked, v.getLsbD 31 = false ∧ e.1 ≠ bitsOf v 7 0)
         ∧ (∀ e ∈ (s.fault page).unacked, v.getLsbD 31 = false → e.1 ≠ bitsOf v 7 0 → e ∈ (t.fault page).unacked)
         ∧ (∀ e ∈ (t.fault page).hist, (v.getLsbD 31 = true ∨ e.cls = bitsOf v 7 0) → e.acked = true)
         ∧ (t.fault page).hist.map (·.seq) = (s.fault page).hist.map (·.seq)
         ∧ FaultsBut [page] s t
         ∧ t = { s with faults := t.faults })
    ∧ (∃ t, exec (.fltHistCursorWrite page v) s = .next t
         ∧ t.rd (page + 0x30) = v &&& 0x73
         ∧ (t.fault page).snap = some (s.fault page).hist
         ∧ (t.fault page).hist = (s.fault page).hist
         ∧ FaultsBut [page] s t
         ∧ RegsBut [page + 0x30] s t
         ∧ t = { s with regs := t.regs, faults := t.faults })
    ∧ (∃ t, exec (.fltHistDataRead page) s = .next t
         ∧ bitsOf (t.rd (page + 0x30)) 1 0 = (bitsOf (s.rd (page + 0x30)) 1 0 + 1) % 4
         ∧ (bitsOf (t.rd (page + 0x30)) 6 4 = (bitsOf (s.rd (page + 0x30)) 6 4 + (if bitsOf (s.rd (page + 0x30)) 1 0 = 3 then 1 else 0)) % 8)
         ∧ OnlyAnswer (s.histWord page) [page + 0x30] s t)

/-- When a vector is unmasked or the function can send again, one message goes out for each pending vector that can now be sent, and its bit clears; a pending vector that cannot be sent keeps its bit (R57). -/
def Obligations.PendingMessagesGoOut : Prop :=
  ∀ (s : State), Serving s →
    (∀ (c : MsixChange), 
       ∃ t, exec (.msixUnmask c) s = .next t
         ∧ (∀ v < 256, if s.pbaBit v && t.canSend && !t.vectorMasked v then t.pbaBit v = false ∧ msgs t v = msgs s v + 1 else t.pbaBit v = s.pbaBit v ∧ msgs t v = msgs s v)
         ∧ (t = { s with regs := t.regs, hif := t.hif }))
    ∧ (∀ (w : LinkWidth) (g : Fin 5), s.hif.perst = false → 
       ∃ t, exec (.hifLinkTrained w g) s = .next t
         ∧ t.fld .hifId 0 HIF_LINK_WIDTH = LinkWidth.lanes w
         ∧ t.fld .hifId 0 HIF_LINK_SPEED = g.val + 1
         ∧ t.hif.linkUp = true
         ∧ (∀ v < 256, if s.pbaBit v && t.canSend && !t.vectorMasked v then t.pbaBit v = false ∧ msgs t v = msgs s v + 1 else t.pbaBit v = s.pbaBit v ∧ msgs t v = msgs s v)
         ∧ RegsBut (0x48 :: pbaOffs) s t
         ∧ (t = { s with regs := t.regs, hif := { s.hif with linkUp := true, sent := t.hif.sent } }))
    ∧ (∃ t, exec .hifLinkDown s = .next t
         ∧ t.fld .hifId 0 HIF_LINK_WIDTH = 0
         ∧ t.fld .hifId 0 HIF_LINK_SPEED = 0
         ∧ RegsBut [0x48] s t
         ∧ (t = { s with regs := t.regs, hif := { s.hif with linkUp := false } }))

/-- A BAR0 access that is not an aligned 32-bit access is not performed and counts in HIF_BADACC, a read of it answered with Unsupported Request; a configuration read is answered with CRS until the device is ready, and then served: the identity registers hold the values of R37 and do not change (R37, R39, R74). -/
def Obligations.LinkAccesses : Prop :=
  ∀ (s : State), Serving s →
    (∀ (w : Bool), 
       ∃ t, exec (.bar0BadAccess w) s = .next t
         ∧ t.fld .hifId 0 HIF_BADACC_COUNT = (s.fld .hifId 0 HIF_BADACC_COUNT + 1) % 65536
         ∧ (w = false → t.hif.resp = .unsupported)
         ∧ (w = true → t.hif.aerAdvisory = true)
         ∧ RegsBut [0x4C] s t
         ∧ (t = { s with regs := t.regs, hif := { s.hif with resp := t.hif.resp, aerAdvisory := t.hif.aerAdvisory } }))
    ∧ (∀ (q : CfgReq), s.hif.perst = false → 
       ∃ t, exec (.configRequest q false) s = .next t
         ∧ (t = { s with hif := { s.hif with resp := .crs } }))
    ∧ (∀ (r : Fin 1024), s.hif.perst = false → 
       ∃ t, exec (.configRequest (.read r) true) s = .next t
         ∧ (r.val = 0 → mapGet cfgReset s.hif.cfg 0 = cfgReset 0 → t.hif.resp = .words [0x76801E9D])
         ∧ (r.val = 11 → s.boardIds = none → t.hif.resp = .words [0x00011E9D])
         ∧ (t = { s with hif := { s.hif with resp := t.hif.resp } }))
    ∧ (∀ (r : Fin 1024) (v : Word), s.hif.perst = false → 
       ∃ t, exec (.configRequest (.write r v) true) s = .next t
         ∧ (r.val = 0 ∨ r.val = 2 ∨ r.val = 11 → t = s)
         ∧ (r.val ≠ 0 → r.val ≠ 2 → r.val ≠ 11 → mapGet cfgReset t.hif.cfg r.val = v)
         ∧ (r.val = 1 → t.hif.busMaster = v.getLsbD 2)
         ∧ RegsBut pbaOffs s t
         ∧ (t = { s with regs := t.regs, hif := { s.hif with cfg := t.hif.cfg, busMaster := t.hif.busMaster, sent := t.hif.sent } }))

/-! ### Chapter 3: sources, markers and the epoch counter -/

/-- While SOURCE is REFCLK its loss switches SOURCE to HOLDOVER, counts the change, clears REF_PRESENT and raises class 1 of EPC, at Warning while a PSQ runs and at Notice otherwise (R81, R83); REFCLK present for 1 ms is taken again once no PSQ runs and FORCE_XTAL is 0, and otherwise waits (R82); a holdover longer than HOLD_MAX_MS invalidates the epoch and raises class 2 at Error (R85). -/
def Obligations.LosingAndRegainingRefclk : Prop :=
  ∀ (s : State), Serving s →
    (s.epc.source = .refclk → s.flag .epcSrc 0 EPC_SRCSTAT_REF_PRESENT = true → Acked s 0x2000 1 → 
       ∃ t, exec .refclkLost s = .next t
         ∧ t.epc.source = .holdover
         ∧ t.epc.f = s.epc.f ∧ t.epc.p = s.epc.p ∧ t.epc.valid = s.epc.valid
         ∧ t.flag .epcSrc 0 EPC_SRCSTAT_REF_PRESENT = false
         ∧ t.fld .epcSrc 0 EPC_HOLD_ELAPSED_MS = 0
         ∧ Counts .epcSrc 0 EPC_SRCSTAT_SWITCH_COUNT s t
         ∧ (Raised 0x2000 1 (if s.anyRunning then 2 else 1) s t)
         ∧ (∀ n < 8, s.psqRunning n = true → (t.psq n).holdover = true)
         ∧ Reported [0x2000] [0x2044, 0x2050] s t
         ∧ (t = { s with regs := t.regs, hif := t.hif, faults := t.faults, evr := t.evr, free := t.free, epc := t.epc, psqs := t.psqs, tmus := t.tmus }))
    ∧ (s.epc.source ≠ .refclk → 
       ∃ t, exec .refclkReturn s = .next t
         ∧ t.flag .epcSrc 0 EPC_SRCSTAT_REF_PRESENT = true
         ∧ (s.anyRunning = false → s.flag .epcSrc 0 EPC_SRC_FORCE_XTAL = false → t.epc.source = .refclk ∧ t.epc.switchWait = false ∧ t.epc.returnCheck = (s.epc.source == .holdover && s.epc.valid))
         ∧ (s.anyRunning = true ∨ s.flag .epcSrc 0 EPC_SRC_FORCE_XTAL = true → t.epc.source = s.epc.source ∧ t.epc.switchWait = true)
         ∧ t.epc.f = s.epc.f ∧ t.epc.p = s.epc.p ∧ t.epc.valid = s.epc.valid
         ∧ Reported [0x2000] [0x2044, 0x204c] s t
         ∧ (t = { s with regs := t.regs, hif := t.hif, faults := t.faults, evr := t.evr, free := t.free, epc := t.epc }))
    ∧ (s.epc.source = .holdover → Acked s 0x2000 2 → 
       ∃ t, exec .holdExpired s = .next t
         ∧ t.epc.valid = false
         ∧ t.fld .epcSrc 0 EPC_HOLD_ELAPSED_MS = s.fld .epcSrc 0 EPC_HOLD_HOLD_MAX_MS
         ∧ Raised 0x2000 2 3 s t
         ∧ Reported [0x2000] [0x2050] s t
         ∧ (t = { s with regs := t.regs, hif := t.hif, faults := t.faults, evr := t.evr, free := t.free, epc := t.epc }))

/-- A write of MULT that may be taken sets it, invalidates the epoch, unlocks the PLL and makes every bin table invalid; the relock that follows sets PLL_LOCK; a value outside 16 to 20 is ignored, and in other states or with Piste entries stored the write changes nothing but raises class 7 at Notice (R84, R432). LEN takes a value of 100 to 3,200 while the epoch is invalid and no other (R88). The seed of the FMK trace is clipped at 7,000 (R98). -/
def Obligations.MclkAndTheFrameLength : Prop :=
  ∀ (s : State), Serving s →
    (∀ (v : Nat), s.dev = .ready → s.pst.entries = [] → 
       ∃ t, exec (.multWrite v) s = .next t
         ∧ (v % 32 < 16 ∨ 20 < v % 32 ∨ v % 32 = s.fld .epcSrc 0 EPC_SRC_MULT → t = s)
         ∧ (16 ≤ v % 32 → v % 32 ≤ 20 → v % 32 ≠ s.fld .epcSrc 0 EPC_SRC_MULT → t.fld .epcSrc 0 EPC_SRC_MULT = v % 32 ∧ t.epc.valid = false ∧ t.epc.relocking = true ∧ t.flag .epcSrc 0 EPC_SRCSTAT_PLL_LOCK = false ∧ ∀ u < 16, t.flag .tmu u TMU_STAT_BINTAB_VALID = false)
         ∧ t.epc.f = s.epc.f ∧ t.epc.p = s.epc.p
         ∧ (RegsBut ([0x2040, 0x2044] ++ (List.range 16).map fun u => fldOff .tmu u TMU_STAT_BINTAB_VALID 0) s t)
         ∧ t = { s with regs := t.regs, epc := { s.epc with valid := t.epc.valid, relocking := t.epc.relocking } })
    ∧ (∀ (v : Nat), s.dev = .run ∨ s.dev = .armed ∨ s.pst.entries ≠ [] → 16 ≤ v % 32 → v % 32 ≤ 20 → 
       ∃ t, exec (.multWrite v) s = .next t
         ∧ t.fld .epcSrc 0 EPC_SRC_MULT = s.fld .epcSrc 0 EPC_SRC_MULT
         ∧ t.epc = s.epc
         ∧ Raised 0x2000 7 1 s t
         ∧ Reported [0x2000] [] s t
         ∧ (t = { s with regs := t.regs, hif := t.hif, faults := t.faults, evr := t.evr, free := t.free }))
    ∧ (s.epc.relocking = true → 
       ∃ t, exec .pllRelockDone s = .next t
         ∧ t.flag .epcSrc 0 EPC_SRCSTAT_PLL_LOCK = true
         ∧ t.epc = { s.epc with relocking := false }
         ∧ (RegsBut ([0x2044] ++ (List.range 16).map fun u => baseOf .tmu u + 4) s t)
         ∧ t = { s with regs := t.regs, epc := t.epc, tmus := t.tmus })
    ∧ (∀ (v : Nat), 
       ∃ t, exec (.frameLenWrite v) s = .next t
         ∧ (t.fld .epcCtl 0 EPC_FRAME_LEN = if s.epc.valid || v < 100 || 3200 < v then s.fld .epcCtl 0 EPC_FRAME_LEN else v)
         ∧ RegsBut [0x10040] s t
         ∧ t = { s with regs := t.regs })
    ∧ (∀ (v : Nat), 
       ∃ t, exec (.seedPsWrite v) s = .next t
         ∧ t.fld .epcCtl 0 EPC_SKEW_SEED_SEED_PS = min 7000 (v % 8192)
         ∧ (7000 < v % 8192 → t.flag .epcCtl 0 EPC_SKEW_SEED_CLIPPED = true)
         ∧ (v % 8192 ≤ 7000 → t.flag .epcCtl 0 EPC_SKEW_SEED_CLIPPED = s.flag .epcCtl 0 EPC_SKEW_SEED_CLIPPED)
         ∧ RegsBut [0x10064, 0x10068] s t
         ∧ t = { s with regs := t.regs })

/-- An accepted marker of an armed alignment sets the counter to frame 0, or in LOAD mode to the superframe given, with p = 0, and makes the epoch valid (R90); a marker in window clears the run of failures and one out of window raises class 4 and leaves the counter (R93); a width of 3 or 5 and more only counts in BADWIDTH (R87); eight missing markers in a row clear FMK_PRESENT (R95); a realignment is made at a frame boundary at which no PSQ runs (R94); ARM arms, and a second arm replaces the first (R90). -/
def Obligations.MarkersAndTheCounter : Prop :=
  ∀ (s : State), Serving s →
    (s.epc.source = .refclk → s.epc.armed = some .start → s.epc.valid = false → s.pst.entries = [] → 
       ∃ t, exec (.fmkMarker 4) s = .next t
         ∧ t.epc.f = 0 ∧ t.epc.p = 0 ∧ t.epc.valid = true ∧ t.epc.armed = none
         ∧ s.intStat 0x10000 ||| 0x100 = t.intStat 0x10000)
    ∧ (s.epc.source = .refclk → s.epc.valid = true → s.epc.armed = none → s.epc.returnCheck = false → Acked s 0x10000 4 → (s.fault 0x10000).hist.length < 8 → 
       ∃ t, exec (.fmkMarker 1) s = .next t
         ∧ (s.markerGood .frame = true → t.epc = { s.epc with fails := [], missRun := 0 } ∧ t.flag .epcSrc 0 EPC_SRCSTAT_FMK_PRESENT = true)
         ∧ (s.markerGood .frame = false → Raised 0x10000 4 2 s t ∧ t.epc.f = s.epc.f ∧ t.epc.p = s.epc.p ∧ t.epc.valid = true ∧ t.intStat 0x10000 = s.intStat 0x10000 ||| 0x80000400)
         ∧ Reported [0x10000] [0x2044] s t
         ∧ (t = { s with regs := t.regs, hif := t.hif, faults := t.faults, evr := t.evr, free := t.free, epc := t.epc }))
    ∧ (∀ (w : Nat), s.epc.source = .refclk → w = 3 ∨ 5 ≤ w → 
       ∃ t, exec (.fmkMarker w) s = .next t
         ∧ Counts .epcCtl 0 EPC_MISSED_BADWIDTH s t
         ∧ RegsBut [0x1005C] s t
         ∧ t = { s with regs := t.regs })
    ∧ (s.epc.valid = true → 
       ∃ t, exec .fmkMissing s = .next t
         ∧ Counts .epcCtl 0 EPC_MISSED_COUNT s t
         ∧ t.epc = { s.epc with missRun := s.epc.missRun + 1 }
         ∧ (s.epc.missRun = 7 → t.flag .epcSrc 0 EPC_SRCSTAT_FMK_PRESENT = false ∧ Raised 0x2000 3 1 s t)
         ∧ Reported [0x2000] [0x1005C, 0x2044] s t
         ∧ (t = { s with regs := t.regs, hif := t.hif, faults := t.faults, evr := t.evr, free := t.free, epc := t.epc }))
    ∧ (s.epc.realign.isSome = true → s.anyRunning = false → 
       ∃ t, exec .fmkRealign s = .next t
         ∧ t.epc.realign = none ∧ t.epc.fails = []
         ∧ (∀ m ∈ s.epc.realign, t.epc.f = (s.shiftEpoch (m.frames * s.frameN + m.cycles)).epc.f ∧ t.epc.p = (s.shiftEpoch (m.frames * s.frameN + m.cycles)).epc.p ∧ t.fld .epcCtl 0 EPC_REALIGN_STEP = satStep (m.frames * s.frameN + m.cycles))
         ∧ t.intStat 0x2000 = s.intStat 0x2000 ||| 8
         ∧ RegsBut ([0x2000 + 0x18, 0x10060] ++ pbaOffs) s t
         ∧ (t = { s with regs := t.regs, epc := t.epc, hif := { s.hif with sent := t.hif.sent } }))
    ∧ (∃ t, exec .arm s = .next t
         ∧ (t.epc.armed = some (if s.flag .epcCtl 0 EPC_ALIGN_MODE then .load else .start))
         ∧ t.epc.armWait = s.epc.valid
         ∧ t = { s with epc := { s.epc with armed := t.epc.armed, armWait := s.epc.valid } })

/-- A frame boundary gives p = 0 and F + 1, with F_WRAP on the wrap from the last frame, the rest of the frame having passed on the clock; at it a measured TRIM comes into use where no PSQ runs (R89, R99). SKEW_CAL starts a measurement on the TMU the device takes, and its result is kept, or the old TRIM retained with class 5 raised (R99, R100, R433). -/
def Obligations.FrameBoundaryAndSkew : Prop :=
  ∀ (s : State), Serving s →
    (s.epc.realign = none → 
       ∃ t, exec .frameBoundary s = .next t
         ∧ t.epc.f = s.epc.f + 1 ∧ t.epc.p = 0
         ∧ t.clock = s.clock + max 1 (s.frameN - s.epc.p)
         ∧ (s.epc.f = BitVec.allOnes 48 → t.flag .epcCtl 0 EPC_STATUS_F_WRAP = true)
         ∧ (t.epc.trimUsed = (if s.anyRunning then s.epc.trimUsed else s.fld .epcCtl 0 EPC_SKEW_TRIM))
         ∧ (t = { s with regs := t.regs, hif := t.hif, epc := t.epc, clock := t.clock, psqs := t.psqs, chipWraps := t.chipWraps, cal := t.cal, plk := t.plk, tmus := t.tmus, faults := t.faults, evr := t.evr, free := t.free }))
    ∧ (∃ t, exec .skewTrimApply s = .next t
         ∧ (t = { s with epc := { s.epc with trimUsed := if s.anyRunning then s.epc.trimUsed else s.fld .epcCtl 0 EPC_SKEW_TRIM } }))
    ∧ (s.epc.skewTmu = none → 
       ∃ t, exec .skewCal s = .next t
         ∧ t.flag .epcCtl 0 EPC_SKEW_CAL_BUSY = true
         ∧ t.epc.skewTmu = s.deviceTmu
         ∧ (∀ u ∈ s.deviceTmu, t.tmuState u = 4 ∧ t.fld .tmu u TMU_STAT_OWNER = 3)
         ∧ (RegsBut ([0x10068] ++ (List.range 16).map fun u => baseOf .tmu u + 4) s t)
         ∧ t = { s with regs := t.regs, tmus := t.tmus, epc := t.epc })
    ∧ (∀ (r : Option Nat), s.epc.skewTmu.isSome = true → Acked s 0x10000 5 → 
       ∃ t, exec (.skewMeasureDone r) s = .next t
         ∧ t.flag .epcCtl 0 EPC_SKEW_CAL_BUSY = false
         ∧ t.epc = { s.epc with skewTmu := none }
         ∧ (∀ v ∈ r, t.fld .epcCtl 0 EPC_SKEW_TRIM = v % 2 ^ 24)
         ∧ (r = none → t.fld .epcCtl 0 EPC_SKEW_TRIM = s.fld .epcCtl 0 EPC_SKEW_TRIM ∧ Raised 0x10000 5 2 s t)
         ∧ (∀ u ∈ s.epc.skewTmu, s.tmuState u = 4 → t.tmuState u = (s.tmu u).back % 16)
         ∧ (∀ u ∈ s.epc.skewTmu, Reported [0x10000] [0x10068, baseOf .tmu u + 4] s t)
         ∧ (t = { s with regs := t.regs, hif := t.hif, faults := t.faults, evr := t.evr, free := t.free, epc := t.epc }))

/-- An accepted assertion on a lane in role STOP or MARKER latches the epoch position into SYNC_CAP and sets INT_STAT.SYNC; in role STOP every masked running PSQ holds a stop request for the lane (R102); the end of the device's own pulse releases the lane (R103). -/
def Obligations.SyncLanes : Prop :=
  ∀ (s : State), Serving s →
    (∀ (l : Fin 8) (w : Nat), s.fldAt .epcCtl 0 SYNC_CFG_FILTER l.val ≤ w → s.laneRole l.val = 1 ∨ s.laneRole l.val = 2 → 
       ∃ t, exec (.syncEdge l w) s = .next t
         ∧ s.intStat 0x10000 ||| BitVec.ofNat 32 (2 ^ l.val) = t.intStat 0x10000
         ∧ t.fldAt .epcCtl 0 SYNC_CAP_P l.val = s.epc.p % 65536 ∧ t.fldAt .epcCtl 0 SYNC_CAP_F_LO l.val + 2 ^ 32 * t.fldAt .epcCtl 0 SYNC_CAP_F_HI l.val = s.epc.f.toNat
         ∧ (∀ n < 8, (t.psq n).stops = if s.laneRole l.val = 1 ∧ bitAt (s.fldAt .epcCtl 0 SYNC_CFG_PSQ_MASK l.val) n = true ∧ s.psqRunning n = true then (s.psq n).stops ++ [⟨6, l.val, s.psqNow n⟩] else (s.psq n).stops)
         ∧ RegsBut ([0x10000 + 0x18, 0x100E0, 0x100A0 + 8 * l.val, 0x100A4 + 8 * l.val] ++ pbaOffs) s t
         ∧ (t = { s with regs := t.regs, psqs := t.psqs, hif := { s.hif with sent := t.hif.sent } }))
    ∧ (∀ (l : Fin 8) (h : Bool), 
       ∃ t, exec (.syncPulseEnd l h) s = .next t
         ∧ bitAt (t.fld .epcCtl 0 SYNC_STAT_DRIVING) l.val = false
         ∧ (bitAt (s.fld .epcCtl 0 SYNC_STAT_DRIVING) l.val = true → bitAt (t.fld .epcCtl 0 SYNC_STAT_LEVEL) l.val = h)
         ∧ RegsBut [0x100E0] s t
         ∧ t = { s with regs := t.regs })

/-! ### Chapter 3: the Piste -/

/-- GO stores the staged entry, in epoch order behind those at its position, and answers STORED with its handle, or answers with the first failing check of R107 and changes nothing; CANCEL frees the entry its handle names, or answers NOT_FOUND or LATE (R107, R109). -/
def Obligations.CommitAndCancel : Prop :=
  ∀ (s : State), Serving s →
    (∃ t, exec .go s = .next t
         ∧ t.fld .pst 0 PST_RESP_RESULT = s.commitResult s.staged
         ∧ (s.commitResult s.staged ≠ 1 → t = { s with regs := t.regs })
         ∧ (s.commitResult s.staged = 1 → ∃ e ∈ t.pst.entries, t.pst.entries = placeEntry e s.pst.entries ∧ ({ e with slot := 0, tag := 0 } : PstEntry) = s.staged ∧ e.slot < 4096 ∧ (∀ x ∈ s.pst.entries, x.slot ≠ e.slot) ∧ 1 ≤ e.tag ∧ e.tag ≤ 15 ∧ t.fld .pst 0 PST_RESP_HANDLE = e.tag * 0x1000 + e.slot)
         ∧ RegsBut [0x11054] s t
         ∧ t = { s with regs := t.regs, pst := t.pst, free := t.free })
    ∧ (∃ t, exec .cancel s = .next t
         ∧ (∀ e ∈ s.pst.entries.find? (fun e => e.tag * 0x1000 + e.slot == s.fldAt .pst 0 PST_W 0 % 65536), if s.epc.valid = true ∧ s.cyclesTo e.f e.p ≤ 512 then t.fld .pst 0 PST_RESP_RESULT = 2 ∧ t.pst = s.pst else t.fld .pst 0 PST_RESP_RESULT = 8 ∧ t.pst.entries = s.pst.entries.filter fun x => x.slot != e.slot)
         ∧ (s.pst.entries.find? (fun e => e.tag * 0x1000 + e.slot == s.fldAt .pst 0 PST_W 0 % 65536) = none → t.fld .pst 0 PST_RESP_RESULT = 9 ∧ t.pst = s.pst)
         ∧ RegsBut [0x11054] s t
         ∧ t = { s with regs := t.regs, pst := t.pst })

/-- A due entry leaves the table and is written to the execution log, DONE or in holdover DEGRADED: MARK logs its ARG and does nothing else, PSQ_STOP delivers a stop request to each masked running PSQ, QUIET_OPEN and QUIET_CLOSE set and clear the masked banks of PST_QUIET.OPEN, and SYNC_PULSE drives the lane in the roles STOP and MARKER and is refused with reason 1 in others (R104, R108, R109, R111, R112, R114). -/
def Obligations.PisteActs : Prop :=
  ∀ (s : State) (e : PstEntry), Serving s →
    (s.dueEntry 0 = some e → 
       ∃ t, exec .mark s = .next t
         ∧ (t.pst.entries = (s.pst.entries.filter fun x => x.slot != e.slot))
         ∧ (t.pst.log.head? = some ⟨e.f, e.p, if s.epc.source = .holdover then 2 else 0, e.tag * 0x1000 + e.slot, e.arg⟩)
         ∧ RegsBut ([0x11018] ++ pbaOffs) s t
         ∧ (t = { s with regs := t.regs, pst := t.pst, hif := { s.hif with sent := t.hif.sent } }))
    ∧ (s.dueEntry 2 = some e → 
       ∃ t, exec .psqStop s = .next t
         ∧ (t.pst.entries = (s.pst.entries.filter fun x => x.slot != e.slot))
         ∧ (t.pst.log.head? = some ⟨e.f, e.p, if s.epc.source = .holdover then 2 else 0, e.tag * 0x1000 + e.slot, 0⟩)
         ∧ (∀ n < 8, (t.psq n).stops.map (·.cause) = (s.psq n).stops.map (·.cause) ++ if bitAt e.target n = true ∧ s.psqRunning n = true then [5] else [])
         ∧ RegsBut ([0x11018] ++ pbaOffs) s t
         ∧ (t = { s with regs := t.regs, pst := t.pst, psqs := t.psqs, hif := { s.hif with sent := t.hif.sent } }))
    ∧ (s.dueEntry 3 = some e → 
       ∃ t, exec .quietOpen s = .next t
         ∧ (t.pst.entries = (s.pst.entries.filter fun x => x.slot != e.slot))
         ∧ (t.pst.log.head? = some ⟨e.f, e.p, if s.epc.source = .holdover then 2 else 0, e.tag * 0x1000 + e.slot, 0⟩)
         ∧ t.quietOpen = s.quietOpen ||| e.arg.toNat % 2 ^ 24
         ∧ RegsBut ([0x11018, 0x11068, 0x41018] ++ pbaOffs) s t
         ∧ (t = { s with regs := t.regs, pst := t.pst, cal := t.cal, hif := { s.hif with sent := t.hif.sent } }))
    ∧ (s.dueEntry 4 = some e → 
       ∃ t, exec .quietClose s = .next t
         ∧ (t.pst.entries = (s.pst.entries.filter fun x => x.slot != e.slot))
         ∧ (t.pst.log.head? = some ⟨e.f, e.p, if s.epc.source = .holdover then 2 else 0, e.tag * 0x1000 + e.slot, 0⟩)
         ∧ (∀ b < 24, bitAt t.quietOpen b = (bitAt s.quietOpen b && !e.arg.getLsbD b))
         ∧ RegsBut ([0x11018, 0x11068] ++ pbaOffs) s t
         ∧ (t = { s with regs := t.regs, pst := t.pst, cal := t.cal, hif := { s.hif with sent := t.hif.sent } }))
    ∧ (s.dueEntry 5 = some e → e.target < 8 → 
       ∃ t, exec .syncPulse s = .next t
         ∧ (t.pst.entries = (s.pst.entries.filter fun x => x.slot != e.slot))
         ∧ (s.laneRole e.target = 1 ∨ s.laneRole e.target = 2 → t.pst.log.head? = some ⟨e.f, e.p, if s.epc.source = .holdover then 2 else 0, e.tag * 0x1000 + e.slot, 0⟩ ∧ bitAt (t.fld .epcCtl 0 SYNC_STAT_DRIVING) e.target = true ∧ bitAt (t.fld .epcCtl 0 SYNC_STAT_LEVEL) e.target = true)
         ∧ (s.laneRole e.target ≠ 1 → s.laneRole e.target ≠ 2 → t.pst.log.head? = some ⟨e.f, e.p, 1, e.tag * 0x1000 + e.slot, 1⟩)
         ∧ RegsBut ([0x11018, 0x100E0] ++ pbaOffs) s t
         ∧ (t = { s with regs := t.regs, pst := t.pst, hif := { s.hif with sent := t.hif.sent } }))

/-- In HOLD or FAULT every entry at the next position that has passed is retired DROPPED without execution, and ENTRY_DROPPED is raised once for them (R110, R114); a write of PST_LOG_CURSOR takes a snapshot of the log, and PST_LOG_DATA returns the word at the cursor and advances it (R114, R64). -/
def Obligations.PisteDropAndLog : Prop :=
  ∀ (s : State), Serving s →
    (∀ (e : PstEntry), s.dev = .hold → s.pst.entries.head? = some e → s.epc.valid = true → s.reached e.f e.p = true → Acked s 0x11000 6 → s.pst.entries.Pairwise fun x y => x.slot ≠ y.slot → 
       ∃ t, exec .pisteDrop s = .next t
         ∧ (t.pst.entries = s.pst.entries.filter fun x => !(x.f == e.f && x.p == e.p))
         ∧ (∀ l ∈ t.pst.log, l ∈ s.pst.log ∨ (l.status = 3 ∧ l.f = e.f ∧ l.p = e.p))
         ∧ Raised 0x11000 6 2 s t
         ∧ Reported [0x11000] [] s t
         ∧ (t = { s with regs := t.regs, hif := t.hif, faults := t.faults, evr := t.evr, free := t.free, pst := t.pst }))
    ∧ (∀ (v : Word), 
       ∃ t, exec (.pstLogCursorWrite v) s = .next t
         ∧ t.pst = { s.pst with snap := some s.pst.log }
         ∧ t.fld .pst 0 PST_LOG_CURSOR = (v &&& 0xFF3).toNat
         ∧ RegsBut [0x11070] s t
         ∧ t = { s with regs := t.regs, pst := t.pst })
    ∧ (∃ t, exec .pstLogDataRead s = .next t
         ∧ OnlyAnswer s.logWord [0x11070] s t
         ∧ (s.fld .pst 0 PST_LOG_CURSOR < 4096 → bitsOf (t.rd 0x11070) 1 0 = (bitsOf (s.rd 0x11070) 1 0 + 1) % 4 ∧ bitsOf (t.rd 0x11070) 11 4 = (bitsOf (s.rd 0x11070) 11 4 + if bitsOf (s.rd 0x11070) 1 0 = 3 then 1 else 0) % 256))

/-! ### Chapters 1 and 11: charges, levels and supplies -/

/-- A host write that enables a supply or an instrument, or raises a current limit, of a bank that is on is admitted where the charged total it gives is at most the ceiling or does not rise: it takes effect, the bank is charged what its registers configure, and PGV_RESP reports the total; otherwise it is refused: REFUSED counts, class 1 is raised at Notice, and nothing else changes (R25, R27, R29, R32, R33, R362, R364, R373, R392, R393). -/
def Obligations.GovernorAdmitsOrRefuses : Prop :=
  ∀ (s : State), Serving s → s.flag .pgv 0 PGV_MODE_DRYRUN = false →
    (∀ (u : Fin 72), s.gatedSpan (u.val / 3) = false → 
       ∃ t, exec (.dpsEn u true) s = .next t
         ∧ (Fits s (u.val / 3) ((s.put .dps u.val DPS_CTRL_EN 1).bankDraw (u.val / 3)) → t.flag .dps u.val DPS_CTRL_EN = true ∧ (t.bank (u.val / 3)).charge = (s.put .dps u.val DPS_CTRL_EN 1).bankDraw (u.val / 3) ∧ PgvAdmitted (newTotal s (u.val / 3) ((s.put .dps u.val DPS_CTRL_EN 1).bankDraw (u.val / 3))) t)
         ∧ (¬ Fits s (u.val / 3) ((s.put .dps u.val DPS_CTRL_EN 1).bankDraw (u.val / 3)) → PgvRefused (newTotal s (u.val / 3) ((s.put .dps u.val DPS_CTRL_EN 1).bankDraw (u.val / 3))) s t)
         ∧ Reported [0x3000] [0x304C, 0x3050, fldOff .dps u.val DPS_CTRL_EN 0] s t
         ∧ (t = { s with regs := t.regs, hif := t.hif, faults := t.faults, evr := t.evr, free := t.free, banks := t.banks }))
    ∧ (∀ (b : Fin 24), s.gatedSpan b.val = false → 
       ∃ t, exec (.hvcEn b true) s = .next t
         ∧ (Fits s b.val ((s.put .hvc b.val DPS_CTRL_EN 1).bankDraw b.val) → t.flag .hvc b.val DPS_CTRL_EN = true ∧ (t.bank b.val).charge = (s.put .hvc b.val DPS_CTRL_EN 1).bankDraw b.val ∧ PgvAdmitted (newTotal s b.val ((s.put .hvc b.val DPS_CTRL_EN 1).bankDraw b.val)) t)
         ∧ (¬ Fits s b.val ((s.put .hvc b.val DPS_CTRL_EN 1).bankDraw b.val) → PgvRefused (newTotal s b.val ((s.put .hvc b.val DPS_CTRL_EN 1).bankDraw b.val)) s t)
         ∧ Reported [0x3000] [0x304C, 0x3050, fldOff .hvc b.val DPS_CTRL_EN 0] s t
         ∧ (t = { s with regs := t.regs, hif := t.hif, faults := t.faults, evr := t.evr, free := t.free, banks := t.banks }))
    ∧ (∀ (u : Fin 72) (v : Nat), s.gatedSpan (u.val / 3) = false → s.fld .dps u.val DPS_CLAMP_ILIM < s.ilimStored u.val (v % 1024) → 
       ∃ t, exec (.ilim u v) s = .next t
         ∧ (Fits s (u.val / 3) ((s.put .dps u.val DPS_CLAMP_ILIM (s.ilimStored u.val (v % 1024))).bankDraw (u.val / 3)) → t.fld .dps u.val DPS_CLAMP_ILIM = s.ilimStored u.val (v % 1024) ∧ (t.bank (u.val / 3)).charge = (s.put .dps u.val DPS_CLAMP_ILIM (s.ilimStored u.val (v % 1024))).bankDraw (u.val / 3) ∧ PgvAdmitted (newTotal s (u.val / 3) ((s.put .dps u.val DPS_CLAMP_ILIM (s.ilimStored u.val (v % 1024))).bankDraw (u.val / 3))) t)
         ∧ (¬ Fits s (u.val / 3) ((s.put .dps u.val DPS_CLAMP_ILIM (s.ilimStored u.val (v % 1024))).bankDraw (u.val / 3)) → PgvRefused (newTotal s (u.val / 3) ((s.put .dps u.val DPS_CLAMP_ILIM (s.ilimStored u.val (v % 1024))).bankDraw (u.val / 3))) s t)
         ∧ Reported [0x3000] [0x304C, 0x3050, fldOff .dps u.val DPS_CLAMP_ILIM 0] s t
         ∧ (t = { s with regs := t.regs, hif := t.hif, faults := t.faults, evr := t.evr, free := t.free, banks := t.banks }))
    ∧ (∀ (b : Fin 24), s.gatedSpan b.val = false → 
       ∃ t, exec (.pmuEn b true) s = .next t
         ∧ (Fits s b.val ((s.put .pmu b.val PMU_CTRL_EN 1).bankDraw b.val) → t.flag .pmu b.val PMU_CTRL_EN = true ∧ (t.bank b.val).charge = (s.put .pmu b.val PMU_CTRL_EN 1).bankDraw b.val ∧ PgvAdmitted (newTotal s b.val ((s.put .pmu b.val PMU_CTRL_EN 1).bankDraw b.val)) t)
         ∧ (¬ Fits s b.val ((s.put .pmu b.val PMU_CTRL_EN 1).bankDraw b.val) → PgvRefused (newTotal s b.val ((s.put .pmu b.val PMU_CTRL_EN 1).bankDraw b.val)) s t)
         ∧ Reported [0x3000] [0x304C, 0x3050, fldOff .pmu b.val PMU_CTRL_EN 0] s t
         ∧ (t = { s with regs := t.regs, hif := t.hif, faults := t.faults, evr := t.evr, free := t.free, banks := t.banks }))
    ∧ (∀ (b : Fin 24), s.gatedSpan b.val = false → 
       ∃ t, exec (.acqEn b true) s = .next t
         ∧ (Fits s b.val ((s.put .acq b.val ACQ_CTRL_EN 1).bankDraw b.val) → t.flag .acq b.val ACQ_CTRL_EN = true ∧ (t.bank b.val).charge = (s.put .acq b.val ACQ_CTRL_EN 1).bankDraw b.val ∧ PgvAdmitted (newTotal s b.val ((s.put .acq b.val ACQ_CTRL_EN 1).bankDraw b.val)) t)
         ∧ (¬ Fits s b.val ((s.put .acq b.val ACQ_CTRL_EN 1).bankDraw b.val) → PgvRefused (newTotal s b.val ((s.put .acq b.val ACQ_CTRL_EN 1).bankDraw b.val)) s t)
         ∧ Reported [0x3000] [0x304C, 0x3050, fldOff .acq b.val ACQ_CTRL_EN 0] s t
         ∧ (t = { s with regs := t.regs, hif := t.hif, faults := t.faults, evr := t.evr, free := t.free, banks := t.banks }))

/-- A host write that enables a supply or an instrument, raises a current limit or requests a mode leaves the charged total at or below the ceiling where it was there before (R26, R27). -/
def Obligations.CeilingBoundsTheCharge : Prop :=
  ∀ (s : State), Serving s → s.charged ≤ s.fld .pgv 0 PGV_CEIL_CEIL_MW →
    (∀ (u : Fin 72), 
       ∃ t, exec (.dpsEn u true) s = .next t
         ∧ t.charged ≤ t.fld .pgv 0 PGV_CEIL_CEIL_MW)
    ∧ (∀ (b : Fin 24), 
       ∃ t, exec (.hvcEn b true) s = .next t
         ∧ t.charged ≤ t.fld .pgv 0 PGV_CEIL_CEIL_MW)
    ∧ (∀ (u : Fin 72) (v : Nat), s.fld .dps u.val DPS_CLAMP_ILIM < s.ilimStored u.val (v % 1024) → 
       ∃ t, exec (.ilim u v) s = .next t
         ∧ t.charged ≤ t.fld .pgv 0 PGV_CEIL_CEIL_MW)
    ∧ (∀ (b : Fin 24), 
       ∃ t, exec (.pmuEn b true) s = .next t
         ∧ t.charged ≤ t.fld .pgv 0 PGV_CEIL_CEIL_MW)
    ∧ (∀ (b : Fin 24), 
       ∃ t, exec (.acqEn b true) s = .next t
         ∧ t.charged ≤ t.fld .pgv 0 PGV_CEIL_CEIL_MW)
    ∧ (∀ (b : Fin 24) (m : Fin 4), 
       ∃ t, exec (.req b m) s = .next t
         ∧ t.charged ≤ t.fld .pgv 0 PGV_CEIL_CEIL_MW)

/-- A ceiling below the charged total is refused with result 4, counted and raised with class 3; one above 60,000 is stored as 60,000 (R30). A locked ceiling does not change. -/
def Obligations.CeilingWrites : Prop :=
  ∀ (s : State), Serving s →
    (∀ (v : Nat), s.flag .pgv 0 PGV_CEIL_LOCK = false → 
       ∃ t, exec (.ceilMwWrite v) s = .next t
         ∧ (s.charged ≤ v % 65536 → t.fld .pgv 0 PGV_CEIL_CEIL_MW = min (v % 65536) 60000)
         ∧ (v % 65536 < s.charged → t.fld .pgv 0 PGV_CEIL_CEIL_MW = s.fld .pgv 0 PGV_CEIL_CEIL_MW ∧ t.fld .pgv 0 PGV_RESP_RESULT = 4 ∧ Counts .pgv 0 PGV_REFUSED_COUNT s t ∧ (t.intStat 0x3000).getLsbD 0 = true ∧ Raised 0x3000 3 1 s t)
         ∧ Reported [0x3000] [0x3040, 0x304C, 0x3050] s t
         ∧ (t = { s with regs := t.regs, hif := t.hif, faults := t.faults, evr := t.evr, free := t.free }))
    ∧ (∀ (v : Nat), s.flag .pgv 0 PGV_CEIL_LOCK = true → 
       ∃ t, exec (.ceilMwWrite v) s = .next t
         ∧ t = s)
    ∧ (∃ t, exec .ceilLock s = .next t
         ∧ t.flag .pgv 0 PGV_CEIL_LOCK = true
         ∧ t.fld .pgv 0 PGV_CEIL_CEIL_MW = s.fld .pgv 0 PGV_CEIL_CEIL_MW
         ∧ RegsBut [0x3040] s t
         ∧ t = { s with regs := t.regs })

/-- EN at 0 opens the switch and unbiases the stage (R362); an enabled stage becomes READY; CONN reaches every member of the gang; the switch of each enabled member closes once all of them are READY (R362, R367, R373); each onset of limiting raises CLAMPED (R364); a lost sense raises class 2 and SENSE_RETRY clears it (R366). -/
def Obligations.SupplySwitches : Prop :=
  ∀ (s : State), Serving s →
    (∀ (u : Fin 72), s.gatedSpan (u.val / 3) = false → 
       ∃ t, exec (.dpsEn u false) s = .next t
         ∧ t.flag .dps u.val DPS_CTRL_EN = false ∧ t.flag .dps u.val DPS_STAT_READY = false ∧ t.flag .dps u.val DPS_STAT_CONNECTED = false
         ∧ (t.bank (u.val / 3)).charge = t.bankDraw (u.val / 3)
         ∧ RegsBut (supOffs [DPS_CTRL_EN, DPS_STAT_READY] [u.val]) s t
         ∧ t = { s with regs := t.regs, banks := t.banks, guards := t.guards })
    ∧ (∀ (b : Fin 24), s.gatedSpan b.val = false → 
       ∃ t, exec (.hvcEn b false) s = .next t
         ∧ t.flag .hvc b.val DPS_CTRL_EN = false ∧ t.flag .hvc b.val DPS_STAT_READY = false ∧ t.flag .hvc b.val DPS_STAT_CONNECTED = false
         ∧ (t.bank b.val).charge = t.bankDraw b.val
         ∧ RegsBut (supOffs [DPS_CTRL_EN, DPS_STAT_READY] [72 + b.val]) s t
         ∧ t = { s with regs := t.regs, banks := t.banks, guards := t.guards })
    ∧ (∀ (u : Fin 96), supFlag s u.val DPS_CTRL_EN = true → s.gatedSpan (supBank u.val) = false → 
       ∃ t, exec (.dpsReady u) s = .next t
         ∧ supFlag t u.val DPS_STAT_READY = true
         ∧ RegsBut (supOffs [DPS_STAT_READY] [u.val]) s t
         ∧ t = { s with regs := t.regs })
    ∧ (∀ (u : Fin 72) (c : Bool), s.follower u.val = false → c = false ∨ s.faultHeld u.val = false → 
       ∃ t, exec (.dpsConn u c) s = .next t
         ∧ (∀ v ∈ s.gang u.val, t.flag .dps v DPS_CTRL_CONN = c ∧ (c = false → t.flag .dps v DPS_STAT_CONNECTED = false))
         ∧ RegsBut (supOffs [DPS_CTRL_CONN, DPS_STAT_CONNECTED] (s.gang u.val)) s t
         ∧ t = { s with regs := t.regs, banks := t.banks, guards := t.guards })
    ∧ (∀ (b : Fin 24) (c : Bool), c = false ∨ s.faultHeld (72 + b.val) = false → 
       ∃ t, exec (.hvcConnWrite b c) s = .next t
         ∧ (t.flag .hvc b.val DPS_CTRL_CONN = c ∧ (c = false → t.flag .hvc b.val DPS_STAT_CONNECTED = false))
         ∧ RegsBut (supOffs [DPS_CTRL_CONN, DPS_STAT_CONNECTED] [72 + b.val]) s t
         ∧ t = { s with regs := t.regs, banks := t.banks, guards := t.guards })
    ∧ (∀ (u : Fin 96), supFlag s u.val DPS_CTRL_CONN = true → s.gatedSpan (supBank u.val) = false → ∀ v ∈ s.gang u.val, supFlag s v DPS_CTRL_EN = true → supFlag s v DPS_STAT_READY = true → 
       ∃ t, exec (.dpsSwitchClosed u) s = .next t
         ∧ (∀ v ∈ s.gang u.val, supFlag s v DPS_CTRL_EN = true → supFlag t v DPS_STAT_CONNECTED = true)
         ∧ RegsBut (supOffs [DPS_STAT_CONNECTED] (s.gang u.val)) s t
         ∧ t = { s with regs := t.regs, guards := t.guards })
    ∧ (∀ (u : Fin 96) (c : Bool), 
       ∃ t, exec (.clamped u c) s = .next t
         ∧ supFlag t u.val DPS_STAT_CLAMPED = c
         ∧ (c = true → supFlag s u.val DPS_STAT_CLAMPED = false → Raised (supPage u.val) 1 1 s t ∧ (t.intStat (supPage u.val)).getLsbD 0 = true)
         ∧ Reported [supPage u.val] [fldOff (supKind u.val) (supInst u.val) DPS_STAT_CLAMPED 0] s t
         ∧ (t = { s with regs := t.regs, hif := t.hif, faults := t.faults, evr := t.evr, free := t.free }))
    ∧ (∀ (u : Fin 72), s.flag .dps u.val DPS_CTRL_SENSE = true → s.flag .dps u.val DPS_STAT_SENSE_LOST = false → Acked s (supPage u.val) 2 → 
       ∃ t, exec (.senseLost u) s = .next t
         ∧ t.flag .dps u.val DPS_STAT_SENSE_LOST = true
         ∧ Raised (supPage u.val) 2 2 s t ∧ (t.intStat (supPage u.val)).getLsbD 1 = true
         ∧ Reported [supPage u.val] [fldOff .dps u.val DPS_STAT_SENSE_LOST 0] s t
         ∧ (t = { s with regs := t.regs, hif := t.hif, faults := t.faults, evr := t.evr, free := t.free }))
    ∧ (∀ (u : Fin 72), 
       ∃ t, exec (.senseRetry u) s = .next t
         ∧ t.flag .dps u.val DPS_STAT_SENSE_LOST = false
         ∧ RegsBut (supOffs [DPS_STAT_SENSE_LOST] [u.val]) s t
         ∧ t = { s with regs := t.regs })

/-- A write of DPS_V or HVC_V, the queue idle, gives the supply and every member of its gang the setpoint in force and shows clipping; one that is held at its fault value ignores it and raises class 4 at Notice, a follower class 7 (R363, R355, R367, R371, R373, R377). A range of 0 to 4 reaches every member of the gang, 5 to 7 leave it (R365); a gang forms and dissolves while none of its members is connected (R367). A push appends an entry, or on a full queue of 64 counts in OVF and raises class 3 (R369); GO starts draining at the next update tick and has no effect on an empty or running queue (R370); FLUSH discards what is not issued (R371); at an update tick a queue that is due issues its oldest entry and what was issued before comes into force (R370). -/
def Obligations.Setpoints : Prop :=
  ∀ (s : State), Serving s →
    (∀ (u : Fin 72) (c : Nat), s.faultHeld (u.val) = false → s.follower (u.val) = false → supFlag s (u.val) DPS_Q_STAT_RUNNING = false → 
       ∃ t, exec (.dpsV u c) s = .next t
         ∧ (∀ v ∈ s.gang u.val, supFld t v DPS_V_CODE = c % 2 ^ 20 ∧ supFlag t v DPS_STAT_CLIP = s.setpointClipped v (c % 2 ^ 20))
         ∧ RegsBut (supOffs [DPS_V_CODE, DPS_STAT_CLIP] (s.gang u.val) ++ [baseOf .lde (supBank u.val) + 0x44, baseOf .lde (supBank u.val) + 0x14]) s t
         ∧ t = { s with regs := t.regs, sups := t.sups, banks := t.banks, guards := t.guards })
    ∧ (∀ (u : Fin 72) (c : Nat), s.faultHeld (u.val) = true ∨ s.follower (u.val) = true → 
       ∃ t, exec (.dpsV u c) s = .next t
         ∧ (s.faultHeld (u.val) = true → SupIgnores (u.val) 4 s t)
         ∧ (s.faultHeld (u.val) = false → s.follower (u.val) = true → SupIgnores (u.val) 7 s t))
    ∧ (∀ (b : Fin 24) (c : Nat), s.faultHeld ((72 + b.val)) = false → s.follower ((72 + b.val)) = false → supFlag s ((72 + b.val)) DPS_Q_STAT_RUNNING = false → 
       ∃ t, exec (.hvcVWrite b c) s = .next t
         ∧ (∀ v ∈ s.gang (72 + b.val), supFld t v DPS_V_CODE = c % 2 ^ 20 ∧ supFlag t v DPS_STAT_CLIP = s.setpointClipped v (c % 2 ^ 20))
         ∧ RegsBut (supOffs [DPS_V_CODE, DPS_STAT_CLIP] (s.gang (72 + b.val)) ++ [baseOf .lde (supBank (72 + b.val)) + 0x44, baseOf .lde (supBank (72 + b.val)) + 0x14]) s t
         ∧ t = { s with regs := t.regs, sups := t.sups, banks := t.banks, guards := t.guards })
    ∧ (∀ (u : Fin 72) (c : Nat), s.faultHeld u.val = false → s.follower u.val = false → 
       ∃ t, exec (.dpsRange u c) s = .next t
         ∧ (∀ v ∈ s.gang u.val, t.fld .dps v DPS_RANGE = if c % 8 < 5 then c % 8 else s.fld .dps v DPS_RANGE)
         ∧ (∀ v ∈ s.gang u.val, c % 8 < 5 → (s.sup v).schedRange = none → t.fld .dps v DPS_STAT_RANGE_NOW = c % 8)
         ∧ RegsBut (supOffs [DPS_RANGE, DPS_STAT_RANGE_NOW] (s.gang u.val) ++ [baseOf .lde (u.val / 3) + 0x44, baseOf .lde (u.val / 3) + 0x14]) s t
         ∧ t = { s with regs := t.regs, sups := t.sups, banks := t.banks, guards := t.guards })
    ∧ (∀ (b : Fin 24) (m : Fin 4), m.val < 3 → m.val ≠ s.fld .dps (3 * b.val) DPS_GANG_MODE → ∀ i < 3, s.flag .dps (3 * b.val + i) DPS_STAT_CONNECTED = false → 
       ∃ t, exec (.dpsGang b m) s = .next t
         ∧ t.fld .dps (3 * b.val) DPS_GANG_MODE = m.val
         ∧ (∀ i < 3, t.flag .dps (3 * b.val + i) DPS_STAT_FOLLOWER = (if i = 0 then s.flag .dps (3 * b.val) DPS_STAT_FOLLOWER else decide (i ≤ m.val)))
         ∧ (∀ i < 3, 0 < i → i ≤ m.val → t.fld .dps (3 * b.val + i) DPS_V_CODE = s.fld .dps (3 * b.val) DPS_V_CODE ∧ t.fld .dps (3 * b.val + i) DPS_RANGE = s.fld .dps (3 * b.val) DPS_RANGE)
         ∧ t = { s with regs := t.regs, sups := t.sups, banks := t.banks, guards := t.guards })
    ∧ (∀ (b : Fin 24) (m : Fin 4), m.val = 3 ∨ m.val = s.fld .dps (3 * b.val) DPS_GANG_MODE → 
       ∃ t, exec (.dpsGang b m) s = .next t
         ∧ t = s)
    ∧ (∀ (u : Fin 96) (v : Word), s.faultHeld u.val = false → s.follower u.val = false → 
       ∃ t, exec (.qPush u v) s = .next t
         ∧ ((s.sup u.val).queue.length < 64 → (t.sup u.val).queue = (s.sup u.val).queue ++ [(bitsOf v 19 0, bitsOf v 31 20 + 1)] ∧ supFld t u.val DPS_Q_STAT_LEVEL = (s.sup u.val).queue.length + 1)
         ∧ (64 ≤ (s.sup u.val).queue.length → (t.sup u.val).queue = (s.sup u.val).queue ∧ Counts (supKind u.val) (supInst u.val) DPS_Q_OVF_COUNT s t ∧ Raised (supPage u.val) 3 1 s t)
         ∧ Reported [supPage u.val] (supOffs [DPS_Q_STAT_LEVEL, DPS_Q_OVF_COUNT] [u.val]) s t
         ∧ (t = { s with regs := t.regs, hif := t.hif, faults := t.faults, evr := t.evr, free := t.free, sups := t.sups, banks := t.banks }))
    ∧ (∀ (u : Fin 96), s.faultHeld u.val = false → s.follower u.val = false → 
       ∃ t, exec (.qGo u) s = .next t
         ∧ (t.sup u.val).starting = ((s.sup u.val).starting || !(supFlag s u.val DPS_Q_STAT_RUNNING || (s.sup u.val).queue.isEmpty))
         ∧ (t.sup u.val).queue = (s.sup u.val).queue
         ∧ t = { s with sups := t.sups, banks := t.banks })
    ∧ (∀ (u : Fin 96), s.follower u.val = false → 
       ∃ t, exec (.flush u) s = .next t
         ∧ (t.sup u.val).queue = [] ∧ (t.sup u.val).issued = (s.sup u.val).issued
         ∧ supFlag t u.val DPS_Q_STAT_RUNNING = false ∧ supFld t u.val DPS_Q_STAT_LEVEL = 0
         ∧ RegsBut (supOffs [DPS_Q_STAT_LEVEL] [u.val]) s t
         ∧ t = { s with regs := t.regs, sups := t.sups, banks := t.banks })
    ∧ (∃ t, exec .updateTick s = .next t
         ∧ (∀ u < 96, s.follower u = false → s.gang u = [u] → ((s.sup u).starting = true ∨ supFlag s u DPS_Q_STAT_RUNNING = true ∧ (s.sup u).wait ≤ 1) → (t.sup u).queue = (s.sup u).queue.tail ∧ (t.sup u).issued = (s.sup u).queue.head?.map (·.1))
         ∧ (∀ u < 96, s.gang u = [u] → ∀ c ∈ (s.sup u).issued, (∀ v < 96, v ≠ u → u ∉ s.gang v) → supFld t u DPS_V_CODE = c % 2 ^ 20)
         ∧ (t = { s with regs := t.regs, hif := t.hif, sups := t.sups, banks := t.banks, guards := t.guards }))
    ∧ (∀ (e : PstEntry), s.dueEntry 6 = some e → 
       ∃ t, exec .supplyGo s = .next t
         ∧ (t.pst.entries = (s.pst.entries.filter fun x => x.slot != e.slot))
         ∧ (((supplyGoSel e.sub e.arg).any s.faultHeld) = false → t.pst.log.head? = some ⟨e.f, e.p, if s.epc.source = .holdover then 2 else 0, e.tag * 0x1000 + e.slot, 0⟩ ∧ ∀ u ∈ supplyGoSel e.sub e.arg, s.follower u = false → supFlag s u DPS_Q_STAT_RUNNING = false → (s.sup u).queue ≠ [] → (t.sup u).starting = true)
         ∧ (((supplyGoSel e.sub e.arg).any s.faultHeld) = true → t.pst.log.head? = some ⟨e.f, e.p, 1, e.tag * 0x1000 + e.slot, 1⟩ ∧ t.sups = s.sups)
         ∧ RegsBut ([0x11018] ++ pbaOffs) s t
         ∧ (t = { s with regs := t.regs, pst := t.pst, sups := t.sups, hif := { s.hif with sent := t.hif.sent } }))
    ∧ (∀ (u : Fin 96), 
       ∃ t, exec (.release u) s = .next t
         ∧ t.faultHeld u.val = false
         ∧ RegsBut (supOffs [DPS_STAT_FAULT_HELD] [u.val]) s t
         ∧ t = { s with regs := t.regs })
    ∧ (∀ (u : Fin 96) (v : Word), supFlag s u.val DPS_PUV_BUSY = false → 
       ∃ t, exec (.puvWrite u v) s = .next t
         ∧ (s.role = .operator → t.intStat (supPage u.val) = s.intStat (supPage u.val) ||| 0x40000000 ∧ t.nvmJobs = s.nvmJobs)
         ∧ (s.role ≠ .operator → t.nvmJobs = s.nvmJobs ++ [NvmJob.puv u.val (bitsOf v 19 0) (v.getLsbD 31)] ∧ supFlag t u.val DPS_PUV_BUSY = true ∧ supFld t u.val DPS_PUV_CODE = bitsOf v 19 0)
         ∧ RegsBut ((supPage u.val + 0x18) :: supOffs [DPS_PUV_CODE] [u.val] ++ pbaOffs) s t
         ∧ (t = { s with regs := t.regs, nvmJobs := t.nvmJobs, hif := { s.hif with sent := t.hif.sent } }))

/-- A level code is kept as written (R359), a major transition is held where no hold runs (R357), and clipping shows in PEC_LSTAT (R121, R123); a sealed channel refuses it below Owner (R360); a release ends the hold (R358); a readback that fails for the first time shows the output in LDE_CHECK and raises class 1 at Error (R361). -/
def Obligations.LevelsAndReadback : Prop :=
  ∀ (s : State), Serving s →
    (∀ (k : Fin 768) (j : Fin 6) (c : Nat), s.sealedTo k.val s.role = false → 
       ∃ t, exec (.levelWrite k j c) s = .next t
         ∧ t.level k.val j.val = c % 2 ^ 20
         ∧ t.rd (baseOf .pec k.val + 0x58) = BitVec.ofNat 32 (t.lstatNow k.val)
         ∧ (∀ i < 9, bitAt (s.rd (baseOf .pec k.val + 0x58)).toNat i = false → bitAt (t.lstatNow k.val) i = true → (t.intStat (baseOf .pec k.val)).getLsbD 0 = true)
         ∧ Reported [baseOf .pec k.val] [fldOff .lde (k.val / 32) (lvlFld j.val) (k.val % 32), baseOf .lde (k.val / 32) + 0x44, baseOf .lde (k.val / 32) + 0x14, baseOf .pec k.val + 0x58] s t
         ∧ (t = { s with regs := t.regs, hif := t.hif, faults := t.faults, evr := t.evr, free := t.free, banks := t.banks }))
    ∧ (∀ (k : Fin 768) (j : Fin 6) (c : Nat), s.sealedTo k.val s.role = true → 
       ∃ t, exec (.levelWrite k j c) s = .next t
         ∧ t.intStat (baseOf .lde (k.val / 32)) = s.intStat (baseOf .lde (k.val / 32)) ||| 0x40000000
         ∧ RegsBut ((baseOf .lde (k.val / 32) + 0x18) :: pbaOffs) s t
         ∧ (t = { s with regs := t.regs, hif := { s.hif with sent := t.hif.sent } }))
    ∧ (∀ (b : Fin 24) (o : LdeOut), 
       ∃ t, exec (.deglitchRelease b o) s = .next t
         ∧ (∀ u ∈ outSupply b.val o, (t.sup u).hold = none)
         ∧ (outSupply b.val o = none → ∀ h ∈ (t.bank b.val).levelHold, h.1 ≠ outKey o)
         ∧ RegsBut [baseOf .lde b.val + 0x14] s t
         ∧ t = { s with regs := t.regs, sups := t.sups, banks := t.banks })
    ∧ (∀ (b : Fin 24) (o : LdeOut) (g : Bool), Acked s (baseOf .lde b.val) 1 → 
       ∃ t, exec (.dacReadback b o g) s = .next t
         ∧ (s.readbackSkips b.val o = true → t = s)
         ∧ (s.readbackSkips b.val o = false → g = true → ∀ k ∈ (t.bank b.val).dacBad, k ≠ outKey o)
         ∧ (s.readbackSkips b.val o = false → g = false → outKey o ∉ (s.bank b.val).dacBad → Raised (baseOf .lde b.val) 1 3 s t ∧ (t.intStat (baseOf .lde b.val)).getLsbD 0 = true ∧ t.flag .lde b.val LDE_CHECK_VALID = true ∧ t.fld .lde b.val LDE_CHECK_SRC = outSrc o ∧ t.fld .lde b.val LDE_CHECK_LANE = outLane o)
         ∧ Reported [baseOf .lde b.val] [baseOf .lde b.val + 0x48] s t
         ∧ (t = { s with regs := t.regs, hif := t.hif, faults := t.faults, evr := t.evr, free := t.free, banks := t.banks }))

/-! ### Chapter 4: bank modes, the PPMU, symbol maps -/

/-- A request of another mode for a bank that is on, outside a transition and with no running PSQ on it, is evaluated by the Governor; admitted, the transition begins, every driver of the bank is off and the bank is charged for the new mode (R125 to R128). A bank that serves a running PSQ is refused with result 3 and class 2 (R28); mode 3 is ignored (R125). At 25 µs the level and clamp limits of the new mode apply to every channel, and a move between Performance and the other modes is a range switch (R128, R357); at 35 µs its calibration selections apply and the bound channels are self-checked (R128, R129); at 45 µs ACTIVE takes the mode, TRANSITION is 0 and MODE_DONE is set (R128). -/
def Obligations.ModeRequests : Prop :=
  ∀ (s : State), Serving s →
    (∀ (b : Fin 24) (m : Fin 4), s.gatedSpan b.val = false → m.val ≠ 3 → s.flag .bnk b.val BNK_MODE_TRANSITION = false → m.val ≠ s.fld .bnk b.val BNK_MODE_ACTIVE → s.bankBusy b.val = false → s.flag .pgv 0 PGV_MODE_DRYRUN = false → 
       ∃ t, exec (.req b m) s = .next t
         ∧ (Fits s b.val ((s.put .bnk b.val BNK_MODE_REQ m.val).bankDraw b.val) → t.fld .bnk b.val BNK_MODE_REQ = m.val ∧ t.flag .bnk b.val BNK_MODE_TRANSITION = true ∧ t.fld .bnk b.val BNK_MODE_ACTIVE = s.fld .bnk b.val BNK_MODE_ACTIVE ∧ (t.bank b.val).charge = (s.put .bnk b.val BNK_MODE_REQ m.val).bankDraw b.val ∧ (∀ l < 32, (t.pin (32 * b.val + l)).drvOn = false) ∧ (t.calRec b.val).step = none ∧ PgvAdmitted (newTotal s b.val ((s.put .bnk b.val BNK_MODE_REQ m.val).bankDraw b.val)) t)
         ∧ (¬ Fits s b.val ((s.put .bnk b.val BNK_MODE_REQ m.val).bankDraw b.val) → PgvRefused (newTotal s b.val ((s.put .bnk b.val BNK_MODE_REQ m.val).bankDraw b.val)) s t)
         ∧ (Reported [0x3000] ([0x304C, 0x3050, baseOf .bnk b.val + 0x40, baseOf .bnk b.val + 0x14] ++ (List.range 16).map (fun u => baseOf .tmu u + 4)) s t)
         ∧ (t = { s with regs := t.regs, hif := t.hif, faults := t.faults, evr := t.evr, free := t.free, banks := t.banks, pins := t.pins, guards := t.guards, cal := t.cal }))
    ∧ (∀ (b : Fin 24) (m : Fin 4), s.gatedSpan b.val = false → m.val ≠ 3 → s.flag .bnk b.val BNK_MODE_TRANSITION = false → m.val ≠ s.fld .bnk b.val BNK_MODE_ACTIVE → s.bankBusy b.val = true → s.flag .pgv 0 PGV_MODE_DRYRUN = false → 
       ∃ t, exec (.req b m) s = .next t
         ∧ t.fld .pgv 0 PGV_RESP_RESULT = 3 ∧ Counts .pgv 0 PGV_REFUSED_COUNT s t ∧ Raised 0x3000 2 1 s t
         ∧ Reported [0x3000] [0x304C, 0x3050] s t
         ∧ (t = { s with regs := t.regs, hif := t.hif, faults := t.faults, evr := t.evr, free := t.free }))
    ∧ (∀ (b : Fin 24), 
       ∃ t, exec (.req b 3) s = .next t
         ∧ t = s)
    ∧ (∀ (b : Fin 24), s.flag .bnk b.val BNK_MODE_TRANSITION = true → 
       ∃ t, exec (.modeLimitsApply b) s = .next t
         ∧ (t.bank b.val).limMode = s.fld .bnk b.val BNK_MODE_REQ
         ∧ t.flag .lde b.val LDE_STAT_RANGE = (s.fld .bnk b.val BNK_MODE_REQ != 0)
         ∧ (∀ l < 32, t.rd (baseOf .pec (32 * b.val + l) + 0x58) = BitVec.ofNat 32 (t.lstatNow (32 * b.val + l)))
         ∧ (Reported ((List.range 32).map fun l => baseOf .pec (32 * b.val + l)) ([baseOf .lde b.val + 0x14, baseOf .lde b.val + 0x44] ++ ((List.range 32).map fun l => baseOf .pec (32 * b.val + l)).map (· + 0x58)) s t)
         ∧ (t = { s with regs := t.regs, hif := t.hif, faults := t.faults, evr := t.evr, free := t.free, banks := t.banks }))
    ∧ (∀ (b : Fin 24) (f : Word), s.flag .bnk b.val BNK_MODE_TRANSITION = true → Acked s (baseOf .bnk b.val) 2 → 
       ∃ t, exec (.modeCalApply b f) s = .next t
         ∧ (t.bank b.val).calMode = s.fld .bnk b.val BNK_MODE_REQ
         ∧ (∀ l < 32, (s.rd (baseOf .bnk b.val + 0x44)).getLsbD l = true → t.flag .pec (32 * b.val + l) PEC_STAT_SELFCHK_FAIL = f.getLsbD l)
         ∧ (f &&& s.rd (baseOf .bnk b.val + 0x44) ≠ 0 → Raised (baseOf .bnk b.val) 2 3 s t ∧ (t.intStat (baseOf .bnk b.val)).getLsbD 2 = true)
         ∧ (Reported [baseOf .bnk b.val, 0x41000] ((List.range 32).flatMap fun l => [baseOf .pec (32 * b.val + l) + 0x14, baseOf .pec (32 * b.val + l) + 0x404, baseOf .pec (32 * b.val + l) + 0x408]) s t)
         ∧ (t = { s with regs := t.regs, hif := t.hif, faults := t.faults, evr := t.evr, free := t.free, banks := t.banks, pins := t.pins, cal := t.cal }))
    ∧ (∀ (b : Fin 24), s.flag .bnk b.val BNK_MODE_TRANSITION = true → 
       ∃ t, exec (.modeDone b) s = .next t
         ∧ t.fld .bnk b.val BNK_MODE_ACTIVE = s.fld .bnk b.val BNK_MODE_REQ
         ∧ t.flag .bnk b.val BNK_MODE_TRANSITION = false
         ∧ (t.intStat (baseOf .bnk b.val)).getLsbD 0 = true
         ∧ (s.lastT b.val (s.fld .bnk b.val BNK_MODE_REQ) = none → t.calDue b.val = true)
         ∧ RegsBut ([baseOf .bnk b.val + 0x18, baseOf .bnk b.val + 0x40, baseOf .bnk b.val + 0x14, 0x4104c] ++ pbaOffs) s t
         ∧ (t = { s with regs := t.regs, cal := t.cal, hif := { s.hif with sent := t.hif.sent } }))

/-- A write of a mode that arrives while the bank's TRANSITION is 1 is ignored and does not reach the Governor; the bank sets INT_STAT.MODE_BUSY and raises class 3 at Notice (R126). -/
def Obligations.ModeBusy : Prop :=
  ∀ (s : State), Serving s →
    ∀ (b : Fin 24) (m : Fin 4), m.val ≠ 3 → s.flag .bnk b.val BNK_MODE_TRANSITION = true → 
       ∃ t, exec (.req b m) s = .next t
         ∧ (s.gatedSpan b.val = false → t.rd (baseOf .bnk b.val + 0x40) = s.rd (baseOf .bnk b.val + 0x40))
         ∧ t.rd 0x304C = s.rd 0x304C ∧ t.rd 0x3050 = s.rd 0x3050 ∧ t.charged = s.charged
         ∧ Raised (baseOf .bnk b.val) 3 1 s t ∧ (t.intStat (baseOf .bnk b.val)).getLsbD 3 = true
         ∧ Reported [baseOf .bnk b.val] [] s t
         ∧ (t = { s with regs := t.regs, hif := t.hif, faults := t.faults, evr := t.evr, free := t.free })

/-- A connection request that nothing holds puts the channel into MEASURE, its driver off and nothing compared (R116, R118); one made while the bank PMU holds the pad waits, with class 4 raised (R120); the PPMU connects and leaves after the channel's elements (R118). IDLE_HOLD at 0 turns off a driver that drives in IDLE (R117). Each onset of compliance sets PPMU_OVR and raises class 3 (R148). -/
def Obligations.PpmuConnection : Prop :=
  ∀ (s : State), Serving s →
    (∀ (k : Fin 768) (c : Bool), 
       ∃ t, exec (.conn k c) s = .next t
         ∧ t.flag .pec k.val PEC_PPMU_CONN = c
         ∧ (c = true → (s.put .pec k.val PEC_PPMU_CONN 1).ppmuHeld k.val = false → (t.pin k.val).drvOn = false ∧ (t.pin k.val).edges = [] ∧ (t.pin k.val).compares = [])
         ∧ (c = true → s.flag .pec k.val PEC_STAT_PMU_ON = true → s.pinSafe k.val = false → t.pin k.val = s.pin k.val ∧ Raised (baseOf .pec k.val) 4 1 s t ∧ (t.intStat (baseOf .pec k.val)).getLsbD 3 = true)
         ∧ (c = false → (t.pin k.val).ppmuOn = false)
         ∧ Reported [baseOf .pec k.val] [baseOf .pec k.val + 0x50] s t
         ∧ (t = { s with regs := t.regs, hif := t.hif, faults := t.faults, evr := t.evr, free := t.free, pins := t.pins, banks := t.banks }))
    ∧ (∀ (k : Fin 768), s.flag .pec k.val PEC_PPMU_CONN = true → s.ppmuHeld k.val = false → 
       ∃ t, exec (.ppmuConnect k) s = .next t
         ∧ (t.pin k.val).ppmuOn = true ∧ (t.pin k.val).drvOn = false ∧ t.flag .pec k.val PEC_STAT_PPMU_ON = true
         ∧ RegsBut [baseOf .pec k.val + 0x14] s t
         ∧ t = { s with regs := t.regs, pins := t.pins })
    ∧ (∀ (k : Fin 768), (s.pin k.val).exiting = true → 
       ∃ t, exec (.measureExit k) s = .next t
         ∧ (t.pin k.val).exiting = false ∧ (t.pin k.val).drvOn = false ∧ t.flag .pec k.val PEC_STAT_PPMU_ON = false
         ∧ RegsBut [baseOf .pec k.val + 0x14] s t
         ∧ t = { s with regs := t.regs, pins := t.pins })
    ∧ (∀ (k : Fin 768) (c : Bool), s.sealedTo k.val s.role = false → 
       ∃ t, exec (.idleHold k c) s = .next t
         ∧ t.flag .pec k.val PEC_CFG_IDLE_HOLD = c
         ∧ (c = false → s.pinState k.val = 1 → (t.pin k.val).drvOn = false)
         ∧ (c = true → t.pins = s.pins)
         ∧ RegsBut [baseOf .pec k.val + 0x40] s t
         ∧ t = { s with regs := t.regs, pins := t.pins, banks := t.banks })
    ∧ (∀ (k : Fin 768) (c : Bool), s.sealedTo k.val s.role = true → 
       ∃ t, exec (.idleHold k c) s = .next t
         ∧ t.intStat (baseOf .pec k.val) = s.intStat (baseOf .pec k.val) ||| 0x40000000
         ∧ RegsBut ([baseOf .pec k.val + 0x18] ++ pbaOffs) s t
         ∧ (t = { s with regs := t.regs, hif := { s.hif with sent := t.hif.sent } }))
    ∧ (∀ (k : Fin 768) (c : Bool), (s.pin k.val).ppmuOn = true → s.fld .pec k.val PEC_PPMU_MODE ≠ 2 → 
       ∃ t, exec (.ppmuCompliance k c) s = .next t
         ∧ t.flag .pec k.val PEC_PPMU_COMPLIANCE = c
         ∧ (c = true → s.flag .pec k.val PEC_PPMU_COMPLIANCE = false → Raised (baseOf .pec k.val) 3 1 s t ∧ (t.intStat (baseOf .pec k.val)).getLsbD 2 = true)
         ∧ Reported [baseOf .pec k.val] [baseOf .pec k.val + 0x50] s t
         ∧ (t = { s with regs := t.regs, hif := t.hif, faults := t.faults, evr := t.evr, free := t.free }))

/-- A map word is stored, with ACCESS_DENIED while the channel is sealed to the role, and with MAP_BUSY while the site's PSQ runs (R139, R140, R152). A die-to-die frame that passes its CRC changes nothing; one that fails counts in D2D.CRC_ERR, raises class 1 of BNK at Error and taints the sites of the running bursts on the bank (R151). -/
def Obligations.SymbolMapsAndLostFrames : Prop :=
  ∀ (s : State), Serving s →
    (∀ (k : Fin 768) (w : Fin 128) (v : Word), s.sealedTo k.val s.role = false → s.pinRunning k.val = false → 
       ∃ t, exec (.map k w v) s = .next t
         ∧ t.rd (baseOf .pec k.val + 0x800 + 4 * w.val) = v
         ∧ RegsBut [baseOf .pec k.val + 0x800 + 4 * w.val] s t
         ∧ t = { s with regs := t.regs, banks := t.banks })
    ∧ (∀ (k : Fin 768) (w : Fin 128) (v : Word), s.sealedTo k.val s.role = false → s.pinRunning k.val = true → 
       ∃ t, exec (.map k w v) s = .next t
         ∧ Raised (baseOf .pec k.val) 2 1 s t ∧ (t.intStat (baseOf .pec k.val)).getLsbD 1 = true
         ∧ Reported [baseOf .pec k.val] [] s t
         ∧ (t = { s with regs := t.regs, hif := t.hif, faults := t.faults, evr := t.evr, free := t.free }))
    ∧ (∀ (b : Fin 24) (i : Bool), 
       ∃ t, exec (.d2dFrame b i true) s = .next t
         ∧ t = s)
    ∧ (∀ (b : Fin 24) (i : Bool), Acked s (baseOf .bnk b.val) 1 → 
       ∃ t, exec (.d2dFrame b i false) s = .next t
         ∧ Counts .bnk b.val BNK_D2D_CRC_ERR s t
         ∧ Raised (baseOf .bnk b.val) 1 3 s t ∧ (t.intStat (baseOf .bnk b.val)).getLsbD 1 = true
         ∧ (∀ n < 8, s.psqRunning n = true → ∀ a ∈ s.sitesOf n, (s.siteBanks a).contains b.val = true → (t.site a).taint = (s.site a).taint ||| 16)
         ∧ (∀ n < 8, s.psqRunning n = true → i = false → (∃ a ∈ s.sitesOf n, (s.siteBanks a).contains b.val = true) → mapGet (fun _ => 0) (t.psq n).maskLeft b.val = 8)
         ∧ (t = { s with regs := t.regs, hif := t.hif, faults := t.faults, evr := t.evr, free := t.free, sites := t.sites, psqs := t.psqs, pins := t.pins }))

/-! ### Chapter 18: power domains -/

/-- A changed bit of PWR_BANK asks for a power-up, which the Governor evaluates and which begins where it fits and the die is not held off by temperature, or for a power-down, which begins where no running PSQ and no transition holds the bank; refused, the bit keeps its value and class 1 is raised; PWR_RESP reports the outcome (R25, R463, R555 to R559). A bit of PWR_CTRL starts the power-up of a cluster (R557). -/
def Obligations.BankPowerRequests : Prop :=
  ∀ (s : State), Serving s →
    (∀ (b : Fin 24) (v : Word), v.toNat % 2 ^ 24 = s.fld .hifRst 0 PWR_BANK_ON + 2 ^ b.val → s.bankAsked b.val = false → (s.bank b.val).phase = .off → (s.fe (b.val / 6)).heldOff = false → s.flag .pgv 0 PGV_MODE_DRYRUN = false → 
       ∃ t, exec (.pwrBank v) s = .next t
         ∧ (Fits s b.val (s.bankDraw b.val) → (t.bank b.val).phase = .rising ∧ (t.bank b.val).charge = s.bankDraw b.val ∧ t.bankAsked b.val = true ∧ t.fld .hifRst 0 PWR_RESP_RESULT = 1 ∧ PgvAdmitted (newTotal s b.val (s.bankDraw b.val)) t)
         ∧ (¬ Fits s b.val (s.bankDraw b.val) → t.bankAsked b.val = false ∧ t.banks = s.banks ∧ t.fld .hifRst 0 PWR_RESP_RESULT = 2 ∧ Raised 0x1000 1 1 s t ∧ Raised 0x3000 1 1 s t)
         ∧ t.fld .hifRst 0 PWR_RESP_DOMAIN = 16 + b.val
         ∧ Reported [0x1000, 0x3000] [0x304C, 0x3050, 0x1080, 0x1090] s t
         ∧ (t = { s with regs := t.regs, hif := t.hif, faults := t.faults, evr := t.evr, free := t.free, banks := t.banks }))
    ∧ (∀ (b : Fin 24) (v : Word), v.toNat % 2 ^ 24 + 2 ^ b.val = s.fld .hifRst 0 PWR_BANK_ON → s.bankAsked b.val = true → (s.bank b.val).phase = .on → 
       ∃ t, exec (.pwrBank v) s = .next t
         ∧ (s.bankBusy b.val = false ∧ s.flag .bnk b.val BNK_MODE_TRANSITION = false → (t.bank b.val).phase = .falling ∧ t.bankAsked b.val = false ∧ t.fld .hifRst 0 PWR_RESP_RESULT = 1 ∧ (∀ l < 32, (t.pin (32 * b.val + l)).drvOn = false) ∧ (∀ u ∈ [3 * b.val, 3 * b.val + 1, 3 * b.val + 2, 72 + b.val], supFlag t u DPS_STAT_CONNECTED = false) ∧ (t.measOf b.val).run = none ∧ (t.calRec b.val).step = none)
         ∧ (s.bankBusy b.val = true ∨ s.flag .bnk b.val BNK_MODE_TRANSITION = true → t.bankAsked b.val = true ∧ t.banks = s.banks ∧ t.fld .hifRst 0 PWR_RESP_RESULT = 3 ∧ Raised 0x1000 1 1 s t)
         ∧ t.fld .hifRst 0 PWR_RESP_DOMAIN = 16 + b.val
         ∧ (t = { s with regs := t.regs, hif := t.hif, faults := t.faults, evr := t.evr, free := t.free, banks := t.banks, pins := t.pins, meas := t.meas, cal := t.cal, guards := t.guards, sups := t.sups, sites := t.sites, vs := t.vs }))
    ∧ (∀ (v : Word), v.getLsbD 0 = true → v.getLsbD 1 = s.flag .hifRst 0 PWR_CTRL_CLUSTER_B → s.flag .hifRst 0 PWR_CTRL_CLUSTER_A = false → s.domains.getLsbD 4 = false → s.clusterRise.contains 0 = false → 
       ∃ t, exec (.pwrCtrl v) s = .next t
         ∧ t.clusterRise = 0 :: s.clusterRise
         ∧ t.flag .hifRst 0 PWR_CTRL_CLUSTER_A = true ∧ t.fld .hifRst 0 PWR_RESP_RESULT = 1 ∧ t.fld .hifRst 0 PWR_RESP_DOMAIN = 4
         ∧ RegsBut [0x1084, 0x1090] s t
         ∧ t = { s with regs := t.regs, clusterRise := t.clusterRise })
    ∧ (∀ (v : Word), v.getLsbD 0 = false → v.getLsbD 1 = s.flag .hifRst 0 PWR_CTRL_CLUSTER_B → s.flag .hifRst 0 PWR_CTRL_CLUSTER_A = true → s.clusterRise.contains 0 = false → ∀ n < 4, s.psqRunning n = false ∧ s.flag .psq n PSQ_STAT_BOUND = false → 
       ∃ t, exec (.pwrCtrl v) s = .next t
         ∧ t.domains.getLsbD 4 = false
         ∧ t.flag .hifRst 0 PWR_CTRL_CLUSTER_A = false ∧ t.fld .hifRst 0 PWR_RESP_RESULT = 1 ∧ (t.intStat 0x1000).getLsbD 0 = true
         ∧ (∀ n < 4, t.flag .mce n MCE_STAT_VENDOR_VALID = false ∧ (t.psq n).bundle = none))

/-- At the end of its power-up a bank runs in the mode its configuration holds, its domain and its die's are on, it is charged what it draws, and PWR_DONE is set; at the end of its power-down it is off, charged nothing, and its domain is off (R25, R127, R558). A die's common domain turns off after its last bank (R555). A cluster's power-up ends with the vendor microcode loaded (R252, R557). -/
def Obligations.PowerSequencesEnd : Prop :=
  ∀ (s : State), Serving s →
    (∀ (b : Fin 24) (f : Word), (s.bank b.val).phase = .rising → (s.bank b.val).stored = [] → (s.bank b.val).downWait = none → Acked s (baseOf .bnk b.val) 2 → 
       ∃ t, exec (.bankPowerUpDone b f) s = .next t
         ∧ (t.bank b.val).phase = .on ∧ t.bankOn b.val = true ∧ t.domains.getLsbD (12 + b.val / 6) = true
         ∧ t.fld .bnk b.val BNK_MODE_ACTIVE = s.fld .bnk b.val BNK_MODE_REQ ∧ (t.bank b.val).limMode = s.fld .bnk b.val BNK_MODE_REQ
         ∧ (t.bank b.val).charge = t.bankDraw b.val
         ∧ (t.intStat 0x1000).getLsbD 0 = true
         ∧ (∀ q < 24, q ≠ b.val → t.bank q = s.bank q)
         ∧ (t = { s with regs := t.regs, hif := t.hif, faults := t.faults, evr := t.evr, free := t.free, banks := t.banks, pins := t.pins, fes := t.fes, domains := t.domains, cal := t.cal, sups := t.sups, edgeTab := t.edgeTab }))
    ∧ (∀ (b : Fin 24), (s.bank b.val).phase = .falling → 
       ∃ t, exec (.bankPowerDownDone b) s = .next t
         ∧ (t.bank b.val).phase = .off ∧ (t.bank b.val).charge = 0 ∧ t.bankOn b.val = false
         ∧ (t.bank b.val).shadowGen = some (s.rd (fldOff .plk 0 PLK_GEN 0))
         ∧ (t.intStat 0x1000).getLsbD 0 = true
         ∧ (∀ q < 24, q ≠ b.val → t.bank q = s.bank q)
         ∧ (t.fe (b.val / 6)).offDue = ((s.fe (b.val / 6)).offDue || !t.feInUse (b.val / 6))
         ∧ (t = { s with regs := t.regs, hif := t.hif, banks := t.banks, sups := t.sups, fes := t.fes, domains := t.domains }))
    ∧ (∀ (n : Fin 4), (s.fe n.val).offDue = true → s.feInUse n.val = false → 
       ∃ t, exec (.feCommonOff n) s = .next t
         ∧ t.domains.getLsbD (12 + n.val) = false ∧ (t.fe n.val).offDue = false
         ∧ (∀ d < 40, d ≠ 12 + n.val → t.domains.getLsbD d = s.domains.getLsbD d)
         ∧ t = { s with fes := t.fes, domains := t.domains })
    ∧ (∀ (c : Fin 2), s.clusterRise.contains c.val = true → s.flag .hifRst 0 (clusterFld c.val) = true → 
       ∃ t, exec (.clusterPowerUpDone c) s = .next t
         ∧ c.val ∉ t.clusterRise
         ∧ t.domains.getLsbD (4 + c.val) = true
         ∧ (t.intStat 0x1000).getLsbD 0 = true
         ∧ (∀ d < 40, d ≠ 4 + c.val → t.domains.getLsbD d = s.domains.getLsbD d)
         ∧ (t = { s with regs := t.regs, hif := t.hif, faults := t.faults, evr := t.evr, free := t.free, clusterRise := t.clusterRise, domains := t.domains, mces := t.mces }))
    ∧ (∀ (n : Fin 8) (i : Fin 8), (s.psq n.val).wraps.any (fun w => w.1 == i.val) = true → 
       ∃ t, exec (.pcnWrap (some n) i) s = .next t
         ∧ (t.intStat (baseOf .pcn n.val)).getLsbD 0 = true
         ∧ ((t.psq n.val).wraps = (s.psq n.val).wraps.eraseP fun w => w.1 == i.val)
         ∧ (s.flag .pcn n.val PCN_SKID_VALID = false → t.flag .pcn n.val PCN_SKID_VALID = true ∧ t.fld .pcn n.val PCN_SKID_PC = s.fld .psq n.val PSQ_PC)
         ∧ RegsBut ([baseOf .pcn n.val + 0x18, baseOf .pcn n.val + 0x48] ++ pbaOffs) s t
         ∧ (t = { s with regs := t.regs, psqs := t.psqs, hif := { s.hif with sent := t.hif.sent } }))
    ∧ (∀ (i : Fin 8), s.chipWraps.contains i.val = true → 
       ∃ t, exec (.pcnWrap none i) s = .next t
         ∧ t.intStat 0x62000 = s.intStat 0x62000 ||| 1
         ∧ RegsBut ([0x62000 + 0x18] ++ pbaOffs) s t
         ∧ (t = { s with regs := t.regs, chipWraps := t.chipWraps, hif := { s.hif with sent := t.hif.sent } }))

/-! ### Chapter 8: sites and the overlay -/

/-- While the site's PSQ is not running, MASK and RETIRE take effect at once, a retirement with cause HOST at the PSQ's vector count, and SITE_S and the flags take what is written; while it runs, the changes wait for a vector period and the writes are ignored with SITE_BUSY (R267, R279 to R281). A sealed site refuses its registers (R283). -/
def Obligations.SiteMaskAndRetirement : Prop :=
  ∀ (s : State), Serving s →
    (∀ (i : Fin 256) (c : Bool), 
       ∃ t, exec (.mask i c) s = .next t
         ∧ t.flag .site i.val SITE_CTRL_MASK = c
         ∧ (s.siteRunning i.val = false → t.siteMasked i.val = c ∧ t.sites = s.sites)
         ∧ (s.siteRunning i.val = true → t.siteMasked i.val = s.siteMasked i.val ∧ (t.site i.val).changes.map (·.1) = (s.site i.val).changes.map (·.1) ++ [.mask c])
         ∧ RegsBut [baseOf .site i.val + 0x40, baseOf .site i.val + 0x4C] s t
         ∧ t = { s with regs := t.regs, sites := t.sites })
    ∧ (∀ (i : Fin 256), s.siteRetired i.val = false → 
       ∃ t, exec (.retire i) s = .next t
         ∧ (s.siteRunning i.val = false → t.siteRetired i.val = true ∧ t.fld .site i.val SITE_STATE_CAUSE = 1 ∧ t.fld .site i.val SITE_RETIRE_AT_LO + 2 ^ 32 * t.fld .site i.val SITE_RETIRE_AT_HI = (match s.sitePsq i.val with | some n => s.vcount n | none => 0) ∧ (t.intStat (baseOf .site i.val)).getLsbD 0 = true)
         ∧ (s.siteRunning i.val = true → (t.site i.val).changes.map (·.1) = (s.site i.val).changes.map (·.1) ++ [.retire 1] ∧ t.siteRetired i.val = false)
         ∧ (t = { s with regs := t.regs, hif := t.hif, evr := t.evr, free := t.free, banks := t.banks, guards := t.guards, sites := t.sites }))
    ∧ (∀ (i : Fin 256), 
       ∃ t, exec (.unretire i) s = .next t
         ∧ (s.siteRunning i.val = false → t.siteRetired i.val = false ∧ t.fld .site i.val SITE_STATE_CAUSE = 0 ∧ t.siteMasked i.val = s.siteMasked i.val)
         ∧ (s.siteRunning i.val = true → t.siteRetired i.val = s.siteRetired i.val ∧ Raised (baseOf .site i.val) 1 1 s t ∧ (t.intStat (baseOf .site i.val)).getLsbD 2 = true)
         ∧ Reported [baseOf .site i.val] [baseOf .site i.val + 0x4C] s t
         ∧ (t = { s with regs := t.regs, hif := t.hif, faults := t.faults, evr := t.evr, free := t.free }))
    ∧ (∀ (i : Fin 256) (r : Fin 16) (v : Word), 
       ∃ t, exec (.siteRegWrite i r v) s = .next t
         ∧ (s.regSealed i.val = false → s.siteRunning i.val = false → t.siteReg i.val r.val = v.toNat)
         ∧ (s.regSealed i.val = false → s.siteRunning i.val = true → Raised (baseOf .site i.val) 1 1 s t ∧ t.siteReg i.val r.val = s.siteReg i.val r.val)
         ∧ (s.regSealed i.val = true → s.role = .operator → t.intStat (baseOf .site i.val) = s.intStat (baseOf .site i.val) ||| 0x40000000 ∧ t.siteReg i.val r.val = s.siteReg i.val r.val)
         ∧ Reported [baseOf .site i.val] [baseOf .site i.val + 0x60 + 4 * r.val] s t
         ∧ (t = { s with regs := t.regs, hif := t.hif, faults := t.faults, evr := t.evr, free := t.free }))
    ∧ (∀ (i : Fin 256) (v : Word), 
       ∃ t, exec (.siteStateWrite i v) s = .next t
         ∧ (s.siteRunning i.val = false → t.fld .site i.val SITE_STATE_SF = bitsOf v 25 25 ∧ t.fld .site i.val SITE_STATE_LF = bitsOf v 24 24)
         ∧ (v.getLsbD 23 = true → t.flag .site i.val SITE_STATE_CAP_MID = false)
         ∧ (v.getLsbD 22 = true → t.flag .site i.val SITE_STATE_OVL_RANGE = false)
         ∧ (s.siteRunning i.val = true → bitsOf v 25 25 ≠ s.fld .site i.val SITE_STATE_SF → Raised (baseOf .site i.val) 1 1 s t ∧ t.fld .site i.val SITE_STATE_SF = s.fld .site i.val SITE_STATE_SF)
         ∧ Reported [baseOf .site i.val] [baseOf .site i.val + 0x4C] s t
         ∧ (t = { s with regs := t.regs, hif := t.hif, faults := t.faults, evr := t.evr, free := t.free }))

/-- A command of the allocator is latched, and ignored with reason STATE while one is in progress (R263); an admitted bind gives the lowest free site numbers, in order, the placements from PLACE_FIRST on, every pin its channel, and answers BOUND; a bind that a check refuses answers the first failing check and binds nothing (R260, R261); a release frees the sites, their channels enter SAFE (R262). -/
def Obligations.AllocatorCommands : Prop :=
  ∀ (s : State), Serving s →
    (∃ t, exec .sfbBind s = .next t
         ∧ (s.sfb.cmd = none → t.sfb.cmd = some (.bind (s.fld .sfb 0 SFB_REQ_TEMPLATE) (s.fld .sfb 0 SFB_REQ_PSQ) (s.fld .sfb 0 SFB_REQ_COUNT) (s.fld .sfb 0 SFB_REQ_PLACE_FIRST)) ∧ t.regs = s.regs)
         ∧ (s.sfb.cmd ≠ none → t.sfb = s.sfb ∧ t.fld .sfb 0 SFB_RESP_RESULT = 2 ∧ t.fld .sfb 0 SFB_RESP_REASON = 1 ∧ Raised 0x60000 1 1 s t)
         ∧ Reported [0x60000] [0x60048] s t
         ∧ (t = { s with regs := t.regs, hif := t.hif, faults := t.faults, evr := t.evr, free := t.free, sfb := t.sfb }))
    ∧ (∃ t, exec .relPsq s = .next t
         ∧ (s.sfb.cmd = none → t.sfb.cmd = some (.releasePsq (s.fld .sfb 0 SFB_CMD_PSQ)))
         ∧ (s.sfb.cmd ≠ none → t.sfb = s.sfb ∧ t.fld .sfb 0 SFB_RESP_RESULT = 2 ∧ Raised 0x60000 1 1 s t)
         ∧ Reported [0x60000] [0x60048] s t
         ∧ (t = { s with regs := t.regs, hif := t.hif, faults := t.faults, evr := t.evr, free := t.free, sfb := t.sfb }))
    ∧ (∃ t, exec .relSites s = .next t
         ∧ (s.sfb.cmd = none → t.sfb.cmd = some (.releaseSites s.sfbSel))
         ∧ (s.sfb.cmd ≠ none → t.sfb = s.sfb ∧ t.fld .sfb 0 SFB_RESP_RESULT = 2 ∧ Raised 0x60000 1 1 s t)
         ∧ Reported [0x60000] [0x60048] s t
         ∧ (t = { s with regs := t.regs, hif := t.hif, faults := t.faults, evr := t.evr, free := t.free, sfb := t.sfb }))
    ∧ (∀ (m n c f : Nat) (q : Template), s.sfb.cmd = some (.bind m n c f) → s.template m = some q → TemplateOk q → n < 8 → m < 16 → 
       ∃ t, exec .sfbCmdComplete s = .next t
         ∧ t.sfb.cmd = none ∧ t.sfb.templates = s.sfb.templates
         ∧ ((s.bindCheck m n c f).1 = 0 → t.fld .sfb 0 SFB_RESP_RESULT = 1 ∧ (t.intStat 0x60000).getLsbD 0 = true ∧ t.flag .psq n PSQ_STAT_BOUND = true ∧ (∀ x ∈ (s.freeSites.take c).zip (q.chosen c f), t.sitePsq x.1 = some n ∧ ∀ y ∈ x.2.1.zipIdx, t.pinChannel x.1 y.2 = some y.1 ∧ t.flag .pec y.1 PEC_SITE_BOUND = true ∧ t.fld .pec y.1 PEC_SITE = x.1 ∧ t.fld .pec y.1 PEC_SITE_SITE_PIN = y.2))
         ∧ ((s.bindCheck m n c f).1 ≠ 0 → t.fld .sfb 0 SFB_RESP_RESULT = 2 ∧ t.fld .sfb 0 SFB_RESP_REASON = (s.bindCheck m n c f).1 ∧ Raised 0x60000 1 1 s t ∧ Reported [0x60000] [0x60048] s t)
         ∧ (∀ i < 256, s.siteBound i = true → t.siteBound i = true)
         ∧ (t = { s with regs := t.regs, hif := t.hif, faults := t.faults, evr := t.evr, free := t.free, dev := t.dev, sfb := t.sfb, pins := t.pins, banks := t.banks, cal := t.cal, edgeTab := t.edgeTab }))
    ∧ (∀ (i : Nat), s.sfb.cmd = some (.releaseSites (2 ^ i)) → i < 256 → s.siteBound i = true → ∀ k ∈ (s.sitePins i).map (·.2), k < 768 → 
       ∃ t, exec .sfbCmdComplete s = .next t
         ∧ (s.siteRunning i = false → t.siteBound i = false ∧ t.fld .sfb 0 SFB_RESP_RESULT = 3 ∧ (t.intStat 0x60000).getLsbD 2 = true ∧ ∀ k ∈ (s.sitePins i).map (·.2), t.flag .pec k PEC_SITE_BOUND = false ∧ (t.pin k).drvOn = false)
         ∧ (s.siteRunning i = true → t.siteBound i = true ∧ t.fld .sfb 0 SFB_RESP_RESULT = 2 ∧ t.fld .sfb 0 SFB_RESP_REASON = 4)
         ∧ (∀ j < 256, j ≠ i → t.siteBound j = s.siteBound j)
         ∧ (t = { s with regs := t.regs, hif := t.hif, faults := t.faults, evr := t.evr, free := t.free, dev := t.dev, sfb := t.sfb, pins := t.pins, sites := t.sites, meas := t.meas, fre := t.fre, psqs := t.psqs }))

/-- A write of OVL_DATA stores the four bytes at the cursor and a read returns them, and the cursor advances; a region sealed to the role answers zero and stores nothing, and one whose site's PSQ runs takes no write (R277, R283). A descriptor takes a word while its owner does not run (R277). A DMA that the checks admit copies the object's bytes into the regions and nothing else (R278). -/
def Obligations.OverlayAccess : Prop :=
  ∀ (s : State), Serving s →
    (∀ (v : Word), 
       ∃ t, exec (.ovlDataAccess (some v)) s = .next t
         ∧ (s.ovlSealedNow (s.fld .ovl 0 OVL_CUR_SITE) = false → s.siteRunning (s.fld .ovl 0 OVL_CUR_SITE) = false → leNat ((List.range 4).map fun j => t.ovlByte (4096 * s.fld .ovl 0 OVL_CUR_SITE + s.fld .ovl 0 OVL_CUR_BYTE / 4 * 4 + j)) = v.toNat)
         ∧ (s.ovlSealedNow (s.fld .ovl 0 OVL_CUR_SITE) = false → s.siteRunning (s.fld .ovl 0 OVL_CUR_SITE) = true → t.overlay = s.overlay ∧ Raised 0x61000 1 1 s t)
         ∧ (s.ovlSealedNow (s.fld .ovl 0 OVL_CUR_SITE) = true → t.overlay = s.overlay)
         ∧ OverlayBut (4096 * s.fld .ovl 0 OVL_CUR_SITE + s.fld .ovl 0 OVL_CUR_BYTE / 4 * 4) 4 s t
         ∧ 4096 * t.fld .ovl 0 OVL_CUR_SITE + t.fld .ovl 0 OVL_CUR_BYTE = (4096 * s.fld .ovl 0 OVL_CUR_SITE + s.fld .ovl 0 OVL_CUR_BYTE / 4 * 4 + 4) % 2 ^ 20
         ∧ Reported [0x61000] [0x61040] s t
         ∧ (t = { s with regs := t.regs, hif := t.hif, faults := t.faults, evr := t.evr, free := t.free, overlay := t.overlay }))
    ∧ (∃ t, exec (.ovlDataAccess none) s = .next t
         ∧ (s.ovlSealedNow (s.fld .ovl 0 OVL_CUR_SITE) = false → t.hif.resp = .words [BitVec.ofNat 32 (leNat ((List.range 4).map fun j => s.ovlByte (4096 * s.fld .ovl 0 OVL_CUR_SITE + s.fld .ovl 0 OVL_CUR_BYTE / 4 * 4 + j)))])
         ∧ (s.ovlSealedNow (s.fld .ovl 0 OVL_CUR_SITE) = true → t.hif.resp = .words [0] ∧ t.intStat 0x61000 = s.intStat 0x61000 ||| 0x40000000)
         ∧ 4096 * t.fld .ovl 0 OVL_CUR_SITE + t.fld .ovl 0 OVL_CUR_BYTE = (4096 * s.fld .ovl 0 OVL_CUR_SITE + s.fld .ovl 0 OVL_CUR_BYTE / 4 * 4 + 4) % 2 ^ 20
         ∧ RegsBut ([0x61018, 0x61040] ++ pbaOffs) s t
         ∧ (t = { s with regs := t.regs, hif := t.hif }))
    ∧ (∀ (d : Fin 32) (w : Fin 8) (v : Word), 
       ∃ t, exec (.descriptorWrite d w v) s = .next t
         ∧ (s.psqRunning (bitsOf (s.descWord d.val 5) 22 20) = false → t.rd (0x61100 + 4 * (8 * d.val + w.val)) = v)
         ∧ (s.psqRunning (bitsOf (s.descWord d.val 5) 22 20) = true → Raised 0x61000 1 1 s t ∧ t.rd (0x61100 + 4 * (8 * d.val + w.val)) = s.rd (0x61100 + 4 * (8 * d.val + w.val)))
         ∧ Reported [0x61000] [0x61100 + 4 * (8 * d.val + w.val)] s t
         ∧ (t = { s with regs := t.regs, hif := t.hif, faults := t.faults, evr := t.evr, free := t.free }))
    ∧ (∃ t, exec .ovlDma s = .next t
         ∧ (s.ovlDma = none → (∀ i ∈ (List.range (s.fld .ovl 0 OVL_DMA_CTRL_COUNT_M1 + 1)).map (s.fld .ovl 0 OVL_DMA_CTRL_FIRST + ·), s.siteRunning i = false ∧ s.ovlSealed i = false) → s.fld .ovl 0 OVL_DMA_CTRL_FIRST + s.fld .ovl 0 OVL_DMA_CTRL_COUNT_M1 < 256 → (s.plainRange (BitVec.ofNat 32 (s.fld .ovl 0 OVL_DMA_HANDLE)) (s.fld .ovl 0 OVL_DMA_OFF / 64 * 64) (4096 * (s.fld .ovl 0 OVL_DMA_CTRL_COUNT_M1 + 1))).isSome = true → t = { s with ovlDma := some ⟨BitVec.ofNat 32 (s.fld .ovl 0 OVL_DMA_HANDLE), s.fld .ovl 0 OVL_DMA_OFF / 64 * 64, s.fld .ovl 0 OVL_DMA_CTRL_FIRST, s.fld .ovl 0 OVL_DMA_CTRL_COUNT_M1⟩ })
         ∧ (t.ovlDma = s.ovlDma → t.fld .ovl 0 OVL_DMA_RESP_RESULT = 2 ∨ t.fld .ovl 0 OVL_DMA_RESP_RESULT = 3 ∨ t.fld .ovl 0 OVL_DMA_RESP_RESULT = 4)
         ∧ Reported [0x61000] [0x61054] s t
         ∧ (t = { s with regs := t.regs, hif := t.hif, faults := t.faults, evr := t.evr, free := t.free, ovlDma := t.ovlDma }))
    ∧ (∀ (j : OvlDma) (o : VsObj), s.ovlDma = some j → s.plainRange j.handle j.off (4096 * (j.countM1 + 1)) = some o → s.objBad o j.off (4096 * (j.countM1 + 1)) = false → 
       ∃ t, exec (.ovlDmaDone []) s = .next t
         ∧ t.ovlDma = none ∧ t.fld .ovl 0 OVL_DMA_RESP_RESULT = 1 ∧ (t.intStat 0x61000).getLsbD 0 = true
         ∧ (∀ i < 4096 * (j.countM1 + 1), t.ovlByte (4096 * j.first + i) = s.vsByte (o.phys (j.off + i)))
         ∧ OverlayBut (4096 * j.first) (4096 * (j.countM1 + 1)) s t
         ∧ (t = { s with regs := t.regs, hif := t.hif, overlay := t.overlay, ovlDma := t.ovlDma, vs := t.vs, chipWraps := t.chipWraps }))

/-! ### Chapter 10: fail reduction -/

/-- The oldest entry of the mark queue is ORed into its block of the bitmap, or its marks are lost and counted (R333); BMAP_CLR starts a clear unless the burst runs, a clear runs or a solve is pending, and its end leaves every bound site's valid bitmap zero (R334); a solve starts once marks have drained and one of four engines is free, and a site with lost marks is INCOMPLETE without one (R335, R339); a solve that reads its bitmap well writes the solution's slot and the site's status and counts, and an uncorrectable error gives ERROR (R336 to R338). -/
def Obligations.BitmapsAndSolving : Prop :=
  ∀ (s : State), Serving s →
    (∀ (n : Fin 8) (i blk bits : Nat) (rest : List ((Nat × Nat) × Nat)) (o : VsObj), (s.psq n.val).marks = ((i, blk), bits) :: rest → (s.psq n.val).clearing = false → s.objAt (s.site i).bmapHandle = some o → (s.site i).bmapOff.toNat / 64 * 64 + 64 * blk + 64 ≤ o.size → s.objBad o ((s.site i).bmapOff.toNat / 64 * 64 + 64 * blk) 64 = false → 
       ∃ t, exec (.markDrain n false) s = .next t
         ∧ (t.psq n.val).marks = rest
         ∧ (∀ j < 64, t.vsByte (o.phys ((s.site i).bmapOff.toNat / 64 * 64 + 64 * blk + j)) = s.vsByte (o.phys ((s.site i).bmapOff.toNat / 64 * 64 + 64 * blk + j)) ||| BitVec.ofNat 8 (bits / 2 ^ (8 * j)))
         ∧ (StoreBut (fun x => (List.range 64).any fun j => o.phys ((s.site i).bmapOff.toNat / 64 * 64 + 64 * blk + j) == x) s t)
         ∧ t.sites = s.sites
         ∧ t = { s with regs := t.regs, psqs := t.psqs, vs := t.vs, chipWraps := t.chipWraps })
    ∧ (∀ (n : Fin 8) (i blk bits : Nat) (rest : List ((Nat × Nat) × Nat)) (o : VsObj), (s.psq n.val).marks = ((i, blk), bits) :: rest → (s.psq n.val).clearing = false → s.objAt (s.site i).bmapHandle = some o → (s.site i).bmapOff.toNat / 64 * 64 + 64 * blk + 64 ≤ o.size → s.vsWritten (o.phys ((s.site i).bmapOff.toNat / 64 * 64 + 64 * blk) / 4096) = true → Acked s (pageBase .fre n.val) 1 → Acked s 0x200000 2 → (∀ c < 8, mapGet (fun _ => 0) s.vs.ueRun c < 3) → 
       ∃ t, exec (.markDrain n true) s = .next t
         ∧ (t.psq n.val).marks = rest
         ∧ ((t.site i).bmapLost = min ((s.site i).bmapLost + onesIn 512 bits) (2 ^ 32 - 1) ∧ (t.site i).nonrep = true)
         ∧ (∀ x < 64, t.vsByte (o.phys ((s.site i).bmapOff.toNat / 64 * 64 + 64 * blk + x)) = s.vsByte (o.phys ((s.site i).bmapOff.toNat / 64 * 64 + 64 * blk + x)))
         ∧ (t = { s with regs := t.regs, hif := t.hif, faults := t.faults, evr := t.evr, free := t.free, psqs := t.psqs, vs := t.vs, chipWraps := t.chipWraps, sites := t.sites }))
    ∧ (∀ (n : Fin 8), 
       ∃ t, exec (.bmapClr n) s = .next t
         ∧ (s.psqRunning n.val = false → (s.psq n.val).clearing = false → (s.psq n.val).solves = [] → (s.psq n.val).solving = [] → t = s.setPsq n.val { s.psq n.val with clearing := true })
         ∧ (s.psqRunning n.val = true ∨ (s.psq n.val).clearing = true ∨ (s.psq n.val).solves ≠ [] → t.psqs = s.psqs ∧ Raised (pageBase .fre n.val) 4 1 s t ∧ (t.intStat (pageBase .fre n.val)).getLsbD 4 = true)
         ∧ Reported [pageBase .fre n.val] [] s t
         ∧ (t = { s with regs := t.regs, hif := t.hif, faults := t.faults, evr := t.evr, free := t.free, psqs := t.psqs }))
    ∧ (∀ (n : Fin 8), (s.psq n.val).clearing = true → 
       ∃ t, exec (.bmapClrDone n) s = .next t
         ∧ (t.psq n.val).clearing = false
         ∧ (∀ i ∈ s.sitesOf n.val, ∀ o ∈ s.bitmapOf n.val i, ∀ x < (s.geometry n.val).bytes, s.objBad o ((s.site i).bmapOff.toNat / 64 * 64) (s.geometry n.val).bytes = false → t.vsByte (o.phys ((s.site i).bmapOff.toNat / 64 * 64 + x)) = 0)
         ∧ (t = { s with regs := t.regs, hif := t.hif, faults := t.faults, evr := t.evr, free := t.free, psqs := t.psqs, vs := t.vs, chipWraps := t.chipWraps }))
    ∧ (∀ (n : Fin 8) (i : Nat) (rest : List Nat), (s.psq n.val).solves = i :: rest → s.freClosed n.val = true → (s.psq n.val).marks = [] → i ∉ rest → 
       ∃ t, exec (.solveStart n) s = .next t
         ∧ ((s.site i).bmapLost = 0 → s.enginesBusy < 4 → (t.psq n.val).solves = rest ∧ (t.psq n.val).solving = (s.psq n.val).solving ++ [i])
         ∧ ((s.site i).bmapLost = 0 → 4 ≤ s.enginesBusy → t = s)
         ∧ ((s.site i).bmapLost ≠ 0 → (t.site i).repair.status = 5 ∧ i ∉ (t.psq n.val).solves)
         ∧ t.fre = s.fre ∧ t.vs = s.vs
         ∧ RegsBut ([pageBase .fre n.val + 0x18, baseOf .fre n.val + 0x60] ++ pbaOffs) s t
         ∧ (t = { s with regs := t.regs, psqs := t.psqs, sites := t.sites, hif := { s.hif with sent := t.hif.sent } }))
    ∧ (∀ (i : Fin 256) (n : Nat) (o : VsObj), s.sitePsq i.val = some n → (s.psq n).solving = [i.val] → s.bitmapOf n i.val = some o → Acked s (pageBase .fre n) 3 → 
       ∃ t, exec (.solveDone i []) s = .next t
         ∧ i.val ∉ (t.psq n).solving
         ∧ ((s.geometry n).ok = true → s.objBad o ((s.site i.val).bmapOff.toNat / 64 * 64) (s.geometry n).bytes = false → (s.plainRange (BitVec.ofNat 32 (s.fld .fre n FRE_SOL_HANDLE)) (s.fld .fre n FRE_SOL_OFF * 2 ^ 14 + 16384 * i.val) 10560).isSome = true → ((t.site i.val).repair.status, (t.site i.val).repair.reason) = siteStatus ((s.geometry n).solve (2 ^ s.fld .fre n FRE_NODES_NODE_LOG2) (s.objRead o ((s.site i.val).bmapOff.toNat / 64 * 64) (s.geometry n).bytes)))
         ∧ ((s.geometry n).ok = false → (t.site i.val).repair.status = 6 ∧ (t.site i.val).repair.reason = 6)
         ∧ SitesBut [i.val] s t
         ∧ (t = { s with regs := t.regs, hif := t.hif, faults := t.faults, evr := t.evr, free := t.free, psqs := t.psqs, sites := t.sites, vs := t.vs, chipWraps := t.chipWraps }))

/-- A word of the limit table is written unless the burst runs or an evaluation does, or the bundle seals it (R341, R343, R352); LIM_GO evaluates the entries of FRE_LIM_MASK for every bound site, each failing bit set where the register lies outside the bounds (R342). ISSUE is ignored while the burst runs (R345); the record of the lowest waiting site is built and enters the store of 1,024, with FRE_SEQ one more, or is lost and counted (R345, R348, R351); a stored record goes to the ring where it is enabled and not full (R350). -/
def Obligations.LimitsAndRecords : Prop :=
  ∀ (s : State), Serving s →
    (∀ (n : Fin 8), 
       ∃ t, exec (.limGo n) s = .next t
         ∧ ((s.psq n.val).limiting = none → t = s.setPsq n.val { s.psq n.val with limiting := some (s.fld .fre n.val FRE_LIM_MASK_LO + 2 ^ 32 * s.fld .fre n.val FRE_LIM_MASK_HI) })
         ∧ ((s.psq n.val).limiting ≠ none → t.psqs = s.psqs ∧ Raised (pageBase .fre n.val) 4 1 s t ∧ (t.intStat (pageBase .fre n.val)).getLsbD 4 = true)
         ∧ Reported [pageBase .fre n.val] [] s t
         ∧ (t = { s with regs := t.regs, hif := t.hif, faults := t.faults, evr := t.evr, free := t.free, psqs := t.psqs }))
    ∧ (∀ (n : Fin 8) (m : Nat), (s.psq n.val).limiting = some m → 
       ∃ t, exec (.limDone n) s = .next t
         ∧ (t.psq n.val).limiting = none ∧ (t.intStat (pageBase .fre n.val)).getLsbD 3 = true
         ∧ (∀ i ∈ s.sitesOf n.val, ∀ e < 64, bitAt (t.site i).limFail e = (bitAt (s.site i).limFail e || (bitAt m e && (s.limWord n.val e 2).getLsbD 31 && outside (s.limWord n.val e 0) (s.limWord n.val e 1) (BitVec.ofNat 32 (s.siteReg i (bitsOf (s.limWord n.val e 2) 27 24))) ((s.limWord n.val e 2).getLsbD 30))))
         ∧ t.fre = s.fre ∧ t.vs = s.vs ∧ t.meas = s.meas)
    ∧ (∀ (n : Fin 8) (e : Fin 64) (w : Fin 4) (v : Word), 
       ∃ t, exec (.limitEntryWrite n e w v) s = .next t
         ∧ (s.flag .psq n.val PSQ_STAT_SEALED = false → s.psqRunning n.val = false → (s.psq n.val).limiting = none → t.limWord n.val e.val w.val = v)
         ∧ (s.flag .psq n.val PSQ_STAT_SEALED = false → (s.psqRunning n.val = true ∨ (s.psq n.val).limiting ≠ none) → t.limWord n.val e.val w.val = s.limWord n.val e.val w.val ∧ Raised (pageBase .fre n.val) 4 1 s t ∧ (t.intStat (pageBase .fre n.val)).getLsbD 4 = true)
         ∧ Reported [pageBase .fre n.val] [baseOf .fre n.val + 0x400 + 4 * (4 * e.val + w.val)] s t
         ∧ (t = { s with regs := t.regs, hif := t.hif, faults := t.faults, evr := t.evr, free := t.free }))
    ∧ (∀ (n : Fin 8), 
       ∃ t, exec (.issue n) s = .next t
         ∧ (s.psqRunning n.val = false → (t.psq n.val).issueGo = true)
         ∧ (s.psqRunning n.val = true → t.psqs = s.psqs ∧ Raised (pageBase .fre n.val) 4 1 s t ∧ (t.intStat (pageBase .fre n.val)).getLsbD 4 = true)
         ∧ Reported [pageBase .fre n.val] [baseOf .fre n.val + 0x60] s t
         ∧ (t = { s with regs := t.regs, hif := t.hif, faults := t.faults, evr := t.evr, free := t.free, psqs := t.psqs }))
    ∧ (∀ (n : Fin 8) (i : Nat) (rest : List Nat), (s.psq n.val).awaiting = i :: rest → (s.site i).pending = true → i ∉ rest → s.freClosed n.val = true → (s.psq n.val).marks = [] → (s.psq n.val).solves = [] ∧ (s.psq n.val).solving = [] → s.flag .fre n.val FRE_CFG_HOLD_ISSUE = false → 
       ∃ t, exec (.recordIssue n) s = .next t
         ∧ (t.psq n.val).awaiting = rest ∧ (t.site i).pending = false ∧ (t.site i).limFail = 0 ∧ t.freSeq = (s.freSeq + 1) % 2 ^ 64
         ∧ (s.fre.store.length < 1024 → t.fre.store.take s.fre.store.length = s.fre.store ∧ t.fre.store.length = s.fre.store.length + 1 ∧ t.fld .freG 0 FRE_STORE_PENDING = s.fre.store.length + 1 ∧ ∀ r ∈ t.fre.store.drop s.fre.store.length, r.length = 512 ∧ leNat (r.take 4) = 0x46520100 ∧ leNat ((r.drop 8).take 8) = s.freSeq)
         ∧ (1024 ≤ s.fre.store.length → t.fre.store = s.fre.store ∧ (t.site i).lostPrior = true ∧ Counts .freG 0 FRE_LOST_COUNT s t)
         ∧ ((∀ e < 64, (s.limWord n.val e 2).getLsbD 23 = false) → ((t.site i).pass, (t.site i).bin) = s.verdict n.val i)
         ∧ (s.fre.store.length < 1024 → SitesBut [i] s t ∧ t.fre.ring = s.fre.ring ∧ t.vs = s.vs ∧ t.meas = s.meas ∧ t.sups = s.sups))
    ∧ (∀ (r : List Byte) (rest : List (List Byte)), s.fre.store = r :: rest → 
       ∃ t, exec .ringWrite s = .next t
         ∧ (s.flag .freG 0 FRE_RING_CFG_EN = true → s.hif.busMaster = true → s.hif.linkUp = true → (s.fld .freG 0 FRE_HEAD + 2 ^ 32 - s.fld .freG 0 FRE_TAIL) % 2 ^ 32 < 2 ^ s.fld .freG 0 FRE_RING_CFG_SIZE_LOG2 → t.fre.store = rest ∧ lookupKey t.fre.ring (s.fld .freG 0 FRE_HEAD % 2 ^ s.fld .freG 0 FRE_RING_CFG_SIZE_LOG2) = some r ∧ t.fld .freG 0 FRE_HEAD = (s.fld .freG 0 FRE_HEAD + 1) % 2 ^ 32 ∧ (t.intStat 0x240000).getLsbD 0 = true)
         ∧ (2 ^ s.fld .freG 0 FRE_RING_CFG_SIZE_LOG2 ≤ (s.fld .freG 0 FRE_HEAD + 2 ^ 32 - s.fld .freG 0 FRE_TAIL) % 2 ^ 32 → t = s)
         ∧ RegsBut ([0x240000 + 0x18, 0x240054, 0x24004c] ++ pbaOffs) s t
         ∧ (t = { s with regs := t.regs, fre := t.fre, hif := { s.hif with sent := t.hif.sent } }))
    ∧ (∀ (v : Word), Acked s 0x240000 2 → 
       ∃ t, exec (.tail v) s = .next t
         ∧ ((s.fld .freG 0 FRE_HEAD + 2 ^ 32 - v.toNat) % 2 ^ 32 ≤ 2 ^ s.fld .freG 0 FRE_RING_CFG_SIZE_LOG2 → t.fld .freG 0 FRE_TAIL = v.toNat)
         ∧ (2 ^ s.fld .freG 0 FRE_RING_CFG_SIZE_LOG2 < (s.fld .freG 0 FRE_HEAD + 2 ^ 32 - v.toNat) % 2 ^ 32 → t.fld .freG 0 FRE_TAIL = s.fld .freG 0 FRE_TAIL ∧ Raised 0x240000 2 2 s t)
         ∧ Reported [0x240000] [0x240050] s t
         ∧ (t = { s with regs := t.regs, hif := t.hif, faults := t.faults, evr := t.evr, free := t.free }))
    ∧ (∀ (p : Bool) (v : Word), 
       ∃ t, exec (.ffrCursorWrite p v) s = .next t
         ∧ (t.fre = (if p then { s.fre with pinSnap := some (s.site s.freSite).pinFails } else { s.fre with ffrSnap := some (s.site s.freSite).ffr }))
         ∧ (p = false → t.fld .freSite 0 FRE_FFR_CURSOR_ENTRY = bitsOf v 9 4 ∧ t.fld .freSite 0 FRE_FFR_CURSOR_WORD = bitsOf v 3 0)
         ∧ (p = true → t.fld .freSite 0 FRE_PIN_CURSOR_PIN = bitsOf v 7 1 ∧ t.fld .freSite 0 FRE_PIN_CURSOR_WORD = bitsOf v 0 0)
         ∧ RegsBut [0x249074, 0x24907c] s t
         ∧ t = { s with regs := t.regs, fre := t.fre })
    ∧ (∀ (p : Bool), 
       ∃ t, exec (.ffrDataRead p) s = .next t
         ∧ (OnlyAnswer (if p then s.pinWord else s.ffrWord) [0x249074, 0x24907c] s t)
         ∧ (p = false → t.fld .freSite 0 FRE_FFR_CURSOR_WORD = if s.fld .freSite 0 FRE_FFR_CURSOR_WORD < 11 then s.fld .freSite 0 FRE_FFR_CURSOR_WORD + 1 else 0)
         ∧ (p = true → t.fld .freSite 0 FRE_PIN_CURSOR_WORD = 1 - s.fld .freSite 0 FRE_PIN_CURSOR_WORD))

/-! ### Chapter 6: sequence programs -/

/-- NOP goes on to the next instruction; VSET sets VP to a vector of a valid segment, or faults VSEG (R194); LOOP pushes its entry and ENDLOOP counts REMAIN_M1 down, restores VP where VPSAVE says so and goes back to START_PC, or pops at 0 (R195); CALL pushes the next PC with the loop depth and RET goes back to it (R196); JUMP goes to its target where its condition holds, popping LPOP loops, once the resolution point of the last vector has been reached (R197, R198). Full and empty stacks fault (R222). -/
def Obligations.ProgramControl : Prop :=
  ∀ (s : State), Serving s →
    (∀ (n : Fin 8), NextOp s n.val .nop → 
       ∃ t, exec (.nop n) s = .next t
         ∧ Completes n.val (s.fld .psq n.val PSQ_PC + 1) s t
         ∧ PsqOnly n.val [baseOf .psq n.val + 0x64] s t)
    ∧ (∀ (n : Fin 8), NextOp s n.val .vset → 
       ∃ t, exec (.vset n) s = .next t
         ∧ (∀ g ∈ s.segment n.val (natBits (s.instr n.val) 43 32), natBits (s.instr n.val) 31 0 ≤ g.lenM1 → Completes n.val (s.fld .psq n.val PSQ_PC + 1) s t ∧ t.vpValid n.val = true ∧ t.vpSeg n.val = natBits (s.instr n.val) 43 32 ∧ t.vpOff n.val = natBits (s.instr n.val) 31 0 ∧ PsqOnly n.val [baseOf .psq n.val + 0x64, baseOf .psq n.val + 0x68, baseOf .psq n.val + 0x6c] s t)
         ∧ (s.segment n.val (natBits (s.instr n.val) 43 32) = none → Faults n.val 4 s t))
    ∧ (∀ (n : Fin 8), NextOp s n.val .loop → 
       ∃ t, exec (.loop n) s = .next t
         ∧ ((s.loopDepth n.val) < 16 → Completes n.val (s.fld .psq n.val PSQ_PC + 1) s t ∧ t.loopDepth n.val = s.loopDepth n.val + 1 ∧ t.fldAt .psq n.val PSQ_LOOP_START_PC (s.loopDepth n.val) = (s.fld .psq n.val PSQ_PC + 1) % 2 ^ 24 ∧ t.fldAt .psq n.val PSQ_LOOP_REMAIN_M1 (s.loopDepth n.val) = natBits (s.instr n.val) 31 0 ∧ t.fldAt .psq n.val PSQ_LOOP_VPSAVE (s.loopDepth n.val) = natBits (s.instr n.val) 48 48 ∧ t.fldAt .psq n.val PSQ_LOOP_VP_SEG (s.loopDepth n.val) = s.vpSeg n.val ∧ t.fldAt .psq n.val PSQ_LOOP_VP_OFF (s.loopDepth n.val) = s.fld .psq n.val PSQ_VP_OFF)
         ∧ ((s.loopDepth n.val) < 16 → PsqOnly n.val ([baseOf .psq n.val + 0x64, baseOf .psq n.val + 0xb0] ++ (List.range 4).map fun j => baseOf .psq n.val + 0x100 + 16 * s.loopDepth n.val + 4 * j) s t)
         ∧ (16 ≤ s.loopDepth n.val → Faults n.val 6 s t))
    ∧ (∀ (n : Fin 8), NextOp s n.val .endloop → 
       ∃ t, exec (.endloop n) s = .next t
         ∧ (0 < s.loopDepth n.val → s.fldAt .psq n.val PSQ_LOOP_REMAIN_M1 (s.loopDepth n.val - 1) = 0 → Completes n.val (s.fld .psq n.val PSQ_PC + 1) s t ∧ t.loopDepth n.val = s.loopDepth n.val - 1 ∧ t.vpOff n.val = s.vpOff n.val)
         ∧ (0 < s.loopDepth n.val → s.fldAt .psq n.val PSQ_LOOP_REMAIN_M1 (s.loopDepth n.val - 1) ≠ 0 → Completes n.val (s.fldAt .psq n.val PSQ_LOOP_START_PC (s.loopDepth n.val - 1)) s t ∧ t.loopDepth n.val = s.loopDepth n.val ∧ t.fldAt .psq n.val PSQ_LOOP_REMAIN_M1 (s.loopDepth n.val - 1) = s.fldAt .psq n.val PSQ_LOOP_REMAIN_M1 (s.loopDepth n.val - 1) - 1 ∧ t.fld .psq n.val PSQ_VP_OFF = if s.fldAt .psq n.val PSQ_LOOP_VPSAVE (s.loopDepth n.val - 1) = 1 then s.fldAt .psq n.val PSQ_LOOP_VP_OFF (s.loopDepth n.val - 1) else s.fld .psq n.val PSQ_VP_OFF)
         ∧ (0 < s.loopDepth n.val → PsqOnly n.val ([baseOf .psq n.val + 0x64, baseOf .psq n.val + 0xb0, baseOf .psq n.val + 0x68, baseOf .psq n.val + 0x6c] ++ (List.range 4).map fun j => baseOf .psq n.val + 0x100 + 16 * (s.loopDepth n.val - 1) + 4 * j) s t)
         ∧ (s.loopDepth n.val = 0 → Faults n.val 7 s t))
    ∧ (∀ (n : Fin 8), NextOp s n.val .jump → natBits (s.instr n.val) 55 52 ≤ 6 → natBits (s.instr n.val) 51 48 ≤ s.loopDepth n.val → 
       ∃ t, exec (.jump n) s = .next t
         ∧ (natBits (s.instr n.val) 55 52 = 0 ∨ s.needWait n.val = false → s.condHolds n.val (natBits (s.instr n.val) 55 52) = true → natBits (s.instr n.val) 51 48 ≤ s.loopDepth n.val → Completes n.val (natBits (s.instr n.val) 23 0) s t ∧ t.loopDepth n.val = s.loopDepth n.val - natBits (s.instr n.val) 51 48)
         ∧ (natBits (s.instr n.val) 55 52 = 0 ∨ s.needWait n.val = false → s.condHolds n.val (natBits (s.instr n.val) 55 52) = false → Completes n.val (s.fld .psq n.val PSQ_PC + 1) s t ∧ t.loopDepth n.val = s.loopDepth n.val)
         ∧ (natBits (s.instr n.val) 55 52 ≠ 0 → s.needWait n.val = true → (t.psq n.val).hold = .resolve ∧ t.fld .psq n.val PSQ_PC = s.fld .psq n.val PSQ_PC ∧ t.fld .psq n.val PSQ_STAT_RUNSTATE = 6)
         ∧ PsqsBut [n.val] s t ∧ t = { s with regs := t.regs, psqs := t.psqs }
         ∧ t.vcount n.val = s.vcount n.val ∧ t.vpOff n.val = s.vpOff n.val)
    ∧ (∀ (n : Fin 8), NextOp s n.val .call → 
       ∃ t, exec (.call n) s = .next t
         ∧ (s.callDepth n.val < 16 → Completes n.val (natBits (s.instr n.val) 23 0) s t ∧ t.callDepth n.val = s.callDepth n.val + 1 ∧ t.fldAt .psq n.val PSQ_CALL_RET_PC (s.callDepth n.val) = (s.fld .psq n.val PSQ_PC + 1) % 2 ^ 24 ∧ t.fldAt .psq n.val PSQ_CALL_LOOP_DEPTH (s.callDepth n.val) = s.loopDepth n.val ∧ PsqOnly n.val [baseOf .psq n.val + 0x64, baseOf .psq n.val + 0xb0, baseOf .psq n.val + 0x200 + 4 * s.callDepth n.val] s t)
         ∧ (16 ≤ s.callDepth n.val → Faults n.val 8 s t))
    ∧ (∀ (n : Fin 8), NextOp s n.val .ret → 
       ∃ t, exec (.ret n) s = .next t
         ∧ (0 < s.callDepth n.val → s.fldAt .psq n.val PSQ_CALL_LOOP_DEPTH (s.callDepth n.val - 1) = s.loopDepth n.val → Completes n.val (s.fldAt .psq n.val PSQ_CALL_RET_PC (s.callDepth n.val - 1)) s t ∧ t.callDepth n.val = s.callDepth n.val - 1 ∧ PsqOnly n.val [baseOf .psq n.val + 0x64, baseOf .psq n.val + 0xb0, baseOf .psq n.val + 0x200 + 4 * (s.callDepth n.val - 1)] s t)
         ∧ (s.callDepth n.val = 0 → Faults n.val 9 s t)
         ∧ (0 < s.callDepth n.val → s.fldAt .psq n.val PSQ_CALL_LOOP_DEPTH (s.callDepth n.val - 1) ≠ s.loopDepth n.val → Faults n.val 10 s t))

/-- RUN and APG emit N_M1 + 1 vectors before the next instruction (R193, R242); MATCH emits iterations for the active sites, each of which has no match yet, and emits nothing where there is none (R199); PAUSEPT holds the output where a pause request is pending (R213); EPOCHWAIT holds it up to its target, or goes on with LATEWAIT where the target has passed (R202); HALT fixes the burst's end (R209). An EPOCHWAIT target, a resolution point and a withdrawn pause end the hold (R200, R202, R214). -/
def Obligations.EmissionsAndWaits : Prop :=
  ∀ (s : State), Serving s →
    (∀ (n : Fin 8), NextOp s n.val .run → 
       ∃ t, exec (.run n) s = .next t
         ∧ Emits n.val ⟨0, natBits (s.instr n.val) 31 0 + 1, .seg true none⟩ s t
         ∧ PsqOnly n.val [] s t)
    ∧ (∀ (n : Fin 8), NextOp s n.val .apg → 
       ∃ t, exec (.apg n) s = .next t
         ∧ Emits n.val ⟨0, natBits (s.instr n.val) 31 0 + 1, .apg (natBits (s.instr n.val) 39 32) (natBits (s.instr n.val) 47 40) (natBits (s.instr n.val) 48 48 == 1) 0⟩ s t
         ∧ PsqOnly n.val [] s t)
    ∧ (∀ (n : Fin 8), NextOp s n.val .matchVec → 
       ∃ t, exec (.matchVec n) s = .next t
         ∧ ((s.vpSegment n.val 0).isSome = true → s.activeSites n.val ≠ [] → Emits n.val ⟨0, natBits (s.instr n.val) 31 0 + 1, .iter (natBits (s.instr n.val) 51 48) (natBits (s.instr n.val) 52 52 == 1)⟩ s t)
         ∧ ((s.vpSegment n.val 0).isSome = true → ∀ i ∈ s.sitesOf n.val, (t.site i).matchIter = none ∧ (t.site i).inMatch = s.siteActive i)
         ∧ ((s.vpSegment n.val 0).isSome = true → s.activeSites n.val = [] → Completes n.val (s.fld .psq n.val PSQ_PC + 1) s t ∧ t.vpOff n.val = s.vpOff n.val + 1)
         ∧ (s.vpSegment n.val 0 = none → Faults n.val 5 s t))
    ∧ (∀ (n : Fin 8), NextOp s n.val .pausept → 
       ∃ t, exec (.pausept n) s = .next t
         ∧ (s.pauseAsked n.val = true → (t.psq n.val).hold = .pause ∧ t.fld .psq n.val PSQ_STAT_RUNSTATE = 3 ∧ t.fld .psq n.val PSQ_PAUSE_STAT_LAST_ID = natBits (s.instr n.val) 15 0 ∧ (t.intStat (pageBase .psq n.val)).getLsbD 4 = true)
         ∧ (s.pauseAsked n.val = false → Completes n.val (s.fld .psq n.val PSQ_PC + 1) s t)
         ∧ t.sites = s.sites ∧ t.epc = s.epc ∧ t.vcount n.val = s.vcount n.val)
    ∧ (∀ (n : Fin 8), NextOp s n.val .epochwait → natBits (s.instr n.val) 48 48 = 0 ∨ s.epc.valid = true → 
       ∃ t, exec (.epochwait n) s = .next t
         ∧ (((s.psq n.val).t : Int) < s.waitTarget n.val (s.instr n.val) → natBits (s.instr n.val) 49 49 = 0 → (t.psq n.val).hold = .epoch (s.waitTarget n.val (s.instr n.val)).toNat ∧ t.fld .psq n.val PSQ_STAT_RUNSTATE = 6)
         ∧ (s.waitTarget n.val (s.instr n.val) ≤ ((s.psq n.val).t : Int) → Completes n.val (s.fld .psq n.val PSQ_PC + 1) s t ∧ Counts .psq n.val PSQ_LATEWAIT_COUNT s t ∧ (t.intStat (pageBase .psq n.val)).getLsbD 8 = true)
         ∧ t.sites = s.sites ∧ t.epc = s.epc ∧ t.vcount n.val = s.vcount n.val)
    ∧ (∀ (n : Fin 8), NextOp s n.val .halt → 
       ∃ t, exec (.halt n) s = .next t
         ∧ (t.psq n.val).ending = some (1, 0, 0) ∧ t.fld .psq n.val PSQ_STAT_RUNSTATE = 8 ∧ t.fld .psq n.val PSQ_PC = s.fld .psq n.val PSQ_PC
         ∧ PsqOnly n.val [baseOf .psq n.val + 0x14] s t)
    ∧ (∀ (n : Fin 8) (g : Nat), s.bursting n.val = true → s.stopDue n.val = false → (s.psq n.val).hold = .epoch g → (s.psq n.val).micro = none → 
       ∃ t, exec (.epochwaitTarget n) s = .next t
         ∧ (t.psq n.val).hold = .none ∧ (t.psq n.val).t = (s.psq n.val).t + (g - (s.psq n.val).t) ∧ t.fld .psq n.val PSQ_STAT_RUNSTATE = 2 ∧ t.fld .psq n.val PSQ_PC = (s.fld .psq n.val PSQ_PC + 1) % 2 ^ 24
         ∧ PsqOnly n.val [baseOf .psq n.val + 0x64, baseOf .psq n.val + 0x14, baseOf .psq n.val + 0x78, baseOf .psq n.val + 0x7c] s t)
    ∧ (∀ (n : Fin 8), s.bursting n.val = true → s.stopDue n.val = false → (s.psq n.val).hold = .resolve → s.outcomesDue n.val = false → (s.psq n.val).micro = none → opFunc (opcodeOf (s.instr n.val)) = some .jump → s.fetchPc n.val = .word (s.instr n.val) → 
       ∃ t, exec (.resolutionPoint n) s = .next t
         ∧ (t.psq n.val).hold = .none ∧ resolution (s.psq n.val).recent ≤ (t.psq n.val).t
         ∧ (opFunc (opcodeOf (s.instr n.val)) = some .jump → natBits (s.instr n.val) 55 52 ≤ 6 → natBits (s.instr n.val) 51 48 ≤ s.loopDepth n.val → t.fld .psq n.val PSQ_PC = if s.condHolds n.val (natBits (s.instr n.val) 55 52) then natBits (s.instr n.val) 23 0 else (s.fld .psq n.val PSQ_PC + 1) % 2 ^ 24)
         ∧ t.vcount n.val = s.vcount n.val)
    ∧ (∀ (n : Fin 8), s.bursting n.val = true → s.stopDue n.val = false → (s.psq n.val).hold = .pause → s.pauseAsked n.val = false → (s.psq n.val).micro = none → 
       ∃ t, exec (.pauseRelease n) s = .next t
         ∧ (t.psq n.val).hold = .none ∧ (t.psq n.val).t = (s.psq n.val).t + (s.behind n.val + 16) ∧ t.fld .psq n.val PSQ_PC = (s.fld .psq n.val PSQ_PC + 1) % 2 ^ 24 ∧ t.fld .psq n.val PSQ_STAT_RUNSTATE = 2
         ∧ PsqOnly n.val [baseOf .psq n.val + 0x64, baseOf .psq n.val + 0x14, baseOf .psq n.val + 0x78, baseOf .psq n.val + 0x7c] s t)

/-- A SITEOP acts on the active sites that COND selects, once the resolution point has been reached: ALU puts its result in D, or a comparison in SF (R272); OUTCOME copies LF to SF and may clear LF (R270); STATE masks, unmasks or retires with cause SITEOP (R273); MWAIT holds the output while a request of its group is outstanding, and its timeout cancels what is left (R274); SUBST captures its values and emits its vectors, and a site whose overlay range does not fit is retired (R276). Reserved fields and bad descriptors fault SITEOP with SFB_SOFAULT (R275). -/
def Obligations.SiteOperations : Prop :=
  ∀ (s : State), Serving s →
    (∀ (n : Fin 8), NextOp s n.val .siteop → subOf (s.instr n.val) = 1 → natBits (s.instr n.val) 50 49 ≠ 3 → natBits (s.instr n.val) 43 40 ≠ 15 → s.needWait n.val = false → 
       ∃ t, exec (.alu n) s = .next t
         ∧ (∀ i ∈ s.selected n.val (natBits (s.instr n.val) 50 49), aluTests (natBits (s.instr n.val) 43 40) = false → t.siteReg i (natBits (s.instr n.val) 39 36) = (aluValue (natBits (s.instr n.val) 43 40) (BitVec.ofNat 32 (s.siteReg i (natBits (s.instr n.val) 35 32))) (if natBits (s.instr n.val) 48 48 = 1 then BitVec.ofNat 32 (natBits (s.instr n.val) 31 0) else BitVec.ofNat 32 (s.siteReg i (natBits (s.instr n.val) 3 0)))).toNat)
         ∧ (∀ i ∈ s.selected n.val (natBits (s.instr n.val) 50 49), aluTests (natBits (s.instr n.val) 43 40) = true → t.flag .site i SITE_STATE_SF = aluFlag (natBits (s.instr n.val) 43 40) (BitVec.ofNat 32 (s.siteReg i (natBits (s.instr n.val) 35 32))) (if natBits (s.instr n.val) 48 48 = 1 then BitVec.ofNat 32 (natBits (s.instr n.val) 31 0) else BitVec.ofNat 32 (s.siteReg i (natBits (s.instr n.val) 3 0))))
         ∧ (∀ i < 256, i ∉ s.selected n.val (natBits (s.instr n.val) 50 49) → t.rd (baseOf .site i + 0x4C) = s.rd (baseOf .site i + 0x4C) ∧ ∀ r < 16, t.siteReg i r = s.siteReg i r)
         ∧ Completes n.val (s.fld .psq n.val PSQ_PC + 1) s t
         ∧ PsqsBut [n.val] s t ∧ t = { s with regs := t.regs, psqs := t.psqs })
    ∧ (∀ (n : Fin 8), NextOp s n.val .siteop → subOf (s.instr n.val) = 2 → natBits (s.instr n.val) 50 49 ≠ 3 → s.needWait n.val = false → 
       ∃ t, exec (.outcome n) s = .next t
         ∧ (∀ i ∈ s.selected n.val (natBits (s.instr n.val) 50 49), t.fld .site i SITE_STATE_SF = s.fld .site i SITE_STATE_LF ∧ t.fld .site i SITE_STATE_LF = if natBits (s.instr n.val) 48 48 = 1 then 0 else s.fld .site i SITE_STATE_LF)
         ∧ Completes n.val (s.fld .psq n.val PSQ_PC + 1) s t
         ∧ (RegsBut (pcnOffs n.val ++ [baseOf .psq n.val + 0x64] ++ (s.selected n.val (natBits (s.instr n.val) 50 49)).map fun i => baseOf .site i + 0x4C) s t)
         ∧ PsqsBut [n.val] s t ∧ t = { s with regs := t.regs, psqs := t.psqs })
    ∧ (∀ (n : Fin 8), NextOp s n.val .siteop → subOf (s.instr n.val) = 3 → natBits (s.instr n.val) 50 49 ≠ 3 → s.needWait n.val = false → 
       ∃ t, exec (.siteState n) s = .next t
         ∧ (natBits (s.instr n.val) 43 40 = 0 → ∀ i ∈ s.selected n.val (natBits (s.instr n.val) 50 49), t.siteMasked i = true)
         ∧ (natBits (s.instr n.val) 43 40 = 1 → ∀ i ∈ s.sitesOf n.val, s.siteRetired i = false → s.sfMeets (natBits (s.instr n.val) 50 49) i = true → t.siteMasked i = false)
         ∧ (natBits (s.instr n.val) 43 40 = 2 → ∀ i ∈ s.selected n.val (natBits (s.instr n.val) 50 49), t.siteRetired i = true ∧ t.fld .site i SITE_STATE_CAUSE = 2)
         ∧ (natBits (s.instr n.val) 43 40 ≤ 2 → t.fld .psq n.val PSQ_PC = (s.fld .psq n.val PSQ_PC + 1) % 2 ^ 24 ∧ t.vcount n.val = s.vcount n.val)
         ∧ (2 < natBits (s.instr n.val) 43 40 → Faults n.val 18 s t ∧ t.fld .sfb 0 SFB_SOFAULT_CAUSE = 1 ∧ t.fld .sfb 0 SFB_SOFAULT_PSQ = n.val))
    ∧ (∀ (n : Fin 8), NextOp s n.val .siteop → subOf (s.instr n.val) = 4 → 
       ∃ t, exec (.mwait n) s = .next t
         ∧ (s.outstanding n.val (natBits (s.instr n.val) 39 32) = true → (t.psq n.val).hold = .mwait (natBits (s.instr n.val) 39 32) ((s.psq n.val).t + natBits (s.instr n.val) 31 0 + 1) ∧ t.fld .psq n.val PSQ_STAT_RUNSTATE = 6)
         ∧ (s.outstanding n.val (natBits (s.instr n.val) 39 32) = false → Completes n.val (s.fld .psq n.val PSQ_PC + 1) s t)
         ∧ PsqOnly n.val [baseOf .psq n.val + 0x64, baseOf .psq n.val + 0x14] s t)
    ∧ (∀ (n : Fin 8) (g d : Nat), s.bursting n.val = true → s.stopDue n.val = false → (s.psq n.val).hold = .mwait g d → (s.psq n.val).micro = none → 
       ∃ t, exec (.mwaitTimeout n) s = .next t
         ∧ (t.psq n.val).hold = .none ∧ (t.psq n.val).t = max (s.psq n.val).t d ∧ t.fld .psq n.val PSQ_PC = (s.fld .psq n.val PSQ_PC + 1) % 2 ^ 24
         ∧ (∀ b < 24, ∀ r ∈ (s.measOf b).reqs, s.awaits b n.val g r = true → ∀ q ∈ (t.measOf b).reqs, q.same r = false)
         ∧ t.vcount n.val = s.vcount n.val)
    ∧ (∀ (n : Fin 8), NextOp s n.val .siteop → subOf (s.instr n.val) = 0 → 
       ∃ t, exec (.subst n) s = .next t
         ∧ (s.descFault n.val (natBits (s.instr n.val) 39 35) ((natBits (s.instr n.val) 31 0 + 1) * onesIn 128 (s.descMask (natBits (s.instr n.val) 39 35))) = none → s.descReg (natBits (s.instr n.val) 39 35) = false → Emits n.val ⟨0, natBits (s.instr n.val) 31 0 + 1, .seg true (some ⟨natBits (s.instr n.val) 39 35, 0, (((s.sitesOf n.val).filter fun i => !s.siteRetired i).filter fun i => decide (s.ovlOff (natBits (s.instr n.val) 39 35) i + ceilDiv ((natBits (s.instr n.val) 31 0 + 1) * onesIn 128 (s.descMask (natBits (s.instr n.val) 39 35))) 4 ≤ 4096)).map fun i => (i, s.ovlOff (natBits (s.instr n.val) 39 35) i)⟩)⟩ s t)
         ∧ (s.descFault n.val (natBits (s.instr n.val) 39 35) ((natBits (s.instr n.val) 31 0 + 1) * onesIn 128 (s.descMask (natBits (s.instr n.val) 39 35))) = none → s.descReg (natBits (s.instr n.val) 39 35) = false → ∀ i ∈ s.sitesOf n.val, s.siteRetired i = false → 4096 < s.ovlOff (natBits (s.instr n.val) 39 35) i + ceilDiv ((natBits (s.instr n.val) 31 0 + 1) * onesIn 128 (s.descMask (natBits (s.instr n.val) 39 35))) 4 → t.siteRetired i = true ∧ t.fld .site i SITE_STATE_CAUSE = 5 ∧ t.flag .site i SITE_STATE_OVL_RANGE = true)
         ∧ (s.descReg (natBits (s.instr n.val) 39 35) = true → natBits (s.instr n.val) 50 49 ≠ 3 → s.needWait n.val = false → s.descFault n.val (natBits (s.instr n.val) 39 35) ((natBits (s.instr n.val) 31 0 + 1) * onesIn 128 (s.descMask (natBits (s.instr n.val) 39 35))) = none → Emits n.val ⟨0, natBits (s.instr n.val) 31 0 + 1, .seg true (some ⟨natBits (s.instr n.val) 39 35, 0, (s.selected n.val (natBits (s.instr n.val) 50 49)).map fun i => (i, s.siteReg i (bitsOf (s.descWord (natBits (s.instr n.val) 39 35) 4) 27 24))⟩)⟩ s t)
         ∧ (∀ c ∈ s.descFault n.val (natBits (s.instr n.val) 39 35) ((natBits (s.instr n.val) 31 0 + 1) * onesIn 128 (s.descMask (natBits (s.instr n.val) 39 35))), s.descReg (natBits (s.instr n.val) 39 35) = false → Faults n.val 18 s t ∧ t.fld .sfb 0 SFB_SOFAULT_CAUSE = c))

/-- A vector of a segment whose words are in the vector cache begins at its due time: PSQ_VCOUNT counts it, and the next is due one period of its timing set later; the last of an emission completes its instruction (R157, R193, R203). Where its words are missing, a pausable segment stalls (R217) and another sends a hold vector, whose period counts in PSQ_STALLCYC (R158, R218); never-written words and an invalid timing set fault (R156, R221). A site's outcomes are delivered once each, and a vector with a FAIL counts in FAILS and sets LF (R137, R269, R324). A MATCH ends once every active site has matched (R199). -/
def Obligations.VectorsAndOutcomes : Prop :=
  ∀ (s : State), Serving s →
    (∀ (n : Fin 8) (d c ts : Nat) (g : Segment) (bs : List Byte), s.bursting n.val = true → (s.psq n.val).hold = .none → s.stopDue n.val = false → (s.psq n.val).atEnd = false → 0 ≤ (s.psq n.val).slots → (s.psq n.val).micro = none → (s.psq n.val).emit = some ⟨d, c, .seg true none⟩ → s.vpSegment n.val d = some g → s.fetchVector n.val g (s.vpOff n.val + d) = .bytes bs → (∀ x ∈ (wordsOf (g.wM1 + 1) bs).2, x = ts) → s.periodV n.val ts = true → s.vpOff n.val + c < 2 ^ 33 → 
       ∃ t, exec (.vectorPeriod n) s = .next t
         ∧ t.vcount n.val = (s.vcount n.val + 1) % 2 ^ 64 ∧ (t.psq n.val).now = (s.psq n.val).t ∧ (t.psq n.val).t = (s.psq n.val).t + s.period n.val ts
         ∧ (d + 1 < c → (t.psq n.val).emit = some ⟨d + 1, c, .seg true none⟩ ∧ t.fld .psq n.val PSQ_PC = s.fld .psq n.val PSQ_PC ∧ t.vpOff n.val = s.vpOff n.val)
         ∧ (c ≤ d + 1 → (t.psq n.val).emit = none ∧ t.fld .psq n.val PSQ_PC = (s.fld .psq n.val PSQ_PC + 1) % 2 ^ 24 ∧ t.vpOff n.val = s.vpOff n.val + c)
         ∧ t.fld .psq n.val PSQ_STAT_RUNSTATE = 2 ∧ (t.psq n.val).atEnd = decide (s.vpOff n.val + d = g.lenM1)
         ∧ t.vs = s.vs ∧ t.overlay = s.overlay ∧ t.epc = s.epc)
    ∧ (∀ (n : Fin 8) (d c b : Nat) (g : Segment), s.bursting n.val = true → (s.psq n.val).hold = .none → s.stopDue n.val = false → (s.psq n.val).atEnd = false → 0 ≤ (s.psq n.val).slots → (s.psq n.val).micro = none → (s.psq n.val).emit = some ⟨d, c, .seg true none⟩ → s.vpSegment n.val d = some g → s.fetchVector n.val g (s.vpOff n.val + d) = .miss b → (s.psq n.val).missed = none → 
       ∃ t, exec (.vectorPeriod n) s = .next t
         ∧ (g.pausable = true → (t.psq n.val).hold = .stall ∧ t.fld .psq n.val PSQ_STAT_RUNSTATE = 4 ∧ Counts .psq n.val PSQ_STALLS_COUNT s t ∧ (t.psq n.val).t = (s.psq n.val).t)
         ∧ (g.pausable = false → (t.psq n.val).hold = .none ∧ t.fld .psq n.val PSQ_STAT_RUNSTATE = 5 ∧ Counts .psq n.val PSQ_UNDERRUN_COUNT s t ∧ (t.psq n.val).t = (s.psq n.val).t + s.period n.val (s.holdSet n.val) ∧ t.fld .psq n.val PSQ_STALLCYC_LO + 2 ^ 32 * t.fld .psq n.val PSQ_STALLCYC_HI = (s.fld .psq n.val PSQ_STALLCYC_LO + 2 ^ 32 * s.fld .psq n.val PSQ_STALLCYC_HI + s.period n.val (s.holdSet n.val)) % 2 ^ 64)
         ∧ t.vcount n.val = s.vcount n.val ∧ (t.psq n.val).emit = (s.psq n.val).emit ∧ t.pins = s.pins ∧ (b ∈ (t.psq n.val).asked))
    ∧ (∀ (n : Fin 8) (d c : Nat) (g : Segment), s.bursting n.val = true → (s.psq n.val).hold = .none → s.stopDue n.val = false → (s.psq n.val).atEnd = false → 0 ≤ (s.psq n.val).slots → (s.psq n.val).micro = none → (s.psq n.val).emit = some ⟨d, c, .seg true none⟩ → s.vpSegment n.val d = some g → s.fetchVector n.val g (s.vpOff n.val + d) = .unwritten → 
       ∃ t, exec (.vectorPeriod n) s = .next t
         ∧ Faults n.val 13 s t ∧ t.vcount n.val = s.vcount n.val ∧ t.pins = s.pins)
    ∧ (∀ (i : Fin 256) (obs : List PinObs) (n : Nat) (v : VecInfo), s.sitePsq i.val = some n → s.nextOutcome n i.val = some v → (∀ p ∈ s.sitePins i.val, (s.pin p.2).compares.all (fun c => c.phase != .lost) = true ∧ (s.pin p.2).compares.length ≤ 1) → (s.psq n).mtch = none → 
       ∃ t, exec (.outcomeDelivery i obs) s = .next t
         ∧ (t.site i.val).nextVec = v.idx + 1
         ∧ (∀ p ∈ s.sitePins i.val, ∀ c ∈ (t.pin p.2).compares, c.vec ≠ v.idx)
         ∧ (v.iter = none → (t.site i.val).cmps = if (s.reports i.val v.idx obs).2.any (fun r => r.2 == .pass || r.2 == .fail) then satCount (s.site i.val).cmps 1 else (s.site i.val).cmps)
         ∧ (v.iter = none → (s.reports i.val v.idx obs).2.any (fun r => r.2 == .fail) = true → (t.site i.val).fails = satCount (s.site i.val).fails 1 ∧ t.flag .site i.val SITE_STATE_LF = true ∧ (t.site i.val).failed = true)
         ∧ (v.iter = none → (s.reports i.val v.idx obs).2.any (fun r => r.2 == .fail) = false → (t.site i.val).fails = (s.site i.val).fails)
         ∧ SitesBut [i.val] s t
         ∧ t.vcount n = s.vcount n ∧ t.vs = s.vs)
    ∧ (∀ (n : Fin 8), s.bursting n.val = true → s.stopDue n.val = false → (s.psq n.val).hold = .stall → s.itemReady n.val = true → 
       ∃ t, exec (.stallResume n) s = .next t
         ∧ (t.psq n.val).hold = .none ∧ (t.psq n.val).t = (s.psq n.val).t + (s.behind n.val + 16) ∧ t.fld .psq n.val PSQ_STAT_RUNSTATE = 2
         ∧ PsqOnly n.val [baseOf .psq n.val + 0x14, baseOf .psq n.val + 0x78, baseOf .psq n.val + 0x7c] s t)
    ∧ (∀ (n : Fin 8) (d c r : Nat) (f : Bool), s.bursting n.val = true → (s.psq n.val).hold = .none → (s.psq n.val).micro = none → (s.psq n.val).emit = some ⟨d, c, .iter r f⟩ → (s.psq n.val).mtch.isSome = true → s.iterDue n.val = false → s.matchAll n.val = true ∨ c ≤ d → s.vpOff n.val < 2 ^ 32 → 
       ∃ t, exec (.matchEnd n) s = .next t
         ∧ (t.psq n.val).emit = none ∧ t.vpOff n.val = s.vpOff n.val + 1 ∧ t.fld .psq n.val PSQ_PC = (s.fld .psq n.val PSQ_PC + 1) % 2 ^ 24 ∧ t.fld .psq n.val PSQ_STAT_RUNSTATE = 2
         ∧ t.vcount n.val = s.vcount n.val ∧ t.pins = s.pins)

/-- The period table, the program registers and the APG's registers and tables take a write while their PSQ is not running; a write while it runs is ignored with its class, and one to sealed content sets ACCESS_DENIED (R160, R205, R247). The edge window shows the sixteen timing sets of PEC_TS_GROUP and takes a write while the channel is not running (R178 to R180); a deskew that waits is applied where the channel is not ACTIVE (R166). The scramble and topology windows advance their cursors with each access (R243, R244). -/
def Obligations.TimingTables : Prop :=
  ∀ (s : State), Serving s →
    (∀ (n : Fin 8) (e : Fin 256) (v : Word), 
       ∃ t, exec (.periodWrite n e v) s = .next t
         ∧ (s.psqSealedTo n.val = false → s.psqRunning n.val = false → t.periodV n.val e.val = v.getLsbD 31 ∧ t.fldAt .psq n.val PSQ_PERIOD_PERIOD_M1 e.val = bitsOf v 15 0)
         ∧ (s.psqSealedTo n.val = false → s.psqRunning n.val = true → Raised (pageBase .psq n.val) 8 1 s t ∧ t.rd (baseOf .psq n.val + 0x800 + 4 * e.val) = s.rd (baseOf .psq n.val + 0x800 + 4 * e.val))
         ∧ Reported [pageBase .psq n.val] [baseOf .psq n.val + 0x800 + 4 * e.val] s t
         ∧ (t = { s with regs := t.regs, hif := t.hif, faults := t.faults, evr := t.evr, free := t.free }))
    ∧ (∀ (n : Fin 8) (o : Nat) (v : Word), o ∈ [0x40, 0x44, 0x48, 0x4C, 0x50, 0x54, 0x58] → 
       ∃ t, exec (.progRegisterWrite n o v) s = .next t
         ∧ (s.psqSealedTo n.val = false → s.psqRunning n.val = false → (o = 0x40 → t.rd (pageBase .psq n.val + o) = v) ∧ (o = 0x48 → t.fld .psq n.val PSQ_PROG_LEN = bitsOf v 24 0) ∧ (o = 0x4C → t.fld .psq n.val PSQ_ENTRY_PC = bitsOf v 23 0) ∧ (o = 0x50 → t.rd (pageBase .psq n.val + o) = v) ∧ (o = 0x58 → t.fld .psq n.val PSQ_SEGTAB_LEN = bitsOf v 12 0) ∧ (o = 0x44 → t.fld .psq n.val PSQ_PROG_VA_HI = bitsOf v 7 0) ∧ (o = 0x54 → t.fld .psq n.val PSQ_SEGTAB_VA_HI = bitsOf v 7 0))
         ∧ (s.psqSealedTo n.val = false → s.psqRunning n.val = true → Raised (pageBase .psq n.val) 9 1 s t ∧ t.rd (pageBase .psq n.val + o) = s.rd (pageBase .psq n.val + o))
         ∧ Reported [pageBase .psq n.val] [pageBase .psq n.val + o] s t
         ∧ (t = { s with regs := t.regs, hif := t.hif, faults := t.faults, evr := t.evr, free := t.free }))
    ∧ (∀ (k : Fin 768) (o : Nat) (v : Word), o = 0x400 ∨ o = 0x40C ∨ (0x500 ≤ o ∧ o < 0x700 ∧ o % 4 = 0) → 
       ∃ t, exec (.edgeWindowWrite k o v) s = .next t
         ∧ (s.sealedTo k.val s.role = false → s.pinRunning k.val = false → 0x500 ≤ o → t.edgeWord k.val (s.edgeAt k.val o).1 (s.edgeAt k.val o).2 = edgeMask (s.edgeAt k.val o).2 v)
         ∧ (s.pinRunning k.val = false → o = 0x400 → t.fld .pec k.val PEC_TS_GROUP = bitsOf v 3 0)
         ∧ (s.pinRunning k.val = false → o = 0x40C → t.fld .pec k.val PEC_FIXTURE_FIX = bitsOf v 15 0)
         ∧ (s.sealedTo k.val s.role = false → s.pinRunning k.val = true → t.edgeTab = s.edgeTab ∧ Raised (pageBase .pec k.val) 2 1 s t ∧ (t.intStat (pageBase .pec k.val)).getLsbD 1 = true)
         ∧ Reported [pageBase .pec k.val] [baseOf .pec k.val + 0x400, baseOf .pec k.val + 0x40c] s t
         ∧ (t = { s with regs := t.regs, hif := t.hif, faults := t.faults, evr := t.evr, free := t.free, edgeTab := t.edgeTab, banks := t.banks }))
    ∧ (∀ (k : Fin 768), 
       ∃ t, exec (.deskewApply k) s = .next t
         ∧ (s.pinState k.val ≠ 2 → ∀ d ∈ (s.pin k.val).deskew, t.fld .pec k.val PEC_DESKEW_DRV = d.1 % 2 ^ 16 ∧ t.fld .pec k.val PEC_DESKEW_CMP = d.2 % 2 ^ 16 ∧ t.flag .pec k.val PEC_DESKEW_STAT_PENDING = false ∧ (t.pin k.val).deskew = none)
         ∧ (s.pinState k.val = 2 ∨ (s.pin k.val).deskew = none → t = s)
         ∧ RegsBut [baseOf .pec k.val + 0x404, baseOf .pec k.val + 0x408] s t
         ∧ t = { s with regs := t.regs, pins := t.pins })
    ∧ (∀ (n : Fin 8) (o : Nat) (v : Word), o % 4 = 0 → (0x40 ≤ o ∧ o < 0xE0) ∨ (0x800 ≤ o ∧ o < 0x1000) → 
       ∃ t, exec (.apgRegisterWrite n o v) s = .next t
         ∧ (s.apgSealed n.val = false → s.psqRunning n.val = false → (o < 0xE0 → 0x60 ≤ o → (o - 0x60) % 0x20 < 0x18 → o % 8 = 0 → t.regs = s.regs ∧ lookupKey t.hif.lowBuf (baseOf .apg n.val + o) = some v) ∧ ((0xE0 ≤ o ∨ o < 0x60 ∨ 0x18 ≤ (o - 0x60) % 0x20 ∨ o % 8 = 4) → t.rd (baseOf .apg n.val + o) = v))
         ∧ (s.apgSealed n.val = false → s.psqRunning n.val = true → Raised (pageBase .apg n.val) 2 1 s t ∧ (t.intStat (pageBase .apg n.val)).getLsbD 1 = true ∧ t.rd (baseOf .apg n.val + o) = s.rd (baseOf .apg n.val + o))
         ∧ RegsBut ([pageBase .apg n.val + 0x18, baseOf .apg n.val + o, baseOf .apg n.val + (o - 4)] ++ pbaOffs ++ evrOffs) s t ∧ FaultsBut [pageBase .apg n.val] s t
         ∧ (t = { s with regs := t.regs, hif := t.hif, faults := t.faults, evr := t.evr, free := t.free }))
    ∧ (∀ (n : Fin 8) (v : Word), 
       ∃ t, exec (.apgScrDataAccess n (some v)) s = .next t
         ∧ t.fld .apg n.val APG_SCR_CUR_INDEX = (s.fld .apg n.val APG_SCR_CUR_INDEX + 1) % 4096
         ∧ (s.apgSealed n.val = false → s.psqRunning n.val = false → t.scramble = mapSet (fun i => i % 4096) s.scramble (4096 * n.val + s.fld .apg n.val APG_SCR_CUR_INDEX) (bitsOf v 11 0))
         ∧ (s.apgSealed n.val = true ∨ s.psqRunning n.val = true → t.scramble = s.scramble)
         ∧ Reported [pageBase .apg n.val] [baseOf .apg n.val + 0xe0] s t
         ∧ (t = { s with regs := t.regs, hif := t.hif, faults := t.faults, evr := t.evr, free := t.free, scramble := t.scramble }))
    ∧ (∀ (n : Fin 8), 
       ∃ t, exec (.apgScrDataAccess n none) s = .next t
         ∧ (s.apgSealed n.val = false → OnlyAnswer (BitVec.ofNat 32 (mapGet (fun i => i % 4096) s.scramble (4096 * n.val + s.fld .apg n.val APG_SCR_CUR_INDEX))) [baseOf .apg n.val + 0xe0] s t)
         ∧ (s.apgSealed n.val = true → t.hif.resp = .words [0] ∧ t.intStat (pageBase .apg n.val) = s.intStat (pageBase .apg n.val) ||| 0x40000000)
         ∧ t.fld .apg n.val APG_SCR_CUR_INDEX = (s.fld .apg n.val APG_SCR_CUR_INDEX + 1) % 4096)
    ∧ (∀ (n : Fin 8) (v : Word), 
       ∃ t, exec (.apgTopoDataAccess n (some v)) s = .next t
         ∧ 128 * t.fld .apg n.val APG_TOPO_CUR_MAP + t.fld .apg n.val APG_TOPO_CUR_PIN = (128 * s.fld .apg n.val APG_TOPO_CUR_MAP + s.fld .apg n.val APG_TOPO_CUR_PIN + 1) % 2048
         ∧ (s.apgSealed n.val = false → s.psqRunning n.val = false → t.topo = mapSet (fun _ => 0) s.topo (2048 * n.val + 128 * s.fld .apg n.val APG_TOPO_CUR_MAP + s.fld .apg n.val APG_TOPO_CUR_PIN) (v &&& 0xFFCF).toNat)
         ∧ (s.apgSealed n.val = true ∨ s.psqRunning n.val = true → t.topo = s.topo)
         ∧ Reported [pageBase .apg n.val] [baseOf .apg n.val + 0xe8] s t
         ∧ (t = { s with regs := t.regs, hif := t.hif, faults := t.faults, evr := t.evr, free := t.free, topo := t.topo }))

/-- A microword takes one issue slot (R230); its load function takes the LDSRC value into UCNT, an APG index modulo its LIMIT + 1, or a data generator, and PCN_RD loads a counter, or 0 without USER_EN (R237, R255). Then its vectors, its operations and its function act, and its next-address control ends the microroutine, goes on, branches, or counts UCNT down (R232, R233, R238); reserved encodings and a microroutine beyond its bound fault MICROCODE (R222, R230). -/
def Obligations.Microcode : Prop :=
  ∀ (s : State), Serving s →
    (∀ (n : Fin 8) (m : Micro), s.bursting n.val = true → (s.psq n.val).hold = .none → (s.psq n.val).emit = none → (s.psq n.val).micro = some m → m.stage = .first → m.used ≤ natBits (s.dispatch n.val (opcodeOf (s.instr n.val))) 28 24 → nanoBad (s.nano n.val m) = false → badOps (natBits (s.nano n.val m) 144 141) (natBits (s.nano n.val m) 140 137) (natBits (s.nano n.val m) 136 121) = false → natBits (s.nano n.val m) 177 172 = 0x10 → 
       ∃ t, exec (.ucntLd n) s = .next t
         ∧ t.ucnt n.val = (s.ldsrc n.val (s.instr n.val) (s.nano n.val m)) % 2 ^ 32
         ∧ (t.psq n.val).micro = some { m with used := m.used + 1, stage := .loaded } ∧ (t.psq n.val).slots = (s.psq n.val).slots - 1
         ∧ PsqOnly n.val [baseOf .mce n.val + 0x5c] s t)
    ∧ (∀ (n : Fin 8) (m : Micro), s.bursting n.val = true → (s.psq n.val).hold = .none → (s.psq n.val).emit = none → (s.psq n.val).micro = some m → m.stage = .first → m.used ≤ natBits (s.dispatch n.val (opcodeOf (s.instr n.val))) 28 24 → nanoBad (s.nano n.val m) = false → badOps (natBits (s.nano n.val m) 144 141) (natBits (s.nano n.val m) 140 137) (natBits (s.nano n.val m) 136 121) = false → natBits (s.nano n.val m) 177 172 = 0x11 → 
       ∃ t, exec (.apgLdx n) s = .next t
         ∧ t.genIndex n.val false = (s.ldsrc n.val (s.instr n.val) (s.nano n.val m)) % (s.genLimit n.val false + 1)
         ∧ (t.psq n.val).micro = some { m with used := m.used + 1, stage := .loaded } ∧ (t.psq n.val).slots = (s.psq n.val).slots - 1
         ∧ PsqOnly n.val [baseOf .apg n.val + 0x100] s t)
    ∧ (∀ (n : Fin 8) (m : Micro), s.bursting n.val = true → (s.psq n.val).hold = .none → (s.psq n.val).emit = none → (s.psq n.val).micro = some m → m.stage = .first → m.used ≤ natBits (s.dispatch n.val (opcodeOf (s.instr n.val))) 28 24 → nanoBad (s.nano n.val m) = false → badOps (natBits (s.nano n.val m) 144 141) (natBits (s.nano n.val m) 140 137) (natBits (s.nano n.val m) 136 121) = false → natBits (s.nano n.val m) 177 172 = 0x12 → 
       ∃ t, exec (.apgLdy n) s = .next t
         ∧ t.genIndex n.val true = (s.ldsrc n.val (s.instr n.val) (s.nano n.val m)) % (s.genLimit n.val true + 1)
         ∧ (t.psq n.val).micro = some { m with used := m.used + 1, stage := .loaded } ∧ (t.psq n.val).slots = (s.psq n.val).slots - 1
         ∧ PsqOnly n.val [baseOf .apg n.val + 0x104] s t)
    ∧ (∀ (n : Fin 8) (m : Micro), s.bursting n.val = true → (s.psq n.val).hold = .none → (s.psq n.val).emit = none → (s.psq n.val).micro = some m → m.stage = .first → m.used ≤ natBits (s.dispatch n.val (opcodeOf (s.instr n.val))) 28 24 → nanoBad (s.nano n.val m) = false → badOps (natBits (s.nano n.val m) 144 141) (natBits (s.nano n.val m) 140 137) (natBits (s.nano n.val m) 136 121) = false → 0x13 ≤ natBits (s.nano n.val m) 177 172 → natBits (s.nano n.val m) 177 172 ≤ 0x16 → 
       ∃ t, exec (.apgLdd n) s = .next t
         ∧ t.data n.val (natBits (s.nano n.val m) 177 172 - 0x13) = BitVec.ofNat 64 (s.ldsrc n.val (s.instr n.val) (s.nano n.val m))
         ∧ (t.psq n.val).micro = some { m with used := m.used + 1, stage := .loaded } ∧ (t.psq n.val).slots = (s.psq n.val).slots - 1
         ∧ PsqOnly n.val [baseOf .apg n.val + 0x108 + 8 * (natBits (s.nano n.val m) 177 172 - 0x13), baseOf .apg n.val + 0x10c + 8 * (natBits (s.nano n.val m) 177 172 - 0x13)] s t)
    ∧ (∀ (n : Fin 8) (m : Micro), s.bursting n.val = true → (s.psq n.val).hold = .none → (s.psq n.val).emit = none → (s.psq n.val).micro = some m → m.stage = .first → m.used ≤ natBits (s.dispatch n.val (opcodeOf (s.instr n.val))) 28 24 → nanoBad (s.nano n.val m) = false → badOps (natBits (s.nano n.val m) 144 141) (natBits (s.nano n.val m) 140 137) (natBits (s.nano n.val m) 136 121) = false → natBits (s.nano n.val m) 177 172 = 0x18 → 
       ∃ t, exec (.pcnRd n) s = .next t
         ∧ (s.flag .pcn n.val PCN_CTRL_USER_EN = true → t.ucnt n.val = (s.takeSlot n.val).pcnRead n.val (natBits (s.nano n.val m) 90 87))
         ∧ (s.flag .pcn n.val PCN_CTRL_USER_EN = false → t.ucnt n.val = 0 ∧ (s.raisedOnce n.val 6 = false → Raised (pageBase .pcn n.val) 1 1 s t))
         ∧ (t.psq n.val).micro = some { m with used := m.used + 1, stage := .loaded } ∧ (t.psq n.val).slots = (s.psq n.val).slots - 1
         ∧ t.vcount n.val = s.vcount n.val ∧ t.mces = s.mces)
    ∧ (∀ (n : Fin 8) (m : Micro), s.bursting n.val = true → (s.psq n.val).hold = .none → (s.psq n.val).emit = none → (s.psq n.val).micro = some m → m.stage = .first → m.used ≤ natBits (s.dispatch n.val (opcodeOf (s.instr n.val))) 28 24 → nanoBad (s.nano n.val m) = false → badOps (natBits (s.nano n.val m) 144 141) (natBits (s.nano n.val m) 140 137) (natBits (s.nano n.val m) 136 121) = false → funcOf (natBits (s.nano n.val m) 177 172) = none → natBits (s.nano n.val m) 177 172 = 0 → 
       ∃ t, exec (.microword n) s = .next t
         ∧ (natBits (s.nano n.val m) 171 169 = 0 → natBits (s.microword n.val m.u) 19 17 = 4 → (t.psq n.val).micro = none ∧ t.fld .psq n.val PSQ_PC = m.nextPc.getD (s.fld .psq n.val PSQ_PC + 1) % 2 ^ 24 ∧ (t.psq n.val).completed = (s.psq n.val).completed + 1)
         ∧ (natBits (s.nano n.val m) 171 169 = 0 → natBits (s.microword n.val m.u) 19 17 = 0 → m.u ≠ 12287 → m.u ≠ 16383 → (t.psq n.val).micro = some ⟨m.u + 1, m.used + 1, .first, m.nextPc⟩)
         ∧ (natBits (s.nano n.val m) 171 169 = 0 → natBits (s.microword n.val m.u) 19 17 = 3 → 0 < s.ucnt n.val → 12288 ≤ m.u → 12288 ≤ natBits (s.nano n.val m) 191 178 → (t.psq n.val).micro = some ⟨natBits (s.nano n.val m) 191 178, m.used + 1, .first, m.nextPc⟩ ∧ t.ucnt n.val = s.ucnt n.val - 1)
         ∧ (natBits (s.nano n.val m) 171 169 = 1 → (t.psq n.val).emit.map (fun e => (e.done, e.src)) = some (0, .seg (natBits (s.nano n.val m) 166 166 == 1) none))
         ∧ t.vcount n.val = s.vcount n.val ∧ t.mces = s.mces ∧ t.pins = s.pins)
    ∧ (∀ (n : Fin 8) (m : Micro), s.bursting n.val = true → (s.psq n.val).hold = .none → (s.psq n.val).emit = none → (s.psq n.val).micro = some m → m.stage = .first → natBits (s.dispatch n.val (opcodeOf (s.instr n.val))) 28 24 < m.used ∨ nanoBad (s.nano n.val m) = true → 
       ∃ t, exec (.microword n) s = .next t
         ∧ Faults n.val 16 s t)

/-- MCE_LOAD unloads the program and takes the area out of use until the load completes, or answers BUSY or DENIED (R249); at its end the area holds the image where every check passes, and the answer names the first that fails (R249); the Steward reloads an invalid vendor area while the PSQ is not running (R252, R253). A word read with a correctable error is counted; an uncorrectable one makes its area invalid, unloads the program and is located in MCE_UE (R253). -/
def Obligations.ControlStores : Prop :=
  ∀ (s : State), Serving s →
    (∀ (n : Fin 8), 
       ∃ t, exec (.mceLoad n) s = .next t
         ∧ (s.psqRunning n.val = true ∨ (s.mceOf n.val).job ≠ none → t.fld .mce n.val MCE_LOAD_RESP_RESULT = 2 ∧ t.mces = s.mces ∧ t.psqs = s.psqs)
         ∧ (s.psqRunning n.val = false → (s.mceOf n.val).job = none → s.fld .mce n.val MCE_LOAD_CTRL_SRC = 1 → s.role ≠ .vendor → t.fld .mce n.val MCE_LOAD_RESP_RESULT = 3 ∧ t.mces = s.mces ∧ t.psqs = s.psqs)
         ∧ (s.psqRunning n.val = false → (s.mceOf n.val).job = none → s.fld .mce n.val MCE_LOAD_CTRL_SRC = 0 → (t.mceOf n.val).job = some ⟨0, BitVec.ofNat 32 (s.fld .mce n.val MCE_LOAD_HANDLE), s.fld .mce n.val MCE_LOAD_OFF / 64 * 64⟩ ∧ t.flag .mce n.val MCE_STAT_LOADING = true ∧ t.flag .mce n.val MCE_STAT_USER_VALID = false ∧ (t.mceOf n.val).vendor = (s.mceOf n.val).vendor ∧ t.flag .psq n.val PSQ_STAT_LOADED = false ∧ (t.psq n.val).prog = none)
         ∧ t.epc = s.epc ∧ t.sites = s.sites)
    ∧ (∀ (n : Fin 8) (j : MceJob), (s.mceOf n.val).job = some j → j.src = 0 → 
       ∃ t, exec (.mceLoadDone n []) s = .next t
         ∧ (t.mceOf n.val).job = none ∧ t.flag .mce n.val MCE_STAT_LOADING = false
         ∧ (s.plainRange j.handle j.off (4 * userShape.total) = none → t.fld .mce n.val MCE_LOAD_RESP_RESULT = 4 ∧ (t.mceOf n.val).user = (s.mceOf n.val).user)
         ∧ (∀ o ∈ s.plainRange j.handle j.off (4 * userShape.total), s.objBad o j.off (4 * userShape.total) = false → t.fld .mce n.val MCE_LOAD_RESP_RESULT = (s.imageResult userShape (wordsFrom userShape.total (s.objRead o j.off (4 * userShape.total)))).1 ∧ ((s.imageResult userShape (wordsFrom userShape.total (s.objRead o j.off (4 * userShape.total)))).1 = 1 → (t.mceOf n.val).user = .words (wordsFrom userShape.total (s.objRead o j.off (4 * userShape.total))) ∧ t.flag .mce n.val MCE_STAT_USER_VALID = true))
         ∧ (t = { s with regs := t.regs, hif := t.hif, faults := t.faults, evr := t.evr, free := t.free, mces := t.mces, vs := t.vs, chipWraps := t.chipWraps }))
    ∧ (∀ (n : Fin 8), s.dev = .ready → s.anyRunning = false → 
       ∃ t, exec (.vendorReload n) s = .next t
         ∧ (s.psqRunning n.val = true ∨ s.flag .mce n.val MCE_STAT_VENDOR_VALID = true → t = s)
         ∧ (s.psqRunning n.val = false → s.flag .mce n.val MCE_STAT_VENDOR_VALID = false → (t.intStat (pageBase .mce n.val)).getLsbD 4 = true)
         ∧ (t.mceOf n.val).user = (s.mceOf n.val).user ∧ t.psqs = s.psqs)
    ∧ (∀ (n : Fin 8) (p : Fin 3) (a : Nat), 
       ∃ t, exec (.storeScan n p a none) s = .next t
         ∧ (t.mceOf n.val).vendor = (s.mceOf n.val).vendor ∧ (t.mceOf n.val).user = (s.mceOf n.val).user
         ∧ t = { s with mces := t.mces })
    ∧ (∀ (n : Fin 8) (p : Fin 3) (a : Nat), 
       ∃ t, exec (.storeScan n p a (some false)) s = .next t
         ∧ Counts .mce n.val MCE_CE_COUNT s t
         ∧ (t.intStat (pageBase .mce n.val)).getLsbD 2 = true
         ∧ (t.mceOf n.val).vendor = (s.mceOf n.val).vendor ∧ (t.mceOf n.val).user = (s.mceOf n.val).user
         ∧ PsqsBut [n.val] s t
         ∧ (t = { s with regs := t.regs, hif := t.hif, faults := t.faults, evr := t.evr, free := t.free, mces := t.mces, psqs := t.psqs }))
    ∧ (∀ (n : Fin 8) (p : Fin 3) (a : Nat), 
       ∃ t, exec (.storeScan n p a (some true)) s = .next t
         ∧ t.flag .mce n.val MCE_UE_VALID = true ∧ t.fld .mce n.val MCE_UE_PART = p.val ∧ t.fld .mce n.val MCE_UE_ADDR = a % 2 ^ 14
         ∧ (inVendorArea p.val a = true → t.flag .mce n.val MCE_STAT_VENDOR_VALID = false)
         ∧ (inVendorArea p.val a = false → t.flag .mce n.val MCE_STAT_USER_VALID = false)
         ∧ t.flag .psq n.val PSQ_STAT_LOADED = false ∧ (t.psq n.val).prog = none
         ∧ (s.bursting n.val = true → (t.psq n.val).ending = some (2, 16, 0)))

/-- LOAD with a program length of 0 unloads; with registers out of bounds it is refused and names what failed, and PSQ_LOAD_RESP says so (R204); it is ignored while the PSQ runs (R205). At the end of an admitted load's preload its program takes the place of the earlier one, with every block of its pinned pages in the cache (R204, R313). START sets τ0 512 cycles ahead, or is refused with BUSY while the PSQ runs (R207, R208); the start check clears the burst's counts and answers with the first reason that applies (R207, R208). A start of the Piste is checked once, and refused with the check's reason (R111). -/
def Obligations.LoadsAndStarts : Prop :=
  ∀ (s : State), Serving s →
    (∀ (n : Fin 8), 
       ∃ t, exec (.load n) s = .next t
         ∧ (s.psqRunning n.val = true → Raised (pageBase .psq n.val) 9 1 s t ∧ t.psqs = s.psqs)
         ∧ (s.psqRunning n.val = false → s.fld .psq n.val PSQ_PROG_LEN = 0 → t.fld .psq n.val PSQ_LOAD_RESP_RESULT = 2 ∧ (t.psq n.val).prog = none ∧ t.flag .psq n.val PSQ_STAT_LOADED = false)
         ∧ (s.psqRunning n.val = false → s.fld .psq n.val PSQ_PROG_LEN ≠ 0 → s.loadBusy n.val = true → t.fld .psq n.val PSQ_LOAD_RESP_RESULT = 3 ∧ t.psqs = s.psqs)
         ∧ (s.psqRunning n.val = false → s.loadBusy n.val = false → 2 ^ 24 < s.fld .psq n.val PSQ_PROG_LEN → t.fld .psq n.val PSQ_LOAD_RESP_RESULT = 4 ∧ t.fld .psq n.val PSQ_LOAD_RESP_DETAIL = 0xFFFF ∧ (t.psq n.val).prog = (s.psq n.val).prog)
         ∧ (s.psqRunning n.val = false → s.loadBusy n.val = false → 0 < s.fld .psq n.val PSQ_PROG_LEN → s.fld .psq n.val PSQ_PROG_LEN ≤ 2 ^ 24 → s.fld .psq n.val PSQ_SEGTAB_LEN = 0 → s.progVa n.val + 8 * s.fld .psq n.val PSQ_PROG_LEN ≤ virtualSpace → s.residency n.val (programOf (s.progVa n.val) (s.fld .psq n.val PSQ_PROG_LEN) (s.segtabVa n.val) []) = none → (t.psq n.val).load.map (·.1) = some (programOf (s.progVa n.val) (s.fld .psq n.val PSQ_PROG_LEN) (s.segtabVa n.val) []) ∧ t.fld .lft n.val LFT_RESID_RESULT = 1 ∧ (t.psq n.val).prog = (s.psq n.val).prog)
         ∧ t.epc = s.epc ∧ t.sites = s.sites)
    ∧ (∀ (n : Fin 8) (p : Program) (d h : Nat), (s.psq n.val).load = some (p, some (d, h)) → 
       ∃ t, exec (.preloadDone n) s = .next t
         ∧ (s.psqRunning n.val = true → t = s)
         ∧ (s.psqRunning n.val = false → (∀ v ∈ s.pinnedPages n.val p, (s.pteAt v).failed = false ∧ (s.pteAt v).backing.isSome = true) → (t.psq n.val).prog = some p ∧ (t.psq n.val).load = none ∧ t.fld .psq n.val PSQ_LOAD_RESP_RESULT = 1 ∧ t.flag .psq n.val PSQ_STAT_LOADED = true ∧ t.fld .lft n.val LFT_PINNED_PAGES = (s.pinnedPages n.val p).length % 2 ^ 6 ∧ (t.psq n.val).needD = d ∧ (t.psq n.val).needH = h)
         ∧ (∀ v ∈ s.pinnedPages n.val p, s.psqRunning n.val = false → (s.pteAt v).failed = true → (t.psq n.val).load = none ∧ (t.psq n.val).prog = (s.psq n.val).prog ∧ t.fld .psq n.val PSQ_LOAD_RESP_RESULT = 6 ∧ t.fld .lft n.val LFT_RESID_RESULT = 7)
         ∧ PsqsBut [n.val] s t)
    ∧ (∀ (n : Fin 8), 
       ∃ t, exec (.start n) s = .next t
         ∧ (s.psqRunning n.val = true → t.fld .psq n.val PSQ_START_RESP_RESULT = 2 ∧ t.fld .psq n.val PSQ_START_RESP_REASON = 3 ∧ t.fld .psq n.val PSQ_START_RESP_SOURCE = 0 ∧ (t.intStat (pageBase .psq n.val)).getLsbD 3 = true ∧ Raised (pageBase .psq n.val) 5 1 s t ∧ t.psqs = s.psqs)
         ∧ (s.psqRunning n.val = false → t.psqRunning n.val = true ∧ (t.psq n.val).check = .due ∧ (t.psq n.val).fromPiste = false ∧ (t.psq n.val).stops = [] ∧ ((t.psq n.val).t0F, (t.psq n.val).t0P) = s.posIn 512)
         ∧ RegsBut ([pageBase .psq n.val + 0x18, baseOf .psq n.val + 0x14, baseOf .psq n.val + 0x60] ++ pbaOffs ++ evrOffs) s t
         ∧ (t = { s with regs := t.regs, hif := t.hif, faults := t.faults, evr := t.evr, free := t.free, psqs := t.psqs, dev := t.dev }))
    ∧ (∀ (n : Fin 8), (s.psq n.val).check = .due → (s.psq n.val).fromPiste = false → (s.psq n.val).awaiting = [] → (∀ i ∈ s.sitesOf n.val, (s.bitmapOf n.val i).isSome = true) → 
       ∃ t, exec (.startCheck n .host) s = .next t
         ∧ t.vcount n.val = 0 ∧ t.fld .psq n.val PSQ_TAINT = 0 ∧ t.fld .psq n.val PSQ_STALLCYC_LO = 0 ∧ t.ucnt n.val = 0
         ∧ (s.startReason n.val ≠ 0 → t.fld .psq n.val PSQ_START_RESP_RESULT = 2 ∧ t.fld .psq n.val PSQ_START_RESP_REASON = s.startReason n.val ∧ t.psqRunning n.val = false ∧ (t.psq n.val).check = .none)
         ∧ ((t.psq n.val).check = .passed ∨ (t.psq n.val).check = .none ∧ t.psqRunning n.val = false ∧ t.fld .psq n.val PSQ_START_RESP_RESULT = 2)
         ∧ t.epc = s.epc)
    ∧ (∀ (e : PstEntry), s.dueEntry 1 = some e → e.target = 0 → 
       ∃ t, exec .psqStart s = .next t
         ∧ (t.pst.entries = (s.pst.entries.filter fun x => x.slot != e.slot))
         ∧ t.epc = s.epc ∧ t.sups = s.sups)
    ∧ (∀ (e : PstEntry) (n : Nat), s.dueEntry 1 = some e → e.target = 2 ^ n → n < 8 → (s.psq n).check = .passed → (s.psq n).fromPiste = true → (s.psq n).t0F = e.f → (s.psq n).t0P = e.p → (s.psq n).refused = none → s.psqRunning n = true → 
       ∃ t, exec .psqStart s = .next t
         ∧ (t.pst.entries = (s.pst.entries.filter fun x => x.slot != e.slot))
         ∧ (t.psq n).refused = none
         ∧ (s.stopPending n = false → (t.psq n).check = .passed ∧ t.pst.log.head? = some ⟨e.f, e.p, if s.epc.source = .holdover then 2 else 0, e.tag * 0x1000 + e.slot, 0⟩)
         ∧ (s.stopPending n = true → t.fld .psq n PSQ_START_RESP_RESULT = 2 ∧ t.fld .psq n PSQ_START_RESP_REASON = 12 ∧ t.psqRunning n = false ∧ t.pst.log.head? = some ⟨e.f, e.p, 1, e.tag * 0x1000 + e.slot, 12⟩))

/-- At τ0 a burst that passed its check begins: PC is PSQ_ENTRY, VP is invalid, the stacks are empty, PSQ_T0 holds τ0 and STARTED is set; a stop request that came first refuses it (R206, R207, R210). STOP requests a stop with cause HOST (R210); PAUSE sets and clears the host's pause request (R213); a write of PSQ_AJUMP places, replaces or withdraws the request (R225). Once its outcomes are delivered a burst ends with the cause that R212 chooses, every pending edge is applied, and its accumulation closes (R175, R209, R212, R226, R328). -/
def Obligations.BurstsBeginAndEnd : Prop :=
  ∀ (s : State), Serving s →
    (∀ (n : Fin 8), (s.psq n.val).check = .passed → s.reached (s.psq n.val).t0F (s.psq n.val).t0P = true → s.dev = .armed ∨ s.dev = .run → s.flag .plk 0 PLK_STAT_FEEDING = false → 
       ∃ t, exec (.firstVector n) s = .next t
         ∧ (s.stopPending n.val = false → t.fld .psq n.val PSQ_PC = s.fld .psq n.val PSQ_ENTRY_PC ∧ t.vpValid n.val = false ∧ t.loopDepth n.val = 0 ∧ t.callDepth n.val = 0 ∧ t.fld .psq n.val PSQ_STAT_RUNSTATE = 2 ∧ t.fld .psq n.val PSQ_START_RESP_RESULT = 1 ∧ (t.intStat (pageBase .psq n.val)).getLsbD 0 = true ∧ (t.psq n.val).awaiting = s.sitesOf n.val ∧ t.dev = .run)
         ∧ (s.stopPending n.val = false → t.fld .psq n.val PSQ_T0_F_LO = (s.psq n.val).t0F % 2 ^ 32 ∧ t.fld .psq n.val PSQ_T0_P = (s.psq n.val).t0P % 2 ^ 16 ∧ t.flag .psq n.val PSQ_STAT_T0_VALID = s.epc.valid)
         ∧ (s.stopPending n.val = true → t.psqRunning n.val = false ∧ t.fld .psq n.val PSQ_START_RESP_REASON = 12 ∧ t.sites = s.sites)
         ∧ t.vs = s.vs ∧ t.epc = s.epc ∧ t.pins = s.pins)
    ∧ (∀ (n : Fin 8), 
       ∃ t, exec (.stop n) s = .next t
         ∧ (s.psqRunning n.val = false → t.psqs = s.psqs)
         ∧ (s.psqRunning n.val = true → (t.psq n.val).stops.take ((s.psq n.val).stops.length + 1) = (s.psq n.val).stops ++ [⟨8, 0, s.psqNow n.val⟩])
         ∧ PsqsBut [n.val] s t ∧ t.sites = s.sites ∧ t.pins = s.pins ∧ t.vcount n.val = s.vcount n.val)
    ∧ (∀ (n : Fin 8) (b : Bool), 
       ∃ t, exec (.pause n b) s = .next t
         ∧ t.flag .psq n.val PSQ_PAUSE_STAT_HOST = b ∧ t.flag .psq n.val PSQ_CTRL_PAUSE = b
         ∧ RegsBut [baseOf .psq n.val + 0x10, baseOf .psq n.val + 0xa4] s t
         ∧ t = { s with regs := t.regs })
    ∧ (∀ (n : Fin 8) (v : Word), 
       ∃ t, exec (.psqAjumpWrite n v) s = .next t
         ∧ t.flag .psq n.val PSQ_AJUMP_VALID = v.getLsbD 31 ∧ t.flag .psq n.val PSQ_STAT_AJ_PEND = v.getLsbD 31 ∧ t.fld .psq n.val PSQ_AJUMP_LPOP = bitsOf v 27 24 ∧ t.fld .psq n.val PSQ_AJUMP_TARGET = bitsOf v 23 0
         ∧ (t.psq n.val).ajAt = s.vcount n.val ∧ (t.psq n.val).ajT = s.psqNow n.val
         ∧ RegsBut [baseOf .psq n.val + 0x14, baseOf .psq n.val + 0x9c] s t
         ∧ t = { s with regs := t.regs, psqs := t.psqs }
         ∧ PsqsBut [n.val] s t)
    ∧ (∀ (n : Fin 8) (c f l : Nat), s.psqBurst n.val = true → s.outcomesDue n.val = false → s.endOf n.val = some (c, f, l) → c < 9 ∧ f < 256 ∧ l < 8 → (∀ k ∈ s.psqPins n.val, (s.pin k).compares = [] ∧ k < 768) → 
       ∃ t, exec (.burstEnd n) s = .next t
         ∧ t.psqRunning n.val = false ∧ t.fld .psq n.val PSQ_END_CAUSE = c ∧ t.fld .psq n.val PSQ_END_FAULT = f ∧ t.fld .psq n.val PSQ_END_LANE = l
         ∧ (t.psq n.val).ending = none ∧ (t.psq n.val).stops = [] ∧ t.flag .psq n.val PSQ_AJUMP_VALID = false
         ∧ (c = 1 → (t.intStat (pageBase .psq n.val)).getLsbD 1 = true)
         ∧ (c ≠ 1 → c ≠ 2 → (t.intStat (pageBase .psq n.val)).getLsbD 2 = true)
         ∧ (∀ k ∈ s.psqPins n.val, (t.pin k).edges = [])
         ∧ (∀ i ∈ s.sitesOf n.val, (t.site i).changes = [])
         ∧ t.vcount n.val = s.vcount n.val)

/-! ### Chapter 9: the Vector Store and the Lift -/

/-- An allocation takes the granules from the free ones, leaves every byte of them never-written, gives a handle of the slot's next generation and touches no other object (R289, R290, R294); a free of a referenced or SEALED object or of a stale handle changes nothing (R292). A read of BAR2 gives the bytes of the object its window shows, zero outside every mapping, counted, and nothing of a SEALED object (R295, R304, R306); a write stores the enabled bytes there and changes no other byte (R40, R298, R306). -/
def Obligations.ObjectsAndBar2 : Prop :=
  ∀ (s : State), Serving s →
    (∀ (g : BitVec 18), 
       ∃ t, exec (.vmcAlloc g) s = .next t
         ∧ t.vs.job = some (.alloc (g.toNat + 1)) ∧ t.fld .vmc 0 VMC_ALLOC_GRANULES_M1 = g.toNat
         ∧ (s.vs.job = none → RegsBut [0x200040] s t ∧ t = { s with regs := t.regs, vs := { s.vs with job := t.vs.job } }))
    ∧ (∀ (g : BitVec 18), 
       ∃ t, exec (.vmcFree g) s = .next t
         ∧ t.vs.job = some (.free (BitVec.ofNat 32 (s.fld .vmc 0 VMC_FREE_HANDLE)))
         ∧ (s.vs.job = none → RegsBut [0x200040] s t ∧ t = { s with regs := t.regs, vs := { s.vs with job := t.vs.job } }))
    ∧ (∀ (g : Nat), s.vs.job = some (.alloc g) → 
       ∃ t, exec .vmcAllocDone s = .next t
         ∧ t.vs.job = none ∧ (t.intStat 0x200000).getLsbD 0 = true
         ∧ (s.freeGranules < g → t.fld .vmc 0 VMC_RESP_RESULT = 3 ∧ t.vs.objs = s.vs.objs ∧ Raised 0x200000 7 1 s t)
         ∧ (g ≤ s.freeGranules → s.pickSlot.isSome = true → t.fld .vmc 0 VMC_RESP_RESULT = 1 ∧ t.freeGranules = s.freeGranules - g ∧ (t.objAt (BitVec.ofNat 32 (t.fld .vmc 0 VMC_HANDLE))).isSome = true ∧ s.slotObj (handleSlot (BitVec.ofNat 32 (t.fld .vmc 0 VMC_HANDLE))) = none ∧ handleGen (BitVec.ofNat 32 (t.fld .vmc 0 VMC_HANDLE)) = nextGen (s.genOf (handleSlot (BitVec.ofNat 32 (t.fld .vmc 0 VMC_HANDLE)))))
         ∧ (∀ o ∈ t.objAt (BitVec.ofNat 32 (t.fld .vmc 0 VMC_HANDLE)), g ≤ s.freeGranules → s.pickSlot.isSome = true → o.kind = .plain ∧ o.granules.Nodup ∧ ∀ x ∈ o.granules, reservedGranule x = false ∧ s.slotOfGranule x = none ∧ ∀ r < 16, t.vsWritten (16 * x + r) = false)
         ∧ (∀ k < 16384, k ≠ handleSlot (BitVec.ofNat 32 (t.fld .vmc 0 VMC_HANDLE)) → t.slotObj k = s.slotObj k)
         ∧ (t = { s with regs := t.regs, hif := t.hif, faults := t.faults, evr := t.evr, free := t.free, vs := t.vs }))
    ∧ (∀ (h : Word), s.vs.job = some (.free h) → 
       ∃ t, exec .vmcAllocDone s = .next t
         ∧ t.vs.job = none
         ∧ (s.objAt h = none → t.fld .vmc 0 VMC_RESP_RESULT = 5 ∧ t.vs.objs = s.vs.objs)
         ∧ (∀ o ∈ s.objAt h, o.kind = .sealedObj → t.fld .vmc 0 VMC_RESP_RESULT = 7 ∧ t.vs.objs = s.vs.objs)
         ∧ (∀ o ∈ s.objAt h, o.kind = .plain → s.referenced h o = true → t.fld .vmc 0 VMC_RESP_RESULT = 6 ∧ t.vs.objs = s.vs.objs)
         ∧ (∀ o ∈ s.objAt h, o.kind = .plain → s.referenced h o = false → t.fld .vmc 0 VMC_RESP_RESULT = 2 ∧ t.objAt h = none ∧ ∀ x ∈ o.granules, ∀ r < 16, t.vsWritten (16 * x + r) = false)
         ∧ (∀ k < 16384, k ≠ handleSlot h → t.slotObj k = s.slotObj k)
         ∧ (t = { s with regs := t.regs, hif := t.hif, faults := t.faults, evr := t.evr, free := t.free, vs := t.vs }))
    ∧ (∀ (addr len a : Nat), (∀ i < len, s.bar2At (addr + i) = .mem (a + i)) → (∀ i < len, s.vsPoison ((a + i) / 8) = false ∧ s.chFailed (vsChannel (a + i)) = false) → 
       ∃ t, exec (.bar2Read addr len []) s = .next t
         ∧ (t.hif.resp = .bytes ((List.range len).map fun i => s.vsByte (a + i)))
         ∧ (StoreBut (fun _ => false) s t)
         ∧ (t = { s with regs := t.regs, hif := t.hif, vs := t.vs, chipWraps := t.chipWraps }))
    ∧ (∀ (addr len : Nat), (∀ i < len, s.bar2At (addr + i) = .outside) → 0 < len → 
       ∃ t, exec (.bar2Read addr len []) s = .next t
         ∧ t.hif.resp = .bytes (List.replicate len 0)
         ∧ Counts .vmc 0 VMC_BAR2_DISC_COUNT s t
         ∧ RegsBut [0x20007c] s t
         ∧ (t = { s with regs := t.regs, hif := t.hif }))
    ∧ (∀ (addr len : Nat), (∀ i < len, s.bar2At (addr + i) = .sealedByte) → 0 < len → 
       ∃ t, exec (.bar2Read addr len []) s = .next t
         ∧ t.hif.resp = .bytes (List.replicate len 0)
         ∧ t.intStat 0x200000 = s.intStat 0x200000 ||| 0x40000000
         ∧ RegsBut (0x200018 :: pbaOffs) s t
         ∧ (t = { s with regs := t.regs, hif := t.hif }))
    ∧ (∀ (addr a : Nat) (data : List (Option Byte)), (∀ i < data.length, s.bar2At (addr + i) = .mem (a + i)) → (∀ i < data.length, s.vsPoison ((a + i) / 8) = false ∧ s.chFailed (vsChannel (a + i)) = false ∧ s.granuleRunning ((a + i) / 65536) = []) → 
       ∃ t, exec (.bar2Write addr data []) s = .next t
         ∧ (∀ i < data.length, t.vsByte (a + i) = ((data[i]?).join).getD (s.vsByte (a + i)))
         ∧ (StoreBut (fun x => decide (a ≤ x) && decide (x < a + data.length)) s t)
         ∧ t.sites = s.sites ∧ t.meas = s.meas ∧ t.overlay = s.overlay
         ∧ t = { s with regs := t.regs, vs := t.vs, psqs := t.psqs, chipWraps := t.chipWraps })
    ∧ (∀ (addr : Nat) (data : List (Option Byte)), (∀ i < data.length, s.bar2At (addr + i) = .outside) → (data.any Option.isSome) = true → 
       ∃ t, exec (.bar2Write addr data []) s = .next t
         ∧ t.vs = s.vs
         ∧ Counts .vmc 0 VMC_BAR2_DISC_COUNT s t
         ∧ RegsBut [0x20007c] s t
         ∧ t = { s with regs := t.regs })
    ∧ (∀ (addr a : Nat) (data : List (Option Byte)), (∀ i < data.length, s.bar2At (addr + i) = .mem (a + i)) → (∀ i < data.length, s.granuleRunning ((a + i) / 65536) ≠ []) → (data.any Option.isSome) = true → 
       ∃ t, exec (.bar2Write addr data []) s = .next t
         ∧ t.vs = s.vs ∧ (t.intStat 0x200000).getLsbD 5 = true)

/-- The bucket falls by one after LEAK_S seconds (R299); a failed channel shows in VMC_STAT.CH_FAIL for good (R300); the scrubber steps through the store (R301). A map command is latched, or refused BUSY (R309); its end maps every page of its range, or none and names the first failing page. LFT_STAGE and LFT_PIN take a write while no program needs the old value (R312, R318). A block asked for enters the vector cache as the store holds it (R215, R295); a needed host page starts on its way into a staging granule, and lands there whole, or is retried and then FAILED (R316, R317). -/
def Obligations.StoreErrorsAndTheLift : Prop :=
  ∀ (s : State), Serving s →
    (∃ t, exec .bucketLeak s = .next t
         ∧ (0 < s.vs.leak → s.vs.leak % max 1 (s.fld .vmc 0 VMC_BUCKET_LEAK_S) = 0 → 0 < s.fld .vmc 0 VMC_BUCKET_LEVEL → t.fld .vmc 0 VMC_BUCKET_LEVEL = s.fld .vmc 0 VMC_BUCKET_LEVEL - 1 ∧ t.vs.leak = 0)
         ∧ (s.fld .vmc 0 VMC_BUCKET_LEVEL = 0 ∨ s.vs.leak % max 1 (s.fld .vmc 0 VMC_BUCKET_LEAK_S) ≠ 0 → t = s)
         ∧ RegsBut [0x200060] s t
         ∧ t = { s with regs := t.regs, vs := t.vs })
    ∧ (∀ (c : Fin 8), 
       ∃ t, exec (.vsChannelFail c) s = .next t
         ∧ (∀ j < 8, t.chFailed j = (s.chFailed j || j == c.val))
         ∧ (s.chFailed c.val = false → (t.intStat 0x200000).getLsbD 7 = true)
         ∧ t.vs = s.vs ∧ t.overlay = s.overlay)
    ∧ (∃ t, exec (.scrubRead []) s = .next t
         ∧ (s.flag .vmc 0 VMC_SCRUB_CFG_EN = true → s.flag .vmc 0 VMC_STAT_SCRUB_DEFERRED = false → t.fld .vmc 0 VMC_SCRUB_POS_BLOCK = (s.fld .vmc 0 VMC_SCRUB_POS_BLOCK + 1) % 2 ^ 28)
         ∧ (s.flag .vmc 0 VMC_SCRUB_CFG_EN = false → t = s)
         ∧ t.vs = s.vs
         ∧ t = { s with regs := t.regs, chipWraps := t.chipWraps })
    ∧ (∃ t, exec .mapVs s = .next t
         ∧ (s.vs.mapCmd = none → (∀ n < 8, (s.psq n).load = none) → t = { s with vs := { s.vs with mapCmd := some (.mapVs s.mapVpn s.mapCount (BitVec.ofNat 32 (s.fld .lftG 0 LFT_MAP_HANDLE)) (s.fld .lftG 0 LFT_MAP_GROFF)) } })
         ∧ (s.vs.mapCmd ≠ none → t.vs = s.vs ∧ t.fld .lftG 0 LFT_MAP_RESP_RESULT = 2 ∧ Raised 0x220000 1 1 s t)
         ∧ Reported [0x220000] [0x22005c] s t
         ∧ (t = { s with regs := t.regs, hif := t.hif, faults := t.faults, evr := t.evr, free := t.free, vs := t.vs }))
    ∧ (∃ t, exec .mapHost s = .next t
         ∧ (s.vs.mapCmd = none → (∀ n < 8, (s.psq n).load = none) → t = { s with vs := { s.vs with mapCmd := some (.mapHost s.mapVpn s.mapCount (s.fld .lftG 0 LFT_MAP_HADDR_ADDR_LO + 2 ^ 32 * s.fld .lftG 0 LFT_MAP_HADDR_ADDR_HI)) } })
         ∧ (s.vs.mapCmd ≠ none → t.vs = s.vs ∧ t.fld .lftG 0 LFT_MAP_RESP_RESULT = 2 ∧ Raised 0x220000 1 1 s t))
    ∧ (∃ t, exec .unmap s = .next t
         ∧ (s.vs.mapCmd = none → (∀ n < 8, (s.psq n).load = none) → t = { s with vs := { s.vs with mapCmd := some (.unmap s.mapVpn s.mapCount) } })
         ∧ (s.vs.mapCmd ≠ none → t.vs = s.vs ∧ t.fld .lftG 0 LFT_MAP_RESP_RESULT = 2 ∧ Raised 0x220000 1 1 s t))
    ∧ (∀ (c : MapCmd), s.vs.mapCmd = some c → 
       ∃ t, exec .mapDone s = .next t
         ∧ t.vs.mapCmd = none
         ∧ (s.mapCheck c = none → t.fld .lftG 0 LFT_MAP_RESP_RESULT = 1 ∧ (t.intStat 0x220000).getLsbD 0 = true ∧ ∀ i < c.range.2, t.pteAt (c.range.1 + i) = s.mapEntry i c)
         ∧ (∀ r ∈ s.mapCheck c, t.fld .lftG 0 LFT_MAP_RESP_RESULT = r.1 ∧ t.fld .lftG 0 LFT_MAP_RESP_DETAIL = r.2 % 2 ^ 24 ∧ t.vs.pte = s.vs.pte ∧ Raised 0x220000 1 1 s t)
         ∧ (PagesBut (fun v => decide (c.range.1 ≤ v) && decide (v < c.range.1 + c.range.2)) s t)
         ∧ (StoreBut (fun _ => false) s t)
         ∧ Reported [0x220000] [0x22005c] s t
         ∧ (t = { s with regs := t.regs, hif := t.hif, faults := t.faults, evr := t.evr, free := t.free, vs := t.vs }))
    ∧ (∀ (h : Word), 
       ∃ t, exec (.lftStageWrite h) s = .next t
         ∧ ((∀ n < 8, ∀ p ∈ (s.psq n).prog, p.pageList.any s.hostPage = false) → t.fld .lftG 0 LFT_STAGE_HANDLE = h.toNat ∧ t.vs.staged = [] ∧ t.vs.fetches = [] ∧ ∀ e ∈ t.vs.pte, e.2.host = true → e.2.present = false)
         ∧ ((∃ n < 8, ∃ p ∈ (s.psq n).prog, p.pageList.any s.hostPage = true) → t = s)
         ∧ (StoreBut (fun _ => false) s t)
         ∧ RegsBut [0x220064] s t
         ∧ t = { s with regs := t.regs, vs := t.vs })
    ∧ (∀ (n r : Fin 8) (v : Word), 
       ∃ t, exec (.lftPinWrite n r v) s = .next t
         ∧ (s.flag .psq n.val PSQ_STAT_LOADED = false → t.fldAt .lft n.val LFT_PIN_EN r.val = bitsOf v 31 31 ∧ t.fldAt .lft n.val LFT_PIN_COUNT_M1 r.val = bitsOf v 29 24 ∧ t.fldAt .lft n.val LFT_PIN_VPN r.val = bitsOf v 23 0)
         ∧ (s.flag .psq n.val PSQ_STAT_LOADED = true → Raised (pageBase .lft n.val) 5 1 s t ∧ t.fldAt .lft n.val LFT_PIN_VPN r.val = s.fldAt .lft n.val LFT_PIN_VPN r.val)
         ∧ Reported [pageBase .lft n.val] [baseOf .lft n.val + 0x40 + 4 * r.val] s t
         ∧ (t = { s with regs := t.regs, hif := t.hif, faults := t.faults, evr := t.evr, free := t.free }))
    ∧ (∀ (n : Fin 8), 
       ∃ t, exec (.lookaheadFetch n) s = .next t
         ∧ (∀ b ∈ (t.psq n.val).asked, b ∈ (s.psq n.val).asked ∨ lookupKey (s.psq n.val).cache b = none)
         ∧ (t.psq n.val).asked.length ≤ (s.psq n.val).asked.length + 1
         ∧ ({ t.psq n.val with asked := (s.psq n.val).asked } : PsqSt) = s.psq n.val
         ∧ PsqsBut [n.val] s t
         ∧ t = { s with psqs := t.psqs })
    ∧ (∀ (n : Fin 8) (b a : Nat) (p : Program), (s.psq n.val).prog = some p → (s.psq n.val).asked.contains b = true → s.fedByLink n.val = false → s.blockPhys b = some a → (s.pinnedPages n.val p).length ≤ 48 → s.paired = false → 
       ∃ t, exec (.cacheFill n b [] none) s = .next t
         ∧ lookupKey (t.psq n.val).cache b = some (s.lineAt a)
         ∧ b ∉ (t.psq n.val).asked
         ∧ (PsqsBut [n.val] s t ∧ StoreBut (fun _ => false) s t))
    ∧ (∀ (v : Nat), 
       ∃ t, exec (.hostPageFetch v) s = .next t
         ∧ (s.pageNeeded v = false ∨ (s.pteAt v).host = false ∨ (s.pteAt v).failed = true ∨ s.hif.linkUp = false → t = s)
         ∧ (∀ f ∈ t.vs.fetches, f ∈ s.vs.fetches ∨ (f.vpn = v ∧ f.tries = 0 ∧ ∀ o ∈ s.objAt s.stageHandle, f.granule ∈ o.granules ∨ f.granule ∈ s.vs.staged.map fun x => (s.pteAt x).granule))
         ∧ (StoreBut (fun _ => false) s t)
         ∧ t = { s with vs := t.vs, free := t.free })
    ∧ (∀ (v : Nat) (d : List Byte) (f : HostFetch), s.vs.fetches.find? (fun x => x.vpn == v) = some f → 
       ∃ t, exec (.hostPageStaged v (some d)) s = .next t
         ∧ (∀ i < 65536, t.vsByte (65536 * f.granule + i) = d.getD i 0)
         ∧ (t.pteAt v).present = true ∧ (t.pteAt v).granule = f.granule ∧ t.vs.staged.getLast? = some v
         ∧ (∀ x ∈ t.vs.fetches, x.vpn ≠ v)
         ∧ (StoreBut (fun x => x / 65536 == f.granule) s t))
    ∧ (∀ (v : Nat) (f : HostFetch), s.vs.fetches.find? (fun x => x.vpn == v) = some f → s.hif.perst = false → s.hif.linkUp = true → 
       ∃ t, exec (.hostPageStaged v none) s = .next t
         ∧ (f.tries < s.fld .lftG 0 LFT_HOSTCFG_RETRY → (t.vs.fetches.find? fun x => x.vpn == v) = some { f with tries := f.tries + 1 } ∧ t.vs.pte = s.vs.pte)
         ∧ (s.fld .lftG 0 LFT_HOSTCFG_RETRY ≤ f.tries → (t.pteAt v).failed = true ∧ (t.vs.fetches.find? fun x => x.vpn == v) = none ∧ Counts .lftG 0 LFT_HOSTERR_COUNT s t)
         ∧ (StoreBut (fun _ => false) s t))

/-! ### Chapter 12: measurements -/

/-- A commit with 256 requests queued, or of a bad descriptor, is refused with result 2 or 3 and changes the queue in nothing; otherwise the request joins the queue in a slot that no request had, at the slot's next generation, and MSR_RESP gives its handle; an IMMEDIATE one is released at once with the items of its source (R399, R400, R401, R402). MSR_REL and the Piste release the held requests of the group (R401). CANCEL and FLUSH deliver CANCELLED for the items not yet dispatched, and what they name leaves the queue (R408). A read of RES_DATA2 removes the oldest entry of the result FIFO (R406). -/
def Obligations.MeasurementRequests : Prop :=
  ∀ (s : State), Serving s →
    (∀ (b : Fin 24) (g : BitVec 8), 
       ∃ t, exec (.msrCommit b g) s = .next t
         ∧ (256 ≤ (s.measOf b.val).reqs.length → t.fld .acq b.val MSR_RESP_RESULT = 2 ∧ t.meas = s.meas ∧ Raised (pageBase .acq b.val) 1 1 s t)
         ∧ ((s.measOf b.val).reqs.length < 256 → badRequest (stagedWords s b.val) = true → t.fld .acq b.val MSR_RESP_RESULT = 3 ∧ t.meas = s.meas ∧ Raised (pageBase .acq b.val) 1 1 s t)
         ∧ ((s.measOf b.val).reqs.length < 256 → badRequest (stagedWords s b.val) = false → t.fld .acq b.val MSR_RESP_RESULT = 1)
         ∧ ((s.measOf b.val).reqs.length < 256 → badRequest (stagedWords s b.val) = false → wordBits (stagedWords s b.val) 2 31 30 ≠ 0 → (t.measOf b.val).reqs.take (s.measOf b.val).reqs.length = (s.measOf b.val).reqs ∧ (t.measOf b.val).reqs.length = (s.measOf b.val).reqs.length + 1 ∧ ∀ r ∈ (t.measOf b.val).reqs.drop (s.measOf b.val).reqs.length, r.words = stagedWords s b.val ∧ r.released = none ∧ r.slot < 256 ∧ (∀ q ∈ (s.measOf b.val).reqs, q.slot ≠ r.slot) ∧ r.gen = (mapGet (fun _ => 0) (s.measOf b.val).gens r.slot + 1) % 256 ∧ t.fld .acq b.val MSR_RESP_HANDLE = r.handle)
         ∧ ((s.measOf b.val).reqs.length < 256 → badRequest (stagedWords s b.val) = false → wordBits (stagedWords s b.val) 2 31 30 = 0 → ∀ r ∈ (t.measOf b.val).reqs.drop (s.measOf b.val).reqs.length, r.released = some s.clock ∧ r.items = s.itemsOf b.val r ∧ r.items ≠ [])
         ∧ Reported [pageBase .acq b.val] [baseOf .acq b.val + 0x68, baseOf .acq b.val + 0x68, baseOf .acq b.val + 0x70, baseOf .acq b.val + 0x60] s t
         ∧ (t = { s with regs := t.regs, hif := t.hif, faults := t.faults, evr := t.evr, free := t.free, meas := t.meas })
         ∧ MeasBut [b.val] s t)
    ∧ (∀ (b : Fin 24) (g : BitVec 8) (all : Bool), (∀ c < 24, ∀ r ∈ (s.measOf c).reqs, r.released.isSome = true → r.items ≠ []) → (∀ c < 24, (s.measOf c).reqs.Pairwise fun r q => r.same q = false) → 
       ∃ t, exec (.msrRel b g all) s = .next t
         ∧ (∀ c < 24, all = true ∨ c = b.val → ∀ r ∈ (t.measOf c).reqs, r.group = g.toNat → r.rel = 1 → r.released.isSome = true ∧ r.items ≠ [])
         ∧ (∀ c < 24, ¬(all = true ∨ c = b.val) → t.measOf c = s.measOf c)
         ∧ (∀ c < 24, ∀ r ∈ (s.measOf c).reqs, ¬(r.group = g.toNat ∧ r.rel = 1 ∧ r.released = none) → r ∈ (t.measOf c).reqs)
         ∧ (t = { s with regs := t.regs, hif := t.hif, faults := t.faults, evr := t.evr, free := t.free, meas := t.meas })
         ∧ StaysOn ((List.range 24).map (pageBase .acq)) s t)
    ∧ (∀ (e : PstEntry), s.dueEntry 9 = some e → (∀ c < 24, ∀ r ∈ (s.measOf c).reqs, r.released.isSome = true → r.items ≠ []) → (∀ c < 24, (s.measOf c).reqs.Pairwise fun r q => r.same q = false) → 
       ∃ t, exec .msrRelease s = .next t
         ∧ (t.pst.entries = (s.pst.entries.filter fun x => x.slot != e.slot))
         ∧ (t.pst.log.head? = some ⟨e.f, e.p, if s.epc.source = .holdover then 2 else 0, e.tag * 0x1000 + e.slot, 0⟩)
         ∧ (∀ b < 24, ∀ r ∈ (t.measOf b).reqs, r.group = bitsOf e.arg 7 0 → r.rel = 1 → r.released.isSome = true ∧ r.items ≠ [])
         ∧ StaysOn (0x11000 :: (List.range 24).map (pageBase .acq)) s t)
    ∧ (∀ (b : Fin 24) (g : BitVec 8), 
       ∃ t, exec (.msrCancel b g) s = .next t
         ∧ (∀ r ∈ (s.measOf b.val).reqs.find? (fun r => r.handle == s.fld .acq b.val MSR_CANCEL_H_HANDLE), t.fld .acq b.val MSR_RESP_RESULT = 4 ∧ (t.measOf b.val).reqs = (s.measOf b.val).reqs.filter (fun q => !q.same r) ∧ (r.toSite = false → (s.measOf b.val).fifo.length + (if r.released.isSome then r.items else s.itemsOf b.val r).length ≤ 64 → (t.measOf b.val).fifo.length = (s.measOf b.val).fifo.length + (if r.released.isSome then r.items else s.itemsOf b.val r).length ∧ (t.measOf b.val).fifo.take (s.measOf b.val).fifo.length = (s.measOf b.val).fifo ∧ ∀ x ∈ (t.measOf b.val).fifo.drop (s.measOf b.val).fifo.length, bitsOf (x.getD 1 0) 30 28 = 5 ∧ bitsOf (x.getD 1 0) 15 0 = r.handle % 65536))
         ∧ ((s.measOf b.val).reqs.find? (fun r => r.handle == s.fld .acq b.val MSR_CANCEL_H_HANDLE) = none → t.fld .acq b.val MSR_RESP_RESULT = 5 ∧ t.meas = s.meas)
         ∧ (t.measOf b.val).run = (s.measOf b.val).run
         ∧ t.fld .acq b.val MSR_COMMIT_GROUP = g.toNat
         ∧ (t = { s with regs := t.regs, hif := t.hif, faults := t.faults, evr := t.evr, free := t.free, meas := t.meas })
         ∧ MeasBut [b.val] s t
         ∧ StaysOn (pageBase .acq b.val :: (List.range 256).map (pageBase .site)) s t)
    ∧ (∀ (b : Fin 24) (g : BitVec 8), (∀ x ∈ (s.measOf b.val).run, ∃ r ∈ (s.measOf b.val).reqs, r.same x.1 = true ∧ r.group = x.1.group) → 
       ∃ t, exec (.msrFlush b g) s = .next t
         ∧ (t.fld .acq b.val MSR_RESP_RESULT = 6 ∧ t.fld .acq b.val MSR_FILL_DETAIL = ((s.measOf b.val).reqs.filter fun r => r.group == g.toNat).length % 2 ^ 9)
         ∧ (∀ r ∈ (t.measOf b.val).reqs, r.group ≠ g.toNat)
         ∧ (∀ r ∈ (s.measOf b.val).reqs, r.group ≠ g.toNat → r ∈ (t.measOf b.val).reqs)
         ∧ (∀ x ∈ (t.measOf b.val).run, x.1.group ≠ g.toNat)
         ∧ MeasBut [b.val] s t
         ∧ StaysOn (measPages b.val ++ (List.range 256).map (pageBase .site)) s t
         ∧ (t = { s with regs := t.regs, hif := t.hif, faults := t.faults, evr := t.evr, free := t.free, meas := t.meas, pins := t.pins, sups := t.sups, guards := t.guards }))
    ∧ (∀ (b : Fin 24), 
       ∃ t, exec (.resData2Read b) s = .next t
         ∧ (∀ x ∈ (s.measOf b.val).fifo.head?, t.hif.resp = .words [x.getD 2 0] ∧ (t.measOf b.val).fifo = (s.measOf b.val).fifo.tail)
         ∧ ((s.measOf b.val).fifo = [] → t.hif.resp = .words [0])
         ∧ (t.measOf b.val).reqs = (s.measOf b.val).reqs ∧ (t.measOf b.val).run = (s.measOf b.val).run
         ∧ MeasBut [b.val] s t
         ∧ (t = { s with hif := { s.hif with resp := t.hif.resp }, meas := t.meas }))

/-- Where nothing holds the ACQ, an item of the request the scheduler chooses is dispatched: its source is connected and MSR_CUR names it, or a source that cannot be measured delivers NO_SOURCE; in a gated bank every item of the request delivers GATED (R403, R404, R405, R408). At the end of an item its result goes to the host FIFO with its status, LATE and handle, or to its site's register converted as UNIT selects; a full FIFO loses it and says so; the last item completes the request (R395, R396, R397, R398, R406, R407). A change of the PMU's compliance shows in its status and raises class 1 where it is entered (R393). -/
def Obligations.DispatchAndDelivery : Prop :=
  ∀ (s : State), Serving s →
    (∀ (b : Fin 24), 
       ∃ t, exec (.msrDispatch b) s = .next t
         ∧ ((s.measOf b.val).run.isSome = true ∨ (s.measOf b.val).cap.isSome = true ∨ s.dev = .hold ∨ s.flag .acq b.val ACQ_CTRL_EN = false ∨ s.calHasAcq b.val = true ∨ s.msrThrottled b.val = true → t = s)
         ∧ ((s.measOf b.val).run = none → (s.measOf b.val).cap = none → s.dev ≠ .hold → s.flag .acq b.val ACQ_CTRL_EN = true → s.calHasAcq b.val = false → s.msrThrottled b.val = false → s.gatedSpan b.val = false → ∀ r ∈ s.nextReq b.val, ∀ it ∈ r.items.head?, if s.noSource b.val r.source it.unit = true then (t.measOf b.val).run = none ∧ (r.toSite = false → (s.measOf b.val).fifo.length < 64 → (t.measOf b.val).fifo.length = (s.measOf b.val).fifo.length + 1 ∧ (t.measOf b.val).fifo.take (s.measOf b.val).fifo.length = (s.measOf b.val).fifo ∧ ∀ x ∈ (t.measOf b.val).fifo.drop (s.measOf b.val).fifo.length, ResultEntry r it.site 3 (s.isLate r) x) else t.flag .acq b.val MSR_CUR_BUSY = true ∧ t.fld .acq b.val MSR_CUR_HANDLE = r.handle % 65536 ∧ t.fld .acq b.val ACQ_STAT_USE = 1 ∧ (t.measOf b.val).run = some ({ r with items := r.items.tail, started := true }, it, s.clock) ∧ (t.measOf b.val).lastSel = some (r.source, r.range))
         ∧ ((s.measOf b.val).run = none → s.gatedSpan b.val = true → s.dev ≠ .hold → (s.measOf b.val).cap = none → s.calHasAcq b.val = false → s.msrThrottled b.val = false → s.flag .acq b.val ACQ_CTRL_EN = true → ∀ r ∈ s.nextReq b.val, (∀ q ∈ (t.measOf b.val).reqs, q.same r = false) ∧ (r.toSite = false → (s.measOf b.val).fifo.length + r.items.length ≤ 64 → (t.measOf b.val).fifo.length = (s.measOf b.val).fifo.length + r.items.length ∧ ∀ x ∈ (t.measOf b.val).fifo.drop (s.measOf b.val).fifo.length, bitsOf (x.getD 1 0) 30 28 = 4))
         ∧ (s.nextReq b.val = none → t = s)
         ∧ MeasBut [b.val] s t
         ∧ StaysOn (measPages b.val ++ (List.range 256).map (pageBase .site)) s t
         ∧ (t = { s with regs := t.regs, hif := t.hif, faults := t.faults, evr := t.evr, free := t.free, meas := t.meas, pins := t.pins, sups := t.sups, guards := t.guards }))
    ∧ (∀ (b : Fin 24) (sum : Int) (clipped limited : Bool) (r : MsrReq) (it : MsrItem) (at_ : Nat), (s.measOf b.val).run = some (r, it, at_) → (∀ i ∈ it.site, i < 256) → (∀ q ∈ (s.measOf b.val).reqs, ∀ p ∈ (s.measOf b.val).reqs, q.same p = true → q = p) → 
       ∃ t, exec (.itemDone b sum clipped limited) s = .next t
         ∧ (r.toSite = false → (s.measOf b.val).fifo.length < 64 → (t.measOf b.val).fifo.length = (s.measOf b.val).fifo.length + 1 ∧ (t.measOf b.val).fifo.take (s.measOf b.val).fifo.length = (s.measOf b.val).fifo ∧ ∀ x ∈ (t.measOf b.val).fifo.drop (s.measOf b.val).fifo.length, x.getD 0 0 = BitVec.ofInt 32 (averageOf r.exp (sampleSum r.exp sum)) ∧ ResultEntry r it.site (if clipped then 2 else if limited then 1 else 0) (s.isLate r) x)
         ∧ (r.toSite = false → (s.measOf b.val).fifo.length = 64 → (t.measOf b.val).fifo = (s.measOf b.val).fifo ∧ Counts .acq b.val MSR_RES_LOST_COUNT s t)
         ∧ (∀ i ∈ it.site, r.toSite = true → r.bits 2 19 19 = 0 → t.fldAt .site i SITE_S (r.bits 2 27 24) = (BitVec.ofInt 32 (s.convert b.val r it.unit (averageOf r.exp (sampleSum r.exp sum)))).toNat)
         ∧ (∀ i ∈ it.site, r.toSite = true → r.bits 2 19 19 = 1 → t.fldAt .site i SITE_S (r.bits 2 23 20) = (if clipped then 2 else if limited then 1 else 0) + 256 * bit (s.isLate r))
         ∧ (t.measOf b.val).run = none ∧ t.flag .acq b.val MSR_CUR_BUSY = false
         ∧ (∀ q ∈ (t.measOf b.val).reqs, q.same r = true → q.items ≠ [] ∨ q.released = none)
         ∧ ((s.measOf b.val).cap = none → t.fld .acq b.val ACQ_STAT_USE = 0)
         ∧ ((r.source = 1 ∨ r.source = 2 ∨ r.source = 3) → clipped = false → limited = true → Counts .pmu b.val PMU_COMPL_COUNT s t)
         ∧ MeasBut [b.val] s t
         ∧ StaysOn (measPages b.val ++ (List.range 256).map (pageBase .site)) s t
         ∧ (t = { s with regs := t.regs, hif := t.hif, faults := t.faults, evr := t.evr, free := t.free, meas := t.meas, pins := t.pins, sups := t.sups, guards := t.guards }))
    ∧ (∀ (b : Fin 24) (on : Bool), s.flag .pmu b.val PMU_STAT_CONNECTED = true → 
       ∃ t, exec (.pmuCompliance b on) s = .next t
         ∧ t.flag .pmu b.val PMU_STAT_COMPLIANCE = on
         ∧ (on = true → s.flag .pmu b.val PMU_STAT_COMPLIANCE = false → (t.intStat (pageBase .pmu b.val)).getLsbD 0 = true ∧ (t.fault (pageBase .pmu b.val)).hist.head?.map (·.cls) = some 1)
         ∧ Reported [pageBase .pmu b.val] [baseOf .pmu b.val + 0x14] s t
         ∧ (t = { s with regs := t.regs, hif := t.hif, faults := t.faults, evr := t.evr, free := t.free }))

/-- An arm answers with the first check that fails and then changes no capture, or admits it: it takes effect at once with its source connected, or waits while an item, a calibration step or a throttle pause holds the ACQ; its class is sequencer where the descriptor names a PAUSEPT, else who armed it (R409, R411). DISARM ends a capture; a segment that collects post-trigger results is closed (R417). Descriptors and spill registers take writes only while no capture is armed (R418). Setting the segment cursor takes a snapshot of the entries, and SEG_DATA returns the word there and advances (R64, R418). A result that does not fire the trigger joins the ring of PRE results; the one that fires it begins the post-trigger results, and the segment entry records the segment's base, the ring's start and count, NOCROSS and FRAC (R412, R413, R414, R418). POST results end the segment: its entry is kept and the next segment re-arms, or the capture is DONE (R415). A trigger met between segments is missed and counted (R416). A capture re-arms once it is ready and its hold-off has passed (R415). -/
def Obligations.ArmingACapture : Prop :=
  ∀ (s : State), Serving s →
    (∀ (b : Fin 24) (d : BitVec 2), 
       ∃ t, exec (.capArm b d) s = .next t
         ∧ t.fld .acq b.val ACQ_CAP_RESP_RESULT = s.armResult b.val (armOf s b.val d.toNat false)
         ∧ (s.armResult b.val (armOf s b.val d.toNat false) ≠ 1 → t.meas = s.meas ∧ Raised (pageBase .acq b.val) 4 1 s t ∧ (t.intStat (pageBase .acq b.val)).getLsbD 6 = true)
         ∧ (s.armResult b.val (armOf s b.val d.toNat false) = 1 → t.fld .acq b.val ACQ_CAP_STAT_DESC = d.toNat ∧ t.fld .acq b.val ACQ_CAP_STAT_CLASS = (armOf s b.val d.toNat false).cls ∧ t.fld .acq b.val ACQ_CAP_STAT_SEGS = 0)
         ∧ (s.armResult b.val (armOf s b.val d.toNat false) = 1 → (s.measOf b.val).run = none → s.calHasAcq b.val = false → s.msrThrottled b.val = false → (t.measOf b.val).cap = some { armOf s b.val d.toNat false with stage := if (armOf s b.val d.toNat false).cls = 2 then .pending else .armed } ∧ (t.measOf b.val).segs = [] ∧ t.fld .acq b.val ACQ_STAT_USE = 2 ∧ t.fld .acq b.val ACQ_CAP_STAT_STATE = if (armOf s b.val d.toNat false).cls = 2 then 1 else 2)
         ∧ (s.armResult b.val (armOf s b.val d.toNat false) = 1 → (s.measOf b.val).run.isSome = true ∨ s.calHasAcq b.val = true ∨ s.msrThrottled b.val = true → (t.measOf b.val).cap = some (armOf s b.val d.toNat false))
         ∧ MeasBut [b.val] s t
         ∧ StaysOn (measPages b.val) s t
         ∧ (t = { s with regs := t.regs, hif := t.hif, faults := t.faults, evr := t.evr, free := t.free, meas := t.meas, pins := t.pins, sups := t.sups, guards := t.guards }))
    ∧ (∀ (e : PstEntry), s.dueEntry 7 = some e → e.target < 24 → 
       ∃ t, exec .acqArm s = .next t
         ∧ (t.pst.entries = (s.pst.entries.filter fun x => x.slot != e.slot))
         ∧ t.fld .acq e.target ACQ_CAP_RESP_RESULT = s.armResult e.target (armOf s e.target (bitsOf e.arg 1 0) true)
         ∧ (s.armResult e.target (armOf s e.target (bitsOf e.arg 1 0) true) ≠ 1 → t.meas = s.meas ∧ Raised (pageBase .acq e.target) 4 1 s t ∧ (t.intStat (pageBase .acq e.target)).getLsbD 6 = true)
         ∧ (s.armResult e.target (armOf s e.target (bitsOf e.arg 1 0) true) = 1 → t.fld .acq e.target ACQ_CAP_STAT_DESC = (bitsOf e.arg 1 0) ∧ t.fld .acq e.target ACQ_CAP_STAT_CLASS = (armOf s e.target (bitsOf e.arg 1 0) true).cls ∧ t.fld .acq e.target ACQ_CAP_STAT_SEGS = 0)
         ∧ (s.armResult e.target (armOf s e.target (bitsOf e.arg 1 0) true) = 1 → (s.measOf e.target).run = none → s.calHasAcq e.target = false → s.msrThrottled e.target = false → (t.measOf e.target).cap = some { armOf s e.target (bitsOf e.arg 1 0) true with stage := if (armOf s e.target (bitsOf e.arg 1 0) true).cls = 2 then .pending else .armed } ∧ (t.measOf e.target).segs = [] ∧ t.fld .acq e.target ACQ_STAT_USE = 2 ∧ t.fld .acq e.target ACQ_CAP_STAT_STATE = if (armOf s e.target (bitsOf e.arg 1 0) true).cls = 2 then 1 else 2)
         ∧ (s.armResult e.target (armOf s e.target (bitsOf e.arg 1 0) true) = 1 → (s.measOf e.target).run.isSome = true ∨ s.calHasAcq e.target = true ∨ s.msrThrottled e.target = true → (t.measOf e.target).cap = some (armOf s e.target (bitsOf e.arg 1 0) true))
         ∧ (t.pst.log.head?.map (fun l => (l.status, l.word)) = some (if s.armResult e.target (armOf s e.target (bitsOf e.arg 1 0) true) = 1 then if s.epc.source = .holdover then (2, 0) else (0, 0) else (1, BitVec.ofNat 32 (s.armResult e.target (armOf s e.target (bitsOf e.arg 1 0) true)))))
         ∧ MeasBut [e.target] s t
         ∧ StaysOn (0x11000 :: measPages e.target) s t)
    ∧ (∀ (b : Fin 24) (d : BitVec 2), 
       ∃ t, exec (.capDisarm b d) s = .next t
         ∧ (t.measOf b.val).cap = none ∧ (t.measOf b.val).mem = (s.measOf b.val).mem
         ∧ ((s.measOf b.val).cap = none → (t.measOf b.val) = (s.measOf b.val))
         ∧ (∀ c ∈ (s.measOf b.val).cap, t.fld .acq b.val ACQ_CAP_STAT_STATE = 0 ∧ (c.stage = .post → (t.measOf b.val).segs = (s.measOf b.val).segs ++ [closeEntry c.entry true c.posts]) ∧ (c.stage ≠ .post → (t.measOf b.val).segs = (s.measOf b.val).segs))
         ∧ MeasBut [b.val] s t
         ∧ StaysOn (measPages b.val) s t
         ∧ (t = { s with regs := t.regs, hif := t.hif, faults := t.faults, evr := t.evr, free := t.free, meas := t.meas, pins := t.pins, sups := t.sups, guards := t.guards }))
    ∧ (∀ (b : Fin 24) (off : Nat) (v : Word), isCapReg off = true → 
       ∃ t, exec (.capDescriptorWrite b off v) s = .next t
         ∧ ((s.measOf b.val).cap = none → t.rd (baseOf .acq b.val + off) = (if off = 0x128 then v &&& 0x03FFFFFF else v))
         ∧ ((s.measOf b.val).cap.isSome = true → Raised (pageBase .acq b.val) 5 1 s t ∧ t.rd (baseOf .acq b.val + off) = s.rd (baseOf .acq b.val + off))
         ∧ t.meas = s.meas
         ∧ Reported [pageBase .acq b.val] [baseOf .acq b.val + off] s t
         ∧ (t = { s with regs := t.regs, hif := t.hif, faults := t.faults, evr := t.evr, free := t.free, banks := t.banks }))
    ∧ (∀ (b : Fin 24) (v : Word), 
       ∃ t, exec (.segCurWrite b v) s = .next t
         ∧ t.fld .acq b.val ACQ_SEG_CUR_SEG = bitsOf v 15 8 ∧ t.fld .acq b.val ACQ_SEG_CUR_WORD = bitsOf v 2 0
         ∧ (t.measOf b.val) = { (s.measOf b.val) with snap := some (s.measOf b.val).segs }
         ∧ MeasBut [b.val] s t
         ∧ RegsBut [baseOf .acq b.val + 0x140] s t
         ∧ t = { s with regs := t.regs, meas := t.meas })
    ∧ (∀ (b : Fin 24), 
       ∃ t, exec (.segDataRead b) s = .next t
         ∧ t.hif.resp = .words [((((s.measOf b.val).snap.getD (s.measOf b.val).segs).getD (s.fld .acq b.val ACQ_SEG_CUR_SEG) []).getD (s.fld .acq b.val ACQ_SEG_CUR_WORD) 0)]
         ∧ 8 * t.fld .acq b.val ACQ_SEG_CUR_SEG + t.fld .acq b.val ACQ_SEG_CUR_WORD = (8 * s.fld .acq b.val ACQ_SEG_CUR_SEG + s.fld .acq b.val ACQ_SEG_CUR_WORD + 1) % 2048
         ∧ RegsBut [baseOf .acq b.val + 0x140] s t
         ∧ (t = { s with regs := t.regs, hif := { s.hif with resp := t.hif.resp } }))
    ∧ (∀ (b : Fin 24) (sum : Int) (clipped limited : Bool) (c : Capture), (s.measOf b.val).cap = some c → c.entry.length = 8 ∨ c.stage ≠ .post → 
       ∃ t, exec (.captureResult b sum clipped limited) s = .next t
         ∧ (c.stage = .armed → c.fires (resultOf c sum) c.primed = false → ((t.measOf b.val).cap.map fun x => (x.stage, x.kept, x.prev.map (·.r), x.primed)) = some (.armed, min c.pre (c.kept + 1), some (resultOf c sum), c.primed || c.primes (resultOf c sum)) ∧ (0 < c.pre → c.base + c.ringNext < 65536 → CapWrites b.val (c.base + c.ringNext) (capWord (resultOf c sum) clipped limited) s t))
         ∧ (c.stage = .armed → c.fires (resultOf c sum) c.primed = true → 1 < c.post → ((t.measOf b.val).cap.map fun x => (x.stage, x.posts, x.kept)) = some (.post, 1, c.kept) ∧ t.fld .acq b.val ACQ_CAP_STAT_STATE = 3 ∧ (c.base + c.pre < 65536 → CapWrites b.val (c.base + c.pre) (capWord (resultOf c sum) clipped limited) s t))
         ∧ (c.stage = .armed → c.fires (resultOf c sum) c.primed = true → 1 < c.post → ∀ x ∈ (t.measOf b.val).cap, ∀ p ∈ c.prev, x.entry.getD 0 0 = BitVec.ofNat 32 c.base ∧ bitsOf (x.entry.getD 1 0) 15 0 = c.kept % 2 ^ 16 ∧ (wordBits c.words 2 31 28 = 0 ∨ c.beyond p.r = true → (x.entry.getD 2 0).getLsbD 31 = true) ∧ (¬(wordBits c.words 2 31 28 = 0 ∨ c.beyond p.r = true) → (x.entry.getD 2 0).getLsbD 31 = false ∧ (bitsOf (x.entry.getD 3 0) 31 24 = 255 ∨ 2 * (256 * (c.level - p.r) - (bitsOf (x.entry.getD 3 0) 31 24 : Int) * ((resultOf c sum) - p.r)).natAbs ≤ ((resultOf c sum) - p.r).natAbs)))
         ∧ (c.stage = .post → c.posts + 1 < c.post → ((t.measOf b.val).cap.map fun x => (x.stage, x.posts)) = some (.post, c.posts + 1) ∧ (c.base + c.pre + c.posts < 65536 → CapWrites b.val (c.base + c.pre + c.posts) (capWord (resultOf c sum) clipped limited) s t))
         ∧ (c.stage = .post → c.posts + 1 = c.post → (t.measOf b.val).segs = (s.measOf b.val).segs ++ [closeEntry c.entry false c.post] ∧ (t.intStat (pageBase .acq b.val)).getLsbD 5 = true ∧ (c.nseg ≤ c.segs + 1 → (t.measOf b.val).cap = none ∧ t.fld .acq b.val ACQ_CAP_STAT_STATE = 5 ∧ (t.intStat (pageBase .acq b.val)).getLsbD 4 = true) ∧ (c.segs + 1 < c.nseg → ((t.measOf b.val).cap.map (·.segs)) = some (c.segs + 1) ∧ t.fld .acq b.val ACQ_CAP_STAT_STATE = 4))
         ∧ (c.between = true → c.fires (resultOf c sum) c.primed = true → Counts .acq b.val ACQ_MISSED_COUNT s t ∧ ((t.measOf b.val).cap.map fun x => (x.stage, x.hold)) = some (c.stage, c.hold - 1))
         ∧ MeasBut [b.val] s t
         ∧ StaysOn (measPages b.val) s t
         ∧ (t = { s with regs := t.regs, hif := t.hif, faults := t.faults, evr := t.evr, free := t.free, meas := t.meas, pins := t.pins, sups := t.sups, guards := t.guards, vs := t.vs })
         ∧ (c.base + c.pre + c.post ≤ 65536 → c.ringNext ≤ c.pre → c.posts < c.post → t.vs = s.vs))
    ∧ (∀ (b : Fin 24) (c : Capture) (rd : Bool) (since : Nat), (s.measOf b.val).cap = some c → c.stage = .rearm rd since → 
       ∃ t, exec (.capRearm b) s = .next t
         ∧ (c.waitsOn s = true → ((t.measOf b.val).cap.map (·.stage)) = some (.rearm true since) ∧ RegsBut [] s t)
         ∧ (c.waitsOn s = false → ((t.measOf b.val).cap.map fun x => (x.stage, x.kept, x.posts, x.primed, x.segs)) = some (if c.cls = 2 then .pending else .armed, 0, 0, false, c.segs) ∧ t.fld .acq b.val ACQ_CAP_STAT_STATE = (if c.cls = 2 then 1 else 2))
         ∧ (c.waitsOn s = false → ∀ e ∈ (s.measOf b.val).segs.getLast?, e.length = 8 → ∀ f ∈ (t.measOf b.val).segs.getLast?, f.getD 6 0 = BitVec.ofNat 32 (s.nsOf (s.clock - since)))
         ∧ (t.measOf b.val).mem = (s.measOf b.val).mem
         ∧ MeasBut [b.val] s t
         ∧ RegsBut [baseOf .acq b.val + 0x104] s t
         ∧ t = { s with regs := t.regs, meas := t.meas })

/-- An arm answers with the first check of R425 that fails and then raises class 1 at Notice and leaves the unit as it was; admitted, it makes the unit ARMED with every result cleared. An edge of a source that the unit does not use, or that forwards none, changes nothing (R422, R424). The start edge makes the unit RUNNING and TMU_T0 takes its position (R426). The edge of a stop's occurrence gives its result: the interval in 0.25 ps LSBs, ORDER where the stop came first and COINCIDENT within one LSB (R427, R428). Where every stop has a result, or the range or TIMEOUT is passed, the unit is DONE (R426, R429). DISARM makes a busy unit IDLE (R430). The registers of a measurement take writes only while the unit is not busy, and else raise class 4 (R430). CAL_GO makes a unit that is neither busy nor with the device a DEVICE unit for its calibration, and else raises class 4; the calibration leaves HITS and its RESULT: where two runs agree within 1 ps, the table is their mean and BINTAB_VALID is set; a histogram with an empty or a double-width bin gives BIN_BAD and class 2; runs that do not agree give UNSTABLE (R431, R432). TMU_BIN_DATA returns the bin at the cursor, which advances (R431). -/
def Obligations.TimeMeasurement : Prop :=
  ∀ (s : State), Serving s →
    (∀ (u : Fin 16) (rsv : Bool), 
       ∃ t, exec (.tmuCtrlArm u rsv) s = .next t
         ∧ t.fld .tmu u.val TMU_RESP_RESULT = s.armCheck u.val 0
         ∧ (s.armCheck u.val 0 ≠ 1 → t.tmus = s.tmus ∧ t.tmuState u.val = s.tmuState u.val ∧ Raised (pageBase .tmu u.val) 1 1 s t)
         ∧ (s.armCheck u.val 0 = 1 → t.tmuState u.val = 1 ∧ t.fld .tmu u.val TMU_STAT_OWNER = 0 ∧ (t.tmu u.val).bins = (s.tmu u.val).bins ∧ (t.tmu u.val).edges = [] ∧ (t.tmu u.val).count = 0 ∧ ∀ i < 15, t.fldAt .tmu u.val TMU_RES_VALID i = 0 ∧ t.fldAt .tmu u.val TMU_RES_TIMEOUT i = 0 ∧ t.fldAt .tmu u.val TMU_RES_LO i = 0)
         ∧ t.flag .tmu u.val TMU_CTRL_HOST_RESERVE = rsv
         ∧ TmuOnly u.val [] s t)
    ∧ (∀ (e : PstEntry), s.dueEntry 8 = some e → e.target < 16 → 
       ∃ t, exec .tmuArm s = .next t
         ∧ (t.pst.entries = (s.pst.entries.filter fun x => x.slot != e.slot))
         ∧ t.fld .tmu e.target TMU_RESP_RESULT = s.armCheck e.target 32
         ∧ (s.armCheck e.target 32 ≠ 1 → t.tmus = s.tmus ∧ t.tmuState e.target = s.tmuState e.target ∧ Raised (pageBase .tmu e.target) 1 1 s t)
         ∧ (s.armCheck e.target 32 = 1 → t.tmuState e.target = 1 ∧ t.fld .tmu e.target TMU_STAT_OWNER = 1 ∧ (t.tmu e.target).bins = (s.tmu e.target).bins ∧ (t.tmu e.target).edges = [] ∧ (t.tmu e.target).count = 0 ∧ ∀ i < 15, t.fldAt .tmu e.target TMU_RES_VALID i = 0 ∧ t.fldAt .tmu e.target TMU_RES_TIMEOUT i = 0 ∧ t.fldAt .tmu e.target TMU_RES_LO i = 0)
         ∧ TmusBut [e.target] s t
         ∧ StaysOn [0x11000, pageBase .tmu e.target] s t)
    ∧ (∀ (u : Fin 16) (rsv : Bool), 
       ∃ t, exec (.disarm u rsv) s = .next t
         ∧ t.flag .tmu u.val TMU_CTRL_HOST_RESERVE = rsv
         ∧ (t.tmuState u.val = if s.tmuBusy u.val then 0 else s.tmuState u.val)
         ∧ RegsBut [baseOf .tmu u.val + 0x4, baseOf .tmu u.val + 0x0] s t
         ∧ t = { s with regs := t.regs })
    ∧ (∀ (u : Fin 16) (src : BitVec 8) (cycle : Nat) (code : Fin 512), s.mult ≠ 0 → 
       ∃ t, exec (.tmuEdge u src cycle code) s = .next t
         ∧ (s.tmuBusy u.val = false ∨ src.toNat ∉ (s.tmuUsed u.val).map (s.tmuSrc u.val) ∨ s.srcLive src.toNat = false → t = s)
         ∧ (s.tmuBusy u.val = true → src.toNat ∈ (s.tmuUsed u.val).map (s.tmuSrc u.val) → s.srcLive src.toNat = true → s.tmuState u.val = 1 → s.tmuSrc u.val 0 = src.toNat → (s.tmu u.val).count + 1 = s.tmuOcc u.val 0 → (∀ l ∈ lookupKey (s.tmu u.val).last src.toNat, 5000 * s.tmuLsb ≤ s.edgeTime u.val src.toNat cycle code.val - l) → 2 ≤ t.tmuState u.val ∧ (t.tmu u.val).start = s.edgeTime u.val src.toNat cycle code.val + s.fixShift u.val 0 src.toNat * s.tmuLsb ∧ t.fld .tmu u.val TMU_T0_P = (((t.tmu u.val).start / 10240000).toNat % s.frameN) % 2 ^ 16 ∧ t.fld .tmu u.val TMU_T0_F_LO = (((t.tmu u.val).start / 10240000).toNat / s.frameN) % 2 ^ 32)
         ∧ (s.tmuBusy u.val = true → s.srcLive src.toNat = true → s.tmuState u.val = 2 → s.edgeTime u.val src.toNat cycle code.val ≤ (s.tmu u.val).start + s.tmuRange u.val → ∀ i ∈ s.tmuStops u.val, i ≤ 15 → GivesStop s u.val src.toNat i (s.edgeTime u.val src.toNat cycle code.val) → t.fldAt .tmu u.val TMU_RES_VALID (i - 1) = 1 ∧ t.fldAt .tmu u.val TMU_RES_COINCIDENT (i - 1) = bit (decide ((intervalOf s u.val src.toNat i (s.edgeTime u.val src.toNat cycle code.val)).natAbs < s.tmuLsb.natAbs)) ∧ t.fldAt .tmu u.val TMU_RES_ORDER (i - 1) = bit (decide (intervalOf s u.val src.toNat i (s.edgeTime u.val src.toNat cycle code.val) ≤ -s.tmuLsb)) ∧ t.fldAt .tmu u.val TMU_RES_LO (i - 1) = (BitVec.ofInt 32 (if (intervalOf s u.val src.toNat i (s.edgeTime u.val src.toNat cycle code.val)).natAbs < s.tmuLsb.natAbs then 0 else roundAway (intervalOf s u.val src.toNat i (s.edgeTime u.val src.toNat cycle code.val)) s.tmuLsb.toNat)).toNat)
         ∧ (s.tmuBusy u.val = true → src.toNat ∈ (s.tmuUsed u.val).map (s.tmuSrc u.val) → s.srcLive src.toNat = true → s.tmuState u.val = 2 → (s.tmu u.val).start + s.tmuRange u.val < s.edgeTime u.val src.toNat cycle code.val → t.tmuState u.val = 3 ∧ ∀ i ∈ s.tmuStops u.val, i ≤ 15 → s.stopHas u.val i = true ∨ t.fldAt .tmu u.val TMU_RES_TIMEOUT (i - 1) = 1)
         ∧ (t.tmuState u.val = 3 → s.tmuState u.val ≠ 3 → Counts .tmu u.val TMU_COUNT s t ∧ (t.intStat (pageBase .tmu u.val)).getLsbD (8 * (u.val % 2)) = true)
         ∧ TmuOnly u.val [] s t)
    ∧ (∀ (u : Fin 16), s.tmuState u.val = 2 → 
       ∃ t, exec (.tmuTimeout u) s = .next t
         ∧ t.tmuState u.val = 3 ∧ Counts .tmu u.val TMU_COUNT s t
         ∧ (∀ i < 15, t.fldAt .tmu u.val TMU_RES_VALID i = s.fldAt .tmu u.val TMU_RES_VALID i)
         ∧ (∀ i ∈ s.tmuStops u.val, i ≤ 15 → s.stopHas u.val i = true ∨ t.fldAt .tmu u.val TMU_RES_TIMEOUT (i - 1) = 1)
         ∧ TmuOnly u.val [] s t)
    ∧ (∀ (u : Fin 16) (off : Nat) (v : Word), isTmuConfig off = true → 
       ∃ t, exec (.tmuConfigWrite u off v) s = .next t
         ∧ (s.tmuBusy u.val = true → Raised (pageBase .tmu u.val) 4 1 s t ∧ TmuOnly u.val [] s t ∧ t.tmus = s.tmus)
         ∧ (s.tmuBusy u.val = false → off = 0x10 → t.fld .tmu u.val TMU_CFG_NSTOP = bitsOf v 3 0)
         ∧ (s.tmuBusy u.val = false → off = 0x14 → t.fld .tmu u.val TMU_TIMEOUT_US = min 274877 (bitsOf v 18 0))
         ∧ (s.tmuBusy u.val = false → off = 0xC ∨ 0x44 ≤ off → t.rd (baseOf .tmu u.val + off) = v &&& 0x1FFFFF)
         ∧ (s.tmuBusy u.val = false → off = 0x1C → t.rd (baseOf .tmu u.val + 0x1C) = v ∧ t.rd (baseOf .tmu u.val + 0x18) = (lookupKey s.hif.lowBuf (baseOf .tmu u.val + 0x18)).getD (s.rd (baseOf .tmu u.val + 0x18)))
         ∧ (s.tmuBusy u.val = false → off = 0x18 → t.regs = s.regs ∧ lookupKey t.hif.lowBuf (baseOf .tmu u.val + 0x18) = some v)
         ∧ (s.tmuBusy u.val = false → RegsBut (if off = 0x1C then [baseOf .tmu u.val + 0x18, baseOf .tmu u.val + 0x1C] else [baseOf .tmu u.val + off]) s t ∧ t = { s with regs := t.regs, hif := { s.hif with lowBuf := t.hif.lowBuf } }))
    ∧ (∀ (u : Fin 16) (rsv : Bool), 
       ∃ t, exec (.calGo u rsv) s = .next t
         ∧ t.flag .tmu u.val TMU_CTRL_HOST_RESERVE = rsv
         ∧ (s.tmuBusy u.val = true ∨ s.tmuState u.val = 4 → Raised (pageBase .tmu u.val) 4 1 s t ∧ t.tmuState u.val = s.tmuState u.val)
         ∧ (s.tmuBusy u.val = false → s.tmuState u.val ≠ 4 → t.tmuState u.val = 4 ∧ t.fld .tmu u.val TMU_STAT_OWNER = 2 ∧ (t.tmu u.val).back = s.tmuState u.val ∧ (t.tmu u.val).bins = (s.tmu u.val).bins)
         ∧ TmuOnly u.val [] s t)
    ∧ (∀ (u : Fin 16) (runs : List (List Nat)) (aborted : Bool), s.tmuBusy u.val = false → 
       ∃ t, exec (.tmuCalDone u runs aborted) s = .next t
         ∧ (aborted = true → t.fld .tmu u.val TMU_CAL_STAT_RESULT = 4 ∧ t.tmus = s.tmus)
         ∧ (aborted = false → runs.any binBad = true → t.fld .tmu u.val TMU_CAL_STAT_RESULT = 3 ∧ t.tmus = s.tmus ∧ (t.fault (pageBase .tmu u.val)).hist.head?.map (·.cls) = some 2)
         ∧ (∀ a ∈ runs[0]?, ∀ b ∈ runs[1]?, aborted = false → runs.any binBad = false → (∀ tab ∈ agreedTable (s.runTable a) (s.runTable b) (runs[2]?.map s.runTable), t.fld .tmu u.val TMU_CAL_STAT_RESULT = 1 ∧ t.flag .tmu u.val TMU_STAT_BINTAB_VALID = true ∧ ∀ k < 512, mapGet (fun _ => 0) (t.tmu u.val).bins k = (tab.getD k 0).toNat) ∧ (agreedTable (s.runTable a) (s.runTable b) (runs[2]?.map s.runTable) = none → t.fld .tmu u.val TMU_CAL_STAT_RESULT = 2 ∧ t.tmus = s.tmus))
         ∧ t.fld .tmu u.val TMU_CAL_STAT_HITS = ((runs.getLastD []).foldl (· + ·) 0) % 2 ^ 24
         ∧ (s.tmuState u.val = 4 → t.tmuState u.val = (s.tmu u.val).back % 8)
         ∧ TmuOnly u.val [baseOf .tmu u.val + 0x18c] s t)
    ∧ (∀ (u : Fin 16), 
       ∃ t, exec (.tmuBinDataRead u) s = .next t
         ∧ (t.hif.resp = .words [BitVec.ofNat 32 (mapGet (fun _ => 0) (s.tmu u.val).bins (s.fld .tmu u.val TMU_BIN_CUR_BIN))])
         ∧ t.fld .tmu u.val TMU_BIN_CUR_BIN = (s.fld .tmu u.val TMU_BIN_CUR_BIN + 1) % 512
         ∧ RegsBut [baseOf .tmu u.val + 0x180] s t
         ∧ (t = { s with regs := t.regs, hif := { s.hif with resp := t.hif.resp } }))

/-! ### Chapters 11 and 13: guard monitors, calibration and temperature -/

/-- A window with HI below LO is refused with class 5 at Notice; else HI and LO take it (R379). A ninth FAST monitor keeps its MODE with class 4, ACTION 3 leaves ACTION, and the other fields are stored (R380, R386). A monitor that runs and is not blanked shows in LIVE whether its quantity lies outside its window; leaving it sets TRIP, counts the trip, signals it and takes its ACTION: an ALERT is raised at Notice, DISCONNECT flushes and disconnects the supply or masks the site, CRITICAL takes every supply to its fault value (R376, R378, R385, R386). A sampled monitor is evaluated at the tick and a continuous one at its crossing and at the end of its blanking (R380, R383, R385). GMN_BLANK1 starts scheduled blanking of the masked monitors, or ends it where its duration is 0 (R384). -/
def Obligations.GuardMonitors : Prop :=
  ∀ (s : State), Serving s →
    (∀ (b : Fin 24) (m : Fin 39) (v : Word), 
       ∃ t, exec (.gmnWinWrite b m v) s = .next t
         ∧ (gmnUnits (s.gmnSigned b.val m.val) (bitsOf v 31 16) < gmnUnits (s.gmnSigned b.val m.val) (bitsOf v 15 0) → Raised (pageBase .gmn b.val) 5 1 s t ∧ Reported [pageBase .gmn b.val] [] s t ∧ t.banks = s.banks)
         ∧ (gmnUnits (s.gmnSigned b.val m.val) (bitsOf v 15 0) ≤ gmnUnits (s.gmnSigned b.val m.val) (bitsOf v 31 16) → t.fldAt .gmn b.val GMN_WIN_HI m.val = bitsOf v 31 16 ∧ t.fldAt .gmn b.val GMN_WIN_LO m.val = bitsOf v 15 0 ∧ RegsBut [fldOff .gmn b.val GMN_WIN_HI m.val] s t ∧ t.faults = s.faults)
         ∧ (t = { s with regs := t.regs, hif := t.hif, faults := t.faults, evr := t.evr, free := t.free, banks := t.banks }))
    ∧ (∀ (b : Fin 24) (m : Fin 39) (v : Word), 
       ∃ t, exec (.gmnCfgWrite b m v) s = .next t
         ∧ (t.gmnMode b.val m.val = (if bitsOf v 30 29 = 1 ∧ 8 ≤ s.fastOthers b.val m.val then s.gmnMode b.val m.val else bitsOf v 30 29))
         ∧ (t.fldAt .gmn b.val GMN_CFG_ACTION m.val = (if bitsOf v 27 26 = 3 then s.fldAt .gmn b.val GMN_CFG_ACTION m.val else bitsOf v 27 26))
         ∧ t.fldAt .gmn b.val GMN_CFG_EN m.val = bitsOf v 31 31
         ∧ (bitsOf v 30 29 = 1 → 8 ≤ s.fastOthers b.val m.val → Raised (pageBase .gmn b.val) 4 1 s t)
         ∧ Reported [pageBase .gmn b.val] [fldOff .gmn b.val GMN_CFG_EN m.val] s t
         ∧ (t = { s with regs := t.regs, hif := t.hif, faults := t.faults, evr := t.evr, free := t.free, banks := t.banks }))
    ∧ (∀ (b : Fin 24) (v : Word), 
       ∃ t, exec (.gmnBlank1 b v) s = .next t
         ∧ (∀ m < 39, (t.guard (39 * b.val + m)).sched = (if (if m < 32 then bitAt (s.fld .gmn b.val GMN_BLANK0_MASK) m else v.getLsbD (m - 32)) then decide (bitsOf v 31 16 ≠ 0) else (s.guard (39 * b.val + m)).sched) ∧ (t.guard (39 * b.val + m)).level = (s.guard (39 * b.val + m)).level)
         ∧ (∀ j < 936, j / 39 ≠ b.val → t.guard j = s.guard j)
         ∧ t = { s with guards := t.guards })
    ∧ (∀ (obs : List GuardObs), 
       ∃ t, exec (.guardTick obs) s = .next t
         ∧ (∀ b < 24, ∀ m < 39, (∀ o ∈ obs, ¬(o.bank.val = b ∧ o.m.val = m)) → tripped t b m = tripped s b m ∧ live t b m = live s b m)
         ∧ (obs.length = 1 → ∀ o ∈ obs, if s.gmnMode o.bank o.m = 0 ∨ tripped s o.bank o.m = true then Evaluates o s t else t = s))
    ∧ (∀ (o : GuardObs), 
       ∃ t, exec (.guardCrossing o) s = .next t
         ∧ (s.gmnMode o.bank o.m = 0 ∨ s.gmnOutside o.bank o.m o.value = false → t = s)
         ∧ (s.gmnMode o.bank o.m ≠ 0 → s.gmnOutside o.bank o.m o.value = true → Evaluates o s t))
    ∧ (∀ (o : GuardObs) (sc : Bool), 
       ∃ t, exec (.blankEnd o sc) s = .next t
         ∧ ((sc = true → (t.guard (39 * o.bank.val + o.m.val)).sched = false) ∧ (sc = false → (t.guard (39 * o.bank.val + o.m.val)).sched = (s.guard (39 * o.bank.val + o.m.val)).sched))
         ∧ (s.gmnMode o.bank o.m = 0 → t = { s with guards := t.guards } ∧ (sc = false → (t.guard (39 * o.bank.val + o.m.val)).level = false))
         ∧ (s.gmnMode o.bank o.m ≠ 0 → Evaluates o (s.setGuard (39 * o.bank.val + o.m.val) (if sc then { s.guard (39 * o.bank.val + o.m.val) with sched := false } else { s.guard (39 * o.bank.val + o.m.val) with level := false })) t))

/-- A sample shows every sensor's reading, counts consecutive bad ones, and at the third breaks the sensor, which then shows THM_CRIT (R453, R457). A region takes the hottest of its sensors; it enters WARN, THROTTLE and CRITICAL at the tenth consecutive sample at or above their thresholds and leaves them at the tenth at 2 °C below (R454, R455). Two broken sensors, or ten samples at THM_SHUT, shut the region down: THM_LAST is latched and its banks and domain are off (R457, R461). A throttled region's pauses alternate and move the levers (R459). A threshold keeps its order and its default as its maximum, and nothing once LOCK is set (R454). A front-end die held unpowered is released at or below THM_CRIT less 2 °C (R463). -/
def Obligations.Temperature : Prop :=
  ∀ (s : State), Serving s →
    (∀ (rs : List Reading), rs.length = 32 → 
       ∃ t, exec (.thermalSample rs) s = .next t
         ∧ (∀ i < 32, mapGet (fun _ => 0) t.thm.bad i = badRun s i (rs.getD i ⟨0, true⟩))
         ∧ (∀ i < 32, t.sensorBroken i = (s.sensorBroken i || decide (3 ≤ badRun s i (rs.getD i ⟨0, true⟩))) ∧ t.fldAt .thm 0 THM_SENSOR_TEMP i = if t.sensorBroken i then s.fld .thm 0 THM_CRIT else cutInt 16 (rs.getD i ⟨0, true⟩).temp)
         ∧ (∀ g < 5, (∀ i ∈ regionSensors g, t.sensorT i ≤ max (t.regionT g) (-32768)) ∧ t.fldAt .thm 0 THM_REGION_TEMP g = cutInt 16 (t.regionT g))
         ∧ (∀ g < 5, Dwells g 0 (decide (s.thr 0 ≤ (t.regionT g))) (decide ((t.regionT g) ≤ s.thr 0 - 32)) s t ∧ Dwells g 1 (decide (s.thr 1 ≤ (t.regionT g))) (decide ((t.regionT g) ≤ s.thr 1 - 32)) s t ∧ Dwells g 3 (decide (s.thr 2 ≤ (t.regionT g))) (decide ((t.regionT g) ≤ s.thr 2 - 32)) s t)
         ∧ (∀ g < 5, t.inThermal g 4 = (s.inThermal g 4 || decide (2 ≤ t.brokenIn g) || (decide (s.thr 3 ≤ (t.regionT g)) && decide (s.dwell g 4 0 = 9))))
         ∧ (∀ g < 5, s.inThermal g 4 = false → t.inThermal g 4 = true → t.flag .thm 0 THM_LAST_VALID = true ∧ (∀ b ∈ regionBanks g, t.bankOn b = false) ∧ (g < 4 → t.domains.getLsbD (12 + g) = false) ∧ (g = 4 → t.domains = 1 ∧ t.live = false))
         ∧ (if (List.range 5).any s.pausing then Counts .thm 0 THM_THR_MS_COUNT s t else t.fld .thm 0 THM_THR_MS_COUNT = s.fld .thm 0 THM_THR_MS_COUNT)
         ∧ t.thm.hist = ((List.range 32).map t.sensorT :: s.thm.hist).take 100
         ∧ t.epc = s.epc ∧ t.fre = s.fre ∧ t.pst = s.pst ∧ t.overlay = s.overlay ∧ t.spm = s.spm)
    ∧ (∀ (g : Fin 5), 
       ∃ t, exec (.throttlePhase g) s = .next t
         ∧ (s.throttled g.val = true → t.pausing g.val = !s.pausing g.val)
         ∧ (s.throttled g.val = false → t = s)
         ∧ (∀ h < 5, h ≠ g.val → t.pausing h = s.pausing h)
         ∧ (s.throttled g.val = true → ∀ n < 8, t.flag .psq n PSQ_PAUSE_STAT_THROTTLE = (s.flag .thm 0 THM_THR_CFG_PSQ_EN && (t.pausing 4 || (s.psqBanks n).any (((List.range 5).filter t.pausing).flatMap regionBanks).contains)))
         ∧ (s.throttled g.val = true → t.flag .vmc 0 VMC_STAT_SCRUB_DEFERRED = s.flag .thm 0 THM_THR_CFG_SCRUB_EN)
         ∧ ((∀ b < 24, (s.measOf b).cap = none) → RegsBut ([0x200000 + 0x14, fldOff .thm 0 THM_REGION_PAUSING g.val] ++ (List.range 8).map fun n => fldOff .psq n PSQ_PAUSE_STAT_THROTTLE 0) s t ∧ t = { s with regs := t.regs }))
    ∧ (∀ (off : Nat) (v : Word), off % 4 = 0 → 0x40 ≤ off → off ≤ 0x50 → 
       ∃ t, exec (.thmThresholdWrite off v) s = .next t
         ∧ (off ≠ 0x40 → s.flag .thm 0 THM_CFG_LOCK = true → t = s)
         ∧ (off ≠ 0x40 → s.flag .thm 0 THM_CFG_LOCK = false → s.thrOk ((off - 0x44) / 4) (signedOf 16 (bitsOf v 15 0)) = true → t.thr ((off - 0x44) / 4) = signedOf 16 (bitsOf v 15 0) ∧ OnlyRegs [0x40000 + off] s t)
         ∧ (off ≠ 0x40 → s.flag .thm 0 THM_CFG_LOCK = false → s.thrOk ((off - 0x44) / 4) (signedOf 16 (bitsOf v 15 0)) = false → Raised 0x40000 7 1 s t ∧ (t.intStat 0x40000).getLsbD 6 = true ∧ Reported [0x40000] [] s t)
         ∧ (off = 0x40 → t.fld .thm 0 THM_CFG_RATE_LIM = (if s.flag .thm 0 THM_CFG_LOCK then s.fld .thm 0 THM_CFG_RATE_LIM else min 80 (bitsOf v 15 0)) ∧ t.flag .thm 0 THM_CFG_LOCK = (s.flag .thm 0 THM_CFG_LOCK || v.getLsbD 31) ∧ OnlyRegs [0x40040] s t)
         ∧ (t = { s with regs := t.regs, hif := t.hif, faults := t.faults, evr := t.evr, free := t.free }))
    ∧ (∀ (v : Word), 
       ∃ t, exec (.lock v) s = .next t
         ∧ t.flag .thm 0 THM_CFG_LOCK = true
         ∧ (t.fld .thm 0 THM_CFG_RATE_LIM = (if s.flag .thm 0 THM_CFG_LOCK then s.fld .thm 0 THM_CFG_RATE_LIM else min 80 (bitsOf v 15 0)))
         ∧ OnlyRegs [0x40040] s t)
    ∧ (∀ (f : Fin 4), 
       ∃ t, exec (.fePowerRetry f) s = .next t
         ∧ ((s.fe f.val).heldOff = false ∨ s.thr 2 - 32 < s.regionT f.val → t = s)
         ∧ ((s.fe f.val).heldOff = true → s.regionT f.val ≤ s.thr 2 - 32 → (t.fe f.val).heldOff = false)
         ∧ t.pins = s.pins ∧ t.sups = s.sups ∧ t.epc = s.epc ∧ t.thm = s.thm)

/-- CAL_CTRL.GO makes the selected records due, ABORT abandons every step and clears CAL_DUE (R442, R446). A record is due once its last run is older than MAX_AGE_H, and its being overdue is raised once (R442, R464). The conductor starts a step of the core record where a TMU is free, and of a bank only where it is due, in a gap, its resources are free and the step ends before the gap closes, eight banks at most (R443, R444). A step's correction that agrees twice is written into the set in force as R449 computes, one that does not is counted and keeps its value; the last step ends the run (R447, R448). A copy that commits is intact with its new generation; one that fails raises class 5 and the commit goes no further (R450). -/
def Obligations.CalibrationRuns : Prop :=
  ∀ (s : State), Serving s →
    (∃ t, exec .calCtrlGo s = .next t
         ∧ (∀ r < 25, t.calDue r = (s.calDue r || bitAt (s.fld .cal 0 CAL_BANKS) r))
         ∧ (∀ r < 25, bitAt (s.fld .cal 0 CAL_BANKS) r = true → s.calRunning r = true → (t.calRec r).again = true)
         ∧ RegsBut [0x4104c] s t
         ∧ t = { s with regs := t.regs, cal := t.cal })
    ∧ (∃ t, exec .abort s = .next t
         ∧ t.fld .cal 0 CAL_DUE = 0 ∧ t.fld .cal 0 CAL_RUNNING = 0
         ∧ (∀ r < 25, (t.calRec r).step = none ∧ (t.calRec r).data = (s.calRec r).data)
         ∧ (RegsBut ([0x41000 + 0x4c, 0x41000 + 0x50] ++ (List.range 16).map fun u => fldOff .tmu u TMU_STAT_STATE 0) s t)
         ∧ t = { s with regs := t.regs, cal := t.cal })
    ∧ (∀ (r : Fin 25), 
       ∃ t, exec (.calAgeDue r) s = .next t
         ∧ (s.flag .cal 0 CAL_CTRL_EN = true → (s.lastT r.val (s.calModeOf r.val)).isSome = true → t.calDue r.val = true ∧ (s.calRunning r.val = true → s.calDue r.val = true → (t.calRec r.val).again = true))
         ∧ (s.flag .cal 0 CAL_CTRL_EN = false ∨ s.lastT r.val (s.calModeOf r.val) = none → t = s)
         ∧ (∀ q < 25, q ≠ r.val → t.calDue q = s.calDue q ∧ t.calRec q = s.calRec q)
         ∧ RegsBut [0x4104c] s t
         ∧ t = { s with regs := t.regs, cal := t.cal })
    ∧ (∀ (r : Fin 25), 
       ∃ t, exec (.calOverdue r) s = .next t
         ∧ (s.calDue r.val = true → (s.calRec r.val).overdue = false → (t.calRec r.val).overdue = true ∧ Raised 0x41000 4 1 s t)
         ∧ (s.calDue r.val = false ∨ (s.calRec r.val).overdue = true → t = s)
         ∧ Reported [0x41000] [] s t
         ∧ (t = { s with regs := t.regs, hif := t.hif, faults := t.faults, evr := t.evr, free := t.free, cal := t.cal }))
    ∧ (∀ (core : Bool), 
       ∃ t, exec (.calStepStart core) s = .next t
         ∧ (s.calWorks = false → t = s)
         ∧ (core = false → ∀ b < 24, (s.calRec b).step = none → ∀ st ∈ (t.calRec b).step, s.calWorks = true ∧ s.calDue b = true ∧ s.inGap b = true ∧ s.flag .bnk b BNK_MODE_TRANSITION = false ∧ s.stepFree b st.item st.index = true ∧ s.stepFits b st.item = true ∧ (st.item, st.index) ∈ s.stepsLeft b ∧ t.calRunning b = true)
         ∧ (core = false → ((List.range 24).filter fun b => (t.calRec b).step.isSome).length ≤ max 8 ((List.range 24).filter fun b => (s.calRec b).step.isSome).length)
         ∧ (core = true → s.calWorks = true → s.calDue 24 = true → (s.calRec 24).step = none → ∀ u ∈ s.deviceTmu, ∀ x ∈ (s.stepsLeft 24).head?, (t.calRec 24).step = some ⟨x.1, x.2, 0, some u⟩ ∧ t.tmuState u = 4 ∧ t.calRunning 24 = true)
         ∧ (∀ b < 25, ∀ st ∈ (s.calRec b).step, (t.calRec b).step = some st)
         ∧ (RegsBut ([0x41000 + 0x50, 0x10000 + 0x68] ++ (List.range 16).map fun u => fldOff .tmu u TMU_STAT_STATE 0) s t)
         ∧ t = { s with regs := t.regs, cal := t.cal, tmus := t.tmus, epc := t.epc })
    ∧ (∀ (r : Fin 25) (ms : List TrimMeas) (sel : Option Nat) (slices : List Int) (st : CalStep), (s.calRec r.val).step = some st → Acked s 0x41000 1 → st.index < 32 ∧ st.item < 16 → 
       ∃ t, exec (.calStepDone r ms sel slices) s = .next t
         ∧ (t.calRec r.val).step = none
         ∧ (ms.length = 1 → ∀ m ∈ ms, ∀ c ∈ adopted (tolerance st.item) m, (t.calRec r.val).data.trim r.val (trimKey st.mode (s.calRec r.val).set st.item st.index m.sub.val) = roundAway (320 * (c + Config.factoryTrim r.val (trimKey st.mode (s.calRec r.val).set st.item st.index m.sub.val)) - interp320 (fun k => Config.factoryTrim r.val (trimKey st.mode k st.item st.index m.sub.val)) (s.recordT r.val)) 320)
         ∧ (ms.length = 1 → ∀ m ∈ ms, adopted (tolerance st.item) m = none → (t.calRec r.val).data = (s.calRec r.val).data ∧ Counts .cal 0 CAL_UNST_COUNT s t ∧ t.fld .cal 0 CAL_UNST_LAST_RECORD = r.val ∧ t.fld .cal 0 CAL_UNST_LAST_ITEM = st.item % 16 ∧ (t.intStat 0x41000).getLsbD 1 = true)
         ∧ (((calSteps r.val).filter fun x => !((s.calRec r.val).steps ++ [(st.mode, st.item, st.index)]).contains (s.calModeOf r.val, x.1, x.2)) ≠ [] → (t.calRec r.val).steps = (s.calRec r.val).steps ++ [(st.mode, st.item, st.index)] ∧ t.calRunning r.val = s.calRunning r.val)
         ∧ (((calSteps r.val).filter fun x => !((s.calRec r.val).steps ++ [(st.mode, st.item, st.index)]).contains (s.calModeOf r.val, x.1, x.2)) = [] → t.calRunning r.val = false ∧ t.lastT r.val st.mode = some (s.recordT r.val) ∧ (t.intStat 0x41000).getLsbD 0 = true ∧ (t.calRec r.val).writes = (s.calRec r.val).writes ++ (List.range 3).map fun i => ⟨i, topGen (s.calRec r.val).copies + 1, (t.calRec r.val).data, true⟩)
         ∧ (∀ u ∈ st.tmu, s.tmuState u = 4 → t.tmuState u = (s.tmu u).back % 8)
         ∧ (∀ q < 25, q ≠ r.val → t.calRec q = s.calRec q)
         ∧ t.banks = s.banks ∧ t.epc = s.epc ∧ t.thm = s.thm ∧ t.sites = s.sites)
    ∧ (∀ (r : Fin 25) (ok : Bool) (w : CalWrite) (ws : List CalWrite), (s.calRec r.val).writes = w :: ws → (s.calRec r.val).copies.length = 3 → 
       ∃ t, exec (.calCopyCommit r ok) s = .next t
         ∧ (ok = true → w.commit = false ∨ w.copy ≠ 2 → w.copy < 3 → (∀ x ∈ ws.head?, x.copy ≠ w.copy) → (t.calRec r.val).copies.getD w.copy ⟨0, false, CalData.factory⟩ = ⟨w.gen, true, w.data⟩ ∧ (t.calRec r.val).writes = ws)
         ∧ (ok = true → w.commit = true → w.copy = 2 → (t.intStat 0x41000).getLsbD 3 = true)
         ∧ (ok = true → w.commit = true → w.copy = 2 → (s.calRec r.val).copies.take 2 = [⟨w.gen, true, w.data⟩, ⟨w.gen, true, w.data⟩] → ws = [] → (t.calRec r.val).source = 0 ∧ (t.calRec r.val).data = w.data ∧ (t.calRec r.val).writes = [])
         ∧ (ok = false → (t.calRec r.val).writes = ws.filter (fun x => x.gen != w.gen || x.commit != w.commit) ∧ (t.fault 0x41000).hist.head?.map (·.cls) = some 5)
         ∧ (∀ q < 25, q ≠ r.val → (t.calRec q).data = (s.calRec q).data ∧ (t.calRec q).copies = (s.calRec q).copies)
         ∧ t.thm = s.thm ∧ t.meas = s.meas ∨ ok = false)

/-! ### Chapter 15: security -/

/-- A request outside its order or its session is answered UnexpectedRequest and changes nothing else; an unlisted one UnsupportedRequest (R467, R470). VERSION lists 1.2 and begins a connection, CAPABILITIES and ALGORITHMS carry it on, each with the values of R468 and R469. The digests and the certificate are of the chain in slot 0, a challenge is signed with the identity key, and measurements are the blocks the index names (R470, R471). KEY_EXCHANGE begins a session, at most four, one of them an Owner's, of an enrolled slot (R472). FINISH opens it where its signature verifies, and else discards it and raises class 3 (R472). A session ends at END_SESSION, and an Owner session after its idle time, which ends its role (R473, R479). -/
def Obligations.SpdmResponder : Prop :=
  ∀ (s : State), Serving s → s.hif.perst = false →
    (∀ (ses : Option Nat), 
       ∃ t, exec (.getVersion ses) s = .next t
         ∧ (ses = none → t = { s with sec := { s.sec with conn := 1, reply := .version [0x1200] } })
         ∧ (ses.isSome = true → t = { s with sec := { s.sec with reply := .error 4 } }))
    ∧ (∀ (ses : Option Nat), 
       ∃ t, exec (.getCapabilities ses) s = .next t
         ∧ (ses = none → s.sec.conn = 1 → t = { s with sec := { s.sec with conn := 2, reply := .capabilities ["CERT_CAP", "CHAL_CAP", "ENCRYPT_CAP", "MAC_CAP", "MUT_AUTH_CAP", "KEY_EX_CAP"] 2 15 4096 4096 } })
         ∧ (ses.isSome = true ∨ s.sec.conn ≠ 1 → t = { s with sec := { s.sec with reply := .error 4 } }))
    ∧ (∀ (ses : Option Nat) (a : AlgSet), 
       ∃ t, exec (.negotiateAlgorithms ses a) s = .next t
         ∧ (ses = none → s.sec.conn = 2 → t = { s with sec := { s.sec with conn := 3, algs := a, reply := .algorithms a } })
         ∧ (ses.isSome = true ∨ s.sec.conn ≠ 2 → t = { s with sec := { s.sec with reply := .error 4 } }))
    ∧ (∀ (ses : Option Nat), 
       ∃ t, exec (.getDigests ses) s = .next t
         ∧ (ses = none → s.sec.conn = 3 → s.sec.algs.hash = true → t = { s with sec := { s.sec with reply := .digests 1 (Config.sha384 Config.certChain) } })
         ∧ (ses = none → s.sec.conn = 3 → s.sec.algs.hash = false → t = { s with sec := { s.sec with reply := .error 4 } })
         ∧ (ses.isSome = true ∨ s.sec.conn ≠ 3 → t = { s with sec := { s.sec with reply := .error 4 } }))
    ∧ (∀ (ses : Option Nat) (slot off len : Nat), 
       ∃ t, exec (.getCertificate ses slot off len) s = .next t
         ∧ (ses = none → s.sec.conn = 3 → s.sec.algs.hash = true → slot = 0 → off < Config.certChain.length → t.sec.reply = .certificate ((Config.certChain.drop off).take len) (Config.certChain.length - off - ((Config.certChain.drop off).take len).length))
         ∧ (ses.isSome = true ∨ s.sec.conn ≠ 3 → t = { s with sec := { s.sec with reply := .error 4 } })
         ∧ t = { s with sec := { s.sec with reply := t.sec.reply }, free := t.free })
    ∧ (∀ (ses : Option Nat) (slot : Nat) (tr : List Byte), 
       ∃ t, exec (.challenge ses slot tr) s = .next t
         ∧ (ses = none → s.sec.conn = 3 → s.sec.algs.hash = true → s.sec.algs.asym = true → slot = 0 → t = { s with sec := { s.sec with reply := .challengeAuth (Config.signIdentity tr) } })
         ∧ (ses.isSome = true ∨ s.sec.conn ≠ 3 → t = { s with sec := { s.sec with reply := .error 4 } })
         ∧ t = { s with sec := { s.sec with reply := t.sec.reply }, free := t.free })
    ∧ (∀ (ses : Option Nat) (ix : BitVec 8) (sign : Bool) (tr : List Byte), 
       ∃ t, exec (.getMeasurements ses ix sign tr) s = .next t
         ∧ (s.sec.conn = 3 → s.sec.algs.spec = true → s.sec.algs.hash = true → (sign = true → s.sec.algs.asym = true) → (∀ i ∈ ses, s.sessionOpen i = true) → ∀ bs ∈ s.blocksAt ix.toNat, t = { s with sec := { s.sec with reply := .measurements 20 bs (if sign then some (Config.signIdentity tr) else none) } })
         ∧ (s.sec.conn ≠ 3 ∨ s.sec.algs.spec = false ∨ s.sec.algs.hash = false ∨ (sign = true ∧ s.sec.algs.asym = false) → t = { s with sec := { s.sec with reply := .error 4 } })
         ∧ t = { s with sec := { s.sec with reply := t.sec.reply }, free := t.free })
    ∧ (∀ (ses : Option Nat) (owner : Option (BitVec 8)) (tr : List Byte), 
       ∃ t, exec (.keyExchange ses owner tr) s = .next t
         ∧ (ses = none → s.sec.conn = 3 → s.sec.algs.dhe && s.sec.algs.aead && s.sec.algs.schedule && s.sec.algs.asym && s.sec.algs.hash && (owner.isNone || s.sec.algs.reqAsym) → s.sec.sessions.length < 4 → (owner = none ∨ owner.any (fun x => decide (x.toNat < 8) && (s.ownerKey x.toNat).isSome) = true ∧ s.ownerSession = none) → t.sec.sessions = s.sec.sessions ++ [⟨s.newSession, false, owner.map (·.toNat)⟩] ∧ (∀ x ∈ s.sec.sessions, x.id ≠ s.newSession) ∧ t.sec.reply = .keyExchange s.newSession owner.isSome (Config.signIdentity tr) ∧ t.fld .secCtl 0 SEC_STAT_SESSIONS = s.sec.sessions.length + 1)
         ∧ (ses = none → s.sec.conn = 3 → s.sec.algs.dhe && s.sec.algs.aead && s.sec.algs.schedule && s.sec.algs.asym && s.sec.algs.hash && (owner.isNone || s.sec.algs.reqAsym) → s.sec.sessions.length < 4 → owner.any (fun x => decide (7 < x.toNat) || (s.ownerKey x.toNat).isNone) = true → t = { s with sec := { s.sec with reply := .error 1 } })
         ∧ (ses = none → s.sec.conn = 3 → s.sec.algs.dhe && s.sec.algs.aead && s.sec.algs.schedule && s.sec.algs.asym && s.sec.algs.hash && (owner.isNone || s.sec.algs.reqAsym) → s.sec.sessions.length < 4 → owner.any (fun x => decide (x.toNat < 8) && (s.ownerKey x.toNat).isSome) = true → s.ownerSession.isSome = true → t = { s with sec := { s.sec with reply := .error 3 } })
         ∧ (ses = none → s.sec.conn = 3 → s.sec.algs.dhe && s.sec.algs.aead && s.sec.algs.schedule && s.sec.algs.asym && s.sec.algs.hash && (owner.isNone || s.sec.algs.reqAsym) → 4 ≤ s.sec.sessions.length → t = { s with sec := { s.sec with reply := .error 0xA } })
         ∧ (ses.isSome = true ∨ s.sec.conn ≠ 3 → t = { s with sec := { s.sec with reply := .error 4 } })
         ∧ RegsBut [0x20014, 0x20048] s t ∧ t = { s with regs := t.regs, sec := { s.sec with sessions := t.sec.sessions, reply := t.sec.reply }, role := t.role })
    ∧ (∀ (ses : Option Nat) (sig : Option (List Byte)) (msg : List Byte), 
       ∃ t, exec (.finish ses sig msg) s = .next t
         ∧ (∀ x ∈ (ses.bind fun i => s.sec.sessions.find? fun x => x.id == i && !x.open_), s.finishGood x sig msg = true → t.sec.sessions = s.sec.sessions.map (fun y => if y.id = x.id then { y with open_ := true } else y) ∧ t.sec.owner = x.owner.or s.sec.owner ∧ t.sec.reply = .finish ∧ (x.owner.isSome = true → (t.intStat 0x20000).getLsbD 1 = true ∧ t.role = roleOf t))
         ∧ (∀ x ∈ (ses.bind fun i => s.sec.sessions.find? fun x => x.id == i && !x.open_), s.finishGood x sig msg = false → t.sec.sessions = s.sec.sessions.filter (fun y => y.id != x.id) ∧ t.sec.reply = .error 5 ∧ (t.intStat 0x20000).getLsbD 3 = true ∧ Raised 0x20000 3 1 s t)
         ∧ ((ses.bind fun i => s.sec.sessions.find? fun x => x.id == i && !x.open_) = none → t = { s with sec := { s.sec with reply := .error 4 } })
         ∧ SecSessions s t)
    ∧ (∀ (ses : Option Nat), 
       ∃ t, exec (.endSession ses) s = .next t
         ∧ (∀ x ∈ (ses.bind fun i => s.sec.sessions.find? fun x => x.id == i && x.open_), t.sec.sessions = s.sec.sessions.filter (fun y => y.id != x.id) ∧ t.sec.reply = .endSession ∧ (x.owner.isSome = true → t.sec.owner = none ∧ (t.intStat 0x20000).getLsbD 1 = true) ∧ t.role = roleOf t)
         ∧ ((ses.bind fun i => s.sec.sessions.find? fun x => x.id == i && x.open_) = none → t = { s with sec := { s.sec with reply := .error 4 } })
         ∧ SecSessions s t)
    ∧ (∀ (c : BitVec 8) (ses : Option Nat), 
       ∃ t, exec (.unsupportedRequest c ses) s = .next t
         ∧ t = { s with sec := { s.sec with reply := .error 7 } })
    ∧ (∃ t, exec .sessionIdleTimeout s = .next t
         ∧ (∀ x ∈ s.sec.sessions.find? (fun x => x.open_ && x.owner.isSome), t.sec.sessions = s.sec.sessions.filter (fun y => y.id != x.id) ∧ t.sec.owner = none ∧ (t.intStat 0x20000).getLsbD 1 = true ∧ t.role = roleOf t)
         ∧ (s.sec.sessions.find? (fun x => x.open_ && x.owner.isSome) = none → t = s)
         ∧ SecSessions s t)

/-- A SEC command of more than 960 words ends BAD_LENGTH (R475). GET_NONCE leaves a fresh nonce in the window; a token that fails a check ends with the first check that fails and class 2, and changes no slot and no role; an accepted one enrols or revokes its slot and advances ENROLL_CTR, or grants the Vendor role and consumes the nonce; a failed commit changes nothing (R475, R476). The Vendor role ends at END_VENDOR and at its expiry (R478). A bundle load is refused with the first check that fails, and then the PSQ is as before; a refusal after the apply phase began leaves it empty (R485). At its completion the PSQ is SEALED and the counter advances where it is asked for and higher (R486, R487). UNLOAD leaves no program; OVL_APPLY seals the sites it writes (R488, R489). The debug window shows a SEALED object to its Owner only (R492, R493), and a private JTAG instruction is denied without JTAG_DBG (R494). -/
def Obligations.TokensAndBundles : Prop :=
  ∀ (s : State), Serving s →
    (∀ (len : BitVec 16), 
       ∃ t, exec (.getNonce len) s = .next t
         ∧ (960 < len.toNat → t.fld .secCtl 0 SEC_RESP_RESULT = 1 ∧ t.sec = s.sec)
         ∧ (len.toNat ≤ 960 → SecEnds 0 t ∧ ∀ ws ∈ t.sec.nonce, ws.length = 8 ∧ ∀ j < 8, BitVec.ofNat 32 (t.fldAt .secCtl 0 SEC_WIN_DATA j) = ws.getD j 0)
         ∧ (len.toNat ≤ 960 → t.sec = { s.sec with nonce := t.sec.nonce } ∧ t.sec.nonce.isSome = true)
         ∧ SecRegs s t
         ∧ (t = { s with regs := t.regs, hif := { s.hif with sent := t.hif.sent }, sec := t.sec, free := t.free }))
    ∧ (∀ (len : BitVec 16) (ok : Bool), 
       ∃ t, exec (.token len ok) s = .next t
         ∧ (960 < len.toNat → t.fld .secCtl 0 SEC_RESP_RESULT = 1 ∧ t.sec = s.sec)
         ∧ (len.toNat ≤ 960 → ∀ r ∈ s.tokenCheck (s.secBytes len.toNat) len.toNat, SecEnds (r % 256) t ∧ t.sec = s.sec ∧ t.role = s.role ∧ Raised 0x20000 2 1 s t ∧ SecRegs s t)
         ∧ (len.toNat ≤ 960 → s.tokenCheck (s.secBytes len.toNat) len.toNat = none → tokType (s.secBytes len.toNat) = 3 → SecEnds 0 t ∧ t.sec = { s.sec with nonce := none, vendor := if tokCount (s.secBytes len.toNat) = 0 then none else some (tokPerms (s.secBytes len.toNat)) } ∧ t.role = roleOf t ∧ t.fld .secCtl 0 SEC_VENDOR_LEFT_S = tokCount (s.secBytes len.toNat))
         ∧ (len.toNat ≤ 960 → s.tokenCheck (s.secBytes len.toNat) len.toNat = none → tokType (s.secBytes len.toNat) ≠ 3 → ok = false → SecEnds 9 t ∧ t.sec.slots = s.sec.slots ∧ t.role = s.role)
         ∧ (len.toNat ≤ 960 → s.tokenCheck (s.secBytes len.toNat) len.toNat = none → tokType (s.secBytes len.toNat) ≠ 3 → ok = true → SecEnds 0 t ∧ t.ownerKey (tokSlot (s.secBytes len.toNat)) = (if tokType (s.secBytes len.toNat) = 1 then some ⟨subBytes (s.secBytes len.toNat) 0x50 97, tokPerms (s.secBytes len.toNat)⟩ else none) ∧ (∀ i < 256, i ≠ tokSlot (s.secBytes len.toNat) → t.ownerKey i = s.ownerKey i) ∧ t.fld .secCtl 0 SEC_ENROLL_CTR = (s.fld .secCtl 0 SEC_ENROLL_CTR + 1) % 2 ^ 32))
    ∧ (∀ (len : BitVec 16), 
       ∃ t, exec (.endVendor len) s = .next t
         ∧ (960 < len.toNat → t.fld .secCtl 0 SEC_RESP_RESULT = 1 ∧ t.sec = s.sec)
         ∧ (len.toNat ≤ 960 → SecEnds 0 t ∧ t.sec = { s.sec with vendor := none } ∧ t.role = roleOf t ∧ t.flag .secCtl 0 SEC_STAT_VENDOR = false ∧ t.flag .secCtl 0 SEC_STAT_JTAG_DBG = false ∧ t.fld .secCtl 0 SEC_VENDOR_LEFT_S = 0)
         ∧ SecRegs s t
         ∧ (t = { s with regs := t.regs, hif := { s.hif with sent := t.hif.sent }, sec := t.sec, role := t.role }))
    ∧ (∀ (len : BitVec 16), 
       ∃ t, exec (.getSlot len) s = .next t
         ∧ (len.toNat ≤ 960 → ∀ k ∈ s.ownerKey (s.fld .secCtl 0 SEC_SLOT_SEL_SLOT), k.key.length = 97 → (t.secBytes 25).take 98 = k.key ++ [BitVec.ofNat 8 k.perms])
         ∧ (960 < len.toNat → t.fld .secCtl 0 SEC_RESP_RESULT = 1)
         ∧ (len.toNat ≤ 960 → SecEnds 0 t)
         ∧ SecRegs s t
         ∧ (t = { s with regs := t.regs, hif := { s.hif with sent := t.hif.sent }, free := t.free }))
    ∧ (∃ t, exec .vendorExpiry s = .next t
         ∧ (s.sec.vendor.isSome = true → t.sec = { s.sec with vendor := none } ∧ t.role = roleOf t ∧ t.flag .secCtl 0 SEC_STAT_VENDOR = false ∧ t.flag .secCtl 0 SEC_STAT_JTAG_DBG = false)
         ∧ (s.sec.vendor = none → t = s)
         ∧ RegsBut [0x20014, 0x20048] s t ∧ t = { s with regs := t.regs, sec := t.sec, role := t.role })
    ∧ (∃ t, exec .nonceExpiry s = .next t
         ∧ t = { s with sec := { s.sec with nonce := none } })
    ∧ (∀ (n : Fin 8), 
       ∃ t, exec (.bundleLoad n) s = .next t
         ∧ t.fld .secLoad 0 SEC_LOAD_CTRL_PSQ = n.val
         ∧ (s.bundleBusy n.val = true → t.fld .secLoad 0 SEC_LOAD_RESP_RESULT = 2 ∧ (t.intStat 0x21000).getLsbD 1 = true ∧ t.psqs = s.psqs ∧ t.sec = s.sec)
         ∧ (s.bundleBusy n.val = false → s.bundleState = false → t.fld .secLoad 0 SEC_LOAD_RESP_RESULT = 3 ∧ (t.intStat 0x21000).getLsbD 1 = true ∧ t.psqs = s.psqs ∧ t.sec = s.sec)
         ∧ (s.bundleBusy n.val = false → s.bundleState = true → s.flag .secCtl 0 SEC_STAT_JTAG_DBG = true → t.fld .secLoad 0 SEC_LOAD_RESP_RESULT = 4 ∧ (t.intStat 0x21000).getLsbD 1 = true ∧ t.psqs = s.psqs ∧ t.sec = s.sec)
         ∧ (s.bundleBusy n.val = false → s.bundleState = true → s.flag .secCtl 0 SEC_STAT_JTAG_DBG = false → s.plainRange (BitVec.ofNat 32 (s.fld .secLoad 0 SEC_LOAD_HANDLE)) (s.fld .secLoad 0 SEC_LOAD_OFF / 64 * 64) (s.fld .secLoad 0 SEC_LOAD_LEN) = none → t.fld .secLoad 0 SEC_LOAD_RESP_RESULT = 5 ∧ (t.intStat 0x21000).getLsbD 1 = true ∧ t.psqs = s.psqs ∧ t.sec = s.sec)
         ∧ (s.bundleBusy n.val = false → s.bundleState = true → s.flag .secCtl 0 SEC_STAT_JTAG_DBG = false → ∀ o ∈ s.plainRange (BitVec.ofNat 32 (s.fld .secLoad 0 SEC_LOAD_HANDLE)) (s.fld .secLoad 0 SEC_LOAD_OFF / 64 * 64) (s.fld .secLoad 0 SEC_LOAD_LEN), (formatBad (s.bundleBytes o (s.fld .secLoad 0 SEC_LOAD_OFF / 64 * 64) (s.fld .secLoad 0 SEC_LOAD_LEN))).isSome = true → t.fld .secLoad 0 SEC_LOAD_RESP_RESULT = 6 ∧ (t.intStat 0x21000).getLsbD 1 = true ∧ t.psqs = s.psqs ∧ t.sec = s.sec)
         ∧ (s.bundleBusy n.val = false → s.bundleState = true → s.flag .secCtl 0 SEC_STAT_JTAG_DBG = false → ∀ o ∈ s.plainRange (BitVec.ofNat 32 (s.fld .secLoad 0 SEC_LOAD_HANDLE)) (s.fld .secLoad 0 SEC_LOAD_OFF / 64 * 64) (s.fld .secLoad 0 SEC_LOAD_LEN), formatBad (s.bundleBytes o (s.fld .secLoad 0 SEC_LOAD_OFF / 64 * 64) (s.fld .secLoad 0 SEC_LOAD_LEN)) = none → ∀ r ∈ s.bundleBad n.val (s.bundleBytes o (s.fld .secLoad 0 SEC_LOAD_OFF / 64 * 64) (s.fld .secLoad 0 SEC_LOAD_LEN)), t.fld .secLoad 0 SEC_LOAD_RESP_RESULT = r.1 % 256 ∧ (t.intStat 0x21000).getLsbD 1 = true ∧ t.psqs = s.psqs ∧ t.sec = s.sec ∧ t.fld .secLoad 0 SEC_LOAD_RESP_DETAIL = r.2 % 65536)
         ∧ (t.sec.job = s.sec.job ∨ t.sec.job.map (·.psq) = some n.val ∧ t.flag .secLoad 0 SECL_STAT_LOADING = true)
         ∧ t.flag .psq n.val PSQ_STAT_SEALED = s.flag .psq n.val PSQ_STAT_SEALED ∨ t.flag .psq n.val PSQ_STAT_SEALED = false
         ∧ PsqsBut [n.val] s t)
    ∧ (∀ (ok : Bool) (j : SecJob), s.sec.job = some j → j.psq < 8 → j.bundle.counter < 64 → j.bundle.version < 2 ^ 32 → 
       ∃ t, exec (.bundleApplyDone ok) s = .next t
         ∧ (s.dev = .hold → t.fld .secLoad 0 SEC_LOAD_RESP_RESULT = 18 ∧ (t.psq j.psq).prog = none ∧ (t.psq j.psq).bundle = none)
         ∧ (s.dev ≠ .hold → s.dev ≠ .fault → (s.psq j.psq).load.isSome = true → t = s)
         ∧ (s.dev ≠ .hold → s.dev ≠ .fault → (s.psq j.psq).load = none → (s.psq j.psq).prog = none → t.fld .secLoad 0 SEC_LOAD_RESP_RESULT = 17 ∧ (t.psq j.psq).bundle = none ∧ t.sec.job = none)
         ∧ (s.dev ≠ .hold → s.dev ≠ .fault → (s.psq j.psq).load = none → (s.psq j.psq).prog.isSome = true → t.flag .psq j.psq PSQ_STAT_SEALED = true ∧ t.flag .mce j.psq MCE_STAT_SEALED = true ∧ t.flag .apg j.psq APG_STAT_SEALED = true ∧ bitAt (t.fld .secLoad 0 SECL_STAT_SEALED_PSQ) j.psq = true ∧ t.fld .secLoad 0 SEC_LOAD_RESP_RESULT = 1 ∧ t.sec.job = none ∧ t.flag .secLoad 0 SECL_STAT_LOADING = false)
         ∧ (s.dev ≠ .hold → s.dev ≠ .fault → (s.psq j.psq).load = none → (s.psq j.psq).prog.isSome = true → t.fldAt .secCnt 0 SEC_ARB j.bundle.counter = (if j.advance = true ∧ s.fldAt .secCnt 0 SEC_ARB j.bundle.counter < j.bundle.version ∧ ok = true then j.bundle.version else s.fldAt .secCnt 0 SEC_ARB j.bundle.counter)))
    ∧ (∀ (n : Fin 8), 
       ∃ t, exec (.unload n) s = .next t
         ∧ (s.bundleBusy n.val = true → t.fld .secLoad 0 SEC_LOAD_RESP_RESULT = 2 ∧ (t.intStat 0x21000).getLsbD 1 = true ∧ t.psqs = s.psqs ∧ t.sec = s.sec)
         ∧ (s.bundleBusy n.val = false → s.flag .psq n.val PSQ_STAT_SEALED = false → t.fld .secLoad 0 SEC_LOAD_RESP_RESULT = 21 ∧ (t.intStat 0x21000).getLsbD 1 = true ∧ t.psqs = s.psqs ∧ t.sec = s.sec)
         ∧ (s.bundleBusy n.val = false → s.flag .psq n.val PSQ_STAT_SEALED = true → t.fld .secLoad 0 SEC_LOAD_RESP_RESULT = 19 ∧ (t.intStat 0x21000).getLsbD 2 = true ∧ (t.psq n.val).prog = none ∧ (t.psq n.val).bundle = none ∧ t.flag .psq n.val PSQ_STAT_SEALED = false ∧ t.flag .psq n.val PSQ_STAT_LOADED = false)
         ∧ PsqsBut [n.val] s t ∧ t.epc = s.epc ∧ t.sups = s.sups ∧ t.sec = s.sec)
    ∧ (∀ (n : Fin 8), 
       ∃ t, exec (.ovlApply n) s = .next t
         ∧ (s.sec.job.isSome = true ∨ s.psqRunning n.val = true → t.fld .secLoad 0 SEC_LOAD_RESP_RESULT = 2 ∧ (t.intStat 0x21000).getLsbD 1 = true ∧ t.psqs = s.psqs ∧ t.sec = s.sec ∧ t.overlay = s.overlay)
         ∧ (s.sec.job = none → s.psqRunning n.val = false → (s.psq n.val).bundle = none → t.fld .secLoad 0 SEC_LOAD_RESP_RESULT = 21 ∧ (t.intStat 0x21000).getLsbD 1 = true ∧ t.psqs = s.psqs ∧ t.sec = s.sec ∧ t.overlay = s.overlay)
         ∧ (s.sec.job = none → s.psqRunning n.val = false → ∀ b ∈ (s.psq n.val).bundle, t.fld .secLoad 0 SEC_LOAD_RESP_RESULT = 20 ∧ t.fld .secLoad 0 SEC_LOAD_RESP_DETAIL = (b.ovl.flatMap fun r => s.sitesAt n.val r.1).length % 65536 ∧ (t.intStat 0x21000).getLsbD 3 = true ∧ ∀ i < 256, (b.ovl.any fun r => (s.sitesAt n.val r.1).contains i) = true → t.flag .site i SITE_STATE_OVL_SEALED = true ∧ (t.site i).ovlBy = some (b.slot, b.debug))
         ∧ t.psqs = s.psqs ∧ t.vs = s.vs ∧ t.sec = s.sec)
    ∧ (∀ (off : Nat), 
       ∃ t, exec (.debugWindowRead off) s = .next t
         ∧ (s.role.meets 1 = false → t.hif.resp = .words [0] ∧ (t.intStat 0x22000).getLsbD 30 = true)
         ∧ (s.role.meets 1 = true → s.objAt (BitVec.ofNat 32 (s.fld .secDbg 0 SEC_DBG_HANDLE)) = none → t.hif.resp = .words [0] ∧ t.flag .secDbg 0 SEC_DBG_DENIED = true ∧ (t.intStat 0x22000).getLsbD 30 = true)
         ∧ (s.role.meets 1 = true → ∀ o ∈ s.objAt (BitVec.ofNat 32 (s.fld .secDbg 0 SEC_DBG_HANDLE)), ¬(o.kind = .sealedObj ∧ s.opens s.role (s.sealOrigin (BitVec.ofNat 32 (s.fld .secDbg 0 SEC_DBG_HANDLE))) = true) → t.hif.resp = .words [0] ∧ t.flag .secDbg 0 SEC_DBG_DENIED = true)
         ∧ (s.role.meets 1 = true → ∀ o ∈ s.objAt (BitVec.ofNat 32 (s.fld .secDbg 0 SEC_DBG_HANDLE)), o.kind = .sealedObj → s.opens s.role (s.sealOrigin (BitVec.ofNat 32 (s.fld .secDbg 0 SEC_DBG_HANDLE))) = true → s.fld .secDbg 0 SEC_DBG_OFF / 2048 * 2048 + off % 2048 / 4 * 4 + 4 ≤ o.size → s.objUnwritten o (s.fld .secDbg 0 SEC_DBG_OFF / 2048 * 2048 + off % 2048 / 4 * 4) 4 = false → s.objBad o (s.fld .secDbg 0 SEC_DBG_OFF / 2048 * 2048 + off % 2048 / 4 * 4) 4 = false → t.hif.resp = .words [BitVec.ofNat 32 (leNat (s.objRead o (s.fld .secDbg 0 SEC_DBG_OFF / 2048 * 2048 + off % 2048 / 4 * 4) 4))])
         ∧ (RegsBut ([0x22018, 0x22048] ++ pbaOffs) s t ∧ t = { s with regs := t.regs, free := t.free, hif := { s.hif with resp := t.hif.resp, sent := t.hif.sent } }))
    ∧ (∃ t, exec .jtagPrivate s = .next t
         ∧ (s.flag .secCtl 0 SEC_STAT_JTAG_DBG = true ∨ s.flag .secCtl 0 SEC_STAT_PROD_LOCK = false → t = s)
         ∧ (s.flag .secCtl 0 SEC_STAT_JTAG_DBG = false → s.flag .secCtl 0 SEC_STAT_PROD_LOCK = true → (t.intStat 0x20000).getLsbD 2 = true ∧ Raised 0x20000 4 1 s t)
         ∧ Reported [0x20000] [] s t
         ∧ (t = { s with regs := t.regs, hif := t.hif, faults := t.faults, evr := t.evr, free := t.free }))

/-! ### Chapter 16: Pairs Mode -/

/-- A write of EN powers the domain where the ceiling admits 1,200 mW more and begins training, or is refused with reason 1 (R499); a ROLE of 3, or one written while the link is in use, changes nothing (R498). Training, identity and authentication carry the link to PAIRED, or refuse it with the reasons of R500 in their order (R500, R501). A flit that fails its CRC, its tag or its sequence is discarded with every later one until the replay; a good one is acknowledged (R503). The eighth replay of one flit, and a silence, take the link down, which ends the feed (R503, R504). CHECK enters HOLD where the generation is stale and REFRESH leaves it where it is not (R518, R519). -/
def Obligations.PairsLink : Prop :=
  ∀ (s : State), Serving s →
    (∀ (on : Bool), Acked s 0x50000 1 → 
       ∃ t, exec (.plkEn on) s = .next t
         ∧ (on = false → s.flag .plk 0 PLK_CFG_EN = true → t.flag .plk 0 PLK_CFG_EN = false ∧ Lands 0 t ∧ t.domains.getLsbD 10 = false)
         ∧ (on = false → s.flag .plk 0 PLK_CFG_EN = false → t = s)
         ∧ (on = true → s.fld .plk 0 PLK_CFG_ROLE = 0 ∨ s.flag .plk 0 PLK_CFG_EN = true → t = s)
         ∧ (on = true → s.fld .plk 0 PLK_CFG_ROLE ≠ 0 → s.flag .plk 0 PLK_CFG_EN = false → s.flag .pgv 0 PGV_MODE_DRYRUN = false → s.charged + 1200 ≤ s.fld .pgv 0 PGV_CEIL_CEIL_MW → t.flag .plk 0 PLK_CFG_EN = true ∧ Lands 1 t ∧ t.domains.getLsbD 10 = true ∧ t.fld .plk 0 PLK_REFUSE_REASON = 0 ∧ PgvAdmitted (s.charged + 1200) t)
         ∧ (on = true → s.fld .plk 0 PLK_CFG_ROLE ≠ 0 → s.flag .plk 0 PLK_CFG_EN = false → s.flag .pgv 0 PGV_MODE_DRYRUN = false → s.fld .pgv 0 PGV_CEIL_CEIL_MW < s.charged + 1200 → t.flag .plk 0 PLK_CFG_EN = false ∧ t.lstate = s.lstate ∧ t.fld .plk 0 PLK_REFUSE_REASON = 1 ∧ Raised 0x50000 1 2 s t ∧ Raised 0x3000 1 1 s t)
         ∧ t.epc = s.epc ∧ t.sites = s.sites ∧ t.pins = s.pins ∧ t.banks = s.banks)
    ∧ (∀ (v : Fin 4), 
       ∃ t, exec (.plkRole v) s = .next t
         ∧ (v.val = 3 ∨ s.lstate ≠ 0 ∧ s.lstate ≠ 5 ∧ s.lstate ≠ 6 → t = s)
         ∧ (v.val ≠ 3 → (s.lstate = 0 ∨ s.lstate = 5 ∨ s.lstate = 6) → t.fld .plk 0 PLK_CFG_ROLE = v.val ∧ (v.val = 0 → t.flag .plk 0 PLK_CFG_EN = false))
         ∧ RegsBut [0x50040, 0x50014] s t ∧ t = { s with regs := t.regs, domains := t.domains })
    ∧ (∀ (ok : Bool), Acked s 0x50000 1 → 
       ∃ t, exec (.linkTrained ok) s = .next t
         ∧ (s.lstate ≠ 1 → t = s)
         ∧ (s.lstate = 1 → ok = true → Lands 2 t ∧ t.plk.unacked = [] ∧ t.plk.rxSeq = none ∧ t.plk.discarding = false ∧ t.faults = s.faults)
         ∧ (s.lstate = 1 → ok = false → Refuses 2 s t ∧ t.plk = s.plk)
         ∧ PlkOnly s t)
    ∧ (∀ (ident : Option PartnerIdent), Acked s 0x50000 1 → 
       ∃ t, exec (.identDone ident) s = .next t
         ∧ (s.lstate ≠ 2 → t = s)
         ∧ (s.lstate = 2 → ident = none → Refuses 8 s t)
         ∧ (s.lstate = 2 → ∀ p ∈ ident, (∀ j < 4, t.fldAt .plk 0 PLK_DEVID j = (p.devid.extractLsb' (32 * j) 32).toNat) ∧ (p.role.val = s.fld .plk 0 PLK_CFG_ROLE → Refuses 3 s t) ∧ (p.role.val ≠ s.fld .plk 0 PLK_CFG_ROLE → p.part ≠ s.rd 0x40 → Refuses 4 s t) ∧ (p.role.val ≠ s.fld .plk 0 PLK_CFG_ROLE → p.part = s.rd 0x40 → p.fwVersion ≠ s.mbx.fwVersion ∨ p.fwSvn.toNat ≠ s.fld .secCnt 0 SEC_FW_SVN → Refuses 5 s t))
         ∧ (s.lstate = 2 → ∀ p ∈ ident, p.role.val ≠ s.fld .plk 0 PLK_CFG_ROLE → p.part = s.rd 0x40 → p.fwVersion = s.mbx.fwVersion → p.fwSvn.toNat = s.fld .secCnt 0 SEC_FW_SVN → (p.devid = Config.deviceId → Refuses 6 s t) ∧ (p.devid ≠ Config.deviceId → Lands 3 t ∧ t.faults = s.faults))
         ∧ PlkOnly s t)
    ∧ (∀ (auth : Option PartnerAuth), Acked s 0x50000 1 → 
       ∃ t, exec (.authDone auth) s = .next t
         ∧ (s.lstate ≠ 3 → t = s)
         ∧ (s.lstate = 3 → auth = none → Refuses 8 s t)
         ∧ (s.lstate = 3 → ∀ a ∈ auth, partnerProves a = false → Refuses 7 s t)
         ∧ (s.lstate = 3 → ∀ a ∈ auth, partnerProves a = true → Lands 4 t ∧ (t.intStat 0x50000).getLsbD 0 = true ∧ t.fld .plk 0 PLK_PARTNER_GEN = a.gen.toNat ∧ t.plk.partnerN = a.epochN ∧ (if s.gen < a.gen.toNat then t.fld .plk 0 PLK_RESP_RESULT = 3 ∧ ((s.dev = .ready ∨ s.dev = .armed ∨ s.dev = .run) → t.dev = .hold) else t.fld .plk 0 PLK_RESP_RESULT = 1 ∧ (t.dev = .hold ↔ s.dev = .hold)))
         ∧ (t.epc = s.epc ∧ (s.sec.job = none → t.pins = s.pins ∧ t.sites = s.sites)))
    ∧ (∃ t, exec .retrain s = .next t
         ∧ ((s.lstate = 5 ∨ s.lstate = 6) → s.flag .plk 0 PLK_CFG_EN = true → Lands 1 t ∧ t.fld .plk 0 PLK_REFUSE_REASON = 0 ∧ RegsBut [0x50014, 0x5005c] s t ∧ t = { s with regs := t.regs })
         ∧ (s.lstate ≠ 5 → s.lstate ≠ 6 → t = s)
         ∧ (s.flag .plk 0 PLK_CFG_EN = false → t = s))
    ∧ (∃ t, exec .linkDownRetry s = .next t
         ∧ (s.lstate = 5 → Lands 1 t ∧ t.fld .plk 0 PLK_REFUSE_REASON = 0)
         ∧ (s.lstate ≠ 5 → t = s)
         ∧ RegsBut [0x50014, 0x5005c] s t ∧ t = { s with regs := t.regs })
    ∧ (∀ (ty : FlitType) (q a : BitVec 12) (crc tag : Bool) (ep : Option (Option Nat)), 
       ∃ t, exec (.flitReceive ty q a crc tag ep) s = .next t
         ∧ (s.linkTrainedNow = false → t = s)
         ∧ (s.linkTrainedNow = true → crc = false → t = { s with plk := { s.plk with discarding := true } })
         ∧ (s.linkTrainedNow = true → crc = true → tag = false → Counts .plk 0 PLK_AUTHERR_COUNT s t ∧ t.plk = { s.plk with discarding := true })
         ∧ (s.linkTrainedNow = true → crc = true → tag = true → s.plk.rxSeq.all (fun x => x == q.toNat) = false → t = { s with plk := { s.plk with discarding := true } })
         ∧ (s.linkTrainedNow = true → crc = true → tag = true → s.plk.rxSeq.all (fun x => x == q.toNat) = true → t.plk.rxSeq = some ((q.toNat + 1) % 4096) ∧ t.plk.discarding = false ∧ t.plk.rxCount = (s.plk.rxCount + 1) % 2 ^ 64 ∧ t.plk.unacked = ackTo a.toNat s.plk.unacked ∧ (ty ≠ .ctrl → t.plk.partnerN = s.plk.partnerN))
         ∧ RegsBut [0x50074] s t ∧ t = { s with regs := t.regs, plk := t.plk })
    ∧ (∀ (q : BitVec 12), 
       ∃ t, exec (.flitReplay q) s = .next t
         ∧ (s.linkTrainedNow = false ∨ q.toNat ∉ s.plk.unacked → t = s)
         ∧ (s.linkTrainedNow = true → q.toNat ∈ s.plk.unacked → s.plk.replays ≠ some (q.toNat, 7) → (∀ r ∈ s.plk.replays, r.2 < 8) → Counts .plk 0 PLK_RETRY_COUNT s t ∧ t.lstate = s.lstate ∧ t.plk = { s.plk with replays := some (q.toNat, if s.plk.replays.any (fun r => r.1 == q.toNat) then (s.plk.replays.map (·.2)).getD 0 + 1 else 1) })
         ∧ (s.linkTrainedNow = true → q.toNat ∈ s.plk.unacked → s.plk.replays = some (q.toNat, 7) → Counts .plk 0 PLK_RETRY_COUNT s t ∧ Lands 5 t ∧ (t.intStat 0x50000).getLsbD 1 = true ∧ t.plk.unacked = [] ∧ t.flag .plk 0 PLK_STAT_FEEDING = false)
         ∧ t.epc = s.epc ∧ t.pins = s.pins ∧ t.sites = s.sites)
    ∧ (∃ t, exec .linkSilence s = .next t
         ∧ (s.linkTrainedNow = false → t = s)
         ∧ (s.linkTrainedNow = true → Lands 5 t ∧ (t.intStat 0x50000).getLsbD 1 = true ∧ t.flag .plk 0 PLK_STAT_FEEDING = false ∧ t.flag .plk 0 PLK_STAT_SERVING = false ∧ t.plk.unacked = [] ∧ t.plk.partnerN = none)
         ∧ (s.linkTrainedNow = true → s.flag .plk 0 PLK_STAT_FEEDING = false → Raised 0x50000 2 (if s.flag .plk 0 PLK_STAT_SERVING then 3 else 2) s t ∧ t.psqs = s.psqs)
         ∧ (s.linkTrainedNow = true → s.flag .plk 0 PLK_STAT_FEEDING = true → (t.fault 0x50000).hist.head?.map (·.cls) = some 4)
         ∧ t.epc = s.epc ∧ t.pins = s.pins ∧ t.sites = s.sites)
    ∧ (Acked s 0x50000 5 → 
       ∃ t, exec .check s = .next t
         ∧ (s.staleHost = true → t.fld .plk 0 PLK_RESP_RESULT = 2)
         ∧ (s.staleHost = false → s.stalePartner = true → t.fld .plk 0 PLK_RESP_RESULT = 3)
         ∧ (s.staleHost = true ∨ s.stalePartner = true → (t.intStat 0x50000).getLsbD 4 = true ∧ ((s.dev = .ready ∨ s.dev = .armed ∨ s.dev = .run) → t.dev = .hold ∧ t.cause = 2 ∧ (∀ n < 8, s.psqRunning n = true → (t.psq n).stops ≠ []) ∧ (∀ r < 25, (t.calRec r).step = none)))
         ∧ (s.staleHost = false → s.stalePartner = false → t.fld .plk 0 PLK_RESP_RESULT = 1 ∧ OnlyRegs [0x50048] s t)
         ∧ (t.epc = s.epc ∧ (s.sec.job = none → t.pins = s.pins ∧ t.sites = s.sites)))
    ∧ (∃ t, exec .refresh s = .next t
         ∧ (t.fld .plk 0 PLK_RESP_RESULT = (if s.dev ≠ .hold then 7 else if s.staleHost then 5 else if s.stalePartner then 6 else 4))
         ∧ (s.dev = .hold → s.staleHost = false → s.stalePartner = false → t.dev = (if (List.range 8).any s.psqBurst then .run else if (List.range 8).any s.psqQualifies then .armed else .ready) ∧ (t.intStat 0x50000).getLsbD 5 = true)
         ∧ (s.dev ≠ .hold ∨ s.staleHost = true ∨ s.stalePartner = true → t.dev = s.dev)
         ∧ (RegsBut ([0x50048, 0x50018] ++ pbaOffs) s t ∧ t = { s with regs := t.regs, dev := t.dev, hif := { s.hif with sent := t.hif.sent } }))

/-- A MIRROR message on a PAIRED link is kept apart from the device's own state: an item with how long it waited, the partner's frame with its generation, the partner's sequencers, and its event records, which go to the recorder marked PARTNER (R505, R506, R507, R508). PLK_MSEL takes a snapshot of an item and PLK_MDATA returns its words in turn, none of a sealed one to a role that may not see it (R509). A feed request of a matched sequencer is served with its block, or with a feed error (R511); an answer fills the cache line asked for (R511, R513). FEED_MB above 28,000 is stored as 28,000 (R512). -/
def Obligations.PairsMirrorAndFeed : Prop :=
  ∀ (s : State), Serving s →
    (∀ (f : BitVec 48) (n : Fin 8) (l : Bool) (b : Option (BitVec 384)) (g : Word) (ws : List Word), s.paired = true → 
       ∃ t, exec (.mirror (.psq f n l b g ws)) s = .next t
         ∧ Mirrors (256 + n.val) f (some n.val) ws s t
         ∧ t.partnerPsq n.val = ⟨l, b, g⟩
         ∧ MirrorOnly s t)
    ∧ (∀ (f : BitVec 48) (i : Fin 256) (p : Option (Fin 8)) (ws : List Word), s.paired = true → 
       ∃ t, exec (.mirror (.site f i p ws)) s = .next t
         ∧ Mirrors (512 + i.val) f (p.map (·.val)) ws s t
         ∧ MirrorOnly s t)
    ∧ (∀ (f : BitVec 48) (i : Fin 256) (ws : List Word), s.paired = true → 
       ∃ t, exec (.mirror (.regs f i ws)) s = .next t
         ∧ Mirrors (768 + i.val) f ((s.mirrorItem (512 + i.val)).bind (·.psq)) ws s t
         ∧ MirrorOnly s t)
    ∧ (∀ (ws : List Word), s.paired = true → 
       ∃ t, exec (.mirror (.record ws)) s = .next t
         ∧ (s.evr.held.all (fun h => h.page != 0x50000) = true → s.evr.queue.length < 32 → t.evr.queue = s.evr.queue ++ [partnerEntry ws] ∧ t.evr.held = s.evr.held)
         ∧ RegsBut (evrOffs ++ pbaOffs) s t
         ∧ (t = { s with regs := t.regs, evr := t.evr, hif := { s.hif with sent := t.hif.sent } }))
    ∧ (∀ (f : BitVec 48) (d : Fin 8) (g : Word) (c : BitVec 8) (m : Nat) (al : Bool) (ws : List Word), s.paired = true → 
       ∃ t, exec (.mirror (.marker f d g c m al ws)) s = .next t
         ∧ Mirrors 0 f none ws s t
         ∧ t.plk.frame = some ⟨f.toNat, d.val, g, c.toNat, m⟩
         ∧ t.fld .plk 0 PLK_PARTNER_GEN = g.toNat
         ∧ (al = true → t.fld .plk 0 PLK_MIRROR_LO = f.toNat % 2 ^ 32 ∧ t.fld .plk 0 PLK_MIRROR_HI = f.toNat / 2 ^ 32)
         ∧ (s.fld .vmc 0 VMC_STAT_CH_FAIL = 0 → t.flag .plk 0 PLK_STAT_SERVING = (s.flag .plk 0 PLK_STAT_SERVING || s.plk.feedEn && decide (c.toNat ≠ 0)))
         ∧ t.epc = s.epc ∧ t.sites = s.sites ∧ t.vs = s.vs ∧ t.pins = s.pins)
    ∧ (∀ (v : Word), 
       ∃ t, exec (.plkMselWrite v) s = .next t
         ∧ t.fld .plk 0 PLK_MSEL_KIND = bitsOf v 31 28 ∧ t.fld .plk 0 PLK_MSEL_INDEX = bitsOf v 15 8 ∧ t.fld .plk 0 PLK_MSEL_WORD = bitsOf v 5 0
         ∧ (t.plk.snap = some (if bitsOf v 31 28 < 4 then s.mirrorItem (256 * bitsOf v 31 28 + bitsOf v 15 8) else none))
         ∧ t.flag .plk 0 PLK_MSTAT_EMPTY = decide (t.plk.snap = some none)
         ∧ (bitsOf v 31 28 < 4 → t.flag .plk 0 PLK_MSTAT_SEALED = ((s.mirrorItem (256 * bitsOf v 31 28 + bitsOf v 15 8)).bind s.itemSeal).isSome)
         ∧ RegsBut [0x500b0, 0x500b8] s t
         ∧ t = { s with regs := t.regs, plk := t.plk })
    ∧ (∃ t, exec .plkMdataRead s = .next t
         ∧ t.fld .plk 0 PLK_MSEL_WORD = (s.fld .plk 0 PLK_MSEL_WORD + 1) % 64
         ∧ (∀ x ∈ s.plk.snap, x = none → t.hif.resp = .words [0])
         ∧ (∀ i ∈ s.plk.snap.join, (s.itemSeal i).all s.opensDigest = true → s.fld .plk 0 PLK_MSEL_WORD < i.words.length → t.hif.resp = .words [i.words.getD (s.fld .plk 0 PLK_MSEL_WORD) 0])
         ∧ (∀ i ∈ s.plk.snap.join, (s.itemSeal i).all s.opensDigest = false → t.hif.resp = .words [0] ∧ (t.intStat 0x50000).getLsbD 30 = true)
         ∧ (RegsBut ([0x500b0, 0x50018] ++ pbaOffs) s t ∧ t = { s with regs := t.regs, free := t.free, hif := { s.hif with resp := t.hif.resp, sent := t.hif.sent } }))
    ∧ (∀ (n : Fin 8) (b : Nat) (hits : List EccHit), 
       ∃ t, exec (.feedReq n b hits) s = .next t
         ∧ (s.flag .plk 0 PLK_STAT_SERVING = false → t.plk.served = s.plk.served ∧ t.plk.txSeq = s.plk.txSeq)
         ∧ (s.flag .plk 0 PLK_STAT_SERVING = true → t.plk.txSeq = (s.plk.txSeq + 1) % 4096)
         ∧ (s.flag .plk 0 PLK_STAT_SERVING = true → s.feedMatch n.val = false ∨ (s.pteAt (b / 1024)).failed = true ∨ s.blockPhys b = none → t.plk.served = some none ∧ t.vs = s.vs)
         ∧ (s.flag .plk 0 PLK_STAT_SERVING = true → s.feedMatch n.val = true → (s.pteAt (b / 1024)).failed = false → hits = [] → ∀ a ∈ s.blockPhys b, (∀ w < 8, s.vsPoison (a / 8 + w) = false) → s.chFailed (vsChannel a) = false → t.plk.served = some (some ((List.range 64).map fun i => s.vsByte (a + i))))
         ∧ t.epc = s.epc ∧ t.sites = s.sites ∧ t.pins = s.pins)
    ∧ (∀ (n : Fin 8) (b : Nat) (got : FeedGot), 
       ∃ t, exec (.feedData n b got) s = .next t
         ∧ ((s.psq n.val).prog = none ∨ s.flag .plk 0 PLK_STAT_FEEDING = false ∨ s.fedByLink n.val = false ∨ b ∉ (s.psq n.val).asked → t = s)
         ∧ ((s.psq n.val).prog.isSome = true → s.flag .plk 0 PLK_STAT_FEEDING = true → s.fedByLink n.val = true → b ∈ (s.psq n.val).asked → (t.psq n.val).asked = (s.psq n.val).asked.filter (fun x => x != b) ∧ (∀ e ∈ (t.psq n.val).cache, e.1 = b → e.2 = feedLine got))
         ∧ RegsBut [fldOff .lft n.val LFT_MISS_MAX_NS 0] s t ∧ PsqsBut [n.val] s t ∧ t = { s with regs := t.regs, psqs := t.psqs })
    ∧ (∀ (v : BitVec 15), 
       ∃ t, exec (.feedMbWrite v) s = .next t
         ∧ t.fld .plk 0 PLK_CFG_FEED_MB = min v.toNat 28000
         ∧ t.epc = s.epc ∧ t.sites = s.sites ∧ t.pins = s.pins ∧ t.vs = s.vs ∧ t.plk = s.plk
         ∧ (s.flag .plk 0 PLK_STAT_FEEDING = false → OnlyRegs [0x50040] s t))

/-! ### Chapter 17: the serial master, settings, NVM and the event recorder -/

/-- A GO is refused with result 2, 3, 6 or 7 in the order of R524's table, and otherwise starts a transfer; DONE fills the RX buffer with the wire bits in their places (R523, R524); an attempt that finds READY at 0 is made again up to the limit, and then the transfer ends NOT_READY (R525); an abort ends it with the bits clocked (R526). A BAR4 read gives the flash bytes, or zeros during an erase, and waits for a page program (R528). A BAR4 write that the enables allow is split at page boundaries, in address order, each part clearing bits only; one they do not allow is counted (R529). An erase that may be done sets its range to ones; a time-out is counted and raises class 3 at Error (R529, R530). -/
def Obligations.SerialMasterAndFlash : Prop :=
  ∀ (s : State), Serving s →
    (∃ t, exec .spmGo s = .next t
         ∧ (s.spm.job.isSome = true → t.fld .spm 0 SPM_RESP_RESULT = 2 ∧ OnlyRegs [0x3104c] s t)
         ∧ (s.spm.job = none → s.flag .spm 0 SPM_CFG_FRAMED = true ∧ s.fld .spm 0 SPM_LEN % (8 * 2 ^ s.fld .spm 0 SPM_CFG_WSIZE) ≠ 0 → t.fld .spm 0 SPM_RESP_RESULT = 3)
         ∧ (s.spm.job = none → ¬(s.flag .spm 0 SPM_CFG_FRAMED = true ∧ s.fld .spm 0 SPM_LEN % (8 * 2 ^ s.fld .spm 0 SPM_CFG_WSIZE) ≠ 0) → s.fld .spm 0 SPM_CFG_CS = 0 → s.role.meets 2 = false → t.fld .spm 0 SPM_RESP_RESULT = 6)
         ∧ (s.spm.job = none → ¬(s.flag .spm 0 SPM_CFG_FRAMED = true ∧ s.fld .spm 0 SPM_LEN % (8 * 2 ^ s.fld .spm 0 SPM_CFG_WSIZE) ≠ 0) → s.fld .spm 0 SPM_CFG_CS = 0 → s.role.meets 2 = true → s.spm.ops ≠ [] → t.fld .spm 0 SPM_RESP_RESULT = 7)
         ∧ (s.spm.job = none → (s.flag .spm 0 SPM_CFG_FRAMED = true ∧ s.fld .spm 0 SPM_LEN % (8 * 2 ^ s.fld .spm 0 SPM_CFG_WSIZE) ≠ 0) ∨ s.fld .spm 0 SPM_CFG_CS = 0 ∧ (s.role.meets 2 = false ∨ s.spm.ops ≠ []) → t.spm = s.spm ∧ t.fld .spm 0 SPM_RESP_BITS = 0 ∧ (t.intStat 0x31000).getLsbD 1 = true ∧ Raised 0x31000 1 1 s t)
         ∧ (s.spm.job = none → ¬(s.flag .spm 0 SPM_CFG_FRAMED = true ∧ s.fld .spm 0 SPM_LEN % (8 * 2 ^ s.fld .spm 0 SPM_CFG_WSIZE) ≠ 0) → (s.fld .spm 0 SPM_CFG_CS = 0 → s.role.meets 2 = true ∧ s.spm.ops = []) → t.spm = { s.spm with job := some ⟨s.fld .spm 0 SPM_LEN, s.flag .spm 0 SPM_CFG_FRAMED, 8 * 2 ^ s.fld .spm 0 SPM_CFG_WSIZE, s.flag .spm 0 SPM_CFG_STATUS_FIRST, s.fld .spm 0 SPM_RETRY_LIMIT, 0⟩ } ∧ t.fld .spm 0 SPM_STAT_BUSY = 1 ∧ RegsBut [0x31014] s t)
         ∧ SpmOnly s t)
    ∧ (∀ (bits : Option Nat), 
       ∃ t, exec (.spmAbort bits) s = .next t
         ∧ (s.spm.job = none ∨ bits = none → t = s)
         ∧ (s.spm.job.isSome = true → ∀ n ∈ bits, Transferred 4 2 n t ∧ t.spm.ops = s.spm.ops ∧ t.spm.flash = s.spm.flash ∧ (s.xipFront = 0 → ReadsServed s t))
         ∧ SpmOnly s t)
    ∧ (∀ (st : BitVec 8) (rx : List Bool), 
       ∃ t, exec (.spmTransferDone st rx) s = .next t
         ∧ (s.spm.job = none → t = s)
         ∧ (∀ j ∈ s.spm.job, rx.length = j.len → (j.statusFirst = true → st.toNat % 2 = 1) → Transferred 1 0 j.len t ∧ t.fld .spm 0 SPM_RESP_TRIES = min 127 (j.tries + 1) ∧ (j.statusFirst = true → t.fld .spm 0 SPM_RESP_STATUS = st.toNat) ∧ t.spm.mosi = (List.range j.len).map (s.txBit j) ∧ t.spm.ops = s.spm.ops ∧ t.spm.flash = s.spm.flash ∧ (s.xipFront = 0 → ReadsServed s t))
         ∧ (∀ j ∈ s.spm.job, rx.length = j.len → (j.statusFirst = true → st.toNat % 2 = 1) → j.framed = false → j.len ≤ 4096 → ∀ i < j.len, bitAt (t.bufByte SPM_RX (i / 8)) (7 - i % 8) = rx.getD i false)
         ∧ (∀ j ∈ s.spm.job, rx.length = j.len → (j.statusFirst = true → st.toNat % 2 = 1) → j.framed = true → j.len ≤ 4096 → (j.wordBits = 8 ∨ j.wordBits = 16 ∨ j.wordBits = 32) → j.len % j.wordBits = 0 → ∀ i < j.len, bitAt (t.bufByte SPM_RX ((i / j.wordBits * j.wordBits + (j.wordBits - 1 - i % j.wordBits)) / 8)) ((j.wordBits - 1 - i % j.wordBits) % 8) = rx.getD i false)
         ∧ SpmOnly s t)
    ∧ (∀ (st : BitVec 8), 
       ∃ t, exec (.spmRetryWait st) s = .next t
         ∧ (s.spm.job = none → t = s)
         ∧ (∀ j ∈ s.spm.job, j.statusFirst = false ∨ st.toNat % 2 = 1 → t = s)
         ∧ (∀ j ∈ s.spm.job, j.statusFirst = true → st.toNat % 2 = 0 → t.fld .spm 0 SPM_RESP_STATUS = st.toNat ∧ t.fld .spm 0 SPM_RESP_TRIES = min 127 (j.tries + 1))
         ∧ (∀ j ∈ s.spm.job, j.statusFirst = true → st.toNat % 2 = 0 → j.tries < j.limit → t.spm = { s.spm with job := some { j with tries := j.tries + 1 } } ∧ RegsBut [0x3104c] s t)
         ∧ (∀ j ∈ s.spm.job, j.statusFirst = true → st.toNat % 2 = 0 → j.limit ≤ j.tries → t.spm.job = none ∧ t.fld .spm 0 SPM_STAT_BUSY = 0 ∧ t.fld .spm 0 SPM_RESP_RESULT = 5 ∧ (t.intStat 0x31000).getLsbD 3 = true ∧ Raised 0x31000 2 1 s t ∧ (s.xipFront = 0 → ReadsServed s t))
         ∧ SpmOnly s t)
    ∧ (∀ (a n : Nat), 
       ∃ t, exec (.bar4Read a n) s = .next t
         ∧ (s.xipFront = 2 → t.hif.resp = .bytes (List.replicate n 0) ∧ t.spm = s.spm ∧ Counts .spm 0 SPM_XIP_RBUSY_COUNT s t)
         ∧ (s.xipFront = 1 ∨ s.xipFront = 0 ∧ s.spm.job.isSome = true → t = { s with spm := { s.spm with reads := s.spm.reads ++ [(a, n)] } })
         ∧ (s.xipFront = 0 → s.spm.job = none → t = { s with hif := { s.hif with resp := .bytes (flashRead s a n) } })
         ∧ SpmOnly s t)
    ∧ (∀ (a : Nat) (d : List (Option Byte)), 
       ∃ t, exec (.bar4Write a d) s = .next t
         ∧ (d.all (·.isNone) = true → t = s)
         ∧ (d.all (·.isNone) = false → s.flag .spm 0 SPM_XIP_CFG_WREN = false → Counts .spm 0 SPM_XIP_DISC_COUNT s t ∧ t.spm = s.spm)
         ∧ (d.zipIdx.any (fun e => e.1.isSome && decide (a + e.2 < 0x200000)) = true → s.flag .spm 0 SPM_XIP_CFG_FW_WREN = false → Counts .spm 0 SPM_XIP_DISC_COUNT s t ∧ t.spm = s.spm)
         ∧ (d.all (·.isNone) = false → s.flag .spm 0 SPM_XIP_CFG_WREN = true → (d.zipIdx.any (fun e => e.1.isSome && decide (a + e.2 < 0x200000)) = true → s.flag .spm 0 SPM_XIP_CFG_FW_WREN = true) → t.fld .spm 0 SPM_STAT_XIP_BUSY = 1 ∧ t.spm.ops.take s.spm.ops.length = s.spm.ops ∧ (t.spm.ops.drop s.spm.ops.length).all (partOf s.spm.writes) = true ∧ t.spm.writes = s.spm.writes + 1 ∧ (programs (t.spm.ops.drop s.spm.ops.length)).flatMap (·.2.2) = d.map (·.getD 0xFF) ∧ (programs (t.spm.ops.drop s.spm.ops.length)).head?.map (·.2.1) = some a ∧ (∀ q ∈ programs (t.spm.ops.drop s.spm.ops.length), q.2.2 ≠ [] ∧ q.2.1 % 2 ^ s.fld .spm 0 SPM_XIP_INFO_PAGE_LOG2 + q.2.2.length ≤ 2 ^ s.fld .spm 0 SPM_XIP_INFO_PAGE_LOG2))
         ∧ (∀ k < (programs (t.spm.ops.drop s.spm.ops.length)).length - 1, ((programs (t.spm.ops.drop s.spm.ops.length)).getD (k + 1) (0, 0, [])).2.1 = ((programs (t.spm.ops.drop s.spm.ops.length)).getD k (0, 0, [])).2.1 + ((programs (t.spm.ops.drop s.spm.ops.length)).getD k (0, 0, [])).2.2.length)
         ∧ t.spm.flash = s.spm.flash ∧ t.spm.reads = s.spm.reads
         ∧ SpmOnly s t)
    ∧ (∀ (v : Word), 
       ∃ t, exec (.xipErase v) s = .next t
         ∧ t.fld .spm 0 SPM_XIP_CMD_BLOCK = bitsOf v 30 30 ∧ t.fld .spm 0 SPM_XIP_CMD_ADDR = bitsOf v 25 0
         ∧ (bitsOf v 25 0 % 2 ^ (if v.getLsbD 30 = true then s.fld .spm 0 SPM_XIP_INFO_BLK_LOG2 else s.fld .spm 0 SPM_XIP_INFO_SECT_LOG2) ≠ 0 ∨ s.flag .spm 0 SPM_XIP_CFG_WREN = false ∨ bitsOf v 25 0 < 0x200000 ∧ s.flag .spm 0 SPM_XIP_CFG_FW_WREN = false → t.fld .spm 0 SPM_XIP_RESP_RESULT = 2 ∧ t.spm = s.spm)
         ∧ (bitsOf v 25 0 % 2 ^ (if v.getLsbD 30 = true then s.fld .spm 0 SPM_XIP_INFO_BLK_LOG2 else s.fld .spm 0 SPM_XIP_INFO_SECT_LOG2) = 0 → s.flag .spm 0 SPM_XIP_CFG_WREN = true → (bitsOf v 25 0 < 0x200000 → s.flag .spm 0 SPM_XIP_CFG_FW_WREN = true) → t.spm = { s.spm with ops := s.spm.ops ++ [.erase (bitsOf v 25 0) (2 ^ (if v.getLsbD 30 = true then s.fld .spm 0 SPM_XIP_INFO_BLK_LOG2 else s.fld .spm 0 SPM_XIP_INFO_SECT_LOG2))] } ∧ t.fld .spm 0 SPM_STAT_XIP_BUSY = 1)
         ∧ RegsBut [0x31064, 0x31068, 0x31014] s t ∧ t = { s with regs := t.regs, spm := t.spm })
    ∧ (∀ (ok : Bool), s.spm.ops = [] → 
       ∃ t, exec (.xipPoll ok) s = .next t
         ∧ t = s)
    ∧ (∀ (ok : Bool) (id a : Nat) (bs : List Byte) (rest : List XipOp), s.spm.ops = .program id a bs :: rest → Acked s 0x31000 3 → 
       ∃ t, exec (.xipPoll ok) s = .next t
         ∧ (t.flag .spm 0 SPM_STAT_XIP_BUSY = decide (t.spm.ops ≠ []))
         ∧ FlashBut a bs.length s t
         ∧ (ok = true → t.spm.ops = rest ∧ ∀ i < bs.length, t.flashByte (a + i) = if a + i < s.flashEnd then s.flashByte (a + i) &&& bs.getD i 0 else s.flashByte (a + i))
         ∧ (ok = false → Counts .spm 0 SPM_XIP_ERR_COUNT s t ∧ Raised 0x31000 3 3 s t ∧ (t.intStat 0x31000).getLsbD 4 = true ∧ t.spm.ops = rest.filter (fun o => !partOf id o) ∧ ∀ i < bs.length, t.flashByte (a + i) ||| s.flashByte (a + i) = s.flashByte (a + i) ∧ t.flashByte (a + i) &&& bs.getD i 0 = s.flashByte (a + i) &&& bs.getD i 0)
         ∧ ReadsServed s t
         ∧ SpmOnly s t)
    ∧ (∀ (ok : Bool) (a n : Nat) (rest : List XipOp), s.spm.ops = .erase a n :: rest → Acked s 0x31000 3 → 
       ∃ t, exec (.xipPoll ok) s = .next t
         ∧ t.spm.ops = rest ∧ t.flag .spm 0 SPM_STAT_XIP_BUSY = decide (rest ≠ [])
         ∧ FlashBut a n s t
         ∧ (ok = true → t.fld .spm 0 SPM_XIP_RESP_RESULT = 1 ∧ ∀ i < n, t.flashByte (a + i) = 0xFF)
         ∧ (ok = false → t.fld .spm 0 SPM_XIP_RESP_RESULT = 3 ∧ Counts .spm 0 SPM_XIP_ERR_COUNT s t ∧ Raised 0x31000 3 3 s t ∧ (t.intStat 0x31000).getLsbD 4 = true ∧ ∀ i < n, t.flashByte (a + i) &&& s.flashByte (a + i) = s.flashByte (a + i))
         ∧ ReadsServed s t
         ∧ SpmOnly s t)

/-- The end of an NVM write takes the job served first off the list and counts its operations; a job that passed takes effect, and one that failed its retry is reported and counted (R536, R537). An operating second advances OPSEC and EVR_WALL, and a checkpoint is written of it (R538, R543). A record is made of the entry served first, in the slot that R540 gives, with the next SEQ, and otherwise counted as unstored (R539, R540, R541). After drops the empty queue makes the summary (R542). The cursor gives the qualifying record with the lowest SEQ, or the end (R545). A clear frees every record up to MAXSEV (R546). -/
def Obligations.EventsAndNvm : Prop :=
  ∀ (s : State), Serving s →
    (∀ (first retry : Bool), s.nvmJobs = [] → 
       ∃ t, exec (.nvmWriteDone first retry) s = .next t
         ∧ t = s)
    ∧ (∀ (first retry : Bool) (u : Fin 96) (code : Nat) (conn : Bool), nextJob s.nvmJobs = some (.puv u.val code conn) → Acked s 0x33000 3 → 
       ∃ t, exec (.nvmWriteDone first retry) s = .next t
         ∧ (t.nvmJobs = s.nvmJobs.erase (.puv u.val code conn) ∧ t.fld .nvm 0 NVM_WRITES_COUNT = (s.fld .nvm 0 NVM_WRITES_COUNT + if first then 1 else 2) % 2 ^ 31)
         ∧ (first || retry → (t.sup u.val).puvCode = code ∧ (t.sup u.val).puvConn = conn)
         ∧ ((first || retry) = false → Counts .nvm 0 NVM_WFAIL_COUNT s t ∧ Raised 0x33000 3 3 s t ∧ t.sups = s.sups)
         ∧ supFld t u.val DPS_PUV_BUSY = 0
         ∧ (RegsOff (fun o => onPages [0x33000] o || pbaOffs.contains o || evrOffs.contains o || o == fldOff (supKind u.val) (supInst u.val) DPS_PUV_BUSY 0) s t)
         ∧ (t = { s with regs := t.regs, hif := { s.hif with sent := t.hif.sent }, faults := t.faults, evr := t.evr, free := t.free, sups := t.sups, nvmJobs := t.nvmJobs }))
    ∧ (∀ (first retry : Bool) (v : Nat), nextJob s.nvmJobs = some (.opsec v) → Acked s 0x33000 3 → 
       ∃ t, exec (.nvmWriteDone first retry) s = .next t
         ∧ (t.nvmJobs = s.nvmJobs.erase (.opsec v) ∧ t.fld .nvm 0 NVM_WRITES_COUNT = (s.fld .nvm 0 NVM_WRITES_COUNT + if first then 1 else 2) % 2 ^ 31)
         ∧ (first || retry → t.evr.checkpoint = v)
         ∧ ((first || retry) = false → Counts .nvm 0 NVM_WFAIL_COUNT s t ∧ Raised 0x33000 3 3 s t ∧ t.evr.checkpoint = s.evr.checkpoint)
         ∧ StaysOn [0x33000] s t
         ∧ (t = { s with regs := t.regs, hif := t.hif, faults := t.faults, evr := t.evr, free := t.free, nvmJobs := t.nvmJobs }))
    ∧ (∀ (first retry : Bool) (v : Nat), nextJob s.nvmJobs = some (.fwSvn v) → Acked s 0x33000 3 → Acked s 0x20000 5 → 
       ∃ t, exec (.nvmWriteDone first retry) s = .next t
         ∧ (t.nvmJobs = s.nvmJobs.erase (.fwSvn v) ∧ t.fld .nvm 0 NVM_WRITES_COUNT = (s.fld .nvm 0 NVM_WRITES_COUNT + if first then 1 else 2) % 2 ^ 31)
         ∧ (first || retry → t.fld .secCnt 0 SEC_FW_SVN = v % 2 ^ (SEC_FW_SVN.hi + 1 - SEC_FW_SVN.lo))
         ∧ ((first || retry) = false → Counts .nvm 0 NVM_WFAIL_COUNT s t ∧ Raised 0x33000 3 3 s t ∧ t.fld .secCnt 0 SEC_FW_SVN = s.fld .secCnt 0 SEC_FW_SVN ∧ Raised 0x20000 5 3 s t)
         ∧ StaysOn [0x33000, 0x20000, 0x23000] s t
         ∧ (t = { s with regs := t.regs, hif := t.hif, faults := t.faults, evr := t.evr, free := t.free, nvmJobs := t.nvmJobs }))
    ∧ (∃ t, exec .opsecTick s = .next t
         ∧ t.fld .evr 0 EVR_OPSEC = (s.fld .evr 0 EVR_OPSEC + 1) % 2 ^ 32
         ∧ t.wall = (s.wall + 1) % 2 ^ 64
         ∧ t.fld .secCtl 0 SEC_VENDOR_LEFT_S = s.fld .secCtl 0 SEC_VENDOR_LEFT_S - 1
         ∧ RegsBut [0x32064, 0x3205c, 0x32060, 0x20048] s t ∧ t = { s with regs := t.regs, vs := { s.vs with leak := s.vs.leak + 1 } })
    ∧ (∃ t, exec .opsecCheckpoint s = .next t
         ∧ t = { s with nvmJobs := s.nvmJobs ++ [.opsec (s.fld .evr 0 EVR_OPSEC)] })
    ∧ (∀ (v : Word), 
       ∃ t, exec (.evrWall v) s = .next t
         ∧ (s.wall ≤ t.wall → t.flag .evr 0 EVR_STAT_SETBACK = s.flag .evr 0 EVR_STAT_SETBACK)
         ∧ (t.wall < s.wall → t.flag .evr 0 EVR_STAT_SETBACK = true)
         ∧ t.wall = v.toNat * 2 ^ 32 + ((lookupKey s.hif.lowBuf 0x3205C).getD (s.rd 0x3205C)).toNat
         ∧ t.flag .evr 0 EVR_STAT_WALL_VALID = true
         ∧ lookupKey t.hif.lowBuf 0x3205C = none
         ∧ (RegsBut [0x3205C, 0x32060, 0x32014] s t ∧ t = { s with regs := t.regs, hif := { s.hif with lowBuf := t.hif.lowBuf } }))
    ∧ (s.evr.queue = [] ∨ s.evr.clearing.isSome = true → 
       ∃ t, exec .evrRecordWrite s = .next t
         ∧ t = s)
    ∧ (∀ (x : EvrIn), nextEntry s.evr.queue = some x → s.evr.clearing = none → s.evr.queue.length ≤ 32 → Acked s 0x32000 2 → 
       ∃ t, exec .evrRecordWrite s = .next t
         ∧ (∀ y ∈ s.evr.queue, y.level ≤ x.level)
         ∧ (s.records.length < 16384 → (4 ≤ x.level ∨ (s.records.filter fun e => decide (e.2.sev < 4)).length < 15360) → (s.place x.level).isSome = true)
         ∧ (¬(s.records.length < 16384 ∧ (4 ≤ x.level ∨ (s.records.filter fun e => decide (e.2.sev < 4)).length < 15360)) → ∀ k ∈ s.place x.level, s.records.any (fun e => e.1 == k && decide (e.2.sev ≤ x.level) && s.records.all fun q => decide (x.level < q.2.sev) || decide (e.2.seq ≤ q.2.seq)) = true)
         ∧ ((s.place x.level).isSome = true → t.evr.topSeq = some s.evrNextSeq ∧ t.fld .nvm 0 NVM_WRITES_COUNT = (s.fld .nvm 0 NVM_WRITES_COUNT + 3) % 2 ^ 31 ∧ (s.fld .evr 0 EVR_CFG_INT_SEV ≤ x.level → (t.intStat 0x32000).getLsbD 0 = true) ∧ t.faults = s.faults ∧ t.evr.queue ++ t.evr.held = s.evr.queue.erase x ++ s.evr.held)
         ∧ (∀ k ∈ s.place x.level, recordAt t k = some (s.evrRecord x) ∧ SlotsBut [k] s t)
         ∧ (s.place x.level = none → (∀ e ∈ s.records, x.level < e.2.sev) ∧ t.evr.slots = s.evr.slots ∧ Counts .evr 0 EVR_UNSTORED_COUNT s t ∧ Raised 0x32000 2 (if x.level < 3 then 1 else 3) s t)
         ∧ RecorderOnly s t)
    ∧ (s.evr.since = 0 ∨ s.evr.queue ≠ [] ∨ s.evr.held ≠ [] ∨ s.evr.clearing.isSome = true → 
       ∃ t, exec .evrSummary s = .next t
         ∧ t = s)
    ∧ (0 < s.evr.since → s.evr.queue = [] → s.evr.held = [] → s.evr.clearing = none → (∀ d ∈ s.evr.drops, d.2 < 2 ^ 32) → 
       ∃ t, exec .evrSummary s = .next t
         ∧ t.evr.drops = [] ∧ t.evr.dropOther = 0 ∧ t.evr.since = 0
         ∧ (t.intStat 0x32000).getLsbD 2 = true
         ∧ Raised 0x32000 1 1 s t
         ∧ (s.records.length < 15360 → t.records.any (fun e => e.2.seq == s.evrNextSeq && e.2.sev == 1 && (e.2.words.getD 0 0).getLsbD 16 && decide (bitsOf (e.2.words.getD 0 0) 15 0 = 8 ∧ bitsOf (e.2.words.getD 1 0) 31 24 = 1) && e.2.words.getD 11 0 == BitVec.ofNat 32 s.evr.since && s.evr.drops.all fun d => decide (BitVec.ofNat 32 d.2 ≤ e.2.words.getD 13 0)) = true)
         ∧ RecorderOnly s t)
    ∧ (∀ (v : Word), 
       ∃ t, exec (.evrCursorHi v) s = .next t
         ∧ CursorAt (bitsOf v 15 0 * 2 ^ 32 + ((lookupKey s.hif.lowBuf 0x32078).getD (s.rd 0x32078)).toNat) (bitsOf v 26 24) s t
         ∧ t.fld .evr 0 EVR_CURSOR_HI_MINSEV = bitsOf v 26 24
         ∧ (RegsBut cursorOffs s t ∧ t = { s with regs := t.regs, hif := { s.hif with lowBuf := t.hif.lowBuf } }))
    ∧ (∃ t, exec .evrData15Read s = .next t
         ∧ t.hif.resp = .words [s.rd 0x320BC]
         ∧ CursorAt (s.cursorSeq + 1) (s.fld .evr 0 EVR_CURSOR_HI_MINSEV) s t
         ∧ (RegsBut cursorOffs s t ∧ t = { s with regs := t.regs, hif := { s.hif with resp := t.hif.resp } }))
    ∧ (∀ (v : Word), 
       ∃ t, exec (.evrClear v) s = .next t
         ∧ (s.role.meets 1 = false → (t.intStat 0x32000).getLsbD 30 = true ∧ t.evr = s.evr)
         ∧ (s.role.meets 1 = true → v.getLsbD 31 = false ∨ s.evr.clearing.isSome = true → t = s)
         ∧ (s.role.meets 1 = true → v.getLsbD 31 = true → s.evr.clearing = none → t.evr = { s.evr with clearing := some (bitsOf v 2 0, s.role) } ∧ t.flag .evr 0 EVR_STAT_CLEARING = true)
         ∧ RegsBut ([0x32014, 0x32018] ++ pbaOffs) s t
         ∧ (t = { s with regs := t.regs, evr := t.evr, hif := { s.hif with sent := t.hif.sent } }))
    ∧ (s.evr.clearing = none → 
       ∃ t, exec .evrClearDone s = .next t
         ∧ t = s)
    ∧ (∀ (m : Nat) (r : Role), s.evr.clearing = some (m, r) → Acked s 0x32000 3 → 
       ∃ t, exec .evrClearDone s = .next t
         ∧ t.evr.clearing = none ∧ t.flag .evr 0 EVR_STAT_CLEARING = false ∧ (t.intStat 0x32000).getLsbD 3 = true
         ∧ (∀ e ∈ t.records, m < e.2.sev ∨ e.2.seq = s.evrNextSeq)
         ∧ (∀ e ∈ s.records, m < e.2.sev → e ∈ t.records ∨ (t.records.any fun q => q.1 == e.1 && q.2.seq == s.evrNextSeq) = true)
         ∧ Raised 0x32000 3 1 s t
         ∧ s.evrNextSeq ≤ t.evrNextSeq
         ∧ RecorderOnly s t)

/-! ### Chapters 2 and 17: the mailbox, start-up, resets, and plain register access -/

/-- A command is ignored, and marked, while one runs; a LENGTH above 512 completes with result 2 (R66). GET_FW_INFO and GET_BOOT_LOG put their words into the window (R66; their order is the model's choice). RELOAD_SETTINGS is refused with 2 unless the device is READY with no site bound, changes nothing and raises class 2 at Error where the image fails, and otherwise applies the records (R535). A recovery block needs the Vendor role, its number in turn, padding in the last block only, and room in the image; the last block's end checks the image, programs slot A and asks for the reset (R67). At its end a command shows its RESULT, or 4 where another was written meanwhile (R66). -/
def Obligations.MailboxAndSettings : Prop :=
  ∀ (s : State), Serving s →
    (∀ (len : BitVec 16), 
       ∃ t, exec (.getFwInfo len) s = .next t
         ∧ (s.mbx.running.isSome = true → MbxBusy s t)
         ∧ (s.mbx.running = none → 512 < len.toNat → MbxTaken 1 2 s t ∧ MbxOnly [] s t)
         ∧ (s.mbx.running = none → len.toNat ≤ 512 → ∀ slot ∈ s.mbx.fwSlot, MbxTaken 1 0 s t ∧ t.rd 0x30800 = s.mbx.fwVersion ∧ t.rd 0x30804 = BitVec.ofNat 32 slot ∧ (∀ j < 12, t.rd (0x30808 + 4 * j) = s.mbx.fwDigest.getD j 0) ∧ t.mbx = { s.mbx with running := some 1, result := 0, busyWrite := false })
         ∧ MbxOnly (winOffs 14) s t)
    ∧ (∀ (len : BitVec 16), 
       ∃ t, exec (.getBootLog len) s = .next t
         ∧ (s.mbx.running.isSome = true → MbxBusy s t)
         ∧ (s.mbx.running = none → 512 < len.toNat → MbxTaken 4 2 s t ∧ MbxOnly [] s t)
         ∧ (s.mbx.running = none → len.toNat ≤ 512 → MbxTaken 4 0 s t ∧ (∀ j < 12, t.rd (0x30800 + 4 * j) = s.mbx.bootLog.getD j 0) ∧ t.mbx = { s.mbx with running := some 4, result := 0, busyWrite := false })
         ∧ MbxOnly (winOffs 12) s t)
    ∧ (∀ (len : BitVec 16), Acked s 0x30000 2 → 
       ∃ t, exec (.reloadSettings len) s = .next t
         ∧ (s.mbx.running.isSome = true → MbxBusy s t)
         ∧ (s.mbx.running = none → 512 < len.toNat → MbxTaken 2 2 s t ∧ MbxOnly [] s t)
         ∧ (s.mbx.running = none → len.toNat ≤ 512 → s.dev ≠ .ready ∨ (∃ i < 256, s.siteBound i = true) → MbxTaken 2 2 s t ∧ MbxOnly [] s t)
         ∧ (s.mbx.running = none → len.toNat ≤ 512 → s.dev = .ready → (∀ i < 256, s.siteBound i = false) → s.checkImage = none → MbxTaken 2 5 s t ∧ Raised 0x30000 2 3 s t ∧ StaysOn [0x30000] s t ∧ t = { s with regs := t.regs, hif := t.hif, faults := t.faults, evr := t.evr, free := t.free, mbx := t.mbx })
         ∧ (s.mbx.running = none → len.toNat ≤ 512 → s.dev = .ready → (∀ i < 256, s.siteBound i = false) → ∀ im ∈ s.checkImage, MbxTaken 2 0 s t ∧ t.settings = some im.1 ∧ (∀ v ∈ recNum im.2 3, ∀ n < 8, t.fldAt .epcCtl 0 SYNC_CFG_ROLE n = v / 256 ^ n % 4) ∧ (∀ v ∈ recNum im.2 4, t.fld .epcCtl 0 EPC_SKEW_SEED_SEED_PS = min 7000 v) ∧ (∀ v ∈ recNum im.2 2, v < 3 → s.lstate = 0 ∨ s.lstate = 5 ∨ s.lstate = 6 → t.fld .plk 0 PLK_CFG_ROLE = v))
         ∧ t.epc = s.epc ∧ t.pins = s.pins ∧ t.sites = s.sites ∧ t.psqs = s.psqs ∧ t.vs = s.vs)
    ∧ (∀ (len : BitVec 16), 
       ∃ t, exec (.loadRecoveryFw len) s = .next t
         ∧ (s.mbx.running.isSome = true → MbxBusy s t)
         ∧ (s.mbx.running = none → 512 < len.toNat → MbxTaken 3 2 s t ∧ MbxOnly [] s t)
         ∧ (s.mbx.running = none → len.toNat ≤ 512 → s.role.meets 2 = false → MbxTaken 3 3 s t ∧ t.mbx.recov = s.mbx.recov ∧ t.mbx.recovNext = s.mbx.recovNext ∧ t.mbx.recovLast = s.mbx.recovLast)
         ∧ (s.mbx.running = none → len.toNat ≤ 512 → s.role.meets 2 = true → BadBlock len.toNat s → MbxTaken 3 2 s t ∧ t.mbx.recov = [] ∧ t.mbx.recovNext = 0 ∧ t.mbx.recovLast = false)
         ∧ (s.mbx.running = none → len.toNat ≤ 512 → s.role.meets 2 = true → ¬BadBlock len.toNat s → MbxTaken 3 0 s t ∧ t.mbx.recovNext = s.mbx.recovNext + 1 ∧ t.mbx.recovLast = (blockHead s).getLsbD 31 ∧ t.mbx.recov.length = s.mbx.recov.length + (4 * (len.toNat - 1) - blockPad s) ∧ t.mbx.recov.take s.mbx.recov.length = s.mbx.recov ∧ ∀ j < 4 * (len.toNat - 1) - blockPad s, (t.mbx.recov.getD (s.mbx.recov.length + j) 0).toNat = (s.rd (0x30804 + 4 * (j / 4))).toNat / 256 ^ (j % 4) % 256)
         ∧ MbxOnly [] s t ∧ t.free = s.free)
    ∧ (∀ (ok : Bool), 
       ∃ t, exec (.mbxDone ok) s = .next t
         ∧ (s.mbx.running = none → t = s)
         ∧ (s.mbx.running.isSome = true → t.mbx.running = none ∧ t.mbx.busyWrite = false ∧ t.fld .stw 0 STW_RESP_BUSY = 0 ∧ (t.intStat 0x30000).getLsbD 0 = true)
         ∧ (s.mbx.running.isSome = true → s.mbx.busyWrite = true → t.fld .stw 0 STW_RESP_RESULT = 4)
         ∧ (s.mbx.running.isSome = true → s.mbx.busyWrite = false → s.mbx.recovLast = false → t.fld .stw 0 STW_RESP_RESULT = s.mbx.result % 65536)
         ∧ (s.mbx.running.isSome = true → s.mbx.recovLast = false → t.spm = s.spm ∧ t.mbx = { s.mbx with running := none, busyWrite := false })
         ∧ (s.mbx.running.isSome = true → s.mbx.recovLast = true → t.mbx.recov = [] ∧ t.mbx.recovNext = 0 ∧ t.mbx.recovLast = false)
         ∧ (s.mbx.running.isSome = true → s.mbx.recovLast = true → (∀ v ∈ Config.fwImageSvn s.mbx.recov, v < s.fld .secCnt 0 SEC_FW_SVN) → t.spm = s.spm ∧ t.mbx.resetDue = s.mbx.resetDue ∧ (s.mbx.busyWrite = false → t.fld .stw 0 STW_RESP_RESULT = 5))
         ∧ (s.mbx.running.isSome = true → s.mbx.recovLast = true → (Config.fwImageSvn s.mbx.recov).any (fun v => decide (s.fld .secCnt 0 SEC_FW_SVN ≤ v)) = true → ok = true → t.mbx.resetDue = true ∧ (s.mbx.busyWrite = false → t.fld .stw 0 STW_RESP_RESULT = 0) ∧ (s.mbx.recov.length ≤ s.flashEnd → ∀ a < s.mbx.recov.length, t.flashByte a = s.mbx.recov.getD a 0))
         ∧ (s.mbx.running.isSome = true → s.mbx.recovLast = true → (Config.fwImageSvn s.mbx.recov).any (fun v => decide (s.fld .secCnt 0 SEC_FW_SVN ≤ v)) = true → ok = false → t.mbx.resetDue = s.mbx.resetDue ∧ (s.mbx.busyWrite = false → t.fld .stw 0 STW_RESP_RESULT = 6))
         ∧ (s.mbx.recov.length ≤ 0x100000 → FlashBut 0 0x100000 s t)
         ∧ (RegsBut ([0x30044, 0x30018] ++ pbaOffs) s t ∧ t = { s with regs := t.regs, hif := { s.hif with sent := t.hif.sent }, mbx := t.mbx, spm := t.spm, free := t.free }))

/-- A system reset, asked for by its pin, by CHIP or by a completed recovery, leaves the device in BOOT with everything at its reset value but what NVM and the always-on domain keep (R67, R68). The loss of a rail leaves it OFF (R550, R553). The release of power-on reset counts a power cycle and lets the operating seconds resume at the checkpoint plus 60 (R73, R538). The end of the reference watch sets SOURCE and brings the core's domains up (R73, R80). The boot ROM takes slot A, else slot B, and with neither the device enters FAULT with cause 3; with a good identity it is SAFE, every bank held (R73, R75, R466). Step 12 sets the ceiling and makes the device READY (R31, R73). PERST_N and a Function Level Reset reset the function; the latter ends the host's work (R69, R70). -/
def Obligations.ResetsAndStartUp : Prop :=
  ∀ (s : State),
    (Steady s → 
       ∃ t, exec .sysRstN s = .next t
         ∧ (s.dev ≠ .off → SystemReset s t)
         ∧ (s.dev = .off → t = s))
    ∧ (Serving s → 
       ∃ t, exec .chip s = .next t
         ∧ SystemReset s t)
    ∧ (Steady s → 
       ∃ t, exec .recoveryReset s = .next t
         ∧ (s.mbx.resetDue = true → SystemReset s t)
         ∧ (s.mbx.resetDue = false → t = s))
    ∧ (∀ (torn : Option (Fin 16384)), Steady s → 
       ∃ t, exec (.railFail torn) s = .next t
         ∧ t.dev = .off ∧ t.domains = 0
         ∧ KeepsNvm s t
         ∧ (RegsFresh (fun o => nvmOffs.contains o || o == fldOff .secCtl 0 SEC_STAT_ENROLLED 0) t)
         ∧ t.fld .evr 0 EVR_BOOTS = s.fld .evr 0 EVR_BOOTS
         ∧ (torn = none → t.evr.slots = s.evr.slots ∧ t.evr.torn = s.evr.torn)
         ∧ (∀ k ∈ torn, recordAt t k.val = none ∧ k.val ∈ t.evr.torn ∧ SlotsBut [k.val] s t))
    ∧ (Steady s → 
       ∃ t, exec .porRelease s = .next t
         ∧ (s.dev ≠ .off → t = s)
         ∧ (s.dev = .off → StepsOneToFour t ∧ t.fld .evr 0 EVR_BOOTS = (s.fld .evr 0 EVR_BOOTS + 1) % 2 ^ 32 ∧ t.fld .evr 0 EVR_OPSEC = (s.evr.checkpoint + 60) % 2 ^ 32 ∧ RegsBut (startOffs ++ [fldOff .evr 0 EVR_BOOTS 0, fldOff .evr 0 EVR_OPSEC 0]) s t)
         ∧ t = { s with regs := t.regs, dev := t.dev, domains := t.domains, mbx := { s.mbx with bootLog := t.mbx.bootLog }, free := t.free })
    ∧ (∀ (p : Bool), Steady s → 
       ∃ t, exec (.refclkWatchEnd p) s = .next t
         ∧ (s.dev = .boot → s.domains.getLsbD 6 = false → t.epc = { s.epc with source := if p then .refclk else .crystalStart } ∧ t.domains = s.domains ||| 0xBF0 ∧ t.flag .epcSrc 0 EPC_SRCSTAT_PLL_LOCK = true ∧ t.flag .epcSrc 0 EPC_SRCSTAT_REF_PRESENT = p)
         ∧ (s.dev ≠ .boot ∨ s.domains.getLsbD 6 = true → t = s)
         ∧ RegsBut [0x2044, 0x204c] s t ∧ t = { s with regs := t.regs, epc := t.epc, domains := t.domains, free := t.free })
    ∧ (∀ (a b : Option FwInfo) (ok : Bool) (sf : Option Sfdp) (nv : List NvmHit), Steady s → (∀ h ∈ nv, ∀ k, h.item ≠ .event k) → 
       ∃ t, exec (.bootFwLoaded a b ok sf nv) s = .next t
         ∧ (s.dev ≠ .boot ∨ s.domains.getLsbD 6 = false → t = s)
         ∧ (s.dev = .boot → s.domains.getLsbD 6 = true → ¬FwPasses s a → ¬FwPasses s b → t.dev = .fault ∧ t.cause = 3 ∧ (t.fault 0x30000).hist.head?.map (fun e => (e.cls, e.base, e.level)) = some (1, 5, 5) ∧ t.mbx = s.mbx)
         ∧ (s.dev = .boot → s.domains.getLsbD 6 = true → FwPasses s a → t.mbx.fwSlot = some 0 ∧ ∀ i ∈ a, t.mbx.fwVersion = i.version ∧ t.mbx.fwSvn = i.svn.toNat ∧ t.mbx.fwCommit = i.commit)
         ∧ (s.dev = .boot → s.domains.getLsbD 6 = true → ¬FwPasses s a → FwPasses s b → t.mbx.fwSlot = some 1 ∧ ∀ i ∈ b, t.mbx.fwVersion = i.version ∧ t.mbx.fwSvn = i.svn.toNat ∧ t.mbx.fwCommit = i.commit)
         ∧ (s.dev = .boot → s.domains.getLsbD 6 = true → FwPasses s a ∨ FwPasses s b → ok = true → t.dev = .safe ∧ t.flag .secCtl 0 SEC_STAT_ID_VALID = true ∧ t.evr.torn = [] ∧ t.fld .evr 0 EVR_TORN = s.evr.torn.length % 2 ^ 15 ∧ ∀ k < 24, (t.bank k).held = true)
         ∧ (s.dev = .boot → s.domains.getLsbD 6 = true → FwPasses s a ∨ FwPasses s b → ok = false → t.dev = .fault ∧ t.cause = 1 ∧ (t.fault 0x20000).hist.head?.map (fun e => (e.cls, e.base, e.level)) = some (1, 5, 5))
         ∧ (s.dev = .boot → s.domains.getLsbD 6 = true → FwPasses s a ∨ FwPasses s b → ∀ x ∈ sf, t.flag .spm 0 SPM_STAT_SFDP_OK = true ∧ t.fld .spm 0 SPM_XIP_INFO_DENS_LOG2 = x.densLog2.toNat ∧ t.fld .spm 0 SPM_XIP_INFO_PAGE_LOG2 = x.pageLog2.toNat ∧ t.fld .spm 0 SPM_XIP_INFO_SECT_LOG2 = x.sectLog2.toNat ∧ t.fld .spm 0 SPM_XIP_INFO_BLK_LOG2 = x.blkLog2.toNat)
         ∧ t.epc = s.epc ∧ t.domains = s.domains ∧ t.spm = s.spm)
    ∧ (Steady s → 
       ∃ t, exec .startupReady s = .next t
         ∧ (s.dev ≠ .safe ∨ (∃ b < 24, (s.bank b).phase = .rising) → t = s)
         ∧ (s.dev = .safe → (∀ b < 24, (s.bank b).phase ≠ .rising) → (t.dev = .ready ∨ t.dev = .armed ∨ t.dev = .run) ∧ t.fld .pgv 0 PGV_CEIL_CEIL_MW = s.imageCeiling ∧ t.nvmJobs = s.nvmJobs ++ if s.mbx.fwCommit && decide (s.fld .secCnt 0 SEC_FW_SVN < s.mbx.fwSvn) then [.fwSvn s.mbx.fwSvn] else [])
         ∧ t.epc = s.epc ∧ t.spm = s.spm ∧ t.vs = s.vs ∧ t.sites = s.sites)
    ∧ (∀ (high : Bool), Steady s → 
       ∃ t, exec (.perstN high) s = .next t
         ∧ (high = true → t = { s with hif := { s.hif with perst := false } })
         ∧ (high = false → FunctionReset t ∧ t.hif.perst = true ∧ t.hif.linkUp = false ∧ t.fld .hifId 0 HIF_LINK_WIDTH = 0 ∧ t.fld .hifId 0 HIF_LINK_SPEED = 0)
         ∧ (RegsOff (fun o => (decide (0x4000 ≤ o) && decide (o < 0x6000)) || o == 0x48 || o == 0x4C) s t ∧ t = { s with regs := t.regs, hif := t.hif }))
    ∧ (Steady s → s.grave = none → 
       ∃ t, exec .functionLevelReset s = .next t
         ∧ (s.dev = .off ∨ s.hif.perst = true → t = s)
         ∧ (s.dev ≠ .off → s.hif.perst = false → FunctionReset t ∧ Flushed s t)
         ∧ (s.dev ≠ .off → s.hif.perst = false → (s.dev = .ready ∨ s.dev = .armed ∨ s.dev = .run ∨ s.dev = .hold) → t.dev = .ready)
         ∧ t.epc = s.epc)

/-- A write that the role may not make sets ACCESS_DENIED and does nothing else (R11, R47); a reserved offset takes nothing and reads as zero (R45); otherwise every field takes its part by its access code, and a counter then counts what falls in the same cycle (R9, R53). The low word of a 64-bit quantity is held until its high word is written, and both then apply (R50); a read of the low word latches the high one for its requester, whose next read of it returns it (R48, R49). A field that clears on reading is read first and then cleared, or holds what hardware sets in that cycle (R52). A REG_WRITE of the Piste writes in the role that committed it, or is refused (R105). A block reset on a page that serves a running sequencer or a queued operation raises RESET_BUSY and does nothing else; in a role below the page's minimum it is denied; otherwise the page's configuration, and what the chapter of its block adds, returns to its reset value, and no other register of a page whose reset touches nothing else changes (R46, R71). Which registers survive it is read from their chapters (assumption log). -/
def Obligations.RegisterAccess : Prop :=
  ∀ (s : State), Serving s →
    (∀ (off : Nat) (value : Word) (inc : Nat), pageOf off = none ∨ off % 4 ≠ 0 → 
       ∃ t, exec (.registerWrite off value inc) s = .next t
         ∧ t = s)
    ∧ (∀ (off : Nat) (r : PageRef) (value : Word) (inc : Nat), pageOf off = some r → off % 4 = 0 → InHeader r ∨ ¬MayWrite s r ∨ lowWordAt r.kind r.off = true ∨ highWordAt r.kind r.off = true → 
       ∃ t, exec (.registerWrite off value inc) s = .next t
         ∧ (InHeader r → s.role.meets (wrMin r.kind) = true → t = s)
         ∧ (InHeader r → s.role.meets (wrMin r.kind) = false → Denied r.page s t)
         ∧ (¬InHeader r → ¬MayWrite s r → Denied r.page s t)
         ∧ (¬InHeader r → MayWrite s r → lowWordAt r.kind r.off = true → gives (exec (.lowWordWrite off value) s) t = true)
         ∧ (¬InHeader r → MayWrite s r → highWordAt r.kind r.off = true → gives (exec (.highWordWrite off value) s) t = true))
    ∧ (∀ (off : Nat) (r : PageRef) (value : Word) (inc : Nat), pageOf off = some r → off % 4 = 0 → ¬InHeader r → MayWrite s r → lowWordAt r.kind r.off = false → highWordAt r.kind r.off = false → actsAt r.kind r.off = false → 
       ∃ t, exec (.registerWrite off value inc) s = .next t
         ∧ (inc = 0 → ¬(r.kind = .hvc ∧ r.off = 0x48) → FieldsStored s.role r value s t)
         ∧ (r.kind = .hvc → r.off = 0x48 → t.fld .hvc r.inst HVC_CLAMP_ILIM = ((s.sup (72 + r.inst)).ilimMax.map (min · (HVC_CLAMP_ILIM.stored (s.fld .hvc r.inst HVC_CLAMP_ILIM) (bitsOf value HVC_CLAMP_ILIM.hi HVC_CLAMP_ILIM.lo)))).getD (HVC_CLAMP_ILIM.stored (s.fld .hvc r.inst HVC_CLAMP_ILIM) (bitsOf value HVC_CLAMP_ILIM.hi HVC_CLAMP_ILIM.lo)))
         ∧ (∀ co ∈ counterAt r.kind r.off, s.role.meets co.1.need = true → co.1.own = false → t.fld r.kind r.inst co.1 = (co.1.stored (s.fld r.kind r.inst co.1) (bitsOf value co.1.hi co.1.lo) + inc) % 2 ^ (co.1.hi + 1 - co.1.lo))
         ∧ (showsAt r.kind r.off = false → RegsBut ([off, r.page + 0x18] ++ pbaOffs) s t ∧ ShadowOnly r s t ∧ t = { s with regs := t.regs, banks := t.banks, hif := { s.hif with sent := t.hif.sent } })
         ∧ t.sites = s.sites ∧ t.vs = s.vs ∧ t.pst = s.pst ∧ t.evr.slots = s.evr.slots ∧ t.psqs = s.psqs ∧ t.sups = s.sups)
    ∧ (∀ (off : Nat) (r : PageRef) (value : Word) (inc : Nat), pageOf off = some r → off % 4 = 0 → ¬InHeader r → MayWrite s r → lowWordAt r.kind r.off = false → highWordAt r.kind r.off = false → actsAt r.kind r.off = true → inc = 0 → 
       ∃ t, exec (.registerWrite off value inc) s = .next t
         ∧ (r.kind = .freSite → r.off = 0x5C → (t.site s.freSite).bmapHandle = value ∧ (t.site s.freSite).bmapOff = (s.site s.freSite).bmapOff ∧ SitesBut [s.freSite] s t ∧ t.regs = s.regs)
         ∧ (r.kind = .freSite → r.off = 0x60 → (t.site s.freSite).bmapOff = value ∧ (t.site s.freSite).bmapHandle = (s.site s.freSite).bmapHandle ∧ SitesBut [s.freSite] s t ∧ t.regs = s.regs)
         ∧ (r.kind = .freG → s.flag .freG 0 FRE_RING_CFG_EN = true → t.rd 0x240040 = s.rd 0x240040 ∧ t.rd 0x240044 = s.rd 0x240044 ∧ (r.off = 0x48 → t.flag .freG 0 FRE_RING_CFG_EN = value.getLsbD 31 ∧ RegsBut [0x240048] s t))
         ∧ (r.kind = .freG → s.flag .freG 0 FRE_RING_CFG_EN = false → FieldsStored s.role r value s t)
         ∧ (r.kind = .stw → 1 ≤ bitsOf value 31 16 → bitsOf value 31 16 ≤ 4 → t = s)
         ∧ (r.kind = .stw → ¬(1 ≤ bitsOf value 31 16 ∧ bitsOf value 31 16 ≤ 4) → s.mbx.running = none → bitsOf value 15 0 ≤ 512 → MbxTaken (bitsOf value 31 16) 1 s t)
         ∧ (r.kind = .secCtl → 1 ≤ bitsOf value 31 16 → bitsOf value 31 16 ≤ 4 → t = s)
         ∧ (r.kind = .secCtl → ¬(1 ≤ bitsOf value 31 16 ∧ bitsOf value 31 16 ≤ 4) → t.fld .secCtl 0 SEC_RESP_RESULT = 1 ∧ (t.intStat 0x20000).getLsbD 0 = true ∧ t.sec = s.sec)
         ∧ (r.kind = .dps → value.getLsbD 4 = s.flag .dps r.inst DPS_CTRL_SENSE → t = s)
         ∧ (r.kind = .dps → t.pst = s.pst ∧ t.sites = s.sites ∧ t.vs = s.vs))
    ∧ (∀ (off : Nat) (value : Word), 
       ∃ t, exec (.lowWordWrite off value) s = .next t
         ∧ (∀ r ∈ pageOf off, lowWordAt r.kind r.off = true → ¬MayWrite s r → Denied r.page s t)
         ∧ (∀ r ∈ pageOf off, lowWordAt r.kind r.off = true → MayWrite s r → ∀ n : Fin 8, r.kind = .apg → n.val = r.inst → gives (exec (.apgRegisterWrite n r.off value) s) t = true)
         ∧ (∀ r ∈ pageOf off, lowWordAt r.kind r.off = true → MayWrite s r → ∀ n : Fin 16, r.kind = .tmu → n.val = r.inst → gives (exec (.tmuConfigWrite n r.off value) s) t = true)
         ∧ (∀ r ∈ pageOf off, lowWordAt r.kind r.off = true → MayWrite s r → r.kind ≠ .apg → r.kind ≠ .tmu → lookupKey t.hif.lowBuf off = some value ∧ (t.hif.lowBuf.filter fun e => e.1 != off) = (s.hif.lowBuf.filter fun e => e.1 != off) ∧ t = { s with hif := { s.hif with lowBuf := t.hif.lowBuf } })
         ∧ (pageOf off = none → t = s)
         ∧ (∀ r ∈ pageOf off, lowWordAt r.kind r.off = false → t = s))
    ∧ (∀ (off : Nat) (value : Word), 
       ∃ t, exec (.highWordWrite off value) s = .next t
         ∧ (∀ r ∈ pageOf off, highWordAt r.kind r.off = true → ¬MayWrite s r → Denied r.page s t)
         ∧ (∀ r ∈ pageOf off, highWordAt r.kind r.off = true → MayWrite s r → ∀ n : Fin 8, r.kind = .apg → n.val = r.inst → gives (exec (.apgRegisterWrite n r.off value) s) t = true)
         ∧ (∀ r ∈ pageOf off, highWordAt r.kind r.off = true → MayWrite s r → ∀ n : Fin 16, r.kind = .tmu → n.val = r.inst → gives (exec (.tmuConfigWrite n r.off value) s) t = true)
         ∧ (∀ r ∈ pageOf off, highWordAt r.kind r.off = true → MayWrite s r → r.kind = .evr → if r.off = 0x60 then gives (exec (.evrWall value) s) t = true else gives (exec (.evrCursorHi value) s) t = true)
         ∧ (∀ r ∈ pageOf off, highWordAt r.kind r.off = true → MayWrite s r → r.kind = .fre ∨ r.kind = .pcn ∨ r.kind = .pcnChip → t.rd off = (if r.kind = .fre ∨ r.off = 0x54 then value else value &&& 0xFFFF) ∧ t.rd (off - 4) = (lookupKey s.hif.lowBuf (off - 4)).getD (s.rd (off - 4)) ∧ lookupKey t.hif.lowBuf (off - 4) = none ∧ RegsBut [off - 4, off] s t ∧ t = { s with regs := t.regs, hif := { s.hif with lowBuf := t.hif.lowBuf } })
         ∧ (pageOf off = none → t = s)
         ∧ (∀ r ∈ pageOf off, highWordAt r.kind r.off = false → t = s))
    ∧ (∀ (who : Requester) (off : Nat), 
       ∃ t, exec (.lowWordRead who off) s = .next t
         ∧ (who = .steward → t.hif.resp = s.hif.resp)
         ∧ (pageOf off = none → who = .host → t.hif.resp = .words [0] ∧ t = { s with hif := { s.hif with resp := t.hif.resp } })
         ∧ (∀ r ∈ pageOf off, who = .host → s.readClosed r s.role = none → t.hif.resp = .words [readWord who off r s])
         ∧ (∀ r ∈ pageOf off, who = .host → (s.readClosed r s.role).isSome = true → t.hif.resp = .words [readWord who off r s &&& ~~~(s.readClosed r s.role).getD 0] ∧ (t.intStat r.page).getLsbD 30 = true)
         ∧ (∀ r ∈ pageOf off, lowReadAt r.kind r.off = true → lookupKey t.hif.shadow (shadowKey who off) = some (s.regWord { r with off := r.off + 4 } (s.readRole who)))
         ∧ (∀ r ∈ pageOf off, lowReadAt r.kind r.off = false → 4 ≤ r.off → lowReadAt r.kind (r.off - 4) = true → lookupKey t.hif.shadow (shadowKey who (off - 4)) = none)
         ∧ (∀ r ∈ pageOf off, RegsBut ((r.page + 0x18) :: pbaOffs) s t)
         ∧ (t = { s with regs := t.regs, free := t.free, hif := { s.hif with resp := t.hif.resp, shadow := t.hif.shadow, sent := t.hif.sent } }))
    ∧ (∀ (off : Nat) (hwSet : Option Word), 
       ∃ t, exec (.rcFieldRead off hwSet) s = .next t
         ∧ ((match exec (.lowWordRead .host off) s with | .next q => decide (t.hif = q.hif) | _ => false) = true)
         ∧ (∀ r ∈ pageOf off, s.readClosed r s.role = none → t.rd off = (s.rd off &&& ~~~clearOnRead r.kind r.off) ||| (hwSet.getD 0 &&& clearOnRead r.kind r.off))
         ∧ (∀ r ∈ pageOf off, s.readClosed r s.role = none → OnlyRegs [off] s { t with hif := s.hif, free := s.free }))
    ∧ (∀ (e : PstEntry), s.dueEntry 10 = some e → 
       ∃ t, exec .regWrite s = .next t
         ∧ (t.pst.entries = (s.pst.entries.filter fun x => x.slot != e.slot))
         ∧ (pageOf (e.target * 0x1000 + 4 * e.sub) = none → t.pst.log.head? = some ⟨e.f, e.p, if s.epc.source = .holdover then 2 else 0, e.tag * 0x1000 + e.slot, 0⟩)
         ∧ (∀ r ∈ pageOf (e.target * 0x1000 + 4 * e.sub), e.role.meets (wrMin r.kind) = false → t.pst.log.head? = some ⟨e.f, e.p, 1, e.tag * 0x1000 + e.slot, BitVec.ofNat 32 (typeOf r.kind * 2 ^ 16)⟩ ∧ (t.intStat r.page).getLsbD 30 = true)
         ∧ (∀ r ∈ pageOf (e.target * 0x1000 + 4 * e.sub), e.role.meets (wrMin r.kind) = true → s.judgedWrite ⟨.piste, e.role⟩ r e.arg = none → s.offSealed e.role r = true → t.pst.log.head? = some ⟨e.f, e.p, 1, e.tag * 0x1000 + e.slot, BitVec.ofNat 32 (typeOf r.kind * 2 ^ 16)⟩)
         ∧ (∀ r ∈ pageOf (e.target * 0x1000 + 4 * e.sub), e.role.meets (wrMin r.kind) = true → s.judgedWrite ⟨.piste, e.role⟩ r e.arg = none → s.offSealed e.role r = false → t.pst.log.head? = some ⟨e.f, e.p, if s.epc.source = .holdover then 2 else 0, e.tag * 0x1000 + e.slot, 0⟩ ∧ (r.kind ≠ .hvc → r.kind ≠ .pst → FieldsStored e.role r e.arg s t))
         ∧ t.sites = s.sites ∧ t.vs = s.vs ∧ t.sec = s.sec ∧ t.spm = s.spm)
    ∧ (∀ (page : Nat), headerPage page = none → 
       ∃ t, exec (.blkReset page) s = .next t
         ∧ t = s)
    ∧ (∀ (page : Nat) (r : PageRef), headerPage page = some r → 
       ∃ t, exec (.blkReset page) s = .next t
         ∧ (s.role.meets (wrMin r.kind) = false → Denied r.page s t)
         ∧ (s.role.meets (wrMin r.kind) = true → s.pageBusy r.kind r.inst = true → Raised r.page 255 1 s t ∧ Reported [r.page] [] s t ∧ t = { s with regs := t.regs, hif := t.hif, faults := t.faults, evr := t.evr, free := t.free })
         ∧ (s.role.meets (wrMin r.kind) = true → s.pageBusy r.kind r.inst = false → r.kind ∈ [.hifId, .hifRst, .stw, .spm, .evr, .nvm, .secCtl, .secLoad, .secDbg, .secCnt, .pst, .gmnSum, .sfb, .ovl, .mce, .pcn, .pcnChip, .vmc, .freG, .fre, .acq, .pmu] → (∀ o ∈ (List.range 0x1000).map (r.page + ·), r.page + 0x40 ≤ o → ∀ q ∈ pageOf o, s.survives r.kind r.inst q.off = false → s.offSealed s.role q = false → t.rd o = (s.rd o &&& ~~~clearMask r.kind q.off) ||| (regReset o &&& clearMask r.kind q.off)) ∧ RegsOff (fun o => decide (r.page + 0x40 ≤ o) && decide (o < r.page + 0x1000)) s t ∧ ShadowOnly r s t ∧ t = { s with regs := t.regs, banks := t.banks })
         ∧ t.pst = s.pst ∧ t.fre.store = s.fre.store ∧ t.spm = s.spm ∧ t.evr.slots = s.evr.slots ∧ t.sec = s.sec ∧ t.settings = s.settings)
end

