-- ==== Sys2Proof/Laws/Memory.lean ====
section
/-! SUPPORT. The addressed memories keep their canonical form: the Vector Store with its written-map and poison, the overlay store, the flash
and the capture memories. Every write of one goes through the operations named here. -/

namespace Sys2Proof.Machine
open Sys2Proof Reg

/-- The Vector Store's bytes, written-map and poison are in canonical form. -/
def VsSt.memoryWf (v : VsSt) : Bool :=
  mapWf (fun _ => (0 : Byte)) v.bytes && mapWf (fun _ => false) v.written && mapWf (fun _ => false) v.poison

/-- Every addressed memory of the block is in canonical form. -/
def Memory.wf (s : State) : Bool :=
  s.vs.memoryWf && mapWf (fun _ => (0 : Byte)) s.overlay && mapWf flashRest s.spm.flash
    && (List.range 24).all fun b => mapWf (fun _ => (0 : Word)) (s.measOf b).mem

theorem reset_memory_wf : Memory.wf State.reset = true := by decide

/-- The memories depend on four fields of State. -/
theorem memoryWf_congr {s t : State} (h1 : t.vs.memoryWf = s.vs.memoryWf) (h2 : t.overlay = s.overlay)
    (h3 : t.spm.flash = s.spm.flash) (h4 : t.meas = s.meas) : Memory.wf t = Memory.wf s := by
  simp only [Memory.wf, State.measOf, h1, h2, h3, h4]

theorem memoryWf_iff (s : State) : Memory.wf s = true ↔
    s.vs.memoryWf = true ∧ mapWf (fun _ => (0 : Byte)) s.overlay = true ∧ mapWf flashRest s.spm.flash = true
      ∧ ∀ b, b < 24 → mapWf (fun _ => (0 : Word)) (s.measOf b).mem = true := by
  simp only [Memory.wf, Bool.and_eq_true, List.all_eq_true, List.mem_range, and_assoc]

/-! ### The Vector Store -/

theorem vsForget_memoryWf (s : State) (r : Nat) (h : Memory.wf s = true) : Memory.wf (s.vsForget r) = true := by
  rw [memoryWf_iff] at *
  refine ⟨?_, h.2⟩
  have hv := h.1
  simp only [VsSt.memoryWf, Bool.and_eq_true] at hv ⊢
  exact ⟨⟨mapDrop_wf _ (fun a => a / 4096 == r) _ hv.1.1, mapDel_wf _ _ _ hv.1.2⟩,
    mapDrop_wf _ (fun w => w / 512 == r) _ hv.2⟩

theorem vsPoke_memoryWf (bs : List Byte) (s : State) (a : Nat) (h : Memory.wf s = true) : Memory.wf (s.vsPoke a bs) = true := by
  induction bs generalizing s a with
  | nil => exact h
  | cons b r ih =>
    apply ih
    rw [memoryWf_iff] at *
    refine ⟨?_, h.2⟩
    have hv := h.1
    simp only [VsSt.memoryWf, Bool.and_eq_true] at hv ⊢
    exact ⟨⟨mapSet_wf _ _ _ _ hv.1.1, mapSet_wf _ _ _ _ hv.1.2⟩, hv.2⟩

theorem setPoison_memoryWf (s : State) (w : Nat) (p : Bool) (h : Memory.wf s = true) : Memory.wf (s.setPoison w p) = true := by
  rw [memoryWf_iff] at *
  refine ⟨?_, h.2⟩
  have hv := h.1
  simp only [VsSt.memoryWf, Bool.and_eq_true] at hv ⊢
  exact ⟨hv.1, mapSet_wf _ _ _ _ hv.2⟩

theorem pcnAdd_eq_with (s : State) (k : PageKind) (n i d : Nat) :
    s.pcnAdd k n i d = { s with regs := (s.pcnAdd k n i d).regs } := by
  simp only [State.pcnAdd]
  split <;> rfl

/-- Chip-wide events change registers and the list of wraps to be signalled. -/
theorem pcnChip_eq_with (s : State) (e d : Nat) :
    s.pcnChip e d = { s with regs := (s.pcnChip e d).regs, chipWraps := (s.pcnChip e d).chipWraps } := by
  have h : ∀ (l : List Nat) (t : State), ∃ r w, l.foldl (fun s i =>
      if s.pcnCounts .pcnChip 0 e true i && decide (0 < d) then
        let w := s.pcnWraps .pcnChip 0 i d
        let s := s.pcnAdd .pcnChip 0 i d
        if w then { s with chipWraps := s.chipWraps ++ [i] } else s
      else s) t = { t with regs := r, chipWraps := w } := by
    intro l
    induction l with
    | nil => exact fun t => ⟨t.regs, t.chipWraps, rfl⟩
    | cons i l ih =>
      intro t
      simp only [List.foldl_cons]
      obtain ⟨r, w, hu⟩ := ih (if t.pcnCounts .pcnChip 0 e true i && decide (0 < d) then
        if t.pcnWraps .pcnChip 0 i d then
          { t.pcnAdd .pcnChip 0 i d with chipWraps := (t.pcnAdd .pcnChip 0 i d).chipWraps ++ [i] }
        else t.pcnAdd .pcnChip 0 i d
      else t)
      refine ⟨r, w, hu.trans ?_⟩
      split
      · split <;> rw [pcnAdd_eq_with]
      · rfl
  obtain ⟨r, w, hu⟩ := h (List.range 8) s
  simp only [State.pcnChip] at *
  rw [hu]

theorem pcnChip_memoryWf (s : State) (e d : Nat) (h : Memory.wf s = true) : Memory.wf (s.pcnChip e d) = true := by
  rw [memoryWf_congr (s := s)] <;> first | exact h | rw [pcnChip_eq_with]

/-- A write that covers part of one 64-bit word, or all of it (R298). -/
theorem vsWriteWord_memoryWf (s : State) (a : Nat) (bs : List Byte) (h : Memory.wf s = true) :
    Memory.wf (s.vsWriteWord a bs) = true := by
  unfold State.vsWriteWord
  split
  · exact setPoison_memoryWf _ _ _ (vsPoke_memoryWf _ _ _ h)
  · split
    · have hl := recordedLevel_low
      rw [memoryWf_congr (s := s)] <;> first
        | exact h
        | (simp only [State.raiseOpen, State.raise, State.drawn, State.int, State.bump]
           rw [recordFault_eq_with _ _ _ _ _ _ _ (by rw [hl _ _ _ (by decide)]; decide), intSet_eq_with, bumpBy_eq_with])
    · exact pcnChip_memoryWf _ _ _ (vsPoke_memoryWf _ _ _ h)

theorem vsWriteAux_memoryWf (fuel : Nat) (s : State) (a : Nat) (bs : List Byte) (h : Memory.wf s = true) :
    Memory.wf (s.vsWriteAux a bs fuel) = true := by
  induction fuel generalizing s a bs with
  | zero => exact h
  | succ n ih =>
    unfold State.vsWriteAux
    split
    · exact h
    · exact ih _ _ _ (vsWriteWord_memoryWf _ _ _ h)

theorem vsWrite_memoryWf (s : State) (a : Nat) (bs : List Byte) (h : Memory.wf s = true) : Memory.wf (s.vsWrite a bs) = true :=
  pcnChip_memoryWf _ _ _ (vsWriteAux_memoryWf _ _ _ _ h)

/-! ### Overlay store, flash, capture memory -/

theorem setOvlByte_memoryWf (s : State) (a : Nat) (v : Byte) (h : Memory.wf s = true) : Memory.wf (s.setOvlByte a v) = true := by
  rw [memoryWf_iff] at *
  exact ⟨h.1, mapSet_wf _ _ _ _ h.2.1, h.2.2⟩

theorem ovlWrite_memoryWf (bs : List Byte) (s : State) (a : Nat) (h : Memory.wf s = true) : Memory.wf (s.ovlWrite a bs) = true := by
  induction bs generalizing s a with
  | nil => exact h
  | cons b r ih => exact ih _ _ (setOvlByte_memoryWf _ _ _ h)

theorem setFlashByte_memoryWf (s : State) (a : Nat) (v : Byte) (h : Memory.wf s = true) : Memory.wf (s.setFlashByte a v) = true := by
  unfold State.setFlashByte
  split
  · rw [memoryWf_iff] at *
    exact ⟨h.1, h.2.1, mapSet_wf _ _ _ _ h.2.2.1, h.2.2.2⟩
  · exact h

theorem eraseRange_memoryWf (s : State) (a n : Nat) (h : Memory.wf s = true) : Memory.wf (s.eraseRange a n) = true := by
  rw [memoryWf_iff] at *
  exact ⟨h.1, h.2.1, mapDrop_wf _ (fun x => decide (a ≤ x) && decide (x < a + n)) _ h.2.2.1, h.2.2.2⟩

/-- A bank's capture memory takes any content in canonical form. -/
theorem setMeas_memoryWf (s : State) (b : Nat) (m : MeasSt) (hm : mapWf (fun _ => (0 : Word)) m.mem = true)
    (h : Memory.wf s = true) : Memory.wf (s.setMeas b m) = true := by
  rw [memoryWf_iff] at *
  refine ⟨h.1, h.2.1, h.2.2.1, fun j hj => ?_⟩
  have hg : (s.setMeas b m).measOf j = if j = b then m else s.measOf j := by
    simp only [State.measOf, State.setMeas]
    rw [mapGet_mapSet]
  rw [hg]
  split
  · exact hm
  · exact h.2.2.2 j hj

theorem setAcqByte_memoryWf (s : State) (b x : Nat) (v : Byte) (hb : b < 24) (h : Memory.wf s = true) :
    Memory.wf (s.setAcqByte b x v) = true :=
  setMeas_memoryWf _ _ _ (mapSet_wf _ _ _ _ (((memoryWf_iff s).1 h).2.2.2 b hb)) h

end Sys2Proof.Machine
end

