-- ==== Sys2Proof/WellFormed.lean ====
section
/-! DEFINITION. Which commands are well-formed: the operands a command may carry. -/

namespace Sys2Proof

/-- A value lies below a bound. -/
def below (n v : Nat) : Bool := decide (v < n)

/-- The offset of a 32-bit register of BAR0 (R39). -/
def regOffset (off : Nat) : Bool := off % 4 == 0 && below 0x4000000 off

/-- The offset of a page of BAR0 (R44). -/
def pageOffset (page : Nat) : Bool := page % 0x1000 == 0 && below 0x4000000 page

/-- Numbers in rising order, none twice. -/
def rising : List Nat → Bool
  | [] => true
  | [_] => true
  | a :: b :: r => decide (a < b) && rising (b :: r)

/-- The errors a read meets are listed by word, in order. -/
def hitsOk (hits : List EccHit) : Bool := rising (hits.map EccHit.word)

/-- Whether a command's operands are ones the part can be given: offsets and codes within their registers, lists of the lengths the
hardware gives them. -/
def Instr.wf (i : Instr) : Bool :=
  match i with
  | .registerWrite off _ _ => regOffset off
  | .bar0BadAccess _ => true
  | .lowWordRead _ off => regOffset off
  | .lowWordWrite off _ => regOffset off
  | .highWordWrite off _ => regOffset off
  | .rcFieldRead off _ => regOffset off
  | .intStatClear page _ _ => pageOffset page
  | .intSet page _ => pageOffset page
  | .intEnWrite page _ => pageOffset page
  | .intVecWrite page _ => pageOffset page
  | .msixUnmask _ => true
  | .fltAck page _ => pageOffset page
  | .fltHistCursorWrite page _ => pageOffset page
  | .fltHistDataRead page => pageOffset page
  | .getFwInfo _ => true
  | .reloadSettings _ => true
  | .loadRecoveryFw _ => true
  | .getBootLog _ => true
  | .recoveryReset => true
  | .sysRstN => true
  | .chip => true
  | .perstN _ => true
  | .functionLevelReset => true
  | .blkReset page => pageOffset page
  | .porRelease => true
  | .refclkWatchEnd _ => true
  | .configRequest _ _ => true
  | .hifLinkTrained _ _ => true
  | .hifLinkDown => true
  | .bootFwLoaded _ _ _ _ _ => true
  | .startupReady => true
  | .ceilMwWrite value => below (2 ^ 16) value
  | .ceilLock => true
  | .refclkLost => true
  | .refclkReturn => true
  | .multWrite value => below 32 value
  | .pllRelockDone => true
  | .holdExpired => true
  | .fmkMarker width => decide (0 < width)
  | .fmkRealign => true
  | .fmkMissing => true
  | .frameBoundary => true
  | .frameLenWrite value => below 4096 value
  | .arm => true
  | .seedPsWrite value => below 8192 value
  | .skewCal => true
  | .skewMeasureDone result => result.all (below (2 ^ 24))
  | .skewTrimApply => true
  | .syncEdge _ width => decide (0 < width)
  | .syncPulseEnd _ _ => true
  | .go => true
  | .cancel => true
  | .mark => true
  | .psqStart => true
  | .psqStop => true
  | .quietOpen => true
  | .quietClose => true
  | .syncPulse => true
  | .supplyGo => true
  | .acqArm => true
  | .tmuArm => true
  | .msrRelease => true
  | .regWrite => true
  | .pisteDrop => true
  | .pstLogCursorWrite _ => true
  | .pstLogDataRead => true
  | .conn _ _ => true
  | .ppmuConnect _ => true
  | .measureExit _ => true
  | .idleHold _ _ => true
  | .ppmuCompliance _ _ => true
  | .req _ _ => true
  | .modeLimitsApply _ => true
  | .modeCalApply _ _ => true
  | .modeDone _ => true
  | .map _ _ _ => true
  | .d2dFrame _ _ _ => true
  | .vectorPeriod _ => true
  | .stallResume _ => true
  | .outcomeDelivery _ obs => rising (obs.map PinObs.pin) && obs.all fun o => below 128 o.pin
  | .periodWrite _ _ _ => true
  | .edgeWindowWrite _ off _ => off % 4 == 0 && (off == 0x400 || off == 0x40C || (decide (0x500 ≤ off) && below 0x700 off))
  | .deskewApply _ => true
  | .nop _ => true
  | .run _ => true
  | .vset _ => true
  | .loop _ => true
  | .endloop _ => true
  | .jump _ => true
  | .call _ => true
  | .ret _ => true
  | .matchVec _ => true
  | .matchEnd _ => true
  | .pausept _ => true
  | .epochwait _ => true
  | .epochwaitTarget _ => true
  | .resolutionPoint _ => true
  | .subst _ => true
  | .alu _ => true
  | .outcome _ => true
  | .siteState _ => true
  | .mwait _ => true
  | .mwaitTimeout _ => true
  | .apg _ => true
  | .halt _ => true
  | .microword _ => true
  | .ucntLd _ => true
  | .apgLdx _ => true
  | .apgLdy _ => true
  | .apgLdd _ => true
  | .pcnRd _ => true
  | .load _ => true
  | .preloadDone _ => true
  | .start _ => true
  | .startCheck _ _ => true
  | .firstVector _ => true
  | .stop _ => true
  | .burstEnd _ => true
  | .pause _ _ => true
  | .pauseRelease _ => true
  | .psqAjumpWrite _ _ => true
  | .mceLoad _ => true
  | .mceLoadDone _ hits => hitsOk hits
  | .storeScan _ part addr _ => below (if part.val = 0 then 256 else if part.val = 1 then 16384 else 2048) addr
  | .vendorReload _ => true
  | .apgScrDataAccess _ _ => true
  | .apgTopoDataAccess _ _ => true
  | .pcnWrap _ _ => true
  | .sfbBind => true
  | .relPsq => true
  | .relSites => true
  | .sfbCmdComplete => true
  | .siteRegWrite _ _ _ => true
  | .siteStateWrite _ _ => true
  | .mask _ _ => true
  | .retire _ => true
  | .unretire _ => true
  | .ovlDataAccess _ => true
  | .descriptorWrite _ _ _ => true
  | .ovlDma => true
  | .ovlDmaDone hits => hitsOk hits
  | .bar2Read addr len hits => decide (0 < len) && below (2 ^ 32 + 1) (addr + len) && hitsOk hits
  | .bar2Write addr data hits => decide (data ≠ []) && below (2 ^ 32 + 1) (addr + data.length) && hitsOk hits
  | .bucketLeak => true
  | .vsChannelFail _ => true
  | .scrubRead hits => hitsOk hits
  | .vmcAlloc _ => true
  | .vmcFree _ => true
  | .vmcAllocDone => true
  | .mapVs => true
  | .mapHost => true
  | .unmap => true
  | .mapDone => true
  | .lftStageWrite _ => true
  | .lookaheadFetch _ => true
  | .cacheFill _ block hits forward => below (2 ^ 30) block && hitsOk hits && forward.all fun b => b.length == 64
  | .hostPageFetch vpn => below (2 ^ 20) vpn
  | .hostPageStaged vpn data => below (2 ^ 20) vpn && data.all fun b => b.length == 65536
  | .markDrain _ _ => true
  | .bmapClr _ => true
  | .bmapClrDone _ => true
  | .solveStart _ => true
  | .solveDone _ hits => hitsOk hits
  | .limGo _ => true
  | .limDone _ => true
  | .issue _ => true
  | .recordIssue _ => true
  | .ringWrite => true
  | .tail _ => true
  | .ffrCursorWrite _ _ => true
  | .ffrDataRead _ => true
  | .levelWrite _ _ code => below (2 ^ 20) code
  | .deglitchRelease _ _ => true
  | .dacReadback _ _ _ => true
  | .dpsEn _ _ => true
  | .dpsReady _ => true
  | .dpsConn _ _ => true
  | .dpsSwitchClosed _ => true
  | .dpsV _ code => below (2 ^ 20) code
  | .ilim _ value => below 1024 value
  | .clamped _ _ => true
  | .dpsRange _ value => below 8 value
  | .senseLost _ => true
  | .senseRetry _ => true
  | .dpsGang _ _ => true
  | .hvcEn _ _ => true
  | .qPush _ _ => true
  | .qGo _ => true
  | .flush _ => true
  | .updateTick => true
  | .release _ => true
  | .puvWrite _ _ => true
  | .gmnWinWrite _ _ _ => true
  | .gmnCfgWrite _ _ _ => true
  | .guardTick _ => true
  | .guardCrossing _ => true
  | .gmnBlank1 _ _ => true
  | .blankEnd _ _ => true
  | .pmuEn _ _ => true
  | .acqEn _ _ => true
  | .pmuCompliance _ _ => true
  | .msrCommit _ _ => true
  | .msrCancel _ _ => true
  | .msrFlush _ _ => true
  | .msrRel _ _ _ => true
  | .msrDispatch _ => true
  | .itemDone _ _ _ _ => true
  | .resData2Read _ => true
  | .capArm _ _ => true
  | .capDisarm _ _ => true
  | .captureResult _ _ _ _ => true
  | .capRearm _ => true
  | .segCurWrite _ _ => true
  | .segDataRead _ => true
  | .tmuCtrlArm _ _ => true
  | .disarm _ _ => true
  | .tmuEdge _ _ _ _ => true
  | .tmuTimeout _ => true
  | .calGo _ _ => true
  | .tmuCalDone _ runs _ => runs.all fun r => r.length == 512
  | .tmuBinDataRead _ => true
  | .calCtrlGo => true
  | .abort => true
  | .calStepStart _ => true
  | .calStepDone _ _ _ _ => true
  | .calCopyCommit _ _ => true
  | .calAgeDue _ => true
  | .calOverdue _ => true
  | .thermalSample readings => readings.length == 32
  | .throttlePhase _ => true
  | .thmThresholdWrite off _ => off % 4 == 0 && decide (0x40 ≤ off) && decide (off ≤ 0x50)
  | .lock _ => true
  | .fePowerRetry _ => true
  | .getVersion ses => ses.all (below 4)
  | .getCapabilities ses => ses.all (below 4)
  | .negotiateAlgorithms ses _ => ses.all (below 4)
  | .getDigests ses => ses.all (below 4)
  | .getCertificate ses slot off len => ses.all (below 4) && below 16 slot && below (2 ^ 16) off && below (2 ^ 16) len
  | .challenge ses slot _ => ses.all (below 4) && below 256 slot
  | .getMeasurements ses _ _ _ => ses.all (below 4)
  | .keyExchange ses _ _ => ses.all (below 4)
  | .finish ses _ _ => ses.all (below 4)
  | .endSession ses => ses.all (below 4)
  | .unsupportedRequest _ ses => ses.all (below 4)
  | .sessionIdleTimeout => true
  | .getNonce _ => true
  | .token _ _ => true
  | .endVendor _ => true
  | .getSlot _ => true
  | .vendorExpiry => true
  | .nonceExpiry => true
  | .bundleLoad _ => true
  | .bundleApplyDone _ => true
  | .unload _ => true
  | .ovlApply _ => true
  | .debugWindowRead off => off % 4 == 0 && decide (0x800 ≤ off) && below 0x1000 off
  | .jtagPrivate => true
  | .plkEn _ => true
  | .plkRole _ => true
  | .linkTrained _ => true
  | .identDone _ => true
  | .authDone _ => true
  | .retrain => true
  | .linkDownRetry => true
  | .flitReceive _ _ _ _ _ _ => true
  | .flitReplay _ => true
  | .mirror _ => true
  | .feedReq _ block hits => below (2 ^ 30) block && hitsOk hits
  | .feedData _ block got => below (2 ^ 30) block && (match got with | .data b => b.length == 64 | .unwritten => true | .error => true)
  | .linkSilence => true
  | .check => true
  | .refresh => true
  | .plkMselWrite _ => true
  | .plkMdataRead => true
  | .spmGo => true
  | .spmAbort bits => bits.all (below 4097)
  | .spmTransferDone _ rx => below 4097 rx.length
  | .spmRetryWait _ => true
  | .bar4Read addr len => decide (0 < len) && below (2 ^ 26 + 1) (addr + len)
  | .bar4Write addr data => decide (data ≠ []) && below (2 ^ 26 + 1) (addr + data.length)
  | .xipErase _ => true
  | .xipPoll _ => true
  | .nvmWriteDone _ _ => true
  | .opsecTick => true
  | .opsecCheckpoint => true
  | .evrRecordWrite => true
  | .evrSummary => true
  | .evrCursorHi _ => true
  | .evrData15Read => true
  | .evrClear _ => true
  | .evrClearDone => true
  | .evrWall _ => true
  | .railFail _ => true
  | .pwrBank _ => true
  | .pwrCtrl _ => true
  | .bankPowerUpDone _ _ => true
  | .bankPowerDownDone _ => true
  | .feCommonOff _ => true
  | .clusterPowerUpDone _ => true
  | .mbxDone _ => true
  | .progRegisterWrite _ off _ => off % 4 == 0 && decide (0x40 ≤ off) && decide (off ≤ 0x58)
  | .apgRegisterWrite _ off _ => off % 4 == 0 && ((decide (0x40 ≤ off) && below 0xE0 off) || (decide (0x800 ≤ off) && below 0x1000 off))
  | .lftPinWrite _ _ _ => true
  | .capDescriptorWrite _ off _ => off % 4 == 0 && ((decide (0x200 ≤ off) && below 0x280 off) || (decide (0x120 ≤ off) && below 0x12C off))
  | .tmuConfigWrite _ off _ => off % 4 == 0 && ((decide (0x0C ≤ off) && below 0x20 off) || (decide (0x44 ≤ off) && below 0x80 off))
  | .limitEntryWrite _ _ _ _ => true
  | .hvcVWrite _ code => below (2 ^ 20) code
  | .hvcConnWrite _ _ => true
  | .feedMbWrite _ => true

end Sys2Proof
end

