-- ==== Sys2Proof/Tests/Slice0.lean ====
section
/-! SUPPORT. Tests: ill-formed commands refused, states that meet the hypotheses of the statements, and steps worked out from the spec. -/

namespace Sys2Proof.Tests
set_option Elab.async false
open Sys2Proof Machine Machine.Reg

/-! ### Ill-formed commands, one for each check -/

theorem test_wf_register : (Instr.registerWrite 0x40002 0 0).wf = false := by decide
theorem test_wf_register_range : (Instr.lowWordRead .host 0x4000000).wf = false := by decide
theorem test_wf_lowWordWrite : (Instr.lowWordWrite 0x3205D 0).wf = false := by decide
theorem test_wf_highWordWrite : (Instr.highWordWrite 0x4000060 0).wf = false := by decide
theorem test_wf_rcField : (Instr.rcFieldRead 3 none).wf = false := by decide
theorem test_wf_intStat : (Instr.intStatClear 0x18 0 0).wf = false := by decide
theorem test_wf_intSet : (Instr.intSet 0x18 0).wf = false := by decide
theorem test_wf_intEn : (Instr.intEnWrite 0x1C 0).wf = false := by decide
theorem test_wf_intVec : (Instr.intVecWrite 0x4000000 0).wf = false := by decide
theorem test_wf_fltAck : (Instr.fltAck 0x2C 0).wf = false := by decide
theorem test_wf_fltCursor : (Instr.fltHistCursorWrite 0x30 0).wf = false := by decide
theorem test_wf_fltData : (Instr.fltHistDataRead 0x34).wf = false := by decide
theorem test_wf_blkReset : (Instr.blkReset 0x10).wf = false := by decide
theorem test_wf_ceiling : (Instr.ceilMwWrite 65536).wf = false := by decide
theorem test_wf_mult : (Instr.multWrite 32).wf = false := by decide
theorem test_wf_frameLen : (Instr.frameLenWrite 4096).wf = false := by decide
theorem test_wf_seed : (Instr.seedPsWrite 8192).wf = false := by decide
theorem test_wf_marker : (Instr.fmkMarker 0).wf = false := by decide
theorem test_wf_sync : (Instr.syncEdge 3 0).wf = false := by decide
theorem test_wf_skew : (Instr.skewMeasureDone (some 0x1000000)).wf = false := by decide
theorem test_wf_outcome_order : (Instr.outcomeDelivery 0 [⟨4, []⟩, ⟨4, []⟩]).wf = false := by decide
theorem test_wf_outcome_pin : (Instr.outcomeDelivery 0 [⟨128, []⟩]).wf = false := by decide
theorem test_wf_edgeWindow : (Instr.edgeWindowWrite 0 0x404 0).wf = false := by decide
theorem test_wf_prog : (Instr.progRegisterWrite 0 0x5C 0).wf = false := by decide
theorem test_wf_apg : (Instr.apgRegisterWrite 0 0xE0 0).wf = false := by decide
theorem test_wf_capture : (Instr.capDescriptorWrite 0 0x280 0).wf = false := by decide
theorem test_wf_tmu : (Instr.tmuConfigWrite 0 0x40 0).wf = false := by decide
theorem test_wf_thm : (Instr.thmThresholdWrite 0x54 0).wf = false := by decide
theorem test_wf_storeScan : (Instr.storeScan 0 0 256 none).wf = false := by decide
theorem test_wf_mceHits : (Instr.mceLoadDone 0 [⟨2, true⟩, ⟨1, false⟩]).wf = false := by decide
theorem test_wf_dmaHits : (Instr.ovlDmaDone [⟨2, true⟩, ⟨2, false⟩]).wf = false := by decide
theorem test_wf_scrubHits : (Instr.scrubRead [⟨2, true⟩, ⟨2, false⟩]).wf = false := by decide
theorem test_wf_solveHits : (Instr.solveDone 0 [⟨5, true⟩, ⟨2, false⟩]).wf = false := by decide
theorem test_wf_bar2Read : (Instr.bar2Read 0x100000000 1 []).wf = false := by decide
theorem test_wf_bar2Write : (Instr.bar2Write 0 [] []).wf = false := by decide
theorem test_wf_bar4Read : (Instr.bar4Read 0 0).wf = false := by decide
theorem test_wf_bar4Write : (Instr.bar4Write 0x4000000 [some 1]).wf = false := by decide
theorem test_wf_cacheFill : (Instr.cacheFill 0 0 [] (some [1])).wf = false := by decide
theorem test_wf_hostFetch : (Instr.hostPageFetch 0x100000).wf = false := by decide
theorem test_wf_hostStaged : (Instr.hostPageStaged 0 (some [1])).wf = false := by decide
theorem test_wf_level : (Instr.levelWrite 0 0 0x100000).wf = false := by decide
theorem test_wf_dps : (Instr.dpsV 0 0x100000).wf = false := by decide
theorem test_wf_hvc : (Instr.hvcVWrite 0 0x100000).wf = false := by decide
theorem test_wf_ilim : (Instr.ilim 0 1024).wf = false := by decide
theorem test_wf_dpsRange : (Instr.dpsRange 0 8).wf = false := by decide
theorem test_wf_tmuRuns : (Instr.tmuCalDone 0 [[1]] false).wf = false := by decide
theorem test_wf_thermal : (Instr.thermalSample []).wf = false := by decide
theorem test_wf_session : (Instr.getVersion (some 4)).wf = false := by decide
theorem test_wf_capabilities : (Instr.getCapabilities (some 4)).wf = false := by decide
theorem test_wf_algorithms : (Instr.negotiateAlgorithms (some 4) ⟨true, true, true, true, true, true, true⟩).wf = false := by decide
theorem test_wf_digests : (Instr.getDigests (some 4)).wf = false := by decide
theorem test_wf_certificate : (Instr.getCertificate none 16 0 4).wf = false := by decide
theorem test_wf_challenge : (Instr.challenge none 256 []).wf = false := by decide
theorem test_wf_measurements : (Instr.getMeasurements (some 4) 1 false []).wf = false := by decide
theorem test_wf_keyExchange : (Instr.keyExchange (some 4) none []).wf = false := by decide
theorem test_wf_finish : (Instr.finish (some 4) none []).wf = false := by decide
theorem test_wf_endSession : (Instr.endSession (some 4)).wf = false := by decide
theorem test_wf_unsupported : (Instr.unsupportedRequest 0 (some 4)).wf = false := by decide
theorem test_wf_debugWindow : (Instr.debugWindowRead 0x7FC).wf = false := by decide
theorem test_wf_feedReq : (Instr.feedReq 0 0x40000000 []).wf = false := by decide
theorem test_wf_feedData : (Instr.feedData 0 0 (.data [1])).wf = false := by decide
theorem test_wf_spmAbort : (Instr.spmAbort (some 4097)).wf = false := by decide
theorem test_wf_spmDone : (Instr.spmTransferDone 0 (List.replicate 4097 true)).wf = false := by decide +kernel
theorem test_wf_good : (Instr.registerWrite 0x31040 0 0).wf = true := by decide

/-! ### States of the tests -/

def onBank : BankSt := { BankSt.down with phase := .on, charge := 500 }
def allBanks : SMap BankSt := (List.range 24).map (fun b => (b, onBank))
def small : State :=
  { State.reset with dev := .ready, domains := (BitVec.allOnes 40), banks := allBanks, hif := { State.reset.hif with linkUp := true } }
def stReady (w : State) : State := w
def stFull (w : State) : State := w
def epcV (s : State) : State := { s with epc := { s.epc with f := 10, p := 2, valid := true, source := .refclk } }
def stClk (w : State) : State := (epcV w).put .epcSrc 0 EPC_SRCSTAT_REF_PRESENT 1
def runP (s : State) (n st : Nat) : State := (((s.put .psq n PSQ_STAT_RUNSTATE st).put .psq n PSQ_STAT_BOUND 1).put .psq n PSQ_STAT_LOADED 1)
def stRun (w : State) : State := { runP (stClk w) 3 4 with dev := .run }
def stHoldo (w : State) : State := { w with epc := { w.epc with source := .holdover, valid := true } }
def stRelock (w : State) : State := { w with epc := { w.epc with relocking := true } }
def stClkArm (w : State) : State := { stClk w with epc := { (stClk w).epc with armed := some .start, valid := false } }
def stClkRealign (w : State) : State := { stClk w with epc := { (stClk w).epc with p := 700, realign := some ⟨3, -700⟩ } }
def stClkWrap (w : State) : State := { stClk w with epc := { (stClk w).epc with f := BitVec.allOnes 48 } }
def stClkSkew (w : State) : State := let s := stClk w; { (s.holdTmu 15 3) with epc := { s.epc with skewTmu := some 15 } }
def stSync (w : State) : State := (((stClk w).putAt .epcCtl 0 SYNC_CFG_ROLE 0 1).putAt .epcCtl 0 SYNC_CFG_PSQ_MASK 0 0xFF).putAt .epcCtl 0 SYNC_CFG_ROLE 7 2 |>.put .epcCtl 0 SYNC_STAT_DRIVING 0x81
def ent (a : Nat) (tgt : Nat) (arg : Word) : PstEntry := ⟨3, 2, 10, 4, a, 0, tgt, arg, .operator⟩
def pstWith (s : State) (es : List PstEntry) : State := { s with epc := { s.epc with p := 4 }, pst := { s.pst with entries := es } }
def ent2 : PstEntry := ⟨9, 15, 20, 100, 1, 0, 0x80, 0, .operator⟩
def stDueMark (w : State) : State := pstWith (stClk w) [ent 0 1 0xABCD, ent2]
def stDueStop (w : State) : State := pstWith (stRun w |> fun s => runP s 7 4) [ent 2 0x81 0, ent2]
def stDueOpen (w : State) : State := pstWith (stClk w) [ent 3 0 0x800005]
def stDueClose (w : State) : State := (pstWith (stHoldo w |> epcV |> fun s => { s with epc := { s.epc with source := .holdover } }) [ent 4 0 0x800005]).put .pst 0 PST_QUIET_OPEN 0xFFFFFF
def stDuePulse (w : State) : State := (pstWith (stClk w) [ent 5 3 0]).putAt .epcCtl 0 SYNC_CFG_ROLE 3 2
def stHoldDrop (w : State) : State := { pstWith (stClk w) [ent 0 1 0xABCD, { ent 1 1 0 with slot := 77 }, ent2] with dev := .hold }
def enAll (s : State) (us : List Nat) : State := us.foldl (fun s u => ((s.put (supKind u) (supInst u) DPS_CTRL_EN 1).put (supKind u) (supInst u) DPS_CTRL_CONN 1).put (supKind u) (supInst u) DPS_STAT_READY 1) s
def stGov (w : State) : State := ((enAll w [0, 1, 71]).put .dps 0 DPS_CLAMP_ILIM 5).put .dps 71 DPS_CLAMP_ILIM 300
def stLocked (w : State) : State := w.put .pgv 0 PGV_CEIL_LOCK 1
def stSupOn (w : State) : State := [0, 1, 71, 72, 95].foldl (fun s u => (s.put (supKind u) (supInst u) DPS_STAT_CONNECTED 1).put (supKind u) (supInst u) DPS_STAT_CLAMPED 1) (enAll w [0, 1, 71, 72, 95])
def stSense (w : State) : State := ([0, 1, 71].foldl (fun s u => s.put .dps u DPS_CTRL_SENSE 1) w)
def stHeldS (w : State) : State := (List.range 96).foldl (fun s u => s.put (supKind u) (supInst u) DPS_STAT_FAULT_HELD 1) w
def qput (s : State) (u : Nat) (l : List (Nat × Nat)) : State := (s.setSup u { s.sup u with queue := l, issued := some 777 }).queueStat u
def stQueued (w : State) : State := [0, 1, 72, 95].foldl (fun s u => let s := qput s u [(5, 1), (6, 2)]; s.setSup u { s.sup u with starting := u % 2 == 0 }) w
def stDueSup (w : State) : State := pstWith (stQueued (epcV w)) [{ ent 6 0 3 with sub := 0xB }]
def stSeal37 (w : State) : State := [0, 37, 767].foldl (fun s k => s.put .pec k PEC_STAT_SEALED 1) w
def driveP (s : State) (k : Nat) : State := s.setPin k { PinSt.idle with drvOn := true, drvHigh := true, exiting := true, ppmuOn := true, edges := [⟨5, 1, .off⟩], compares := [⟨1, 5, 6, false, some .hi, .placed⟩] }
def bindP (s : State) (k site pin : Nat) : State :=
  let s := (((s.put .pec k PEC_SITE_BOUND 1).put .pec k PEC_SITE site).put .pec k PEC_SITE_SITE_PIN pin)
  let s := (if pin % 2 = 0 then (s.putAt .site site SITE_PINMAP_VALID0 (pin / 2) 1).putAt .site site SITE_PINMAP_PEC0 (pin / 2) k else (s.putAt .site site SITE_PINMAP_VALID1 (pin / 2) 1).putAt .site site SITE_PINMAP_PEC1 (pin / 2) k)
  s.put .bnk (k / 32) BNK_BOUND (s.fld .bnk (k / 32) BNK_BOUND ||| 2 ^ (k % 32))
def bindSite (s : State) (site n : Nat) (ks : List Nat) : State :=
  let s := ((s.put .site site SITE_BIND_BOUND 1).put .site site SITE_BIND_PSQ n).put .site site SITE_BIND_PINS_M1 (ks.length - 1)
  let s := s.put .psq n PSQ_STAT_BOUND 1
  (ks.foldl (fun (p : State × Nat) k => (bindP p.1 k site p.2, p.2 + 1)) (s, 0)).1
def stBound (w : State) : State := bindSite (bindSite (stClk w) 0 3 [0, 1, 2, 37]) 1 3 [767, 766]
def stBoundP (w : State) : State := driveP (driveP (stBound w) 0) 37
def stBoundC (w : State) : State := [0, 37, 767].foldl (fun s k => s.put .pec k PEC_PPMU_CONN 1) (stBoundP w)
def stDriving (w : State) : State := [0, 31, 37, 736, 767].foldl driveP (stBound w)
def stBankRun (w : State) : State := { runP (stDriving w) 3 4 with dev := .run }
def stTrans (w : State) : State := [0, 23].foldl (fun s b => ((s.put .bnk b BNK_MODE_TRANSITION 1).put .bnk b BNK_STAT_TRANSITION 1).put .bnk b BNK_MODE_REQ 1) (stBound w)
def stOffB (w : State) : State := [0, 23].foldl (fun s b => s.setBank b BankSt.down) w
def stAskAll (w : State) : State := ((w.put .hifRst 0 PWR_BANK_ON 0xFFFFFF).put .hifRst 0 PWR_CTRL_CLUSTER_A 1).put .hifRst 0 PWR_CTRL_CLUSTER_B 0
def stOffC (w : State) : State := { (w.put .hifRst 0 PWR_CTRL_CLUSTER_A 0).put .hifRst 0 PWR_CTRL_CLUSTER_B 0 with domains := w.domains &&& ~~~ (BitVec.ofNat 40 0x30) }
def stOffC_ (w : State) : State := { w with domains := w.domains &&& ~~~ (BitVec.ofNat 40 0x30) }
def stRising (w : State) : State := [0].foldl (fun s b => s.setBank b { BankSt.down with phase := .rising, charge := 448, held := true }) { w with domains := 0x30 }
def stFalling (w : State) : State := (List.range 6).foldl (fun s b => s.setBank b BankSt.down) w |> fun s => [0, 23].foldl (fun s b => s.setBank b { s.bank b with phase := .falling, charge := 448 }) s
def stFeOff (w : State) : State := (List.range 24).foldl (fun s b => s.setBank b BankSt.down) (([0, 1, 3].foldl (fun s n => s.setFe n ⟨false, true⟩)) w)
def stClRise (w : State) : State := { stOffC_ ((w.put .hifRst 0 PWR_CTRL_CLUSTER_A 1).put .hifRst 0 PWR_CTRL_CLUSTER_B 1) with clusterRise := [1, 0] }
def stWraps (w : State) : State := { [0, 3, 7].foldl (fun s n => s.setPsq n { s.psq n with wraps := [(0, 3), (7, 4), (3, 1)], completed := 9 }) (w.put .pcn 3 PCN_SKID_VALID 1) with chipWraps := [0, 3, 7] }
def tpl : Template := ⟨3, 1, true, [([0, 1, 40], [0], some 0), ([3, 4, 41], [1], some 1), ([5, 6, 7], [2], none)]⟩
def withTpl (s : State) (c : SfbCmd) : State := { s with sfb := ⟨some c, [(0, some tpl), (2, some tpl)]⟩ }
def stBindA (w : State) : State := withTpl (stClk w) (.bind 0 3 2 0)
def stRelA (w : State) : State := { stDriving w with sfb := ⟨some (.releaseSites 1), []⟩ }
def obj0 : VsObj := ⟨.plain, [7, 3]⟩
def withObj (s : State) : State := (((({ s with vs := { s.vs with objs := [(0, some obj0)], gens := [(0, 1)] } }).vsPoke (7 * 65536 + 64) [9, 8, 7]).vsPoke (7 * 65536 + 4150) [6, 5]).vsPoke (3 * 65536) [4, 3])
def stOvlGo (w : State) : State := { ((withObj (stClk w)).ovlWrite 8190 [1, 2, 3]) with ovlDma := some ⟨0x10000, 64, 2, 0⟩ }
def bmapS (w : State) : State :=
  let s := withObj (stBound w)
  let s := (s.setSite 0 { s.site 0 with bmapHandle := 0x10000, bmapOff := 0, bmapOk := true }).put .fre 3 FRE_STATE_PHASE 2
  ((((s.put .fre 3 FRE_CFG_XBITS 6).put .fre 3 FRE_CFG_YBITS 6).put .fre 3 FRE_CFG_REPAIR_EN 1).put .fre 3 FRE_SOL_HANDLE 0x10000).put .fre 3 FRE_SOL_OFF 4
def stMarks1 (w : State) : State := let s := bmapS w; s.setPsq 3 { s.psq 3 with marks := [((0, 1), 0x8001)] }
def stSolves (w : State) : State := let s := bmapS w; s.setPsq 3 { s.psq 3 with solves := [0, 1] }
def stClearing (w : State) : State := let s := bmapS w; s.setPsq 3 { s.psq 3 with clearing := true }
def stSolving (w : State) : State := let s := bmapS w; s.setPsq 3 { s.psq 3 with solving := [0] }
def stLimiting (w : State) : State := let s := stBound w; s.setPsq 3 { s.psq 3 with limiting := some 3 }
def stAwaiting (w : State) : State :=
  let s := (stBound w).put .fre 3 FRE_STATE_PHASE 5
  let s := (s.setSite 0 { s.site 0 with pending := true, fails := 3 }).setSite 1 { s.site 1 with pending := true }
  s.setPsq 3 { s.psq 3 with awaiting := [0, 1] }
def stRing (w : State) : State := { (((w.put .freG 0 FRE_RING_CFG_EN 1).put .freG 0 FRE_RING_CFG_SIZE_LOG2 4).put .freG 0 FRE_HEAD 0xFFFFFFFF).put .freG 0 FRE_TAIL 0xFFFFFFFE with hif := { w.hif with busMaster := true }, fre := { w.fre with store := [[1, 2], [3]] } }
def progS (w : State) (word : Nat) : State :=
  let s := { stBound w with dev := .run }
  let s := ((s.put .mce 3 MCE_STAT_VENDOR_VALID 1).put .psq 3 PSQ_STAT_RUNSTATE 2).put .psq 3 PSQ_STAT_LOADED 1
  let s := ((s.putAt .psq 3 PSQ_PERIOD_V 0 1).putAt .psq 3 PSQ_PERIOD_PERIOD_M1 0 99).put .psq 3 PSQ_STAT_LW 0
  let s := ((s.put .psq 3 PSQ_VP_SEG_VALID 1).put .psq 3 PSQ_VP_OFF 1).put .psq 3 PSQ_PC 2
  s.setPsq 3 { s.psq 3 with
    prog := some ⟨0, 8, 0x1000, [some ⟨64, 6, 0, true⟩, none, some ⟨64, 5, 0, false⟩], [(0, 1)]⟩
    t := 300, now := 200, slots := 20
    cache := [(0, ⟨.good, natBytes 16 0 ++ natBytes 8 word ++ natBytes 40 0⟩), (1, ⟨.good, natBytes 64 0x1B1B⟩)] }
def stOpNop (w : State) : State := progS w 0
def stOpVset (w : State) : State := progS w 0x0200000200000001
def stOpLoop (w : State) : State := progS w 0x0401000000000005
def endS (w : State) (left : Nat) : State := let s := ((((progS w 0x0500000000000000).put .psq 3 PSQ_DEPTH_LOOP 2).putAt .psq 3 PSQ_LOOP_REMAIN_M1 1 left).putAt .psq 3 PSQ_LOOP_START_PC 1 1).putAt .psq 3 PSQ_LOOP_VPSAVE 1 1; s.setPsq 3 { s.psq 3 with loopVp := [(true, false), (false, false)] }
def stOpEnd0 (w : State) : State := endS w 0
def stOpJump (w : State) : State := progS w 0x0800000000000003
def stOpJumpW (w : State) : State := let s := progS w 0x0830000000000003; s.setPsq 3 { s.psq 3 with recent := [(200, 100)] }
def stOpCall (w : State) : State := (progS w 0x0900000000000003).put .psq 3 PSQ_DEPTH_LOOP 3
def stOpRet (w : State) : State := ((progS w 0x0A00000000000000).put .psq 3 PSQ_DEPTH_CALL 1).putAt .psq 3 PSQ_CALL_RET_PC 0 5
def stOpRun (w : State) : State := progS w 0x0100000000000002
def stOpApg (w : State) : State := progS w 0x2001050300000002
def stOpMatch (w : State) : State := progS w 0x1013000000000002
def stOpPause (w : State) : State := progS w 0x1100000000000007
def stOpEpochLate (w : State) : State := progS w 0x1200000000000005
def stOpHalt (w : State) : State := progS w 0x3F00000000000000
def stEpochHold (w : State) : State := let s := progS w 0x1200000000000500; s.setPsq 3 { s.psq 3 with hold := .epoch 500 }
def stResHold (w : State) : State := let s := stOpJumpW w; s.setPsq 3 { s.psq 3 with hold := .resolve }
def stPauseHold (w : State) : State := let s := stOpPause w; s.setPsq 3 { s.psq 3 with hold := .pause }
def siteRegs (s : State) : State := (((s.setSiteReg 0 1 0x80000005).setSiteReg 1 1 7).setSiteReg 0 0 9).put .site 1 SITE_STATE_SF 1
def stOpAlu (w : State) : State := siteRegs (progS w 0x1801113100000005)
def stOpOut (w : State) : State := (siteRegs (progS w 0x1801200000000000)).put .site 0 SITE_STATE_LF 1
def stOpMask (w : State) : State := siteRegs (progS w 0x1802300000000000)
def mreq (g : Nat) : MsrReq := ⟨1, 1, [BitVec.ofNat 32 (3 * 2 ^ 22 + 1 * 2 ^ 26), BitVec.ofNat 32 (g * 2 ^ 16), 0, 0, 0, 77], none, 0, [], 0, false⟩
def withReq (s : State) : State := s.putReqs 0 [mreq 5, { mreq 6 with slot := 2 }]
def stOpMw (w : State) : State := progS w 0x1800400500000009
def stOpMwReq (w : State) : State := withReq (stOpMw w)
def stMwHold (w : State) : State := let s := stOpMwReq w; s.setPsq 3 { s.psq 3 with hold := .mwait 5 900 }
def desc0 (s : State) (w4 w5 : Word) : State := ((s.putAt .ovl 0 OVL_DESC_WORD 0 3).putAt .ovl 0 OVL_DESC_WORD 4 w4.toNat).putAt .ovl 0 OVL_DESC_WORD 5 w5.toNat
def stOpSub (w : State) : State := desc0 (progS w 0x1800000000000001) 0x80000000 0x00300010
def emS (w : State) (d : Nat) : State := let s := progS w 0x0100000000000002; s.setPsq 3 { s.psq 3 with emit := some ⟨d, 3, .seg true none⟩ }
def stVec0 (w : State) : State := let s := emS w 0; (s.setPsq 3 { s.psq 3 with cache := [(0, ⟨.good, natBytes 64 0⟩), (1, ⟨.good, natBytes 9 0x1B1B ++ natBytes 9 0x1B1B ++ natBytes 46 0⟩)] }).put .psq 3 PSQ_VCOUNT_LO 0xFFFFFFFF
def stVecMiss (w : State) : State := let s := emS w 0; s.setPsq 3 { s.psq 3 with cache := [] }
def stVecUnw (w : State) : State := let s := emS w 0; s.setPsq 3 { s.psq 3 with cache := [(1, ⟨.unwritten, []⟩)] }
def vi : VecInfo := ⟨7, 100, 0, 0, 5, 2, none, none, 600, 0⟩
def stOutc (w : State) : State :=
  let s := progS w 0
  let s := s.setPsq 3 { s.psq 3 with vecs := [vi] }
  let s := s.setPin 0 { s.pin 0 with compares := [⟨7, 1000, 1000, false, some .hi, .placed⟩] }
  s.setPin 1 { s.pin 1 with compares := [⟨7, 1000, 2000, true, some .lo, .placed⟩] }
def stStalled (w : State) : State := let s := emS w 0; s.setPsq 3 { s.psq 3 with hold := .stall }
def matS (w : State) (d : Nat) : State :=
  let s := progS w 0x1013000000000004
  let s := s.setPsq 3 { s.psq 3 with emit := some ⟨1, d, .iter 3 true⟩, mtch := some ⟨3, true, vi, 1, false, false, 0⟩ }
  (s.setSite 0 { s.site 0 with inMatch := true, matchIter := some 1 }).setSite 1 { s.site 1 with inMatch := true, matchIter := some 1 }
def stMatchDone (w : State) : State := matS w 5
def nanoW (func vsrc : Nat) : Nat := func * 2 ^ 172 + vsrc * 2 ^ 169 + 12300 * 2 ^ 178 + 3 * 2 ^ 87
def micS (w : State) (func vsrc mw : Nat) : State :=
  let s := progS w 0xC000000000000009
  let nw : List Word := (List.range 6).map fun i => BitVec.ofNat 32 (nanoW func vsrc / 2 ^ (32 * i))
  let ws : List Word := List.replicate 16 0 ++ BitVec.ofNat 32 (2 ^ 31 + 3 * 2 ^ 24 + 12288)
    :: (List.replicate 63 0 ++ BitVec.ofNat 32 (mw * 2 ^ 17 + 1536) :: (List.replicate 4095 0 ++ nw))
  let s := (s.setMce 3 { s.mceOf 3 with user := .words ws }).put .mce 3 MCE_STAT_USER_VALID 1
  let s := (s.put .mce 3 MCE_UCNT 7).put .apg 3 APG_X_LIMIT 4
  s.setPsq 3 { s.psq 3 with micro := some ⟨12288, 0, .first, none⟩ }
def stMicU (w : State) : State := micS w 0x10 0 0
def stMicX (w : State) : State := micS w 0x11 0 0
def stMicY (w : State) : State := micS w 0x12 0 0
def stMicD (w : State) : State := micS w 0x16 0 0
def stMicP (w : State) : State := micS w 0x18 0 0
def stMicEnd (w : State) : State := micS w 0 0 4
def stMicBad (w : State) : State := micS w 0x3F 0 4
def stMceJob (w : State) : State := let s := stBound w; s.setMce 3 { s.mceOf 3 with job := some ⟨0, 0x20000, 0⟩ }
def mapP (s : State) (v g : Nat) : State := s.setPte v { Pte.blank with v := true, present := true, granule := g }
def stPre (w : State) : State :=
  let s := mapP (withObj (stBound w)) 0 7
  let s := ((s.putAt .lft 3 LFT_PIN_EN 0 1).putAt .lft 3 LFT_PIN_VPN 0 0)
  s.setPsq 3 { s.psq 3 with load := some (⟨0, 8, 0x1000, [], [(0, 1)]⟩, some (5, 0)) }
def stDue (w : State) : State :=
  let s := progS w 0
  let s := (s.put .psq 3 PSQ_STAT_RUNSTATE 1).put .psq 3 PSQ_VCOUNT_LO 77
  let s := withObj (([0, 1].foldl (fun s i => s.setSite i { s.site i with bmapHandle := 0x10000 }) s))
  { s.setPsq 3 { s.psq 3 with check := .due } with dev := .armed }
def stDueSt0 (w : State) : State := pstWith (stClk w) [ent 1 0 0, ent2]
def stDueSt (w : State) : State := let s := pstWith (stDue w) [ent 1 8 0, ent2]; s.setPsq 3 { s.psq 3 with check := .passed, fromPiste := true, t0F := 10, t0P := 4 }
def stTau0 (w : State) : State := let s := stDue w; s.setPsq 3 { s.psq 3 with check := .passed, t0F := 10, t0P := 2 }
def endS2 (w : State) (e : Option (Nat × Nat × Nat)) (st : List StopReq) : State :=
  let s := progS w 0
  let s := s.setPsq 3 { s.psq 3 with ending := e, stops := st }
  let s := s.setPin 0 { s.pin 0 with edges := [⟨5, 1, .off⟩, ⟨5000000, 2, .on none⟩] }
  s.setSite 1 { s.site 1 with changes := [(.mask true, 100)] }
def stEndHalt (w : State) : State := endS2 w (some (1, 0, 0)) []
def allocS (w : State) (j : VsJob) : State := let s := (withObj (stClk w)).put .vmc 0 VMC_FREEGR_FREE 260000; { s with vs := { s.vs with job := some j } }
def stAlloc1 (w : State) : State := allocS w (.alloc 1)
def stFree1 (w : State) : State := allocS w (.free 0x10000)
def winS (w : State) : State := ((withObj (stBound w)).putAt .vmc 0 VMC_WIN_KIND 0 1).putAt .vmc 0 VMC_WIN_HANDLE 0 0x10000
def stWin (w : State) : State := winS w
def stWinRun (w : State) : State := mapP (winS (progS w 0)) 0 7 |> fun s => withObj s |> fun s => mapP s 0 7 |> fun s => (s.putAt .vmc 0 VMC_WIN_KIND 0 1)
def stWinSeal (w : State) : State := let s := winS w; { s with vs := { s.vs with objs := [(0, some ⟨.sealedObj, [7, 3]⟩)] } }
def mapS (w : State) (c : MapCmd) : State := let s := mapP (withObj (stClk w)) 12 3; let s := s.setPte 6 { Pte.blank with v := true, host := true, present := true, haddr := 9 }; { s with vs := { s.vs with mapCmd := some c } }
def stMapA (w : State) : State := mapS w (.mapVs 5 2 0x10000 0)
def stFill (w : State) : State := let s := mapP (withObj (progS w 0)) 0 7; s.setPsq 3 { s.psq 3 with asked := [1, 2] }
def stHostNeed (w : State) : State := let s := (mapS w (.unmap 9 1)).put .lftG 0 LFT_STAGE_HANDLE 0x10000; let s := s.setPte 6 { Pte.blank with v := true, host := true, haddr := 9 }; s.setPsq 3 { s.psq 3 with asked := [6 * 1024 + 5] }
def hostW (w : State) (k : Nat) : State := let s := (stHostNeed w).put .lftG 0 LFT_HOSTCFG_RETRY 3; { s with vs := { s.vs with fetches := [⟨6, 7, k⟩] } }
def stHostWay (w : State) : State := hostW w 0
def rqW (src kind idx range exp group rel dest : Nat) : List Word := [BitVec.ofNat 32 (src*2^28+kind*2^26+3*2^22+idx*2^15), BitVec.ofNat 32 (range*2^29+exp*2^24+group*2^16+10), BitVec.ofNat 32 (rel*2^30+dest*2^28+7*2^24+2^17), 0, 0, 0xABCD, 0, 0]
def stg (s : State) (ws : List Word) : State := (List.range 8).foldl (fun s j => s.putAt .acq 2 MSR_W j (ws.getD j 0).toNat) s
def acqOn (w : State) : State := (((stBound w).put .acq 2 ACQ_CTRL_EN 1).put .pmu 2 PMU_CTRL_EN 1).put .pec 69 PEC_SITE_BOUND 1
def stMsr (w : State) : State := stg (acqOn w) (rqW 1 0 5 0 3 9 0 0)
def mkR (slot : Nat) (ws : List Word) : MsrReq := ⟨slot, 4, ws, none, 0, [], 0, false⟩
def rqA : MsrReq := { mkR 7 (rqW 1 0 5 0 3 9 1 0) with released := some 0, items := [⟨none, 5⟩], total := 1 }
def stMsrQ (w : State) : State := ((stMsr w).putReqs 2 [mkR 7 (rqW 1 0 5 0 3 9 1 0), mkR 8 (rqW 2 1 0 0 3 9 1 1), mkR 9 (rqW 0 0 5 7 10 3 2 0)]).put .acq 2 MSR_CANCEL_H_HANDLE (256 * 4 + 7)
def stDueMsr (w : State) : State := pstWith (stMsrQ w |> fun s => { s with epc := (stClk w).epc }) [ent 9 0 9, ent2]
def msrRunW (w : State) (r : MsrReq) (it : MsrItem) (d : Nat) : State :=
  let s := (stMsr w).putReqs 2 [{ r with items := r.items.drop d }, mkR 99 (rqW 1 0 5 0 3 3 1 0)]
  let s := s.connect 2 r.source it.unit r.range
  ((s.setMeas 2 { s.measOf 2 with run := some ({ r with items := r.items.drop d }, it, 3) }).put .acq 2 MSR_CUR_BUSY 1).put .acq 2 ACQ_STAT_USE 1
def stMsrRun (w : State) : State := let s := msrRunW w rqA ⟨none, 5⟩ 1; s.setMeas 2 { s.measOf 2 with run := some (rqA, ⟨none, 5⟩, 3) }
def stPmuConn (w : State) : State := (stMsr w).pmuOn 2 5 1 3
def capW (b d : Nat) (s : State) (ws : List Word) : State := (List.range 8).foldl (fun s j => s.putAt .acq b ACQ_DESC_WORD (8 * d + j) (ws.getD j 0).toNat) s
def cw (trig pre post nseg cls : Nat) : List Word := [BitVec.ofNat 32 (1 * 2^28 + 5 * 2^16 + 3 * 2^8), BitVec.ofNat 32 (pre + (nseg - 1) * 2^16), BitVec.ofNat 32 (trig * 2^28 + post), 1000, 10, 0, BitVec.ofNat 32 (cls * 2^31), 0]
def stCap0 (w : State) : State := capW 2 3 (capW 2 2 (capW 2 1 (capW 2 0 (acqOn w) (cw 1 4 8 2 0)) (cw 3 0 100 1 1)) (cw 9 1 1 1 0)) (cw 1 60000 60000 1 0)
def stCapArmed (w : State) : State := ((stCap0 w).arm 2 0 false).1
def capSet (s : State) (f : Capture → Capture) : State := s.setMeas 2 { s.measOf 2 with cap := (s.measOf 2).cap.map f, segs := [[1, 2, 3, 4, 5, 6, 7, 8]] }
def cR : Nat → Capture
  | 0 => ⟨0, cw 3 4 8 2 0, .armed, 1, 3, some ⟨500, 5, 9, 1⟩, true, 0, [], 0, 0⟩
  | 1 => ⟨0, cw 1 4 8 2 0, .armed, 0, 0, none, false, 0, [], 0, 0⟩
  | 2 => ⟨0, cw 1 4 8 2 0, .post, 0, 0, none, false, 1, [1, 2, 3, 4, 5, 6, 7, 8], 7, 0⟩
  | 3 => ⟨1, cw 1 4 8 3 0, .rearm false 1, 0, 0, none, false, 1, [1, 2, 3, 4, 5, 6, 7, 8], 7, 2⟩
  | 4 => ⟨1, (cw 1 4 8 3 0).set 5 100, .rearm false 1, 0, 0, none, false, 1, [1, 2, 3, 4, 5, 6, 7, 8], 7, 0⟩
  | _ => ⟨2, cw 1 4 8 3 1, .rearm false 1, 0, 0, none, false, 1, [1, 2, 3, 4, 5, 6, 7, 8], 7, 0⟩
def capRS (w : State) (k : Nat) : State := { capSet (stCapArmed w) fun _ => cR k with clock := 50 }
def stCapR0 (w : State) : State := capRS w 0
def stCapR3 (w : State) : State := capRS w 3
def stDueArm (w : State) : State := pstWith (stCap0 w |> fun s => { s with epc := (stClk w).epc }) [ent 7 2 0, ent2]
def tmuIn (s : State) (src : Nat) (stops : List Nat) : State :=
  let s := (s.put .tmu 5 TMU_START_SRC src).put .tmu 5 TMU_CFG_NSTOP stops.length
  (List.range stops.length).foldl (fun s i => s.putAt .tmu 5 TMU_STOP_SRC i (stops.getD i 0)) s
def stTmu (w : State) : State := ((tmuIn (stClk w) 0x69 [0x69, 0x6A]).put .tmu 5 TMU_STAT_BINTAB_VALID 1)
def stTmuArm (w : State) : State := ((stTmu w).armTmu 5 0 0).1
def stTmuRun (w : State) : State := (stTmuArm w).put .tmu 5 TMU_STAT_STATE 2
def stDueTmu (w : State) : State := pstWith (stTmu w) [ent 8 5 0, ent2]
def rd32 (t : Int) : List Reading := List.replicate 32 ⟨t, true⟩
def calB (w : State) : State := let s := (stTmu w).put .acq 3 ACQ_CTRL_EN 1; (List.range 16).foldl (fun s u => s.put .tmu u TMU_STAT_BINTAB_VALID 1) s
def stCalS (w : State) : State := ((calB w).put .cal 0 CAL_BANKS 0x1000008).put .cal 0 CAL_DUE 0x10
def stepAt (s : State) (r item i : Nat) (u : Option Nat) : State :=
  let s := match u with | some u => s.holdTmu u 2 | none => s
  (s.setCal r { s.calRec r with step := some ⟨item, i, s.calModeOf r, u⟩ }).calBit CAL_RUNNING r true |>.calBit CAL_DUE r true
def stCalSt9 (w : State) : State := stepAt (stCalS w) 24 9 2 (some 15)
def calWS (w : State) (ws : List CalWrite) (g : Nat) : State := let s := stCalS w; s.setCal 3 { s.calRec 3 with writes := ws, copies := [⟨g, true, CalData.factory⟩, ⟨g, true, CalData.factory⟩, ⟨1, false, CalData.factory⟩] }
def stCalW0 (w : State) : State := calWS w [⟨0, 2, CalData.factory, true⟩, ⟨1, 2, CalData.factory, true⟩, ⟨2, 2, CalData.factory, true⟩] 1
def secS (s : State) (f : SecSt → SecSt) : State := { s with sec := f s.sec }
def bunS (w : State) : State := (((stWin w).put .secCtl 0 SEC_STAT_ID_VALID 1).put .secLoad 0 SEC_LOAD_HANDLE 0x10000).put .secLoad 0 SEC_LOAD_LEN 1024
def bbun : Bundle := ⟨5, 3, true, false, 9, 0, 77, 0x10000, [], [], [(0, [7, 7])]⟩
def bjob : SecJob := ⟨3, bbun, true⟩
def stBunJob (w : State) : State := let s := secS (bunS w) fun x => { x with job := some bjob }; (s.setPsq 3 { s.psq 3 with bundle := some bbun, prog := none }).putAt .secCnt 0 SEC_ARB 9 5
def plkL (w : State) (l : Nat) : State := ((w.put .plk 0 PLK_CFG_ROLE 1).put .plk 0 PLK_CFG_EN 1).put .plk 0 PLK_STAT_LSTATE l
def stPlkP (w : State) : State := let s := plkL (stClk w) 4; { s with plk := { s.plk with unacked := [1, 2, 3, 4, 5], rxSeq := some 7 } }
def stPlkHold (w : State) : State := { w with dev := .hold }
def stPlkMir (w : State) : State := let s := stPlkP w; { s with plk := { s.plk with items := [(259, some ⟨3, some 3, [5, 6]⟩), (517, some ⟨2, some 3, [7, 8, 9, 10]⟩)], psqs := [(3, ⟨true, some 7, 0⟩)] } }
def stSpmFr (w : State) : State := ((w.put .spm 0 SPM_CFG_FRAMED 1).put .spm 0 SPM_CFG_WSIZE 1).put .spm 0 SPM_LEN 32
def stSpmFrBad (w : State) : State := ((stSpmFr w).put .spm 0 SPM_LEN 33).put .spm 0 SPM_CFG_CS 0
def spmJ (w : State) (j : SpmJob) : State := ((w.setSpm { w.spm with job := some j }).put .spm 0 SPM_STAT_BUSY 1).put .spm 0 SPM_TX 0xA5C3
def stSpmRun (w : State) : State := spmJ w ⟨32, false, 8, false, 10, 0⟩
def stSpmErase (w : State) : State := ((w.setSpm { w.spm with flash := [(0x2FFFFF, 3), (0x300003, 9), (0x300040, 7)], reads := [(0x300000, 8)] }).putOps [.erase 0x300000 64, .program 4 0x300100 [1]]).put .spm 0 SPM_XIP_CFG_WREN 1
def stSpmProg (w : State) : State := (w.setSpm { w.spm with flash := [(0x30000F, 3), (0x300010, 0x3C), (0x300040, 7)], reads := [(0x300010, 8)] }).putOps [.program 4 0x300010 [0xF0, 0x55], .program 4 0x300100 [1], .erase 0x400000 4096]
def stSpmWren (w : State) : State := w.put .spm 0 SPM_XIP_CFG_WREN 1
def stNvmPuv (w : State) : State := { w with nvmJobs := [.puv 1 77 true, .opsec 3, .puv 2 5 false] }
def stNvmOps (w : State) : State := { w with nvmJobs := [.opsec 99, .opsec 100] }
def stNvmSvn (w : State) : State := { w with nvmJobs := [.opsec 99, .fwSvn 9] }
def eIn (l n : Nat) : EvrIn := ⟨0x31000, 7, 0, n, l, l, false, false, 5, 6, 7, []⟩
def stEvrW (w : State) : State := ((w.put .evr 0 EVR_OPSEC 0xFFFFFFFF).put .evr 0 EVR_WALL_LO 0xFFFFFFFF).put .evr 0 EVR_WALL_HI 3
def stEvrWlo (w : State) : State := { stEvrW w with hif := { w.hif with lowBuf := [(0x3205C, 9), (0x32078, 1)] } }
def evrWith (w : State) (q : List EvrIn) : State := w.setEvr { w.evr with queue := q }
def recOf (k l : Nat) : Nat × Option EvrRec := (k, some ⟨k + 2, l, (List.range 16).map fun j => BitVec.ofNat 32 (100 * k + j)⟩)
def recs6 (w : State) : State := w.setEvr { w.evr with slots := [recOf 0 1, recOf 1 5, recOf 3 2, recOf 7 3], topSeq := some 9 }
def stEvrQ1 (w : State) : State := evrWith w [eIn 1 1]
def stEvrClr (w : State) : State := let s := evrWith (recs6 w) [eIn 1 1]; (s.setEvr { s.evr with clearing := some (2, .owner) }).put .evr 0 EVR_STAT_CLEARING 1
def stEvrSum (w : State) : State := let s := recs6 w; s.setEvr { s.evr with since := 7, drops := [((29, 1), 3), ((5, 2), 3), ((7, 9), 1)] }
def stBoot (_ : State) : State := { State.reset with dev := .boot, domains := 0x4F }
def stRegMix (w : State) : State := let s := (stEvrWlo w).setSup 75 { w.sup 75 with ilimMax := some 3 }; [0x31070, 0x33040, 0x62064, 0x30044, 0x31040, 0x33044, 0x11040, 0x11044].foldl (fun s o => s.wr o 0x9ABCDEF1) s
def stDueReg0 (w : State) : State := pstWith (stClk w) [ent 10 0x2 0x12345, ent2]

/-! ### Single steps and examples worked out in the spec -/

/-- The next state of a command. -/
def after (o : Host.Outcome State Fault Refusal) (s : State) : State :=
  match o with
  | .next t => t
  | _ => s

-- R89: p reaches N − 1, and the next cycle gives p = 0 and F + 1; F wraps.
theorem test_frame_wraps : ((after (exec .frameBoundary (stClkWrap small)) small).epc.f, (after (exec .frameBoundary (stClkWrap small)) small).epc.p) = (0, 0) := by
  decide +kernel

-- R98: SEED_PS above 7,000 is stored as 7,000, with CLIPPED.
theorem test_seed_clips : (after (exec (.seedPsWrite 7001) small) small).fld .epcCtl 0 EPC_SKEW_SEED_SEED_PS = 7000 := by decide +kernel

-- R53: a counter written 0x7FFFFFFF in the cycle of an increment wraps to 0 and sets OVF.
theorem test_counter_collides : (after (exec (.registerWrite 0x31070 0x7FFFFFFF 1) small) small).rd 0x31070 = 0x80000000 := by decide +kernel

-- R50: EVR_WALL's high word applies the buffered low word.
theorem test_wall_both_words :
    (after (exec (.highWordWrite 0x32060 2) (after (exec (.lowWordWrite 0x3205C 5) small) small)) small).wall = 2 * 2 ^ 32 + 5 := by
  decide +kernel

-- R51: a bit cleared in the cycle in which hardware sets it stays set.
theorem test_w1c_race : (after (exec (.intStatClear 0x30000 3 1) ((small.wr 0x30018 3))) small).rd 0x30018 = 1 := by decide +kernel

-- R60's example: finds of one class before it is acknowledged are recorded at Warning, then Error, then Critical.
theorem test_escalation :
    (((small.raise .vmc 0 1 2 0).raise .vmc 0 1 2 0).fault 0x200000).hist.map (·.level) = [3, 2] := by decide +kernel
theorem test_escalation_critical : recordedLevel { small.fault 0x200000 with unacked := [(1, 3)] } 1 2 = 4 := by decide +kernel

-- The same example: after the acknowledgement a find is recorded at Warning again.
theorem test_acknowledged :
    let s := (small.raise .vmc 0 1 2 0).raise .vmc 0 1 2 0
    (((after (exec (.fltAck 0x200000 1) s) s).raise .vmc 0 1 2 0).fault 0x200000).hist.head?.map (·.level) = some 2 := by decide +kernel

-- R523: framed, 16-bit words: the first wire bit of a word is bit 7 of its second byte; unframed it is bit 7 of the first.
theorem test_wire_framed : (wireAt true 16 0, wireAt true 16 8, wireAt true 16 16) = ((1, 7), (0, 7), (3, 7)) := by decide
theorem test_wire_unframed : (wireAt false 8 0, wireAt false 8 9) = ((0, 7), (1, 6)) := by decide

-- R529: a write across a 256-byte page boundary is two parts, in address order.
theorem test_page_split : pageParts 256 4 0x3000FE [1, 2, 3, 4] = [(0x3000FE, [1, 2]), (0x300100, [3, 4])] := by decide +kernel

-- The check value of CRC-32C, over the ASCII digits 1 to 9 (PRESUMED: the published value of the algorithm that R531 and R539 name).
theorem test_crc32c : crc32c [0x31, 0x32, 0x33, 0x34, 0x35, 0x36, 0x37, 0x38, 0x39] = 0xE3069283 := by decide +kernel

-- R532's example: 12 pins, one DPS, no HVC, 64 placements: 26 bytes each, VLEN 1,670.
theorem test_template_length : 6 + 64 * placeLen 12 1 0 = 1670 := by decide

-- The example after R352: region 1 of site 17.
def exampleCells : List Cell :=
  [(1050, 4139), (1100, 1600), (1100, 9000), (1150, 4139), (1250, 4139)]
    ++ ([0, 8, 16, 24, 32, 40, 48, 56, 64, 72, 80].zip [0, 1, 2, 3, 4, 5, 6, 7, 0, 1, 2]).map (fun e => (1300, e.1 + e.2))
    ++ [(1350, 4139), (1450, 4139), (1550, 4139), (1650, 4139), (1750, 4139), (1850, 4139), (1900, 1600), (1950, 4139)]

theorem test_solver_example :
    let e := solveRegion 8 8 100000 exampleCells
    (e.rows, e.cols, e.fails, e.nodes) = ([1300, 1100, 1900], [4139], 24, 2) := by decide +kernel

-- The worked examples of chapter 14: the 65 °C set is in force at 61.0 °C, and 14 and 25 LSB give +21 at 58.3 °C.
theorem test_set_in_force : setFor 1 976 4 = 2 := by decide
theorem test_trim_interpolates : roundAway (interp320 (fun k => if k = 1 then 14 else 25) 933) 320 = 21 := by decide +kernel

-- R541 and the worked example of chapter 17: an Error entry takes the place of the newest Notice of a full queue.
theorem test_error_displaces :
    let s := evrWith small (List.replicate 31 (eIn 1 1) ++ [eIn 1 2])
    let t := s.evrOffer (eIn 3 3)
    (t.evr.queue.length, t.evr.queue.getLast?.map (·.level), t.evr.drops) = (32, some 3, [((7, 2), 1)]) := by decide +kernel

-- R541: the highest severity is served first.
theorem test_severity_first : (nextEntry [eIn 1 1, eIn 3 2, eIn 3 4]).map (·.cls) = some 2 := by decide +kernel

-- R530: an erase of a misaligned address is refused.
theorem test_erase_misaligned : (after (exec (.xipErase 0x80300010) (stSpmWren small)) small).fld .spm 0 SPM_XIP_RESP_RESULT = 2 := by decide +kernel

-- R524: a GO while a page transfer runs shows BUSY; a frame that is no multiple of WSIZE is refused whole.
theorem test_go_busy : (after (exec .spmGo (stSpmRun small)) small).fld .spm 0 SPM_RESP_RESULT = 2 := by decide +kernel
theorem test_go_rejected : (after (exec .spmGo (stSpmFrBad small)) small).fld .spm 0 SPM_RESP_RESULT = 3 := by decide +kernel

-- R66: a LENGTH above 512 is a bad argument.
theorem test_mailbox_length : (after (exec (.getBootLog 513) small) small).mbx.result = 2 := by decide +kernel

-- R517, R519: GEN equal to the expected value leaves HOLD.
theorem test_refresh_accepted : (after (exec .refresh (stPlkHold small)) small).dev = .ready := by decide +kernel

-- R512: FEED_MB above 28,000 is stored as 28,000.
theorem test_feed_mb : (after (exec (.feedMbWrite 28001) small) small).fld .plk 0 PLK_CFG_FEED_MB = 28000 := by decide +kernel

-- R30: a ceiling below the charged total is refused with REFUSED_BELOW_CHARGE, 4; one above 60,000 is stored as 60,000.
theorem test_ceiling_refused : (after (exec (.ceilMwWrite 0) small) small).fld .pgv 0 PGV_RESP_RESULT = 4 := by decide +kernel
theorem test_ceiling_capped : (after (exec (.ceilMwWrite 60001) small) small).fld .pgv 0 PGV_CEIL_CEIL_MW = 60000 := by decide +kernel

-- R42: before start-up ends, a read returns zeros and a write is discarded.
theorem test_boot_reads_zero : (after (exec (.lowWordRead .host 0x40) (stBoot small)) small).hif.resp = .words [0] := by decide +kernel
theorem test_boot_discards : after (exec (.multWrite 18) (stBoot small)) small = stBoot small := by decide +kernel

-- R553: a rail outside its window leaves the device OFF.
theorem test_rail_off : (after (exec (.railFail none) small) small).dev = .off := by decide +kernel

-- The table of commands gives no row a bit.
theorem test_no_words (n w : Nat) : decodeTableWord n w = none := rfl

/-! ### The hypotheses of every statement are met -/

theorem witness_InterruptRegisters_1 : ∃ (s : State) (page : Nat) (r : PageRef), Header s page r :=
  ⟨stReady small, 0, ⟨.hifId, 0, 0, 0, 0⟩, by decide +kernel⟩
theorem witness_HeaderWritesNeedTheRole_1 : ∃ (s : State) (page : Nat) (r : PageRef), Serving s ∧ (headerPage page = some r) ∧ (s.role.meets (wrMin r.kind) = false) :=
  ⟨stReady small, 0x33000, ⟨.nvm, 0, 0x33000, 0x33000, 0⟩, serving_of (by decide +kernel) (by decide +kernel) (by decide +kernel) (by decide +kernel), by decide +kernel⟩
theorem witness_FaultRegisters_1 : ∃ (s : State) (page : Nat) (r : PageRef), Header s page r :=
  ⟨stReady small, 0, ⟨.hifId, 0, 0, 0, 0⟩, by decide +kernel⟩
theorem witness_PendingMessagesGoOut_1 : ∃ (s : State), Serving s :=
  ⟨stReady small, serving_of (by decide +kernel) (by decide +kernel) (by decide +kernel) (by decide +kernel)⟩
theorem witness_PendingMessagesGoOut_2 : ∃ (s : State), Serving s ∧ (s.hif.perst = false) :=
  ⟨stReady small, serving_of (by decide +kernel) (by decide +kernel) (by decide +kernel) (by decide +kernel), by decide +kernel⟩
theorem witness_LinkAccesses_1 : ∃ (s : State), Serving s :=
  ⟨stReady small, serving_of (by decide +kernel) (by decide +kernel) (by decide +kernel) (by decide +kernel)⟩
theorem witness_LinkAccesses_2 : ∃ (s : State), Serving s ∧ (s.hif.perst = false) :=
  ⟨stReady small, serving_of (by decide +kernel) (by decide +kernel) (by decide +kernel) (by decide +kernel), by decide +kernel⟩
theorem witness_LosingAndRegainingRefclk_1 : ∃ (s : State), Serving s ∧ (s.epc.source = .refclk) ∧ (s.flag .epcSrc 0 EPC_SRCSTAT_REF_PRESENT = true) ∧ (Acked s 0x2000 1) :=
  ⟨stClk small, serving_of (by decide +kernel) (by decide +kernel) (by decide +kernel) (by decide +kernel), by decide +kernel⟩
theorem witness_LosingAndRegainingRefclk_2 : ∃ (s : State), Serving s ∧ (s.epc.source ≠ .refclk) :=
  ⟨stReady small, serving_of (by decide +kernel) (by decide +kernel) (by decide +kernel) (by decide +kernel), by decide +kernel⟩
theorem witness_LosingAndRegainingRefclk_3 : ∃ (s : State), Serving s ∧ (s.epc.source = .holdover) ∧ (Acked s 0x2000 2) :=
  ⟨stHoldo small, serving_of (by decide +kernel) (by decide +kernel) (by decide +kernel) (by decide +kernel), by decide +kernel⟩
theorem witness_MclkAndTheFrameLength_1 : ∃ (s : State), Serving s ∧ (s.dev = .ready) ∧ (s.pst.entries = []) :=
  ⟨stReady small, serving_of (by decide +kernel) (by decide +kernel) (by decide +kernel) (by decide +kernel), by decide +kernel⟩
theorem witness_MclkAndTheFrameLength_2 : ∃ (s : State) (v : Nat), Serving s ∧ (s.dev = .run ∨ s.dev = .armed ∨ s.pst.entries ≠ []) ∧ (16 ≤ v % 32) ∧ (v % 32 ≤ 20) :=
  ⟨stRun small, 16, serving_of (by decide +kernel) (by decide +kernel) (by decide +kernel) (by decide +kernel), by decide +kernel⟩
theorem witness_MclkAndTheFrameLength_3 : ∃ (s : State), Serving s ∧ (s.epc.relocking = true) :=
  ⟨stRelock small, serving_of (by decide +kernel) (by decide +kernel) (by decide +kernel) (by decide +kernel), by decide +kernel⟩
theorem witness_MclkAndTheFrameLength_4 : ∃ (s : State), Serving s :=
  ⟨stReady small, serving_of (by decide +kernel) (by decide +kernel) (by decide +kernel) (by decide +kernel)⟩
theorem witness_MarkersAndTheCounter_1 : ∃ (s : State), Serving s ∧ (s.epc.source = .refclk) ∧ (s.epc.armed = some .start) ∧ (s.epc.valid = false) ∧ (s.pst.entries = []) :=
  ⟨stClkArm small, serving_of (by decide +kernel) (by decide +kernel) (by decide +kernel) (by decide +kernel), by decide +kernel⟩
theorem witness_MarkersAndTheCounter_2 : ∃ (s : State), Serving s ∧ (s.epc.source = .refclk) ∧ (s.epc.valid = true) ∧ (s.epc.armed = none) ∧ (s.epc.returnCheck = false) ∧ (Acked s 0x10000 4) ∧ ((s.fault 0x10000).hist.length < 8) :=
  ⟨stClk small, serving_of (by decide +kernel) (by decide +kernel) (by decide +kernel) (by decide +kernel), by decide +kernel⟩
theorem witness_MarkersAndTheCounter_3 : ∃ (s : State) (w : Nat), Serving s ∧ (s.epc.source = .refclk) ∧ (w = 3 ∨ 5 ≤ w) :=
  ⟨stClk small, 3, serving_of (by decide +kernel) (by decide +kernel) (by decide +kernel) (by decide +kernel), by decide +kernel⟩
theorem witness_MarkersAndTheCounter_4 : ∃ (s : State), Serving s ∧ (s.epc.valid = true) :=
  ⟨stClk small, serving_of (by decide +kernel) (by decide +kernel) (by decide +kernel) (by decide +kernel), by decide +kernel⟩
theorem witness_MarkersAndTheCounter_5 : ∃ (s : State), Serving s ∧ (s.epc.realign.isSome = true) ∧ (s.anyRunning = false) :=
  ⟨stClkRealign small, serving_of (by decide +kernel) (by decide +kernel) (by decide +kernel) (by decide +kernel), by decide +kernel⟩
theorem witness_MarkersAndTheCounter_6 : ∃ (s : State), Serving s :=
  ⟨stReady small, serving_of (by decide +kernel) (by decide +kernel) (by decide +kernel) (by decide +kernel)⟩
theorem witness_FrameBoundaryAndSkew_1 : ∃ (s : State), Serving s ∧ (s.epc.realign = none) :=
  ⟨stReady small, serving_of (by decide +kernel) (by decide +kernel) (by decide +kernel) (by decide +kernel), by decide +kernel⟩
theorem witness_FrameBoundaryAndSkew_2 : ∃ (s : State), Serving s :=
  ⟨stReady small, serving_of (by decide +kernel) (by decide +kernel) (by decide +kernel) (by decide +kernel)⟩
theorem witness_FrameBoundaryAndSkew_3 : ∃ (s : State), Serving s ∧ (s.epc.skewTmu = none) :=
  ⟨stReady small, serving_of (by decide +kernel) (by decide +kernel) (by decide +kernel) (by decide +kernel), by decide +kernel⟩
theorem witness_FrameBoundaryAndSkew_4 : ∃ (s : State), Serving s ∧ (s.epc.skewTmu.isSome = true) ∧ (Acked s 0x10000 5) :=
  ⟨stClkSkew small, serving_of (by decide +kernel) (by decide +kernel) (by decide +kernel) (by decide +kernel), by decide +kernel⟩
theorem witness_SyncLanes_1 : ∃ (s : State) (l : Fin 8) (w : Nat), Serving s ∧ (s.fldAt .epcCtl 0 SYNC_CFG_FILTER l.val ≤ w) ∧ (s.laneRole l.val = 1 ∨ s.laneRole l.val = 2) :=
  ⟨stSync small, 0, 5, serving_of (by decide +kernel) (by decide +kernel) (by decide +kernel) (by decide +kernel), by decide +kernel⟩
theorem witness_SyncLanes_2 : ∃ (s : State), Serving s :=
  ⟨stSync small, serving_of (by decide +kernel) (by decide +kernel) (by decide +kernel) (by decide +kernel)⟩
theorem witness_CommitAndCancel_1 : ∃ (s : State), Serving s :=
  ⟨stClk small, serving_of (by decide +kernel) (by decide +kernel) (by decide +kernel) (by decide +kernel)⟩
theorem witness_PisteActs_1 : ∃ (s : State) (e : PstEntry), Serving s ∧ (s.dueEntry 0 = some e) :=
  ⟨stDueMark small, ⟨3, 2, 10, 4, 0, 0, 1, 0xABCD, .operator⟩, serving_of (by decide +kernel) (by decide +kernel) (by decide +kernel) (by decide +kernel), by decide +kernel⟩
theorem witness_PisteActs_2 : ∃ (s : State) (e : PstEntry), Serving s ∧ (s.dueEntry 2 = some e) :=
  ⟨stDueStop small, ⟨3, 2, 10, 4, 2, 0, 0x81, 0, .operator⟩, serving_of (by decide +kernel) (by decide +kernel) (by decide +kernel) (by decide +kernel), by decide +kernel⟩
theorem witness_PisteActs_3 : ∃ (s : State) (e : PstEntry), Serving s ∧ (s.dueEntry 3 = some e) :=
  ⟨stDueOpen small, ⟨3, 2, 10, 4, 3, 0, 0, 0x800005, .operator⟩, serving_of (by decide +kernel) (by decide +kernel) (by decide +kernel) (by decide +kernel), by decide +kernel⟩
theorem witness_PisteActs_4 : ∃ (s : State) (e : PstEntry), Serving s ∧ (s.dueEntry 4 = some e) :=
  ⟨stDueClose small, ⟨3, 2, 10, 4, 4, 0, 0, 0x800005, .operator⟩, serving_of (by decide +kernel) (by decide +kernel) (by decide +kernel) (by decide +kernel), by decide +kernel⟩
theorem witness_PisteActs_5 : ∃ (s : State) (e : PstEntry), Serving s ∧ (s.dueEntry 5 = some e) ∧ (e.target < 8) :=
  ⟨stDuePulse small, ⟨3, 2, 10, 4, 5, 0, 3, 0, .operator⟩, serving_of (by decide +kernel) (by decide +kernel) (by decide +kernel) (by decide +kernel), by decide +kernel⟩
theorem witness_PisteDropAndLog_1 : ∃ (s : State) (e : PstEntry), Serving s ∧ (s.dev = .hold) ∧ (s.pst.entries.head? = some e) ∧ (s.epc.valid = true) ∧ (s.reached e.f e.p = true) ∧ (Acked s 0x11000 6) ∧ (s.pst.entries.Pairwise fun x y => x.slot ≠ y.slot) :=
  ⟨stHoldDrop small, ⟨3, 2, 10, 4, 0, 0, 1, 0xABCD, .operator⟩, serving_of (by decide +kernel) (by decide +kernel) (by decide +kernel) (by decide +kernel), by decide +kernel⟩
theorem witness_PisteDropAndLog_2 : ∃ (s : State), Serving s :=
  ⟨stReady small, serving_of (by decide +kernel) (by decide +kernel) (by decide +kernel) (by decide +kernel)⟩
theorem witness_GovernorAdmitsOrRefuses_1 : ∃ (s : State) (u : Fin 72), Serving s ∧ (s.flag .pgv 0 PGV_MODE_DRYRUN = false) ∧ (s.gatedSpan (u.val / 3) = false) :=
  ⟨stReady small, 0, serving_of (by decide +kernel) (by decide +kernel) (by decide +kernel) (by decide +kernel), by decide +kernel⟩
theorem witness_GovernorAdmitsOrRefuses_2 : ∃ (s : State) (b : Fin 24), Serving s ∧ (s.flag .pgv 0 PGV_MODE_DRYRUN = false) ∧ (s.gatedSpan b.val = false) :=
  ⟨stReady small, 0, serving_of (by decide +kernel) (by decide +kernel) (by decide +kernel) (by decide +kernel), by decide +kernel⟩
theorem witness_GovernorAdmitsOrRefuses_3 : ∃ (s : State) (u : Fin 72) (v : Nat), Serving s ∧ (s.flag .pgv 0 PGV_MODE_DRYRUN = false) ∧ (s.gatedSpan (u.val / 3) = false) ∧ (s.fld .dps u.val DPS_CLAMP_ILIM < s.ilimStored u.val (v % 1024)) :=
  ⟨stGov small, 0, 100, serving_of (by decide +kernel) (by decide +kernel) (by decide +kernel) (by decide +kernel), by decide +kernel⟩
theorem witness_CeilingBoundsTheCharge_1 : ∃ (s : State), Serving s ∧ (s.charged ≤ s.fld .pgv 0 PGV_CEIL_CEIL_MW) :=
  ⟨stReady small, serving_of (by decide +kernel) (by decide +kernel) (by decide +kernel) (by decide +kernel), by decide +kernel⟩
theorem witness_CeilingBoundsTheCharge_2 : ∃ (s : State) (u : Fin 72) (v : Nat), Serving s ∧ (s.charged ≤ s.fld .pgv 0 PGV_CEIL_CEIL_MW) ∧ (s.fld .dps u.val DPS_CLAMP_ILIM < s.ilimStored u.val (v % 1024)) :=
  ⟨stGov small, 0, 100, serving_of (by decide +kernel) (by decide +kernel) (by decide +kernel) (by decide +kernel), by decide +kernel⟩
theorem witness_CeilingWrites_1 : ∃ (s : State), Serving s ∧ (s.flag .pgv 0 PGV_CEIL_LOCK = false) :=
  ⟨stReady small, serving_of (by decide +kernel) (by decide +kernel) (by decide +kernel) (by decide +kernel), by decide +kernel⟩
theorem witness_CeilingWrites_2 : ∃ (s : State), Serving s ∧ (s.flag .pgv 0 PGV_CEIL_LOCK = true) :=
  ⟨stLocked small, serving_of (by decide +kernel) (by decide +kernel) (by decide +kernel) (by decide +kernel), by decide +kernel⟩
theorem witness_CeilingWrites_3 : ∃ (s : State), Serving s :=
  ⟨stReady small, serving_of (by decide +kernel) (by decide +kernel) (by decide +kernel) (by decide +kernel)⟩
theorem witness_SupplySwitches_1 : ∃ (s : State) (u : Fin 72), Serving s ∧ (s.gatedSpan (u.val / 3) = false) :=
  ⟨stReady small, 0, serving_of (by decide +kernel) (by decide +kernel) (by decide +kernel) (by decide +kernel), by decide +kernel⟩
theorem witness_SupplySwitches_2 : ∃ (s : State) (b : Fin 24), Serving s ∧ (s.gatedSpan b.val = false) :=
  ⟨stReady small, 0, serving_of (by decide +kernel) (by decide +kernel) (by decide +kernel) (by decide +kernel), by decide +kernel⟩
theorem witness_SupplySwitches_3 : ∃ (s : State) (u : Fin 96), Serving s ∧ (supFlag s u.val DPS_CTRL_EN = true) ∧ (s.gatedSpan (supBank u.val) = false) :=
  ⟨stGov small, 0, serving_of (by decide +kernel) (by decide +kernel) (by decide +kernel) (by decide +kernel), by decide +kernel⟩
theorem witness_SupplySwitches_4 : ∃ (s : State) (u : Fin 72) (c : Bool), Serving s ∧ (s.follower u.val = false) ∧ (c = false ∨ s.faultHeld u.val = false) :=
  ⟨stReady small, 0, true, serving_of (by decide +kernel) (by decide +kernel) (by decide +kernel) (by decide +kernel), by decide +kernel⟩
theorem witness_SupplySwitches_5 : ∃ (s : State) (b : Fin 24) (c : Bool), Serving s ∧ (c = false ∨ s.faultHeld (72 + b.val) = false) :=
  ⟨stReady small, 0, true, serving_of (by decide +kernel) (by decide +kernel) (by decide +kernel) (by decide +kernel), by decide +kernel⟩
theorem witness_SupplySwitches_6 : ∃ (s : State) (u : Fin 96), Serving s ∧ (supFlag s u.val DPS_CTRL_CONN = true) ∧ (s.gatedSpan (supBank u.val) = false) ∧ (∀ v ∈ s.gang u.val, supFlag s v DPS_CTRL_EN = true → supFlag s v DPS_STAT_READY = true) :=
  ⟨stSupOn small, 0, serving_of (by decide +kernel) (by decide +kernel) (by decide +kernel) (by decide +kernel), by decide +kernel⟩
theorem witness_SupplySwitches_7 : ∃ (s : State), Serving s :=
  ⟨stReady small, serving_of (by decide +kernel) (by decide +kernel) (by decide +kernel) (by decide +kernel)⟩
theorem witness_SupplySwitches_8 : ∃ (s : State) (u : Fin 72), Serving s ∧ (s.flag .dps u.val DPS_CTRL_SENSE = true) ∧ (s.flag .dps u.val DPS_STAT_SENSE_LOST = false) ∧ (Acked s (supPage u.val) 2) :=
  ⟨stSense small, 0, serving_of (by decide +kernel) (by decide +kernel) (by decide +kernel) (by decide +kernel), by decide +kernel⟩
theorem witness_Setpoints_1 : ∃ (s : State) (u : Fin 72), Serving s ∧ (s.faultHeld (u.val) = false) ∧ (s.follower (u.val) = false) ∧ (supFlag s (u.val) DPS_Q_STAT_RUNNING = false) :=
  ⟨stReady small, 0, serving_of (by decide +kernel) (by decide +kernel) (by decide +kernel) (by decide +kernel), by decide +kernel⟩
theorem witness_Setpoints_2 : ∃ (s : State) (u : Fin 72), Serving s ∧ (s.faultHeld (u.val) = true ∨ s.follower (u.val) = true) :=
  ⟨stHeldS small, 0, serving_of (by decide +kernel) (by decide +kernel) (by decide +kernel) (by decide +kernel), by decide +kernel⟩
theorem witness_Setpoints_3 : ∃ (s : State) (b : Fin 24), Serving s ∧ (s.faultHeld ((72 + b.val)) = false) ∧ (s.follower ((72 + b.val)) = false) ∧ (supFlag s ((72 + b.val)) DPS_Q_STAT_RUNNING = false) :=
  ⟨stReady small, 0, serving_of (by decide +kernel) (by decide +kernel) (by decide +kernel) (by decide +kernel), by decide +kernel⟩
theorem witness_Setpoints_4 : ∃ (s : State) (u : Fin 72), Serving s ∧ (s.faultHeld u.val = false) ∧ (s.follower u.val = false) :=
  ⟨stReady small, 0, serving_of (by decide +kernel) (by decide +kernel) (by decide +kernel) (by decide +kernel), by decide +kernel⟩
theorem witness_Setpoints_5 : ∃ (s : State) (b : Fin 24) (m : Fin 4), Serving s ∧ (m.val < 3) ∧ (m.val ≠ s.fld .dps (3 * b.val) DPS_GANG_MODE) ∧ (∀ i < 3, s.flag .dps (3 * b.val + i) DPS_STAT_CONNECTED = false) :=
  ⟨stReady small, 0, 1, serving_of (by decide +kernel) (by decide +kernel) (by decide +kernel) (by decide +kernel), by decide +kernel⟩
theorem witness_Setpoints_6 : ∃ (s : State) (b : Fin 24) (m : Fin 4), Serving s ∧ (m.val = 3 ∨ m.val = s.fld .dps (3 * b.val) DPS_GANG_MODE) :=
  ⟨stReady small, 0, 0, serving_of (by decide +kernel) (by decide +kernel) (by decide +kernel) (by decide +kernel), by decide +kernel⟩
theorem witness_Setpoints_7 : ∃ (s : State) (u : Fin 96), Serving s ∧ (s.faultHeld u.val = false) ∧ (s.follower u.val = false) :=
  ⟨stReady small, 0, serving_of (by decide +kernel) (by decide +kernel) (by decide +kernel) (by decide +kernel), by decide +kernel⟩
theorem witness_Setpoints_8 : ∃ (s : State) (u : Fin 96), Serving s ∧ (s.follower u.val = false) :=
  ⟨stReady small, 0, serving_of (by decide +kernel) (by decide +kernel) (by decide +kernel) (by decide +kernel), by decide +kernel⟩
theorem witness_Setpoints_9 : ∃ (s : State), Serving s :=
  ⟨stReady small, serving_of (by decide +kernel) (by decide +kernel) (by decide +kernel) (by decide +kernel)⟩
theorem witness_Setpoints_10 : ∃ (s : State) (e : PstEntry), Serving s ∧ (s.dueEntry 6 = some e) :=
  ⟨stDueSup small, ⟨3, 2, 10, 4, 6, 0xB, 0, 3, .operator⟩, serving_of (by decide +kernel) (by decide +kernel) (by decide +kernel) (by decide +kernel), by decide +kernel⟩
theorem witness_Setpoints_11 : ∃ (s : State) (u : Fin 96), Serving s ∧ (supFlag s u.val DPS_PUV_BUSY = false) :=
  ⟨stReady small, 0, serving_of (by decide +kernel) (by decide +kernel) (by decide +kernel) (by decide +kernel), by decide +kernel⟩
theorem witness_LevelsAndReadback_1 : ∃ (s : State) (k : Fin 768), Serving s ∧ (s.sealedTo k.val s.role = false) :=
  ⟨stReady small, 0, serving_of (by decide +kernel) (by decide +kernel) (by decide +kernel) (by decide +kernel), by decide +kernel⟩
theorem witness_LevelsAndReadback_2 : ∃ (s : State) (k : Fin 768), Serving s ∧ (s.sealedTo k.val s.role = true) :=
  ⟨stSeal37 small, 0, serving_of (by decide +kernel) (by decide +kernel) (by decide +kernel) (by decide +kernel), by decide +kernel⟩
theorem witness_LevelsAndReadback_3 : ∃ (s : State), Serving s :=
  ⟨stReady small, serving_of (by decide +kernel) (by decide +kernel) (by decide +kernel) (by decide +kernel)⟩
theorem witness_LevelsAndReadback_4 : ∃ (s : State) (b : Fin 24), Serving s ∧ (Acked s (baseOf .lde b.val) 1) :=
  ⟨stReady small, 0, serving_of (by decide +kernel) (by decide +kernel) (by decide +kernel) (by decide +kernel), by decide +kernel⟩
theorem witness_ModeRequests_1 : ∃ (s : State) (b : Fin 24) (m : Fin 4), Serving s ∧ (s.gatedSpan b.val = false) ∧ (m.val ≠ 3) ∧ (s.flag .bnk b.val BNK_MODE_TRANSITION = false) ∧ (m.val ≠ s.fld .bnk b.val BNK_MODE_ACTIVE) ∧ (s.bankBusy b.val = false) ∧ (s.flag .pgv 0 PGV_MODE_DRYRUN = false) :=
  ⟨stReady small, 0, 0, serving_of (by decide +kernel) (by decide +kernel) (by decide +kernel) (by decide +kernel), by decide +kernel⟩
theorem witness_ModeRequests_2 : ∃ (s : State) (b : Fin 24) (m : Fin 4), Serving s ∧ (s.gatedSpan b.val = false) ∧ (m.val ≠ 3) ∧ (s.flag .bnk b.val BNK_MODE_TRANSITION = false) ∧ (m.val ≠ s.fld .bnk b.val BNK_MODE_ACTIVE) ∧ (s.bankBusy b.val = true) ∧ (s.flag .pgv 0 PGV_MODE_DRYRUN = false) :=
  ⟨stBankRun small, 0, 0, serving_of (by decide +kernel) (by decide +kernel) (by decide +kernel) (by decide +kernel), by decide +kernel⟩
theorem witness_ModeRequests_3 : ∃ (s : State), Serving s :=
  ⟨stReady small, serving_of (by decide +kernel) (by decide +kernel) (by decide +kernel) (by decide +kernel)⟩
theorem witness_ModeRequests_4 : ∃ (s : State) (b : Fin 24), Serving s ∧ (s.flag .bnk b.val BNK_MODE_TRANSITION = true) :=
  ⟨stTrans small, 0, serving_of (by decide +kernel) (by decide +kernel) (by decide +kernel) (by decide +kernel), by decide +kernel⟩
theorem witness_ModeRequests_5 : ∃ (s : State) (b : Fin 24), Serving s ∧ (s.flag .bnk b.val BNK_MODE_TRANSITION = true) ∧ (Acked s (baseOf .bnk b.val) 2) :=
  ⟨stTrans small, 0, serving_of (by decide +kernel) (by decide +kernel) (by decide +kernel) (by decide +kernel), by decide +kernel⟩
theorem witness_ModeBusy_1 : ∃ (s : State) (b : Fin 24) (m : Fin 4), Serving s ∧ (m.val ≠ 3) ∧ (s.flag .bnk b.val BNK_MODE_TRANSITION = true) :=
  ⟨stTrans small, 0, 0, serving_of (by decide +kernel) (by decide +kernel) (by decide +kernel) (by decide +kernel), by decide +kernel⟩
theorem witness_PpmuConnection_1 : ∃ (s : State), Serving s :=
  ⟨stReady small, serving_of (by decide +kernel) (by decide +kernel) (by decide +kernel) (by decide +kernel)⟩
theorem witness_PpmuConnection_2 : ∃ (s : State) (k : Fin 768), Serving s ∧ (s.flag .pec k.val PEC_PPMU_CONN = true) ∧ (s.ppmuHeld k.val = false) :=
  ⟨stBoundC small, 0, serving_of (by decide +kernel) (by decide +kernel) (by decide +kernel) (by decide +kernel), by decide +kernel⟩
theorem witness_PpmuConnection_3 : ∃ (s : State) (k : Fin 768), Serving s ∧ ((s.pin k.val).exiting = true) :=
  ⟨stDriving small, 0, serving_of (by decide +kernel) (by decide +kernel) (by decide +kernel) (by decide +kernel), by decide +kernel⟩
theorem witness_PpmuConnection_4 : ∃ (s : State) (k : Fin 768), Serving s ∧ (s.sealedTo k.val s.role = false) :=
  ⟨stReady small, 0, serving_of (by decide +kernel) (by decide +kernel) (by decide +kernel) (by decide +kernel), by decide +kernel⟩
theorem witness_PpmuConnection_5 : ∃ (s : State) (k : Fin 768), Serving s ∧ (s.sealedTo k.val s.role = true) :=
  ⟨stSeal37 small, 0, serving_of (by decide +kernel) (by decide +kernel) (by decide +kernel) (by decide +kernel), by decide +kernel⟩
theorem witness_PpmuConnection_6 : ∃ (s : State) (k : Fin 768), Serving s ∧ ((s.pin k.val).ppmuOn = true) ∧ (s.fld .pec k.val PEC_PPMU_MODE ≠ 2) :=
  ⟨stDriving small, 0, serving_of (by decide +kernel) (by decide +kernel) (by decide +kernel) (by decide +kernel), by decide +kernel⟩
theorem witness_SymbolMapsAndLostFrames_1 : ∃ (s : State) (k : Fin 768), Serving s ∧ (s.sealedTo k.val s.role = false) ∧ (s.pinRunning k.val = false) :=
  ⟨stReady small, 0, serving_of (by decide +kernel) (by decide +kernel) (by decide +kernel) (by decide +kernel), by decide +kernel⟩
theorem witness_SymbolMapsAndLostFrames_2 : ∃ (s : State) (k : Fin 768), Serving s ∧ (s.sealedTo k.val s.role = false) ∧ (s.pinRunning k.val = true) :=
  ⟨stBankRun small, 0, serving_of (by decide +kernel) (by decide +kernel) (by decide +kernel) (by decide +kernel), by decide +kernel⟩
theorem witness_SymbolMapsAndLostFrames_3 : ∃ (s : State), Serving s :=
  ⟨stReady small, serving_of (by decide +kernel) (by decide +kernel) (by decide +kernel) (by decide +kernel)⟩
theorem witness_SymbolMapsAndLostFrames_4 : ∃ (s : State) (b : Fin 24), Serving s ∧ (Acked s (baseOf .bnk b.val) 1) :=
  ⟨stReady small, 0, serving_of (by decide +kernel) (by decide +kernel) (by decide +kernel) (by decide +kernel), by decide +kernel⟩
theorem witness_BankPowerRequests_1 : ∃ (s : State) (b : Fin 24) (v : Word), Serving s ∧ (v.toNat % 2 ^ 24 = s.fld .hifRst 0 PWR_BANK_ON + 2 ^ b.val) ∧ (s.bankAsked b.val = false) ∧ ((s.bank b.val).phase = .off) ∧ ((s.fe (b.val / 6)).heldOff = false) ∧ (s.flag .pgv 0 PGV_MODE_DRYRUN = false) :=
  ⟨stOffB small, 0, 1, serving_of (by decide +kernel) (by decide +kernel) (by decide +kernel) (by decide +kernel), by decide +kernel⟩
theorem witness_BankPowerRequests_2 : ∃ (s : State) (b : Fin 24) (v : Word), Serving s ∧ (v.toNat % 2 ^ 24 + 2 ^ b.val = s.fld .hifRst 0 PWR_BANK_ON) ∧ (s.bankAsked b.val = true) ∧ ((s.bank b.val).phase = .on) :=
  ⟨stAskAll small, 0, 0xFFFFFE, serving_of (by decide +kernel) (by decide +kernel) (by decide +kernel) (by decide +kernel), by decide +kernel⟩
theorem witness_BankPowerRequests_3 : ∃ (s : State) (v : Word), Serving s ∧ (v.getLsbD 0 = true) ∧ (v.getLsbD 1 = s.flag .hifRst 0 PWR_CTRL_CLUSTER_B) ∧ (s.flag .hifRst 0 PWR_CTRL_CLUSTER_A = false) ∧ (s.domains.getLsbD 4 = false) ∧ (s.clusterRise.contains 0 = false) :=
  ⟨stOffC small, 1, serving_of (by decide +kernel) (by decide +kernel) (by decide +kernel) (by decide +kernel), by decide +kernel⟩
theorem witness_BankPowerRequests_4 : ∃ (s : State) (v : Word), Serving s ∧ (v.getLsbD 0 = false) ∧ (v.getLsbD 1 = s.flag .hifRst 0 PWR_CTRL_CLUSTER_B) ∧ (s.flag .hifRst 0 PWR_CTRL_CLUSTER_A = true) ∧ (s.clusterRise.contains 0 = false) ∧ (∀ n < 4, s.psqRunning n = false ∧ s.flag .psq n PSQ_STAT_BOUND = false) :=
  ⟨stAskAll small, 0, serving_of (by decide +kernel) (by decide +kernel) (by decide +kernel) (by decide +kernel), by decide +kernel⟩
theorem witness_PowerSequencesEnd_1 : ∃ (s : State) (b : Fin 24), Serving s ∧ ((s.bank b.val).phase = .rising) ∧ ((s.bank b.val).stored = []) ∧ ((s.bank b.val).downWait = none) ∧ (Acked s (baseOf .bnk b.val) 2) :=
  ⟨stRising small, 0, serving_of (by decide +kernel) (by decide +kernel) (by decide +kernel) (by decide +kernel), by decide +kernel⟩
theorem witness_PowerSequencesEnd_2 : ∃ (s : State) (b : Fin 24), Serving s ∧ ((s.bank b.val).phase = .falling) :=
  ⟨stFalling small, 0, serving_of (by decide +kernel) (by decide +kernel) (by decide +kernel) (by decide +kernel), by decide +kernel⟩
theorem witness_PowerSequencesEnd_3 : ∃ (s : State) (n : Fin 4), Serving s ∧ ((s.fe n.val).offDue = true) ∧ (s.feInUse n.val = false) :=
  ⟨stFeOff small, 0, serving_of (by decide +kernel) (by decide +kernel) (by decide +kernel) (by decide +kernel), by decide +kernel⟩
theorem witness_PowerSequencesEnd_4 : ∃ (s : State) (c : Fin 2), Serving s ∧ (s.clusterRise.contains c.val = true) ∧ (s.flag .hifRst 0 (clusterFld c.val) = true) :=
  ⟨stClRise small, 0, serving_of (by decide +kernel) (by decide +kernel) (by decide +kernel) (by decide +kernel), by decide +kernel⟩
theorem witness_PowerSequencesEnd_5 : ∃ (s : State) (n : Fin 8) (i : Fin 8), Serving s ∧ ((s.psq n.val).wraps.any (fun w => w.1 == i.val) = true) :=
  ⟨stWraps small, 0, 0, serving_of (by decide +kernel) (by decide +kernel) (by decide +kernel) (by decide +kernel), by decide +kernel⟩
theorem witness_PowerSequencesEnd_6 : ∃ (s : State) (i : Fin 8), Serving s ∧ (s.chipWraps.contains i.val = true) :=
  ⟨stWraps small, 0, serving_of (by decide +kernel) (by decide +kernel) (by decide +kernel) (by decide +kernel), by decide +kernel⟩
theorem witness_SiteMaskAndRetirement_1 : ∃ (s : State), Serving s :=
  ⟨stReady small, serving_of (by decide +kernel) (by decide +kernel) (by decide +kernel) (by decide +kernel)⟩
theorem witness_SiteMaskAndRetirement_2 : ∃ (s : State) (i : Fin 256), Serving s ∧ (s.siteRetired i.val = false) :=
  ⟨stReady small, 0, serving_of (by decide +kernel) (by decide +kernel) (by decide +kernel) (by decide +kernel), by decide +kernel⟩
theorem witness_AllocatorCommands_1 : ∃ (s : State), Serving s :=
  ⟨stReady small, serving_of (by decide +kernel) (by decide +kernel) (by decide +kernel) (by decide +kernel)⟩
theorem witness_AllocatorCommands_2 : ∃ (s : State) (m : Nat) (n : Nat) (c : Nat) (f : Nat) (q : Template), Serving s ∧ (s.sfb.cmd = some (.bind m n c f)) ∧ (s.template m = some q) ∧ (TemplateOk q) ∧ (n < 8) ∧ (m < 16) :=
  ⟨stBindA small, 0, 3, 2, 0, tpl, serving_of (by decide +kernel) (by decide +kernel) (by decide +kernel) (by decide +kernel), by decide +kernel⟩
theorem witness_AllocatorCommands_3 : ∃ (s : State) (i : Nat), Serving s ∧ (s.sfb.cmd = some (.releaseSites (2 ^ i))) ∧ (i < 256) ∧ (s.siteBound i = true) ∧ (∀ k ∈ (s.sitePins i).map (·.2), k < 768) :=
  ⟨stRelA small, 0, serving_of (by decide +kernel) (by decide +kernel) (by decide +kernel) (by decide +kernel), by decide +kernel⟩
theorem witness_OverlayAccess_1 : ∃ (s : State), Serving s :=
  ⟨stReady small, serving_of (by decide +kernel) (by decide +kernel) (by decide +kernel) (by decide +kernel)⟩
theorem witness_OverlayAccess_2 : ∃ (s : State) (j : OvlDma) (o : VsObj), Serving s ∧ (s.ovlDma = some j) ∧ (s.plainRange j.handle j.off (4096 * (j.countM1 + 1)) = some o) ∧ (s.objBad o j.off (4096 * (j.countM1 + 1)) = false) :=
  ⟨stOvlGo small, ⟨0x00010000, 64, 2, 0⟩, obj0, serving_of (by decide +kernel) (by decide +kernel) (by decide +kernel) (by decide +kernel), by decide +kernel⟩
theorem witness_BitmapsAndSolving_1 : ∃ (s : State) (n : Fin 8) (i : Nat) (blk : Nat) (bits : Nat) (rest : List ((Nat × Nat) × Nat)) (o : VsObj), Serving s ∧ ((s.psq n.val).marks = ((i, blk), bits) :: rest) ∧ ((s.psq n.val).clearing = false) ∧ (s.objAt (s.site i).bmapHandle = some o) ∧ ((s.site i).bmapOff.toNat / 64 * 64 + 64 * blk + 64 ≤ o.size) ∧ (s.objBad o ((s.site i).bmapOff.toNat / 64 * 64 + 64 * blk) 64 = false) :=
  ⟨stMarks1 small, 3, 0, 1, 0x8001, [], obj0, serving_of (by decide +kernel) (by decide +kernel) (by decide +kernel) (by decide +kernel), by decide +kernel⟩
theorem witness_BitmapsAndSolving_2 : ∃ (s : State) (n : Fin 8) (i : Nat) (blk : Nat) (bits : Nat) (rest : List ((Nat × Nat) × Nat)) (o : VsObj), Serving s ∧ ((s.psq n.val).marks = ((i, blk), bits) :: rest) ∧ ((s.psq n.val).clearing = false) ∧ (s.objAt (s.site i).bmapHandle = some o) ∧ ((s.site i).bmapOff.toNat / 64 * 64 + 64 * blk + 64 ≤ o.size) ∧ (s.vsWritten (o.phys ((s.site i).bmapOff.toNat / 64 * 64 + 64 * blk) / 4096) = true) ∧ (Acked s (pageBase .fre n.val) 1) ∧ (Acked s 0x200000 2) ∧ ((∀ c < 8, mapGet (fun _ => 0) s.vs.ueRun c < 3)) :=
  ⟨stMarks1 small, 3, 0, 1, 0x8001, [], obj0, serving_of (by decide +kernel) (by decide +kernel) (by decide +kernel) (by decide +kernel), by decide +kernel⟩
theorem witness_BitmapsAndSolving_3 : ∃ (s : State), Serving s :=
  ⟨stBound small, serving_of (by decide +kernel) (by decide +kernel) (by decide +kernel) (by decide +kernel)⟩
theorem witness_BitmapsAndSolving_4 : ∃ (s : State) (n : Fin 8), Serving s ∧ ((s.psq n.val).clearing = true) :=
  ⟨stClearing small, 3, serving_of (by decide +kernel) (by decide +kernel) (by decide +kernel) (by decide +kernel), by decide +kernel⟩
theorem witness_BitmapsAndSolving_5 : ∃ (s : State) (n : Fin 8) (i : Nat) (rest : List Nat), Serving s ∧ ((s.psq n.val).solves = i :: rest) ∧ (s.freClosed n.val = true) ∧ ((s.psq n.val).marks = []) ∧ (i ∉ rest) :=
  ⟨stSolves small, 3, 0, [1], serving_of (by decide +kernel) (by decide +kernel) (by decide +kernel) (by decide +kernel), by decide +kernel⟩
theorem witness_BitmapsAndSolving_6 : ∃ (s : State) (i : Fin 256) (n : Nat) (o : VsObj), Serving s ∧ (s.sitePsq i.val = some n) ∧ ((s.psq n).solving = [i.val]) ∧ (s.bitmapOf n i.val = some o) ∧ (Acked s (pageBase .fre n) 3) :=
  ⟨stSolving small, 0, 3, obj0, serving_of (by decide +kernel) (by decide +kernel) (by decide +kernel) (by decide +kernel), by decide +kernel⟩
theorem witness_LimitsAndRecords_1 : ∃ (s : State), Serving s :=
  ⟨stBound small, serving_of (by decide +kernel) (by decide +kernel) (by decide +kernel) (by decide +kernel)⟩
theorem witness_LimitsAndRecords_2 : ∃ (s : State) (n : Fin 8) (m : Nat), Serving s ∧ ((s.psq n.val).limiting = some m) :=
  ⟨stLimiting small, 3, 3, serving_of (by decide +kernel) (by decide +kernel) (by decide +kernel) (by decide +kernel), by decide +kernel⟩
theorem witness_LimitsAndRecords_3 : ∃ (s : State) (n : Fin 8) (i : Nat) (rest : List Nat), Serving s ∧ ((s.psq n.val).awaiting = i :: rest) ∧ ((s.site i).pending = true) ∧ (i ∉ rest) ∧ (s.freClosed n.val = true) ∧ ((s.psq n.val).marks = []) ∧ ((s.psq n.val).solves = [] ∧ (s.psq n.val).solving = []) ∧ (s.flag .fre n.val FRE_CFG_HOLD_ISSUE = false) :=
  ⟨stAwaiting small, 3, 0, [1], serving_of (by decide +kernel) (by decide +kernel) (by decide +kernel) (by decide +kernel), by decide +kernel⟩
theorem witness_LimitsAndRecords_4 : ∃ (s : State) (r : List Byte) (rest : List (List Byte)), Serving s ∧ (s.fre.store = r :: rest) :=
  ⟨stRing small, [1, 2], [[3]], serving_of (by decide +kernel) (by decide +kernel) (by decide +kernel) (by decide +kernel), by decide +kernel⟩
theorem witness_LimitsAndRecords_5 : ∃ (s : State), Serving s ∧ (Acked s 0x240000 2) :=
  ⟨stRing small, serving_of (by decide +kernel) (by decide +kernel) (by decide +kernel) (by decide +kernel), by decide +kernel⟩
theorem witness_ProgramControl_1 : ∃ (s : State) (n : Fin 8), Serving s ∧ (NextOp s n.val .nop) :=
  ⟨stOpNop small, 3, serving_of (by decide +kernel) (by decide +kernel) (by decide +kernel) (by decide +kernel), by decide +kernel⟩
theorem witness_ProgramControl_2 : ∃ (s : State) (n : Fin 8), Serving s ∧ (NextOp s n.val .vset) :=
  ⟨stOpVset small, 3, serving_of (by decide +kernel) (by decide +kernel) (by decide +kernel) (by decide +kernel), by decide +kernel⟩
theorem witness_ProgramControl_3 : ∃ (s : State) (n : Fin 8), Serving s ∧ (NextOp s n.val .loop) :=
  ⟨stOpLoop small, 3, serving_of (by decide +kernel) (by decide +kernel) (by decide +kernel) (by decide +kernel), by decide +kernel⟩
theorem witness_ProgramControl_4 : ∃ (s : State) (n : Fin 8), Serving s ∧ (NextOp s n.val .endloop) :=
  ⟨stOpEnd0 small, 3, serving_of (by decide +kernel) (by decide +kernel) (by decide +kernel) (by decide +kernel), by decide +kernel⟩
theorem witness_ProgramControl_5 : ∃ (s : State) (n : Fin 8), Serving s ∧ (NextOp s n.val .jump) ∧ (natBits (s.instr n.val) 55 52 ≤ 6) ∧ (natBits (s.instr n.val) 51 48 ≤ s.loopDepth n.val) :=
  ⟨stOpJump small, 3, serving_of (by decide +kernel) (by decide +kernel) (by decide +kernel) (by decide +kernel), by decide +kernel⟩
theorem witness_ProgramControl_6 : ∃ (s : State) (n : Fin 8), Serving s ∧ (NextOp s n.val .call) :=
  ⟨stOpCall small, 3, serving_of (by decide +kernel) (by decide +kernel) (by decide +kernel) (by decide +kernel), by decide +kernel⟩
theorem witness_ProgramControl_7 : ∃ (s : State) (n : Fin 8), Serving s ∧ (NextOp s n.val .ret) :=
  ⟨stOpRet small, 3, serving_of (by decide +kernel) (by decide +kernel) (by decide +kernel) (by decide +kernel), by decide +kernel⟩
theorem witness_EmissionsAndWaits_1 : ∃ (s : State) (n : Fin 8), Serving s ∧ (NextOp s n.val .run) :=
  ⟨stOpRun small, 3, serving_of (by decide +kernel) (by decide +kernel) (by decide +kernel) (by decide +kernel), by decide +kernel⟩
theorem witness_EmissionsAndWaits_2 : ∃ (s : State) (n : Fin 8), Serving s ∧ (NextOp s n.val .apg) :=
  ⟨stOpApg small, 3, serving_of (by decide +kernel) (by decide +kernel) (by decide +kernel) (by decide +kernel), by decide +kernel⟩
theorem witness_EmissionsAndWaits_3 : ∃ (s : State) (n : Fin 8), Serving s ∧ (NextOp s n.val .matchVec) :=
  ⟨stOpMatch small, 3, serving_of (by decide +kernel) (by decide +kernel) (by decide +kernel) (by decide +kernel), by decide +kernel⟩
theorem witness_EmissionsAndWaits_4 : ∃ (s : State) (n : Fin 8), Serving s ∧ (NextOp s n.val .pausept) :=
  ⟨stOpPause small, 3, serving_of (by decide +kernel) (by decide +kernel) (by decide +kernel) (by decide +kernel), by decide +kernel⟩
theorem witness_EmissionsAndWaits_5 : ∃ (s : State) (n : Fin 8), Serving s ∧ (NextOp s n.val .epochwait) ∧ (natBits (s.instr n.val) 48 48 = 0 ∨ s.epc.valid = true) :=
  ⟨stOpEpochLate small, 3, serving_of (by decide +kernel) (by decide +kernel) (by decide +kernel) (by decide +kernel), by decide +kernel⟩
theorem witness_EmissionsAndWaits_6 : ∃ (s : State) (n : Fin 8), Serving s ∧ (NextOp s n.val .halt) :=
  ⟨stOpHalt small, 3, serving_of (by decide +kernel) (by decide +kernel) (by decide +kernel) (by decide +kernel), by decide +kernel⟩
theorem witness_EmissionsAndWaits_7 : ∃ (s : State) (n : Fin 8) (g : Nat), Serving s ∧ (s.bursting n.val = true) ∧ (s.stopDue n.val = false) ∧ ((s.psq n.val).hold = .epoch g) ∧ ((s.psq n.val).micro = none) :=
  ⟨stEpochHold small, 3, 500, serving_of (by decide +kernel) (by decide +kernel) (by decide +kernel) (by decide +kernel), by decide +kernel⟩
theorem witness_EmissionsAndWaits_8 : ∃ (s : State) (n : Fin 8), Serving s ∧ (s.bursting n.val = true) ∧ (s.stopDue n.val = false) ∧ ((s.psq n.val).hold = .resolve) ∧ (s.outcomesDue n.val = false) ∧ ((s.psq n.val).micro = none) ∧ (opFunc (opcodeOf (s.instr n.val)) = some .jump) ∧ (s.fetchPc n.val = .word (s.instr n.val)) :=
  ⟨stResHold small, 3, serving_of (by decide +kernel) (by decide +kernel) (by decide +kernel) (by decide +kernel), by decide +kernel⟩
theorem witness_EmissionsAndWaits_9 : ∃ (s : State) (n : Fin 8), Serving s ∧ (s.bursting n.val = true) ∧ (s.stopDue n.val = false) ∧ ((s.psq n.val).hold = .pause) ∧ (s.pauseAsked n.val = false) ∧ ((s.psq n.val).micro = none) :=
  ⟨stPauseHold small, 3, serving_of (by decide +kernel) (by decide +kernel) (by decide +kernel) (by decide +kernel), by decide +kernel⟩
theorem witness_SiteOperations_1 : ∃ (s : State) (n : Fin 8), Serving s ∧ (NextOp s n.val .siteop) ∧ (subOf (s.instr n.val) = 1) ∧ (natBits (s.instr n.val) 50 49 ≠ 3) ∧ (natBits (s.instr n.val) 43 40 ≠ 15) ∧ (s.needWait n.val = false) :=
  ⟨stOpAlu small, 3, serving_of (by decide +kernel) (by decide +kernel) (by decide +kernel) (by decide +kernel), by decide +kernel⟩
theorem witness_SiteOperations_2 : ∃ (s : State) (n : Fin 8), Serving s ∧ (NextOp s n.val .siteop) ∧ (subOf (s.instr n.val) = 2) ∧ (natBits (s.instr n.val) 50 49 ≠ 3) ∧ (s.needWait n.val = false) :=
  ⟨stOpOut small, 3, serving_of (by decide +kernel) (by decide +kernel) (by decide +kernel) (by decide +kernel), by decide +kernel⟩
theorem witness_SiteOperations_3 : ∃ (s : State) (n : Fin 8), Serving s ∧ (NextOp s n.val .siteop) ∧ (subOf (s.instr n.val) = 3) ∧ (natBits (s.instr n.val) 50 49 ≠ 3) ∧ (s.needWait n.val = false) :=
  ⟨stOpMask small, 3, serving_of (by decide +kernel) (by decide +kernel) (by decide +kernel) (by decide +kernel), by decide +kernel⟩
theorem witness_SiteOperations_4 : ∃ (s : State) (n : Fin 8), Serving s ∧ (NextOp s n.val .siteop) ∧ (subOf (s.instr n.val) = 4) :=
  ⟨stOpMw small, 3, serving_of (by decide +kernel) (by decide +kernel) (by decide +kernel) (by decide +kernel), by decide +kernel⟩
theorem witness_SiteOperations_5 : ∃ (s : State) (n : Fin 8) (g : Nat) (d : Nat), Serving s ∧ (s.bursting n.val = true) ∧ (s.stopDue n.val = false) ∧ ((s.psq n.val).hold = .mwait g d) ∧ ((s.psq n.val).micro = none) :=
  ⟨stMwHold small, 3, 5, 900, serving_of (by decide +kernel) (by decide +kernel) (by decide +kernel) (by decide +kernel), by decide +kernel⟩
theorem witness_SiteOperations_6 : ∃ (s : State) (n : Fin 8), Serving s ∧ (NextOp s n.val .siteop) ∧ (subOf (s.instr n.val) = 0) :=
  ⟨stOpSub small, 3, serving_of (by decide +kernel) (by decide +kernel) (by decide +kernel) (by decide +kernel), by decide +kernel⟩
theorem witness_VectorsAndOutcomes_1 : ∃ (s : State) (n : Fin 8) (d : Nat) (c : Nat) (ts : Nat) (g : Segment) (bs : List Byte), Serving s ∧ (s.bursting n.val = true) ∧ ((s.psq n.val).hold = .none) ∧ (s.stopDue n.val = false) ∧ ((s.psq n.val).atEnd = false) ∧ (0 ≤ (s.psq n.val).slots) ∧ ((s.psq n.val).micro = none) ∧ ((s.psq n.val).emit = some ⟨d, c, .seg true none⟩) ∧ (s.vpSegment n.val d = some g) ∧ (s.fetchVector n.val g (s.vpOff n.val + d) = .bytes bs) ∧ ((∀ x ∈ (wordsOf (g.wM1 + 1) bs).2, x = ts)) ∧ (s.periodV n.val ts = true) ∧ (s.vpOff n.val + c < 2 ^ 33) :=
  ⟨stVec0 small, 3, 0, 3, 0, ⟨64, 6, 0, true⟩, [0x1B, 0x1B, 0, 0, 0, 0, 0, 0, 0], serving_of (by decide +kernel) (by decide +kernel) (by decide +kernel) (by decide +kernel), by decide +kernel⟩
theorem witness_VectorsAndOutcomes_2 : ∃ (s : State) (n : Fin 8) (d : Nat) (c : Nat) (b : Nat) (g : Segment), Serving s ∧ (s.bursting n.val = true) ∧ ((s.psq n.val).hold = .none) ∧ (s.stopDue n.val = false) ∧ ((s.psq n.val).atEnd = false) ∧ (0 ≤ (s.psq n.val).slots) ∧ ((s.psq n.val).micro = none) ∧ ((s.psq n.val).emit = some ⟨d, c, .seg true none⟩) ∧ (s.vpSegment n.val d = some g) ∧ (s.fetchVector n.val g (s.vpOff n.val + d) = .miss b) ∧ ((s.psq n.val).missed = none) :=
  ⟨stVecMiss small, 3, 0, 3, 1, ⟨64, 6, 0, true⟩, serving_of (by decide +kernel) (by decide +kernel) (by decide +kernel) (by decide +kernel), by decide +kernel⟩
theorem witness_VectorsAndOutcomes_3 : ∃ (s : State) (n : Fin 8) (d : Nat) (c : Nat) (g : Segment), Serving s ∧ (s.bursting n.val = true) ∧ ((s.psq n.val).hold = .none) ∧ (s.stopDue n.val = false) ∧ ((s.psq n.val).atEnd = false) ∧ (0 ≤ (s.psq n.val).slots) ∧ ((s.psq n.val).micro = none) ∧ ((s.psq n.val).emit = some ⟨d, c, .seg true none⟩) ∧ (s.vpSegment n.val d = some g) ∧ (s.fetchVector n.val g (s.vpOff n.val + d) = .unwritten) :=
  ⟨stVecUnw small, 3, 0, 3, ⟨64, 6, 0, true⟩, serving_of (by decide +kernel) (by decide +kernel) (by decide +kernel) (by decide +kernel), by decide +kernel⟩
theorem witness_VectorsAndOutcomes_4 : ∃ (s : State) (i : Fin 256) (n : Nat) (v : VecInfo), Serving s ∧ (s.sitePsq i.val = some n) ∧ (s.nextOutcome n i.val = some v) ∧ ((∀ p ∈ s.sitePins i.val, (s.pin p.2).compares.all (fun c => c.phase != .lost) = true ∧ (s.pin p.2).compares.length ≤ 1)) ∧ ((s.psq n).mtch = none) :=
  ⟨stOutc small, 0, 3, ⟨7, 100, 0, 0, 5, 2, none, none, 600, 0⟩, serving_of (by decide +kernel) (by decide +kernel) (by decide +kernel) (by decide +kernel), by decide +kernel⟩
theorem witness_VectorsAndOutcomes_5 : ∃ (s : State) (n : Fin 8), Serving s ∧ (s.bursting n.val = true) ∧ (s.stopDue n.val = false) ∧ ((s.psq n.val).hold = .stall) ∧ (s.itemReady n.val = true) :=
  ⟨stStalled small, 3, serving_of (by decide +kernel) (by decide +kernel) (by decide +kernel) (by decide +kernel), by decide +kernel⟩
theorem witness_VectorsAndOutcomes_6 : ∃ (s : State) (n : Fin 8) (d : Nat) (c : Nat) (r : Nat) (f : Bool), Serving s ∧ (s.bursting n.val = true) ∧ ((s.psq n.val).hold = .none) ∧ ((s.psq n.val).micro = none) ∧ ((s.psq n.val).emit = some ⟨d, c, .iter r f⟩) ∧ ((s.psq n.val).mtch.isSome = true) ∧ (s.iterDue n.val = false) ∧ (s.matchAll n.val = true ∨ c ≤ d) ∧ (s.vpOff n.val < 2 ^ 32) :=
  ⟨stMatchDone small, 3, 1, 5, 3, true, serving_of (by decide +kernel) (by decide +kernel) (by decide +kernel) (by decide +kernel), by decide +kernel⟩
theorem witness_TimingTables_1 : ∃ (s : State), Serving s :=
  ⟨stBound small, serving_of (by decide +kernel) (by decide +kernel) (by decide +kernel) (by decide +kernel)⟩
theorem witness_TimingTables_2 : ∃ (s : State) (o : Nat), Serving s ∧ (o ∈ [0x40, 0x44, 0x48, 0x4C, 0x50, 0x54, 0x58]) :=
  ⟨stBound small, 0x40, serving_of (by decide +kernel) (by decide +kernel) (by decide +kernel) (by decide +kernel), by decide +kernel⟩
theorem witness_TimingTables_3 : ∃ (s : State) (o : Nat), Serving s ∧ (o = 0x400 ∨ o = 0x40C ∨ (0x500 ≤ o ∧ o < 0x700 ∧ o % 4 = 0)) :=
  ⟨stBound small, 0x400, serving_of (by decide +kernel) (by decide +kernel) (by decide +kernel) (by decide +kernel), by decide +kernel⟩
theorem witness_TimingTables_4 : ∃ (s : State) (o : Nat), Serving s ∧ (o % 4 = 0) ∧ ((0x40 ≤ o ∧ o < 0xE0) ∨ (0x800 ≤ o ∧ o < 0x1000)) :=
  ⟨stBound small, 0x40, serving_of (by decide +kernel) (by decide +kernel) (by decide +kernel) (by decide +kernel), by decide +kernel⟩
theorem witness_Microcode_1 : ∃ (s : State) (n : Fin 8) (m : Micro), Serving s ∧ (s.bursting n.val = true) ∧ ((s.psq n.val).hold = .none) ∧ ((s.psq n.val).emit = none) ∧ ((s.psq n.val).micro = some m) ∧ (m.stage = .first) ∧ (m.used ≤ natBits (s.dispatch n.val (opcodeOf (s.instr n.val))) 28 24) ∧ (nanoBad (s.nano n.val m) = false) ∧ (badOps (natBits (s.nano n.val m) 144 141) (natBits (s.nano n.val m) 140 137) (natBits (s.nano n.val m) 136 121) = false) ∧ (natBits (s.nano n.val m) 177 172 = 0x10) :=
  ⟨stMicU small, 3, ⟨12288, 0, .first, none⟩, serving_of (by decide +kernel) (by decide +kernel) (by decide +kernel) (by decide +kernel), by decide +kernel⟩
theorem witness_Microcode_2 : ∃ (s : State) (n : Fin 8) (m : Micro), Serving s ∧ (s.bursting n.val = true) ∧ ((s.psq n.val).hold = .none) ∧ ((s.psq n.val).emit = none) ∧ ((s.psq n.val).micro = some m) ∧ (m.stage = .first) ∧ (m.used ≤ natBits (s.dispatch n.val (opcodeOf (s.instr n.val))) 28 24) ∧ (nanoBad (s.nano n.val m) = false) ∧ (badOps (natBits (s.nano n.val m) 144 141) (natBits (s.nano n.val m) 140 137) (natBits (s.nano n.val m) 136 121) = false) ∧ (natBits (s.nano n.val m) 177 172 = 0x11) :=
  ⟨stMicX small, 3, ⟨12288, 0, .first, none⟩, serving_of (by decide +kernel) (by decide +kernel) (by decide +kernel) (by decide +kernel), by decide +kernel⟩
theorem witness_Microcode_3 : ∃ (s : State) (n : Fin 8) (m : Micro), Serving s ∧ (s.bursting n.val = true) ∧ ((s.psq n.val).hold = .none) ∧ ((s.psq n.val).emit = none) ∧ ((s.psq n.val).micro = some m) ∧ (m.stage = .first) ∧ (m.used ≤ natBits (s.dispatch n.val (opcodeOf (s.instr n.val))) 28 24) ∧ (nanoBad (s.nano n.val m) = false) ∧ (badOps (natBits (s.nano n.val m) 144 141) (natBits (s.nano n.val m) 140 137) (natBits (s.nano n.val m) 136 121) = false) ∧ (natBits (s.nano n.val m) 177 172 = 0x12) :=
  ⟨stMicY small, 3, ⟨12288, 0, .first, none⟩, serving_of (by decide +kernel) (by decide +kernel) (by decide +kernel) (by decide +kernel), by decide +kernel⟩
theorem witness_Microcode_4 : ∃ (s : State) (n : Fin 8) (m : Micro), Serving s ∧ (s.bursting n.val = true) ∧ ((s.psq n.val).hold = .none) ∧ ((s.psq n.val).emit = none) ∧ ((s.psq n.val).micro = some m) ∧ (m.stage = .first) ∧ (m.used ≤ natBits (s.dispatch n.val (opcodeOf (s.instr n.val))) 28 24) ∧ (nanoBad (s.nano n.val m) = false) ∧ (badOps (natBits (s.nano n.val m) 144 141) (natBits (s.nano n.val m) 140 137) (natBits (s.nano n.val m) 136 121) = false) ∧ (0x13 ≤ natBits (s.nano n.val m) 177 172) ∧ (natBits (s.nano n.val m) 177 172 ≤ 0x16) :=
  ⟨stMicD small, 3, ⟨12288, 0, .first, none⟩, serving_of (by decide +kernel) (by decide +kernel) (by decide +kernel) (by decide +kernel), by decide +kernel⟩
theorem witness_Microcode_5 : ∃ (s : State) (n : Fin 8) (m : Micro), Serving s ∧ (s.bursting n.val = true) ∧ ((s.psq n.val).hold = .none) ∧ ((s.psq n.val).emit = none) ∧ ((s.psq n.val).micro = some m) ∧ (m.stage = .first) ∧ (m.used ≤ natBits (s.dispatch n.val (opcodeOf (s.instr n.val))) 28 24) ∧ (nanoBad (s.nano n.val m) = false) ∧ (badOps (natBits (s.nano n.val m) 144 141) (natBits (s.nano n.val m) 140 137) (natBits (s.nano n.val m) 136 121) = false) ∧ (natBits (s.nano n.val m) 177 172 = 0x18) :=
  ⟨stMicP small, 3, ⟨12288, 0, .first, none⟩, serving_of (by decide +kernel) (by decide +kernel) (by decide +kernel) (by decide +kernel), by decide +kernel⟩
theorem witness_Microcode_6 : ∃ (s : State) (n : Fin 8) (m : Micro), Serving s ∧ (s.bursting n.val = true) ∧ ((s.psq n.val).hold = .none) ∧ ((s.psq n.val).emit = none) ∧ ((s.psq n.val).micro = some m) ∧ (m.stage = .first) ∧ (m.used ≤ natBits (s.dispatch n.val (opcodeOf (s.instr n.val))) 28 24) ∧ (nanoBad (s.nano n.val m) = false) ∧ (badOps (natBits (s.nano n.val m) 144 141) (natBits (s.nano n.val m) 140 137) (natBits (s.nano n.val m) 136 121) = false) ∧ (funcOf (natBits (s.nano n.val m) 177 172) = none) ∧ (natBits (s.nano n.val m) 177 172 = 0) :=
  ⟨stMicEnd small, 3, ⟨12288, 0, .first, none⟩, serving_of (by decide +kernel) (by decide +kernel) (by decide +kernel) (by decide +kernel), by decide +kernel⟩
theorem witness_Microcode_7 : ∃ (s : State) (n : Fin 8) (m : Micro), Serving s ∧ (s.bursting n.val = true) ∧ ((s.psq n.val).hold = .none) ∧ ((s.psq n.val).emit = none) ∧ ((s.psq n.val).micro = some m) ∧ (m.stage = .first) ∧ (natBits (s.dispatch n.val (opcodeOf (s.instr n.val))) 28 24 < m.used ∨ nanoBad (s.nano n.val m) = true) :=
  ⟨stMicBad small, 3, ⟨12288, 0, .first, none⟩, serving_of (by decide +kernel) (by decide +kernel) (by decide +kernel) (by decide +kernel), by decide +kernel⟩
theorem witness_ControlStores_1 : ∃ (s : State), Serving s :=
  ⟨stBound small, serving_of (by decide +kernel) (by decide +kernel) (by decide +kernel) (by decide +kernel)⟩
theorem witness_ControlStores_2 : ∃ (s : State) (n : Fin 8) (j : MceJob), Serving s ∧ ((s.mceOf n.val).job = some j) ∧ (j.src = 0) :=
  ⟨stMceJob small, 3, ⟨0, 0x20000, 0⟩, serving_of (by decide +kernel) (by decide +kernel) (by decide +kernel) (by decide +kernel), by decide +kernel⟩
theorem witness_ControlStores_3 : ∃ (s : State), Serving s ∧ (s.dev = .ready) ∧ (s.anyRunning = false) :=
  ⟨stBound small, serving_of (by decide +kernel) (by decide +kernel) (by decide +kernel) (by decide +kernel), by decide +kernel⟩
theorem witness_LoadsAndStarts_1 : ∃ (s : State), Serving s :=
  ⟨stBound small, serving_of (by decide +kernel) (by decide +kernel) (by decide +kernel) (by decide +kernel)⟩
theorem witness_LoadsAndStarts_2 : ∃ (s : State) (n : Fin 8) (p : Program) (d : Nat) (h : Nat), Serving s ∧ ((s.psq n.val).load = some (p, some (d, h))) :=
  ⟨stPre small, 3, ⟨0, 8, 0x1000, [], [(0, 1)]⟩, 5, 0, serving_of (by decide +kernel) (by decide +kernel) (by decide +kernel) (by decide +kernel), by decide +kernel⟩
theorem witness_LoadsAndStarts_3 : ∃ (s : State) (n : Fin 8), Serving s ∧ ((s.psq n.val).check = .due) ∧ ((s.psq n.val).fromPiste = false) ∧ ((s.psq n.val).awaiting = []) ∧ ((∀ i ∈ s.sitesOf n.val, (s.bitmapOf n.val i).isSome = true)) :=
  ⟨stDue small, 3, serving_of (by decide +kernel) (by decide +kernel) (by decide +kernel) (by decide +kernel), by decide +kernel⟩
theorem witness_LoadsAndStarts_4 : ∃ (s : State) (e : PstEntry), Serving s ∧ (s.dueEntry 1 = some e) ∧ (e.target = 0) :=
  ⟨stDueSt0 small, ent 1 0 0, serving_of (by decide +kernel) (by decide +kernel) (by decide +kernel) (by decide +kernel), by decide +kernel⟩
theorem witness_LoadsAndStarts_5 : ∃ (s : State) (e : PstEntry) (n : Nat), Serving s ∧ (s.dueEntry 1 = some e) ∧ (e.target = 2 ^ n) ∧ (n < 8) ∧ ((s.psq n).check = .passed) ∧ ((s.psq n).fromPiste = true) ∧ ((s.psq n).t0F = e.f) ∧ ((s.psq n).t0P = e.p) ∧ ((s.psq n).refused = none) ∧ (s.psqRunning n = true) :=
  ⟨stDueSt small, ent 1 8 0, 3, serving_of (by decide +kernel) (by decide +kernel) (by decide +kernel) (by decide +kernel), by decide +kernel⟩
theorem witness_BurstsBeginAndEnd_1 : ∃ (s : State) (n : Fin 8), Serving s ∧ ((s.psq n.val).check = .passed) ∧ (s.reached (s.psq n.val).t0F (s.psq n.val).t0P = true) ∧ (s.dev = .armed ∨ s.dev = .run) ∧ (s.flag .plk 0 PLK_STAT_FEEDING = false) :=
  ⟨stTau0 small, 3, serving_of (by decide +kernel) (by decide +kernel) (by decide +kernel) (by decide +kernel), by decide +kernel⟩
theorem witness_BurstsBeginAndEnd_2 : ∃ (s : State), Serving s :=
  ⟨stBound small, serving_of (by decide +kernel) (by decide +kernel) (by decide +kernel) (by decide +kernel)⟩
theorem witness_BurstsBeginAndEnd_3 : ∃ (s : State) (n : Fin 8) (c : Nat) (f : Nat) (l : Nat), Serving s ∧ (s.psqBurst n.val = true) ∧ (s.outcomesDue n.val = false) ∧ (s.endOf n.val = some (c, f, l)) ∧ (c < 9 ∧ f < 256 ∧ l < 8) ∧ ((∀ k ∈ s.psqPins n.val, (s.pin k).compares = [] ∧ k < 768)) :=
  ⟨stEndHalt small, 3, 1, 0, 0, serving_of (by decide +kernel) (by decide +kernel) (by decide +kernel) (by decide +kernel), by decide +kernel⟩
theorem witness_ObjectsAndBar2_1 : ∃ (s : State), Serving s :=
  ⟨stReady small, serving_of (by decide +kernel) (by decide +kernel) (by decide +kernel) (by decide +kernel)⟩
theorem witness_ObjectsAndBar2_2 : ∃ (s : State) (g : Nat), Serving s ∧ (s.vs.job = some (.alloc g)) :=
  ⟨stAlloc1 small, 1, serving_of (by decide +kernel) (by decide +kernel) (by decide +kernel) (by decide +kernel), by decide +kernel⟩
theorem witness_ObjectsAndBar2_3 : ∃ (s : State) (h : Word), Serving s ∧ (s.vs.job = some (.free h)) :=
  ⟨stFree1 small, 0x10000, serving_of (by decide +kernel) (by decide +kernel) (by decide +kernel) (by decide +kernel), by decide +kernel⟩
theorem witness_ObjectsAndBar2_4 : ∃ (s : State) (addr : Nat) (len : Nat) (a : Nat), Serving s ∧ ((∀ i < len, s.bar2At (addr + i) = .mem (a + i))) ∧ ((∀ i < len, s.vsPoison ((a + i) / 8) = false ∧ s.chFailed (vsChannel (a + i)) = false)) :=
  ⟨stWin small, 64, 8, 458816, serving_of (by decide +kernel) (by decide +kernel) (by decide +kernel) (by decide +kernel), by decide +kernel⟩
theorem witness_ObjectsAndBar2_5 : ∃ (s : State) (addr : Nat) (len : Nat), Serving s ∧ ((∀ i < len, s.bar2At (addr + i) = .outside)) ∧ (0 < len) :=
  ⟨stReady small, 0, 8, serving_of (by decide +kernel) (by decide +kernel) (by decide +kernel) (by decide +kernel), by decide +kernel⟩
theorem witness_ObjectsAndBar2_6 : ∃ (s : State) (addr : Nat) (len : Nat), Serving s ∧ ((∀ i < len, s.bar2At (addr + i) = .sealedByte)) ∧ (0 < len) :=
  ⟨stWinSeal small, 0, 8, serving_of (by decide +kernel) (by decide +kernel) (by decide +kernel) (by decide +kernel), by decide +kernel⟩
theorem witness_ObjectsAndBar2_7 : ∃ (s : State) (addr : Nat) (a : Nat) (data : List (Option Byte)), Serving s ∧ ((∀ i < data.length, s.bar2At (addr + i) = .mem (a + i))) ∧ ((∀ i < data.length, s.vsPoison ((a + i) / 8) = false ∧ s.chFailed (vsChannel (a + i)) = false ∧ s.granuleRunning ((a + i) / 65536) = [])) :=
  ⟨stWin small, 64, 458816, [some 1, none, some 3], serving_of (by decide +kernel) (by decide +kernel) (by decide +kernel) (by decide +kernel), by decide +kernel⟩
theorem witness_ObjectsAndBar2_8 : ∃ (s : State) (addr : Nat) (data : List (Option Byte)), Serving s ∧ ((∀ i < data.length, s.bar2At (addr + i) = .outside)) ∧ ((data.any Option.isSome) = true) :=
  ⟨stReady small, 0, [some 1, none], serving_of (by decide +kernel) (by decide +kernel) (by decide +kernel) (by decide +kernel), by decide +kernel⟩
theorem witness_ObjectsAndBar2_9 : ∃ (s : State) (addr : Nat) (a : Nat) (data : List (Option Byte)), Serving s ∧ ((∀ i < data.length, s.bar2At (addr + i) = .mem (a + i))) ∧ ((∀ i < data.length, s.granuleRunning ((a + i) / 65536) ≠ [])) ∧ ((data.any Option.isSome) = true) :=
  ⟨stWinRun small, 64, 458816, [some 1, none, some 3], serving_of (by decide +kernel) (by decide +kernel) (by decide +kernel) (by decide +kernel), by decide +kernel⟩
theorem witness_StoreErrorsAndTheLift_1 : ∃ (s : State), Serving s :=
  ⟨stReady small, serving_of (by decide +kernel) (by decide +kernel) (by decide +kernel) (by decide +kernel)⟩
theorem witness_StoreErrorsAndTheLift_2 : ∃ (s : State) (c : MapCmd), Serving s ∧ (s.vs.mapCmd = some c) :=
  ⟨stMapA small, .mapVs 5 2 0x10000 0, serving_of (by decide +kernel) (by decide +kernel) (by decide +kernel) (by decide +kernel), by decide +kernel⟩
theorem witness_StoreErrorsAndTheLift_3 : ∃ (s : State) (n : Fin 8) (b : Nat) (a : Nat) (p : Program), Serving s ∧ ((s.psq n.val).prog = some p) ∧ ((s.psq n.val).asked.contains b = true) ∧ (s.fedByLink n.val = false) ∧ (s.blockPhys b = some a) ∧ ((s.pinnedPages n.val p).length ≤ 48) ∧ (s.paired = false) :=
  ⟨stFill small, 3, 1, 458816, ⟨0, 8, 0x1000, [some ⟨64, 6, 0, true⟩, none, some ⟨64, 5, 0, false⟩], [(0, 1)]⟩, serving_of (by decide +kernel) (by decide +kernel) (by decide +kernel) (by decide +kernel), by decide +kernel⟩
theorem witness_StoreErrorsAndTheLift_4 : ∃ (s : State) (v : Nat) (f : HostFetch), Serving s ∧ (s.vs.fetches.find? (fun x => x.vpn == v) = some f) :=
  ⟨stHostWay small, 6, ⟨6, 7, 0⟩, serving_of (by decide +kernel) (by decide +kernel) (by decide +kernel) (by decide +kernel), by decide +kernel⟩
theorem witness_StoreErrorsAndTheLift_5 : ∃ (s : State) (v : Nat) (f : HostFetch), Serving s ∧ (s.vs.fetches.find? (fun x => x.vpn == v) = some f) ∧ (s.hif.perst = false) ∧ (s.hif.linkUp = true) :=
  ⟨stHostWay small, 6, ⟨6, 7, 0⟩, serving_of (by decide +kernel) (by decide +kernel) (by decide +kernel) (by decide +kernel), by decide +kernel⟩
theorem witness_MeasurementRequests_1 : ∃ (s : State), Serving s :=
  ⟨stMsr small, serving_of (by decide +kernel) (by decide +kernel) (by decide +kernel) (by decide +kernel)⟩
theorem witness_MeasurementRequests_2 : ∃ (s : State), Serving s ∧ ((∀ c < 24, ∀ r ∈ (s.measOf c).reqs, r.released.isSome = true → r.items ≠ [])) ∧ ((∀ c < 24, (s.measOf c).reqs.Pairwise fun r q => r.same q = false)) :=
  ⟨stMsrQ small, serving_of (by decide +kernel) (by decide +kernel) (by decide +kernel) (by decide +kernel), by decide +kernel⟩
theorem witness_MeasurementRequests_3 : ∃ (s : State) (e : PstEntry), Serving s ∧ (s.dueEntry 9 = some e) ∧ ((∀ c < 24, ∀ r ∈ (s.measOf c).reqs, r.released.isSome = true → r.items ≠ [])) ∧ ((∀ c < 24, (s.measOf c).reqs.Pairwise fun r q => r.same q = false)) :=
  ⟨stDueMsr small, ent 9 0 9, serving_of (by decide +kernel) (by decide +kernel) (by decide +kernel) (by decide +kernel), by decide +kernel⟩
theorem witness_MeasurementRequests_4 : ∃ (s : State) (b : Fin 24), Serving s ∧ ((∀ x ∈ (s.measOf b.val).run, ∃ r ∈ (s.measOf b.val).reqs, r.same x.1 = true ∧ r.group = x.1.group)) :=
  ⟨stMsrQ small, 2, serving_of (by decide +kernel) (by decide +kernel) (by decide +kernel) (by decide +kernel), by decide +kernel⟩
theorem witness_DispatchAndDelivery_1 : ∃ (s : State), Serving s :=
  ⟨stMsrQ small, serving_of (by decide +kernel) (by decide +kernel) (by decide +kernel) (by decide +kernel)⟩
theorem witness_DispatchAndDelivery_2 : ∃ (s : State) (b : Fin 24) (r : MsrReq) (it : MsrItem) (at_ : Nat), Serving s ∧ ((s.measOf b.val).run = some (r, it, at_)) ∧ ((∀ i ∈ it.site, i < 256)) ∧ ((∀ q ∈ (s.measOf b.val).reqs, ∀ p ∈ (s.measOf b.val).reqs, q.same p = true → q = p)) :=
  ⟨stMsrRun small, 2, rqA, ⟨none, 5⟩, 3, serving_of (by decide +kernel) (by decide +kernel) (by decide +kernel) (by decide +kernel), by decide +kernel⟩
theorem witness_DispatchAndDelivery_3 : ∃ (s : State) (b : Fin 24), Serving s ∧ (s.flag .pmu b.val PMU_STAT_CONNECTED = true) :=
  ⟨stPmuConn small, 2, serving_of (by decide +kernel) (by decide +kernel) (by decide +kernel) (by decide +kernel), by decide +kernel⟩
theorem witness_ArmingACapture_1 : ∃ (s : State), Serving s :=
  ⟨stCap0 small, serving_of (by decide +kernel) (by decide +kernel) (by decide +kernel) (by decide +kernel)⟩
theorem witness_ArmingACapture_2 : ∃ (s : State) (e : PstEntry), Serving s ∧ (s.dueEntry 7 = some e) ∧ (e.target < 24) :=
  ⟨stDueArm small, ent 7 2 0, serving_of (by decide +kernel) (by decide +kernel) (by decide +kernel) (by decide +kernel), by decide +kernel⟩
theorem witness_ArmingACapture_3 : ∃ (s : State) (off : Nat), Serving s ∧ (isCapReg off = true) :=
  ⟨stCap0 small, 0x200, serving_of (by decide +kernel) (by decide +kernel) (by decide +kernel) (by decide +kernel), by decide +kernel⟩
theorem witness_ArmingACapture_4 : ∃ (s : State) (b : Fin 24) (c : Capture), Serving s ∧ ((s.measOf b.val).cap = some c) ∧ (c.entry.length = 8 ∨ c.stage ≠ .post) :=
  ⟨stCapR0 small, 2, cR 0, serving_of (by decide +kernel) (by decide +kernel) (by decide +kernel) (by decide +kernel), by decide +kernel⟩
theorem witness_ArmingACapture_5 : ∃ (s : State) (b : Fin 24) (c : Capture) (rd : Bool) (since : Nat), Serving s ∧ ((s.measOf b.val).cap = some c) ∧ (c.stage = .rearm rd since) :=
  ⟨stCapR3 small, 2, cR 3, false, 1, serving_of (by decide +kernel) (by decide +kernel) (by decide +kernel) (by decide +kernel), by decide +kernel⟩
theorem witness_TimeMeasurement_1 : ∃ (s : State), Serving s :=
  ⟨stTmu small, serving_of (by decide +kernel) (by decide +kernel) (by decide +kernel) (by decide +kernel)⟩
theorem witness_TimeMeasurement_2 : ∃ (s : State) (e : PstEntry), Serving s ∧ (s.dueEntry 8 = some e) ∧ (e.target < 16) :=
  ⟨stDueTmu small, ent 8 5 0, serving_of (by decide +kernel) (by decide +kernel) (by decide +kernel) (by decide +kernel), by decide +kernel⟩
theorem witness_TimeMeasurement_3 : ∃ (s : State), Serving s ∧ (s.mult ≠ 0) :=
  ⟨stTmu small, serving_of (by decide +kernel) (by decide +kernel) (by decide +kernel) (by decide +kernel), by decide +kernel⟩
theorem witness_TimeMeasurement_4 : ∃ (s : State) (u : Fin 16), Serving s ∧ (s.tmuState u.val = 2) :=
  ⟨stTmuRun small, 5, serving_of (by decide +kernel) (by decide +kernel) (by decide +kernel) (by decide +kernel), by decide +kernel⟩
theorem witness_TimeMeasurement_5 : ∃ (s : State) (off : Nat), Serving s ∧ (isTmuConfig off = true) :=
  ⟨stTmu small, 0xC, serving_of (by decide +kernel) (by decide +kernel) (by decide +kernel) (by decide +kernel), by decide +kernel⟩
theorem witness_TimeMeasurement_6 : ∃ (s : State) (u : Fin 16), Serving s ∧ (s.tmuBusy u.val = false) :=
  ⟨stTmu small, 5, serving_of (by decide +kernel) (by decide +kernel) (by decide +kernel) (by decide +kernel), by decide +kernel⟩
theorem witness_GuardMonitors_1 : ∃ (s : State), Serving s :=
  ⟨stReady small, serving_of (by decide +kernel) (by decide +kernel) (by decide +kernel) (by decide +kernel)⟩
theorem witness_Temperature_1 : ∃ (s : State) (rs : List Reading), Serving s ∧ (rs.length = 32) :=
  ⟨stReady small, rd32 500, serving_of (by decide +kernel) (by decide +kernel) (by decide +kernel) (by decide +kernel), by decide +kernel⟩
theorem witness_Temperature_2 : ∃ (s : State), Serving s :=
  ⟨stReady small, serving_of (by decide +kernel) (by decide +kernel) (by decide +kernel) (by decide +kernel)⟩
theorem witness_Temperature_3 : ∃ (s : State) (off : Nat), Serving s ∧ (off % 4 = 0) ∧ (0x40 ≤ off) ∧ (off ≤ 0x50) :=
  ⟨stReady small, 0x40, serving_of (by decide +kernel) (by decide +kernel) (by decide +kernel) (by decide +kernel), by decide +kernel⟩
theorem witness_CalibrationRuns_1 : ∃ (s : State), Serving s :=
  ⟨stCalS small, serving_of (by decide +kernel) (by decide +kernel) (by decide +kernel) (by decide +kernel)⟩
theorem witness_CalibrationRuns_2 : ∃ (s : State) (r : Fin 25) (st : CalStep), Serving s ∧ ((s.calRec r.val).step = some st) ∧ (Acked s 0x41000 1) ∧ (st.index < 32 ∧ st.item < 16) :=
  ⟨stCalSt9 small, 24, ⟨9, 2, 0, some 15⟩, serving_of (by decide +kernel) (by decide +kernel) (by decide +kernel) (by decide +kernel), by decide +kernel⟩
theorem witness_CalibrationRuns_3 : ∃ (s : State) (r : Fin 25) (w : CalWrite) (ws : List CalWrite), Serving s ∧ ((s.calRec r.val).writes = w :: ws) ∧ ((s.calRec r.val).copies.length = 3) :=
  ⟨stCalW0 small, 3, ⟨0, 2, CalData.factory, true⟩, [⟨1, 2, CalData.factory, true⟩, ⟨2, 2, CalData.factory, true⟩], serving_of (by decide +kernel) (by decide +kernel) (by decide +kernel) (by decide +kernel), by decide +kernel⟩
theorem witness_SpdmResponder_1 : ∃ (s : State), Serving s ∧ (s.hif.perst = false) :=
  ⟨stReady small, serving_of (by decide +kernel) (by decide +kernel) (by decide +kernel) (by decide +kernel), by decide +kernel⟩
theorem witness_TokensAndBundles_1 : ∃ (s : State), Serving s :=
  ⟨stReady small, serving_of (by decide +kernel) (by decide +kernel) (by decide +kernel) (by decide +kernel)⟩
theorem witness_TokensAndBundles_2 : ∃ (s : State) (j : SecJob), Serving s ∧ (s.sec.job = some j) ∧ (j.psq < 8) ∧ (j.bundle.counter < 64) ∧ (j.bundle.version < 2 ^ 32) :=
  ⟨stBunJob small, bjob, serving_of (by decide +kernel) (by decide +kernel) (by decide +kernel) (by decide +kernel), by decide +kernel⟩
theorem witness_PairsLink_1 : ∃ (s : State), Serving s ∧ (Acked s 0x50000 1) :=
  ⟨stReady small, serving_of (by decide +kernel) (by decide +kernel) (by decide +kernel) (by decide +kernel), by decide +kernel⟩
theorem witness_PairsLink_2 : ∃ (s : State), Serving s :=
  ⟨stReady small, serving_of (by decide +kernel) (by decide +kernel) (by decide +kernel) (by decide +kernel)⟩
theorem witness_PairsLink_3 : ∃ (s : State), Serving s ∧ (Acked s 0x50000 5) :=
  ⟨stReady small, serving_of (by decide +kernel) (by decide +kernel) (by decide +kernel) (by decide +kernel), by decide +kernel⟩
theorem witness_PairsMirrorAndFeed_1 : ∃ (s : State), Serving s ∧ (s.paired = true) :=
  ⟨stPlkP small, serving_of (by decide +kernel) (by decide +kernel) (by decide +kernel) (by decide +kernel), by decide +kernel⟩
theorem witness_PairsMirrorAndFeed_2 : ∃ (s : State), Serving s :=
  ⟨stPlkMir small, serving_of (by decide +kernel) (by decide +kernel) (by decide +kernel) (by decide +kernel)⟩
theorem witness_SerialMasterAndFlash_1 : ∃ (s : State), Serving s :=
  ⟨stReady small, serving_of (by decide +kernel) (by decide +kernel) (by decide +kernel) (by decide +kernel)⟩
theorem witness_SerialMasterAndFlash_2 : ∃ (s : State), Serving s ∧ (s.spm.ops = []) :=
  ⟨stReady small, serving_of (by decide +kernel) (by decide +kernel) (by decide +kernel) (by decide +kernel), by decide +kernel⟩
theorem witness_SerialMasterAndFlash_3 : ∃ (s : State) (id : Nat) (a : Nat) (bs : List Byte) (rest : List XipOp), Serving s ∧ (s.spm.ops = .program id a bs :: rest) ∧ (Acked s 0x31000 3) :=
  ⟨stSpmProg small, 4, 0x300010, [0xF0, 0x55], [.program 4 0x300100 [1], .erase 0x400000 4096], serving_of (by decide +kernel) (by decide +kernel) (by decide +kernel) (by decide +kernel), by decide +kernel⟩
theorem witness_SerialMasterAndFlash_4 : ∃ (s : State) (a : Nat) (n : Nat) (rest : List XipOp), Serving s ∧ (s.spm.ops = .erase a n :: rest) ∧ (Acked s 0x31000 3) :=
  ⟨stSpmErase small, 0x300000, 64, [.program 4 0x300100 [1]], serving_of (by decide +kernel) (by decide +kernel) (by decide +kernel) (by decide +kernel), by decide +kernel⟩
theorem witness_EventsAndNvm_1 : ∃ (s : State), Serving s ∧ (s.nvmJobs = []) :=
  ⟨stReady small, serving_of (by decide +kernel) (by decide +kernel) (by decide +kernel) (by decide +kernel), by decide +kernel⟩
theorem witness_EventsAndNvm_2 : ∃ (s : State) (u : Fin 96) (code : Nat) (conn : Bool), Serving s ∧ (nextJob s.nvmJobs = some (.puv u.val code conn)) ∧ (Acked s 0x33000 3) :=
  ⟨stNvmPuv small, 1, 77, true, serving_of (by decide +kernel) (by decide +kernel) (by decide +kernel) (by decide +kernel), by decide +kernel⟩
theorem witness_EventsAndNvm_3 : ∃ (s : State) (v : Nat), Serving s ∧ (nextJob s.nvmJobs = some (.opsec v)) ∧ (Acked s 0x33000 3) :=
  ⟨stNvmOps small, 99, serving_of (by decide +kernel) (by decide +kernel) (by decide +kernel) (by decide +kernel), by decide +kernel⟩
theorem witness_EventsAndNvm_4 : ∃ (s : State) (v : Nat), Serving s ∧ (nextJob s.nvmJobs = some (.fwSvn v)) ∧ (Acked s 0x33000 3) ∧ (Acked s 0x20000 5) :=
  ⟨stNvmSvn small, 9, serving_of (by decide +kernel) (by decide +kernel) (by decide +kernel) (by decide +kernel), by decide +kernel⟩
theorem witness_EventsAndNvm_5 : ∃ (s : State), Serving s :=
  ⟨stReady small, serving_of (by decide +kernel) (by decide +kernel) (by decide +kernel) (by decide +kernel)⟩
theorem witness_EventsAndNvm_6 : ∃ (s : State), Serving s ∧ (s.evr.queue = [] ∨ s.evr.clearing.isSome = true) :=
  ⟨stReady small, serving_of (by decide +kernel) (by decide +kernel) (by decide +kernel) (by decide +kernel), by decide +kernel⟩
theorem witness_EventsAndNvm_7 : ∃ (s : State) (x : EvrIn), Serving s ∧ (nextEntry s.evr.queue = some x) ∧ (s.evr.clearing = none) ∧ (s.evr.queue.length ≤ 32) ∧ (Acked s 0x32000 2) :=
  ⟨stEvrQ1 small, (eIn 1 1), serving_of (by decide +kernel) (by decide +kernel) (by decide +kernel) (by decide +kernel), by decide +kernel⟩
theorem witness_EventsAndNvm_8 : ∃ (s : State), Serving s ∧ (s.evr.since = 0 ∨ s.evr.queue ≠ [] ∨ s.evr.held ≠ [] ∨ s.evr.clearing.isSome = true) :=
  ⟨stReady small, serving_of (by decide +kernel) (by decide +kernel) (by decide +kernel) (by decide +kernel), by decide +kernel⟩
theorem witness_EventsAndNvm_9 : ∃ (s : State), Serving s ∧ (0 < s.evr.since) ∧ (s.evr.queue = []) ∧ (s.evr.held = []) ∧ (s.evr.clearing = none) ∧ ((∀ d ∈ s.evr.drops, d.2 < 2 ^ 32)) :=
  ⟨stEvrSum small, serving_of (by decide +kernel) (by decide +kernel) (by decide +kernel) (by decide +kernel), by decide +kernel⟩
theorem witness_EventsAndNvm_10 : ∃ (s : State), Serving s ∧ (s.evr.clearing = none) :=
  ⟨stReady small, serving_of (by decide +kernel) (by decide +kernel) (by decide +kernel) (by decide +kernel), by decide +kernel⟩
theorem witness_EventsAndNvm_11 : ∃ (s : State) (m : Nat) (r : Role), Serving s ∧ (s.evr.clearing = some (m, r)) ∧ (Acked s 0x32000 3) :=
  ⟨stEvrClr small, 2, .owner, serving_of (by decide +kernel) (by decide +kernel) (by decide +kernel) (by decide +kernel), by decide +kernel⟩
theorem witness_MailboxAndSettings_1 : ∃ (s : State), Serving s :=
  ⟨stReady small, serving_of (by decide +kernel) (by decide +kernel) (by decide +kernel) (by decide +kernel)⟩
theorem witness_MailboxAndSettings_2 : ∃ (s : State), Serving s ∧ (Acked s 0x30000 2) :=
  ⟨stReady small, serving_of (by decide +kernel) (by decide +kernel) (by decide +kernel) (by decide +kernel), by decide +kernel⟩
theorem witness_ResetsAndStartUp_1 : ∃ (s : State), Steady s :=
  ⟨stReady small, steady_of (by decide +kernel) (by decide +kernel) (by decide +kernel)⟩
theorem witness_ResetsAndStartUp_2 : ∃ (s : State), Serving s :=
  ⟨stReady small, serving_of (by decide +kernel) (by decide +kernel) (by decide +kernel) (by decide +kernel)⟩
theorem witness_ResetsAndStartUp_3 : ∃ (s : State) (nv : List NvmHit), Steady s ∧ ((∀ h ∈ nv, ∀ k, h.item ≠ .event k)) :=
  ⟨stBoot small, [], steady_of (by decide +kernel) (by decide +kernel) (by decide +kernel), by decide +kernel⟩
theorem witness_ResetsAndStartUp_4 : ∃ (s : State), Steady s ∧ (s.grave = none) :=
  ⟨stReady small, steady_of (by decide +kernel) (by decide +kernel) (by decide +kernel), by decide +kernel⟩
theorem witness_RegisterAccess_1 : ∃ (s : State) (off : Nat), Serving s ∧ (pageOf off = none ∨ off % 4 ≠ 0) :=
  ⟨stRegMix small, 0x3A040, serving_of (by decide +kernel) (by decide +kernel) (by decide +kernel) (by decide +kernel), by decide +kernel⟩
theorem witness_RegisterAccess_2 : ∃ (s : State) (off : Nat) (r : PageRef), Serving s ∧ (pageOf off = some r) ∧ (off % 4 = 0) ∧ (InHeader r ∨ ¬MayWrite s r ∨ lowWordAt r.kind r.off = true ∨ highWordAt r.kind r.off = true) :=
  ⟨stRegMix small, 0x33040, (pageOf (0x33040)).getD ⟨.hifId, 0, 0, 0, 0⟩, serving_of (by decide +kernel) (by decide +kernel) (by decide +kernel) (by decide +kernel), by decide +kernel⟩
theorem witness_RegisterAccess_3 : ∃ (s : State) (off : Nat) (r : PageRef), Serving s ∧ (pageOf off = some r) ∧ (off % 4 = 0) ∧ (¬InHeader r) ∧ (MayWrite s r) ∧ (lowWordAt r.kind r.off = false) ∧ (highWordAt r.kind r.off = false) ∧ (actsAt r.kind r.off = false) :=
  ⟨stRegMix small, 0x1040, (pageOf (0x1040)).getD ⟨.hifId, 0, 0, 0, 0⟩, serving_of (by decide +kernel) (by decide +kernel) (by decide +kernel) (by decide +kernel), by decide +kernel⟩
theorem witness_RegisterAccess_4 : ∃ (s : State) (off : Nat) (r : PageRef) (inc : Nat), Serving s ∧ (pageOf off = some r) ∧ (off % 4 = 0) ∧ (¬InHeader r) ∧ (MayWrite s r) ∧ (lowWordAt r.kind r.off = false) ∧ (highWordAt r.kind r.off = false) ∧ (actsAt r.kind r.off = true) ∧ (inc = 0) :=
  ⟨stRegMix small, 0x30040, (pageOf (0x30040)).getD ⟨.hifId, 0, 0, 0, 0⟩, 0, serving_of (by decide +kernel) (by decide +kernel) (by decide +kernel) (by decide +kernel), by decide +kernel⟩
theorem witness_RegisterAccess_5 : ∃ (s : State), Serving s :=
  ⟨stRegMix small, serving_of (by decide +kernel) (by decide +kernel) (by decide +kernel) (by decide +kernel)⟩
theorem witness_RegisterAccess_6 : ∃ (s : State) (e : PstEntry), Serving s ∧ (s.dueEntry 10 = some e) :=
  ⟨stDueReg0 small, ent 10 0x2 0x12345, serving_of (by decide +kernel) (by decide +kernel) (by decide +kernel) (by decide +kernel), by decide +kernel⟩
theorem witness_RegisterAccess_7 : ∃ (s : State) (page : Nat), Serving s ∧ (headerPage page = none) :=
  ⟨stReady small, 1, serving_of (by decide +kernel) (by decide +kernel) (by decide +kernel) (by decide +kernel), by decide +kernel⟩
theorem witness_RegisterAccess_8 : ∃ (s : State) (page : Nat) (r : PageRef), Serving s ∧ (headerPage page = some r) :=
  ⟨stRegMix small, 0, (headerPage (0)).getD ⟨.hifId, 0, 0, 0, 0⟩, serving_of (by decide +kernel) (by decide +kernel) (by decide +kernel) (by decide +kernel), by decide +kernel⟩

end Sys2Proof.Tests
end

/-! ## Scope: register access

Header writes below a page's minimum role (O5), and the register write that reaches a supply (O60). -/

namespace Sys2Proof.Machine
open Sys2Proof Reg

/-! ### What a refused access leaves -/

/-- Signalling a vector changes nothing of the host interface but the messages sent (R55, R57). -/
theorem signal_hif (s : State) (v : Nat) : (s.signal v).hif = { s.hif with sent := (s.signal v).hif.sent } := by
  unfold State.signal State.sendOrPend
  split
  · rfl
  · split <;> rfl

/-- A hardware set of INT_STAT bits changes nothing of the host interface but the messages sent. -/
theorem intSet_hif (s : State) (page : Nat) (m : Word) :
    (s.intSet page m).hif = { s.hif with sent := (s.intSet page m).hif.sent } := by
  simp only [State.intSet]
  split
  · rfl
  · exact signal_hif _ _

/-- INT_STAT of a page other than the PBA's is no pending bit of the PBA. -/
theorem intStat_not_mem_pbaOffs {page : Nat} (h : page % 0x1000 = 0) (hpba : page ≠ 0x5000) : page + 0x18 ∉ pbaOffs := by
  simp only [pbaOffs, List.mem_cons, List.not_mem_nil, or_false]
  omega

/-- The status word of a sequencer is no pending bit of the PBA. -/
theorem psqStat_not_mem_pbaOffs (n : Nat) : baseOf .psq n + 0x14 ∉ pbaOffs := by
  simp only [baseOf, pbaOffs, List.mem_cons, List.not_mem_nil, or_false]
  omega

/-- The status word of a sequencer is no page's INT_STAT. -/
theorem psqStat_ne_intStat {page : Nat} (h : page % 0x1000 = 0) (n : Nat) : baseOf .psq n + 0x14 ≠ page + 0x18 := by
  simp only [baseOf]
  omega

/-- A command that is refused for the role ends with ACCESS_DENIED of the page set, and nothing else done (R11). -/
theorem done_denied {s : State} {page : Nat} (hs : Steady s) (hp : page % 0x1000 = 0) (hpba : page ≠ 0x5000) :
    ∃ t, done (s.denied page) = .next t ∧ t.rd (page + 0x18) = s.rd (page + 0x18) ||| 0x40000000
      ∧ OnlyInts [page] [] s t := by
  have hframe := intSet_eq_with s page 0x40000000
  refine ⟨{ s.denied page with sig := [] }, done_of_steady hs ?_ ?_ fun n _ => ?_, ?_, fun o ho => ?_, ?_⟩
  · rw [State.denied, hframe]
    exact hs.1
  · rw [State.denied, hframe]
  · exact rd_intSet_other s _ (psqStat_ne_intStat hp n) (psqStat_not_mem_pbaOffs n)
  · exact rd_intSet_same s page _ (intStat_not_mem_pbaOffs hp hpba)
  · simp only [List.map_cons, List.map_nil, List.append_nil, List.cons_append, List.nil_append, List.mem_cons, not_or] at ho
    exact rd_intSet_other s _ ho.1 ho.2
  · have hsig : s.sig = [] := hs.2.1
    simp only [State.denied]
    rw [← intSet_hif s page, ← hsig]
    conv_lhs => rw [hframe]

/-! ### Header writes -/

/-- A page with a header begins at a page boundary. -/
theorem aligned_of_headerPage {page : Nat} {r : PageRef} (h : headerPage page = some r) : page % 0x1000 = 0 := by
  unfold headerPage at h
  split at h
  · split at h
    · next hc => simp only [Bool.and_eq_true, decide_eq_true_eq] at hc; exact hc.1
    · cases h
  · cases h

/-- The page of the PBA has no header. -/
theorem ne_pba_of_headerPage {page : Nat} {r : PageRef} (h : headerPage page = some r) : page ≠ 0x5000 := by
  rintro rfl
  exact absurd h (by simp [show headerPage 0x5000 = none by decide])

/-- A host write below the minimum role is refused. -/
theorem asHost_of_not_meets {s : State} {page min : Nat} {f : State → State} (hl : s.live = true)
    (hr : s.role.meets min = false) : s.asHost page min f = s.denied page := by
  simp [State.asHost, hl, hr]

/-- A write of a header register below the page's WR_MIN is refused (R47). -/
theorem header_of_not_meets {s : State} {page : Nat} {r : PageRef} {f : State → State} (hl : s.live = true)
    (hp : headerPage page = some r) (hr : s.role.meets (wrMin r.kind) = false) : s.header page f = s.denied page := by
  simp only [State.header, hp]
  exact asHost_of_not_meets hl hr

/-- A block reset below the page's WR_MIN is refused (R46, R47). -/
theorem blkReset_of_not_meets {s : State} {page : Nat} {r : PageRef} (hl : s.live = true)
    (hp : headerPage page = some r) (hr : s.role.meets (wrMin r.kind) = false) : blkReset page s = s.denied page := by
  simp only [blkReset, hp]
  exact asHost_of_not_meets hl hr

/-- Each of the five header writes ends as a refused access where the role does not meet the page's WR_MIN. -/
theorem exec_headerWrite_of_not_meets {s : State} {page : Nat} {r : PageRef} {v : Word} (hl : s.live = true)
    (hp : headerPage page = some r) (hr : s.role.meets (wrMin r.kind) = false) :
    ∀ c ∈ [Instr.intSet page v, .intEnWrite page v, .intVecWrite page v, .fltAck page v, .blkReset page],
      exec c s = done (s.denied page) := by
  have hheader : ∀ f : State → State, done (s.header page f) = done (s.denied page) := fun f => by
    rw [header_of_not_meets hl hp hr]
  simp only [List.forall_mem_cons, List.not_mem_nil, false_imp_iff, implies_true, and_true]
  refine ⟨hheader _, hheader _, hheader _, hheader _, ?_⟩
  show done (blkReset page s) = _
  rw [blkReset_of_not_meets hl hp hr]

/-- Settles O5: each header write is refused by the role's check, and a refused access does nothing but set ACCESS_DENIED. -/
theorem headerWritesNeedTheRole : Obligations.HeaderWritesNeedTheRole := by
  unfold Obligations.HeaderWritesNeedTheRole
  intro s page r v hs hp hr c hc
  rw [exec_headerWrite_of_not_meets hs.2 hp hr c hc]
  exact done_denied hs.1 (aligned_of_headerPage hp) (ne_pba_of_headerPage hp)

/-! ### A register write that reaches a supply

THM_THR_CFG holds plain fields. While a throttled region is in its pending part, MSR_EN makes the captures of its banks wait (R459).
Clearing MSR_EN lets a waiting capture of a DPS begin, and its connection takes the DPS into the range that the descriptor names (R365,
R404, R411). -/

/-- Bank 0 is on, its ACQ and DPS 0 are enabled, DPS 0 is connected, region FE0 is throttled and in its pending part, and descriptor 0 asks
for a capture of the current of DPS 0 in range 2. -/
def throttledBank : State :=
  let s := { State.reset with dev := .ready, banks := [(0, { BankSt.down with phase := .on })] }
  let s := (s.putAt .thm 0 THM_REGION_THROTTLE 0 1).putAt .thm 0 THM_REGION_PAUSING 0 1
  let s := ((s.put .acq 0 ACQ_CTRL_EN 1).put .dps 0 DPS_CTRL_EN 1).put .dps 0 DPS_STAT_CONNECTED 1
  (s.putAt .acq 0 ACQ_DESC_WORD 0 0x40004000).putAt .acq 0 ACQ_DESC_WORD 2 1

/-- The host has armed descriptor 0: the arm is admitted, and waits for the end of the throttle pause. -/
def waitingCapture : State := (throttledBank.capCtrlWrite 0 0x80000000).1

theorem waitingCapture_serving : Serving waitingCapture :=
  serving_of (by decide +kernel) (by decide +kernel) (by decide +kernel) (by decide +kernel)

/-- The THM_THR_CFG register. -/
def thrCfgRef : PageRef := ⟨.thm, 0, 0x40000, 0x40000, 0x54⟩

/-- The supplies that a command leaves. -/
def suppliesAfter (o : Host.Outcome State Fault Refusal) : SMap SupplySt :=
  match o with
  | .next t => t.sups
  | _ => []

/-- THM_THR_CFG at its reset value but for MSR_EN at 0: the waiting capture begins, and takes its hold on the range of DPS 0. -/
theorem sups_changed_by_thrCfg_write :
    suppliesAfter (exec (.registerWrite 0x40054 0xA0001450 0) waitingCapture) ≠ waitingCapture.sups := by decide +kernel

/-- Refutes O60: the write of a plain register is said to leave every supply as it is, but clearing MSR_EN of THM_THR_CFG lets a capture
begin that waits for the end of a throttle pause, and the capture holds its DPS in the range it measures in. -/
theorem not_registerAccess : ¬ Obligations.RegisterAccess := by
  unfold Obligations.RegisterAccess
  intro h
  obtain ⟨-, -, hplain, -⟩ := h waitingCapture waitingCapture_serving
  obtain ⟨t, ht, -, -, -, -, -, -, -, -, -, hsups⟩ := hplain 0x40054 thrCfgRef 0xA0001450 0 (by decide) (by decide) (by decide)
    (by decide +kernel) (by decide) (by decide) (by decide)
  apply sups_changed_by_thrCfg_write
  rw [ht]
  exact hsups

end Sys2Proof.Machine

namespace Sys2Proof.Machine
open Sys2Proof Reg

/-! ### What reporting leaves -/

/-- What reporting on a page may change: its INT_STAT, where no bit falls, its fault state, the pending bits and messages of its vector, the
recorder's ingress, and the count of free values. -/
structure ReportsOn (page : Nat) (s t : State) : Prop where
  frame : t = { s with regs := t.regs, hif := t.hif, faults := t.faults, evr := t.evr, free := t.free, sig := t.sig }
  hif : t.hif = { s.hif with sent := t.hif.sent }
  faults : FaultsBut [page] s t
  rd : ∀ o, o ≠ page + 0x18 → o ∉ pbaOffs → o ∉ evrOffs → t.rd o = s.rd o
  ints : page + 0x18 ∉ pbaOffs ++ evrOffs → ∀ i, (s.intStat page).getLsbD i = true → (t.intStat page).getLsbD i = true

namespace ReportsOn

theorem refl (page : Nat) (s : State) : ReportsOn page s s :=
  ⟨rfl, rfl, fun _ _ => rfl, fun _ _ _ _ => rfl, fun _ _ h => h⟩

theorem trans {page : Nat} {s t u : State} (h1 : ReportsOn page s t) (h2 : ReportsOn page t u) : ReportsOn page s u where
  frame := by rw [h2.frame, h1.frame]
  hif := by rw [h2.hif, h1.hif]
  faults q hq := (h2.faults q hq).trans (h1.faults q hq)
  rd o ho hp he := (h2.rd o ho hp he).trans (h1.rd o ho hp he)
  ints hn i hi := h2.ints hn i (h1.ints hn i hi)

theorem intSet (page : Nat) (s : State) (m : Word) : ReportsOn page s (s.intSet page m) where
  frame := by rw [intSet_eq_with]
  hif := intSet_hif s page m
  faults q _ := by rw [intSet_eq_with]; rfl
  rd o ho hp _ := rd_intSet_other s m ho hp
  ints hn i hi := by
    rw [List.mem_append, not_or] at hn
    rw [State.intStat, rd_intSet_same s page m hn.1, BitVec.getLsbD_or, ← State.intStat, hi, Bool.true_or]

theorem setFault (page : Nat) (s : State) (pf : PageFault) : ReportsOn page s (s.setFault page pf) where
  frame := rfl
  hif := rfl
  faults q hq := by rw [fault_setFault, if_neg (List.ne_of_not_mem_cons hq)]
  rd _ _ _ _ := rfl
  ints _ _ h := h

theorem drawn (page : Nat) (s : State) : ReportsOn page s s.drawn := ⟨rfl, rfl, fun _ _ => rfl, fun _ _ _ _ => rfl, fun _ _ h => h⟩

/-- What only the recorder's ingress, its registers and the messages sent show counts as a report on any page. -/
theorem of_ingress {page : Nat} {s t : State}
    (hf : t = { s with evr := t.evr, regs := t.regs, hif := t.hif, sig := t.sig }) (hh : t.hif = { s.hif with sent := t.hif.sent })
    (hr : ∀ o, o ∉ pbaOffs → o ∉ evrOffs → t.rd o = s.rd o) : ReportsOn page s t where
  frame := by rw [hf]
  hif := hh
  faults q _ := by rw [hf]; rfl
  rd o _ hp he := hr o hp he
  ints hn i hi := by
    rw [List.mem_append, not_or] at hn
    rwa [State.intStat, hr _ hn.1 hn.2]

/-- A dropped entry counts in EVR_DROPPED and sets INT_STAT.DROPPED of the recorder (R541). -/
theorem evrDrop (page : Nat) (s : State) (x : EvrIn) : ReportsOn page s (s.evrDrop x) := by
  have hf : s.evrDrop x = { s with
      evr := (s.evrDrop x).evr, regs := (s.evrDrop x).regs, hif := (s.evrDrop x).hif, sig := (s.evrDrop x).sig } := by
    simp only [State.evrDrop, State.int]
    rw [intSet_eq_with, State.bump, bumpBy_eq_with]
  refine of_ingress hf ?_ fun o hp he => ?_
  · simp only [State.evrDrop, State.int]
    rw [intSet_hif, State.bump, bumpBy_eq_with]
  · simp only [evrOffs, List.mem_cons, List.not_mem_nil, or_false, not_or] at he
    simp only [State.evrDrop, State.int]
    exact (rd_intSet_other _ _ he.1 hp).trans (rd_bumpBy_other _ he.2 he.2)

/-- An entry is offered to the recorder's ingress (R541). -/
theorem evrOffer (page : Nat) (s : State) (x : EvrIn) : ReportsOn page s (s.evrOffer x) := by
  unfold State.evrOffer
  split
  · exact of_ingress rfl rfl fun _ _ _ => rfl
  · split
    · exact of_ingress rfl rfl fun _ _ _ => rfl
    · split
      · exact evrDrop page s x
      · split
        · next y _ => exact (evrDrop page s y).trans (of_ingress rfl rfl fun _ _ _ => rfl)
        · exact of_ingress rfl rfl fun _ _ _ => rfl

/-- An interrupt cause of a page. -/
theorem int (s : State) (k : PageKind) (i b : Nat) : ReportsOn (pageBase k i) s (s.int k i b) := intSet _ s _

/-- An entry that the page records below Critical (R59, R60). -/
theorem raise {s : State} {k : PageKind} {i cls base : Nat} (d : Word)
    (h : recordedLevel (s.fault (pageBase k i)) cls base < 4) : ReportsOn (pageBase k i) s (s.raise k i cls base d) := by
  have hset : ∀ (c : Prop) [Decidable c] (u : State) (m : Word), ReportsOn (pageBase k i) u (if c then u.intSet (pageBase k i) m else u) := by
    intro c _ u m
    split
    · exact intSet _ u m
    · exact refl _ u
  simp only [State.raise, State.recordFault, h, if_true, ← ite_not (recordedLevel _ _ _ < 2)]
  exact (((setFault _ s _).trans (hset _ _ _)).trans (hset _ _ _)).trans (evrOffer _ _ _)

/-- An entry at Notice or Info (R60). -/
theorem raiseOpen (s : State) (k : PageKind) (i cls : Nat) {base : Nat} (h : base < 2) :
    ReportsOn (pageBase k i) s (s.raiseOpen k i cls base) :=
  (raise _ (by rw [recordedLevel_low _ _ _ h]; omega)).trans (drawn _ _)

end ReportsOn

/-- What changes the recorder's ingress, messages and registers leaves the fault state. -/
theorem evrOffer_fault (s : State) (x : EvrIn) (q : Nat) : (s.evrOffer x).fault q = s.fault q := by rw [evrOffer_eq_with]; rfl

/-- The newest entry of a page that has just raised one. -/
theorem raised_raise {s : State} {k : PageKind} {i cls base : Nat} (d : Word)
    (h : recordedLevel (s.fault (pageBase k i)) cls base < 4) : Raised (pageBase k i) cls base s (s.raise k i cls base d) := by
  have hset : ∀ (c : Prop) [Decidable c] (u : State) (m : Word) (q : Nat), (if c then u.intSet q m else u).fault q = u.fault q := by
    intro c _ u m q
    split
    · rw [intSet_eq_with]; rfl
    · rfl
  simp only [Raised, State.raise, State.recordFault, h, if_true, ← ite_not (recordedLevel _ _ _ < 2), evrOffer_fault, hset,
    fault_setFault_same, List.take_succ_cons, List.head?_cons, Option.map_some]

/-- The newest entry of a page that has just raised one at Notice or Info. -/
theorem raised_raiseOpen (s : State) (k : PageKind) (i cls : Nat) {base : Nat} (h : base < 2) :
    Raised (pageBase k i) cls base s (s.raiseOpen k i cls base) :=
  raised_raise _ (by rw [recordedLevel_low _ _ _ h]; omega)

/-! ### Fields and puts -/

/-- A field depends on its word. -/
theorem fld_congr {s t : State} {k : PageKind} {i : Nat} {f : Fld} (h : t.rd (fldOff k i f 0) = s.rd (fldOff k i f 0)) :
    t.fld k i f = s.fld k i f := by
  simp only [State.fld, State.fldAt, h]

theorem flag_congr {s t : State} {k : PageKind} {i : Nat} {f : Fld} (h : t.rd (fldOff k i f 0) = s.rd (fldOff k i f 0)) :
    t.flag k i f = s.flag k i f := by
  rw [State.flag, State.flag, fld_congr h]

/-- The words after a field is put. -/
theorem rd_put (s : State) (k : PageKind) (i : Nat) (f : Fld) (v o : Nat) :
    (s.put k i f v).rd o = if o = fldOff k i f 0 then putBits (s.rd (fldOff k i f 0)) f.hi f.lo v else s.rd o := by
  rw [State.put, putAt_eq_wr, rd_wr]

theorem rd_put_other (s : State) {k : PageKind} {i : Nat} {f : Fld} {o : Nat} (v : Nat) (h : o ≠ fldOff k i f 0) :
    (s.put k i f v).rd o = s.rd o := rd_putAt_other s v h

/-- A put shows the same words over two states that show the same. -/
theorem rd_put_congr {s t : State} {k : PageKind} {i : Nat} {f : Fld} {v : Nat} {o : Nat} (h : t.rd o = s.rd o) :
    (t.put k i f v).rd o = (s.put k i f v).rd o := by
  rw [rd_put, rd_put]
  split
  · next ho => rw [← ho, h]
  · exact h

theorem fld_put_same (s : State) (k : PageKind) (i : Nat) (f : Fld) (v : Nat) (h : f.hi < 32) (hl : f.lo ≤ f.hi) :
    (s.put k i f v).fld k i f = v % 2 ^ (f.hi + 1 - f.lo) := fldAt_putAt_same s k i f 0 v h hl

/-- A field of another word, or of other bits of the word. -/
theorem fld_put_other (s : State) {k k' : PageKind} {i i' : Nat} {f f' : Fld} (v : Nat) (h : f.hi < 32) (hl : f.lo ≤ f.hi)
    (h' : f'.hi < 32) (hd : fldOff k' i' f' 0 ≠ fldOff k i f 0 ∨ f'.hi < f.lo ∨ f.hi < f'.lo) :
    (s.put k i f v).fld k' i' f' = s.fld k' i' f' := fldAt_putAt_other s v h hl h' hd

/-! ### Charges -/

/-- The words that a bank's charge is read from: enables, clamps and modes of the bank pages (R25). -/
def chargeWord (o : Nat) : Prop := 0x300000 ≤ o ∧ (o % 0x1000 = 0x10 ∨ o % 0x1000 = 0x40 ∨ o % 0x1000 = 0x48)

theorem supCharge_congr {s t : State} (b : Nat) (h : ∀ o, chargeWord o → o ≠ baseOf .bnk b + 0x40 → t.rd o = s.rd o) (u : Nat) :
    t.supCharge u = s.supCharge u := by
  have hen : t.flag (supKind u) (supInst u) DPS_CTRL_EN = s.flag (supKind u) (supInst u) DPS_CTRL_EN := by
    apply flag_congr
    unfold supKind supInst
    split <;> apply h <;> simp only [chargeWord, fldOff, baseOf, DPS_CTRL_EN] <;> omega
  have hil : t.fld .dps u DPS_CLAMP_ILIM = s.fld .dps u DPS_CLAMP_ILIM := by
    apply fld_congr
    apply h <;> simp only [chargeWord, fldOff, baseOf, DPS_CLAMP_ILIM] <;> omega
  rw [State.supCharge, State.supCharge, hen, hil]

/-- What a bank draws depends on the mode it requests and the words of its enables and clamps. -/
theorem bankDraw_congr {s t : State} {b : Nat} (hm : t.fld .bnk b BNK_MODE_REQ = s.fld .bnk b BNK_MODE_REQ)
    (h : ∀ o, chargeWord o → o ≠ baseOf .bnk b + 0x40 → t.rd o = s.rd o) : t.bankDraw b = s.bankDraw b := by
  have hp : t.flag .pmu b PMU_CTRL_EN = s.flag .pmu b PMU_CTRL_EN := by
    apply flag_congr
    apply h <;> simp only [chargeWord, fldOff, baseOf, PMU_CTRL_EN] <;> omega
  have ha : t.flag .acq b ACQ_CTRL_EN = s.flag .acq b ACQ_CTRL_EN := by
    apply flag_congr
    apply h <;> simp only [chargeWord, fldOff, baseOf, ACQ_CTRL_EN] <;> omega
  simp only [State.bankDraw, hm, hp, ha, supCharge_congr b h]

/-- The sum over a range with one term replaced. -/
theorem sum_range_replace (f : Nat → Nat) (v b n : Nat) (h : b < n) :
    ((List.range n).map fun j => if j = b then v else f j).sum + f b = ((List.range n).map f).sum + v := by
  induction n with
  | zero => omega
  | succ n ih =>
    simp only [List.range_succ, List.map_append, List.map_cons, List.map_nil, List.sum_append, List.sum_cons, List.sum_nil]
    by_cases hb : b = n
    · have : ((List.range n).map fun j => if j = b then v else f j) = (List.range n).map f :=
        List.map_congr_left fun j hj => if_neg (by have := List.mem_range.mp hj; omega)
      rw [this, if_pos hb.symm, hb]
      omega
    · have := ih (by omega)
      rw [if_neg (Ne.symm hb)]
      omega

theorem charged_eq_sum (s : State) : s.charged = s.fixedCharge + ((List.range 24).map fun b => (s.bank b).charge).sum := rfl

/-- The charged total follows the banks' charges and the Pairs Link's domain. -/
theorem charged_congr {s t : State} (hd : t.domains = s.domains) (h : ∀ b, (t.bank b).charge = (s.bank b).charge) :
    t.charged = s.charged := by
  simp only [State.charged, State.fixedCharge, hd, h]

/-- The charged total after one bank's charge changes. -/
theorem charged_setBank (s : State) {b : Nat} (hb : b < 24) (x : BankSt) :
    (s.setBank b x).charged = s.charged - (s.bank b).charge + x.charge := by
  have hsum := sum_range_replace (fun j => (s.bank j).charge) x.charge b 24 hb
  have hset : ∀ j, ((s.setBank b x).bank j).charge = if j = b then x.charge else (s.bank j).charge := fun j => by
    rw [bank_setBank]
    split <;> rfl
  have hle := sum_range_replace (fun j => (s.bank j).charge) 0 b 24 hb
  have hfix : (s.setBank b x).fixedCharge = s.fixedCharge := rfl
  simp only [charged_eq_sum, hset, hfix]
  omega

/-! ### Governor's outcomes -/

theorem pgvResp_eq_with (s : State) (r : Nat) (src : Src) (total : Nat) :
    s.pgvResp r src total = { s with regs := (s.pgvResp r src total).regs } := rfl

theorem rd_pgvResp_other (s : State) (r : Nat) (src : Src) (total : Nat) {o : Nat} (h : o ≠ 0x304C) :
    (s.pgvResp r src total).rd o = s.rd o :=
  ((rd_put_other _ _ h).trans (rd_put_other _ _ h)).trans (rd_put_other _ _ h)

/-- What PGV_RESP shows while its word stands as an outcome left it. -/
theorem shows_pgvResp {s u : State} {r : Nat} {src : Src} {total : Nat} (h : u.rd 0x304C = (s.pgvResp r src total).rd 0x304C) :
    u.fld .pgv 0 PGV_RESP_RESULT = r % 16 ∧ u.fld .pgv 0 PGV_RESP_SOURCE = src.code % 16
      ∧ u.fld .pgv 0 PGV_RESP_TOTAL_MW = total % 2 ^ 24 := by
  refine ⟨(fld_congr h).trans ?_, (fld_congr h).trans ?_, (fld_congr h).trans ?_⟩
  · rw [State.pgvResp, fld_put_other _ _ (by decide) (by decide) (by decide) (by decide),
      fld_put_other _ _ (by decide) (by decide) (by decide) (by decide), fld_put_same _ _ _ _ _ (by decide) (by decide)]
    rfl
  · rw [State.pgvResp, fld_put_other _ _ (by decide) (by decide) (by decide) (by decide), fld_put_same _ _ _ _ _ (by decide) (by decide)]
    rfl
  · rw [State.pgvResp, fld_put_same _ _ _ _ _ (by decide) (by decide)]
    rfl

/-- A counter that is advanced by one counts one more (R53). -/
theorem counts_bump (s : State) (k : PageKind) (i : Nat) (c o : Fld) (hc : c.hi < 32) (hl : c.lo ≤ c.hi) (ho : o.hi < 32)
    (hol : o.lo ≤ o.hi) (hd : fldOff k i c 0 ≠ fldOff k i o 0 ∨ c.hi < o.lo ∨ o.hi < c.lo) : Counts k i c s (s.bump k i c o) := by
  simp only [Counts, State.bump, State.bumpBy]
  split
  · rw [fld_put_other _ _ ho hol hc hd, fld_put_same _ _ _ _ _ hc hl]
  · rw [fld_put_same _ _ _ _ _ hc hl]

/-- A refusal reports, counts, and then only signals and raises on the Governor's page (R33). -/
theorem pgvRefuse_reportsOn (s : State) (r : Nat) (src : Src) (total : Nat) :
    ReportsOn 0x3000 ((s.pgvResp r src total).bump .pgv 0 PGV_REFUSED_COUNT PGV_REFUSED_OVF) (s.pgvRefuse r src total) :=
  (ReportsOn.int _ .pgv 0 0).trans (ReportsOn.raiseOpen _ .pgv 0 (r - 1) (by decide))

theorem pgvRefuse_eq_with (s : State) (r : Nat) (src : Src) (total : Nat) :
    s.pgvRefuse r src total
      = { s with
          regs := (s.pgvRefuse r src total).regs, hif := (s.pgvRefuse r src total).hif, faults := (s.pgvRefuse r src total).faults
          evr := (s.pgvRefuse r src total).evr, free := (s.pgvRefuse r src total).free, sig := (s.pgvRefuse r src total).sig } := by
  conv_lhs => rw [(pgvRefuse_reportsOn s r src total).frame, State.bump, bumpBy_eq_with, pgvResp_eq_with]

/-- The registers of a refusal: INT_STAT, PGV_RESP and PGV_REFUSED of the Governor's page, pending bits, and the recorder's drops. -/
theorem pgvRefuse_reported (s : State) (r : Nat) (src : Src) (total : Nat) : Reported [0x3000] [0x304C, 0x3050] s (s.pgvRefuse r src total) := by
  have h := pgvRefuse_reportsOn s r src total
  refine ⟨fun o ho => ?_, fun q hq => ?_, ?_⟩
  · simp only [List.map_cons, List.map_nil, List.cons_append, List.nil_append, List.mem_cons, List.mem_append, not_or] at ho
    obtain ⟨h18, h4c, h50, hp, he⟩ := ho
    rw [h.rd o h18 hp he, State.bump, rd_bumpBy_other _ h50 h50, rd_pgvResp_other _ _ _ _ h4c]
  · rw [h.faults q hq, State.bump, bumpBy_eq_with]
    rfl
  · rw [h.hif, State.bump, bumpBy_eq_with, pgvResp_eq_with]

/-- An interrupt cause changes registers, messages and the vectors signalled in this cycle. -/
theorem int_eq_with (s : State) (k : PageKind) (i b : Nat) :
    s.int k i b = { s with regs := (s.int k i b).regs, hif := (s.int k i b).hif, sig := (s.int k i b).sig } := intSet_eq_with s _ _

/-- The cause that a page sets is set. -/
theorem intStat_int (s : State) (k : PageKind) (i : Nat) {b : Nat} (hb : b < 32) (hp : pageBase k i + 0x18 ∉ pbaOffs) :
    ((s.int k i b).intStat (pageBase k i)).getLsbD b = true := by
  rw [State.int, State.intStat, rd_intSet_same _ _ _ hp, BitVec.getLsbD_or, BitVec.getLsbD_ofNat, Nat.testBit_two_pow_self]
  simp [hb]

/-- An entry that is newest over a state with the same fault state of the page and the same position. -/
theorem raised_of_same {s s' t : State} {page cls base : Nat} (hf : s'.fault page = s.fault page) (he : s'.epc = s.epc)
    (h : Raised page cls base s' t) : Raised page cls base s t := by
  rwa [Raised, hf, he] at h

/-- What a refusal of the Governor shows: its outcome, one more refusal, the cause bit, and its class at Notice (R33). -/
theorem pgvRefuse_shows (s : State) (r : Nat) (src : Src) (total : Nat) :
    (s.pgvRefuse r src total).fld .pgv 0 PGV_RESP_RESULT = r % 16
      ∧ (s.pgvRefuse r src total).fld .pgv 0 PGV_RESP_SOURCE = src.code % 16
      ∧ (s.pgvRefuse r src total).fld .pgv 0 PGV_RESP_TOTAL_MW = total % 2 ^ 24
      ∧ Counts .pgv 0 PGV_REFUSED_COUNT s (s.pgvRefuse r src total)
      ∧ Raised 0x3000 (r - 1) 1 s (s.pgvRefuse r src total)
      ∧ ((s.pgvRefuse r src total).intStat 0x3000).getLsbD 0 = true := by
  have h := pgvRefuse_reportsOn s r src total
  have hresp : (s.pgvRefuse r src total).rd 0x304C = (s.pgvResp r src total).rd 0x304C := by
    rw [h.rd _ (by decide) (by decide) (by decide), State.bump, rd_bumpBy_other _ (by decide) (by decide)]
  obtain ⟨hr, hs, ht⟩ := shows_pgvResp hresp
  refine ⟨hr, hs, ht, ?_, ?_, ?_⟩
  · have hc := counts_bump (s.pgvResp r src total) .pgv 0 PGV_REFUSED_COUNT PGV_REFUSED_OVF (by decide) (by decide) (by decide)
      (by decide) (by decide)
    rw [Counts, fld_congr (h.rd _ (by decide) (by decide) (by decide)), hc, fld_congr (rd_pgvResp_other s r src total (by decide))]
  · refine raised_of_same ?_ ?_ (raised_raiseOpen _ .pgv 0 (r - 1) (by decide))
    · rw [int_eq_with, State.bump, bumpBy_eq_with]
      rfl
    · rw [int_eq_with, State.bump, bumpBy_eq_with]
      rfl
  · exact (ReportsOn.raiseOpen _ .pgv 0 (r - 1) (by decide)).ints (by decide) 0 (intStat_int _ .pgv 0 (by decide) (by decide))
end Sys2Proof.Machine

namespace Sys2Proof.Machine
open Sys2Proof Reg

/-! ## The Power Governor: admitted and refused writes (O17, O18, O19) -/

/-! ### The evaluation -/

/-- The state of an evaluation's verdict on a write that no busy check stops and no dry run. -/
theorem evaluate_of_fits {s : State} {src : Src} {total : Nat} (hd : s.flag .pgv 0 PGV_MODE_DRYRUN = false)
    (h : total ≤ s.fld .pgv 0 PGV_CEIL_CEIL_MW ∨ total ≤ s.charged) :
    s.evaluate src false total = (s.pgvResp 1 src total, .admitted) := by
  have hf : (decide (total ≤ s.fld .pgv 0 PGV_CEIL_CEIL_MW) || decide (total ≤ s.charged)) = true := by simpa using h
  simp [State.evaluate, hd, hf]

theorem evaluate_of_not_fits {s : State} {src : Src} {total : Nat} (hd : s.flag .pgv 0 PGV_MODE_DRYRUN = false)
    (h : ¬ (total ≤ s.fld .pgv 0 PGV_CEIL_CEIL_MW ∨ total ≤ s.charged)) :
    s.evaluate src false total = (s.pgvRefuse 2 src total, .ceiling) := by
  have hf : (decide (total ≤ s.fld .pgv 0 PGV_CEIL_CEIL_MW) || decide (total ≤ s.charged)) = false := by simpa using h
  simp [State.evaluate, hd, hf]

/-- What an evaluation can answer: only an admitted write fits under the ceiling or leaves the charged total no higher, and every verdict
leaves the outcome in PGV_RESP, a refusal besides what it reports. -/
theorem evaluate_cases (s : State) (src : Src) (busy : Bool) (total : Nat) :
    ((total ≤ s.fld .pgv 0 PGV_CEIL_CEIL_MW ∨ total ≤ s.charged) ∧ s.evaluate src busy total = (s.pgvResp 1 src total, .admitted))
      ∨ (∃ r, s.evaluate src busy total = (s.pgvResp r src total, .dryRun))
      ∨ (∃ r v, s.evaluate src busy total = (s.pgvRefuse r src total, v) ∧ v ≠ .admitted) := by
  simp only [State.evaluate]
  split
  · split
    · exact .inr (.inl ⟨_, rfl⟩)
    · exact .inr (.inr ⟨_, _, rfl, by decide⟩)
  · split
    · exact .inr (.inl ⟨_, rfl⟩)
    · split
      · next h => exact .inl ⟨by simpa using h, rfl⟩
      · exact .inr (.inr ⟨_, _, rfl, by decide⟩)

/-- A write that is admitted is applied, and its bank is charged anew. -/
theorem govern_of_fits {s : State} {who : Asker} {b : Nat} {change apply : State → State}
    (hd : s.flag .pgv 0 PGV_MODE_DRYRUN = false) (h : Fits s b ((change s).bankDraw b)) :
    (s.govern who b false change apply).1
      = (apply (change (s.pgvResp 1 who.src (newTotal s b ((change s).bankDraw b))))).recharge b := by
  simp only [State.govern, evaluate_of_fits hd h]

theorem govern_of_not_fits {s : State} {who : Asker} {b : Nat} {change apply : State → State}
    (hd : s.flag .pgv 0 PGV_MODE_DRYRUN = false) (h : ¬ Fits s b ((change s).bankDraw b)) :
    (s.govern who b false change apply).1 = s.pgvRefuse 2 who.src (newTotal s b ((change s).bankDraw b)) := by
  simp only [State.govern, evaluate_of_not_fits hd h]

/-- A bank that is on is charged what it draws. -/
theorem recharge_of_on {s : State} {b : Nat} (h : s.gatedSpan b = false) :
    s.recharge b = s.setBank b { s.bank b with charge := s.bankDraw b } := by
  have hp : (s.bank b).phase = .on := by simpa [State.gatedSpan] using h
  simp only [State.recharge, hp, if_true]

/-! ### The status words of the sequencers -/

theorem psqStat_not_mem_evrOffs (n : Nat) : baseOf .psq n + 0x14 ∉ evrOffs := by
  simp only [baseOf, evrOffs, List.mem_cons, List.not_mem_nil, or_false]
  omega

/-- The status word of a sequencer is none of the registers of the Governor's outcome. -/
theorem psqStat_pgvResp (s : State) (r : Nat) (src : Src) (total n : Nat) :
    (s.pgvResp r src total).rd (baseOf .psq n + 0x14) = s.rd (baseOf .psq n + 0x14) :=
  rd_pgvResp_other s r src total (by simp only [baseOf]; omega)

theorem psqStat_pgvRefuse (s : State) (r : Nat) (src : Src) (total n : Nat) :
    (s.pgvRefuse r src total).rd (baseOf .psq n + 0x14) = s.rd (baseOf .psq n + 0x14) := by
  have hp := psqStat_not_mem_pbaOffs n
  have he := psqStat_not_mem_evrOffs n
  refine (pgvRefuse_reported s r src total).1 _ ?_
  simp only [baseOf] at hp he ⊢
  simp only [List.map_cons, List.map_nil, List.cons_append, List.nil_append, List.mem_cons, List.mem_append, not_or]
  exact ⟨by omega, by omega, by omega, hp, he⟩

/-! ### Writes that the Governor settles -/

/-- A write that ends in a refusal of the Governor changes what the refusal reports, and nothing else (R33). -/
theorem done_pgvRefuse {s : State} (hs : Steady s) (r : Nat) (src : Src) (total : Nat) :
    ∃ t, done (s.pgvRefuse r src total) = .next t
      ∧ t.fld .pgv 0 PGV_RESP_RESULT = r % 16 ∧ t.fld .pgv 0 PGV_RESP_SOURCE = src.code % 16
      ∧ t.fld .pgv 0 PGV_RESP_TOTAL_MW = total % 2 ^ 24 ∧ Counts .pgv 0 PGV_REFUSED_COUNT s t ∧ Raised 0x3000 (r - 1) 1 s t
      ∧ (t.intStat 0x3000).getLsbD 0 = true ∧ Reported [0x3000] [0x304C, 0x3050] s t
      ∧ t = { s with regs := t.regs, hif := t.hif, faults := t.faults, evr := t.evr, free := t.free } := by
  have hshow := pgvRefuse_shows s r src total
  have hrep := pgvRefuse_reported s r src total
  have hframe := pgvRefuse_eq_with s r src total
  have hstat := psqStat_pgvRefuse s r src total
  generalize s.pgvRefuse r src total = u at *
  obtain ⟨hres, hsrc, htot, hcnt, hra, hint⟩ := hshow
  refine ⟨{ u with sig := [] }, done_of_steady hs (by rw [hframe]; exact hs.1) (by rw [hframe]) fun n _ => hstat n,
    hres, hsrc, htot, hcnt, hra, hint, hrep, ?_⟩
  conv_lhs => rw [hframe, ← hs.2.1]

/-- More registers may be named than changed. -/
theorem reported_mono {pages offs offs' : List Nat} {s t : State} (h : Reported pages offs s t) (hsub : offs ⊆ offs') :
    Reported pages offs' s t := by
  obtain ⟨hr, hf, hh⟩ := h
  refine ⟨fun o ho => hr o fun hm => ho ?_, hf, hh⟩
  simp only [List.mem_append] at hm ⊢
  exact hm.imp_left fun hm => hm.imp_left fun hm => hm.imp_right fun hm => hsub hm

/-- A bank draws the same after a put whether or not PGV_RESP has taken an outcome. -/
theorem bankDraw_put_pgvResp (s : State) (k : PageKind) (i : Nat) (f : Fld) (v b r : Nat) (src : Src) (total : Nat) :
    ((s.pgvResp r src total).put k i f v).bankDraw b = (s.put k i f v).bankDraw b := by
  have h : ∀ o, 0x300000 ≤ o → ((s.pgvResp r src total).put k i f v).rd o = (s.put k i f v).rd o := fun o ho =>
    rd_put_congr (rd_pgvResp_other s r src total (by omega))
  refine bankDraw_congr (fld_congr (h _ ?_)) fun o ho _ => h o ho.1
  simp only [fldOff, baseOf]
  omega

/-- An admitted put of a field of a bank that is on takes effect, and the bank is charged what it then draws (R25, R27). -/
theorem done_admitted_put {s : State} (hs : Steady s) {b : Nat} (hon : s.gatedSpan b = false) (k : PageKind) (i : Nat) {f : Fld} {v : Nat}
    (hf : f.hi < 32) (hl : f.lo ≤ f.hi) (hv : v < 2 ^ (f.hi + 1 - f.lo)) (ho : 0x300000 ≤ fldOff k i f 0) (total : Nat) :
    ∃ t, done (((s.pgvResp 1 .host total).put k i f v).recharge b) = .next t
      ∧ t.fld k i f = v ∧ (t.bank b).charge = (s.put k i f v).bankDraw b ∧ PgvAdmitted total t
      ∧ RegsBut [0x304C, fldOff k i f 0] s t ∧ t = { s with regs := t.regs, banks := t.banks } := by
  have hdraw := bankDraw_put_pgvResp s k i f v b 1 .host total
  have hresp := shows_pgvResp (s := s) (r := 1) (src := .host) (total := total)
    (u := (s.pgvResp 1 .host total).put k i f v) (rd_put_other _ v (by omega))
  have hrd : RegsBut [0x304C, fldOff k i f 0] s ((s.pgvResp 1 .host total).put k i f v) := fun o hn => by
    simp only [List.mem_cons, List.not_mem_nil, or_false, not_or] at hn
    rw [rd_put_other _ _ hn.2, rd_pgvResp_other _ _ _ _ hn.1]
  have hfld := fld_put_same (s.pgvResp 1 .host total) k i f v hf hl
  have hframe : (s.pgvResp 1 .host total).put k i f v = { s with regs := ((s.pgvResp 1 .host total).put k i f v).regs } := rfl
  have hoff : ∀ n < 8, baseOf .psq n + 0x14 ∉ [0x304C, fldOff k i f 0] := fun n hn => by
    simp only [baseOf, List.mem_cons, List.not_mem_nil, or_false]
    omega
  rw [Nat.mod_eq_of_lt hv] at hfld
  generalize (s.pgvResp 1 .host total).put k i f v = u at *
  have honu : u.gatedSpan b = false := by rw [hframe]; exact hon
  rw [recharge_of_on honu, hdraw]
  refine ⟨_, done_of_steady hs ?_ ?_ fun n hn => hrd _ (hoff n hn), hfld, ?_, hresp, hrd, ?_⟩
  · rw [hframe]; exact hs.1
  · rw [hframe]; rfl
  · exact congrArg BankSt.charge (bank_setBank_same u b _)
  · rw [hframe, ← hs.2.1]; rfl

/-- What becomes of a host write that changes one field of a bank that is on, and may raise its charge (R27, R32, R33). -/
theorem done_govern_put {s : State} (hs : Steady s) (hd : s.flag .pgv 0 PGV_MODE_DRYRUN = false) {b : Nat} (hon : s.gatedSpan b = false)
    (k : PageKind) (i : Nat) {f : Fld} {v : Nat} (hf : f.hi < 32) (hl : f.lo ≤ f.hi) (hv : v < 2 ^ (f.hi + 1 - f.lo))
    (ho : 0x300000 ≤ fldOff k i f 0) :
    ∃ t, done (s.govern s.host b false (fun s => s.put k i f v) id).1 = .next t
      ∧ (Fits s b ((s.put k i f v).bankDraw b) → t.fld k i f = v ∧ (t.bank b).charge = (s.put k i f v).bankDraw b
          ∧ PgvAdmitted (newTotal s b ((s.put k i f v).bankDraw b)) t)
      ∧ (¬ Fits s b ((s.put k i f v).bankDraw b) → PgvRefused (newTotal s b ((s.put k i f v).bankDraw b)) s t)
      ∧ Reported [0x3000] [0x304C, 0x3050, fldOff k i f 0] s t
      ∧ t = { s with regs := t.regs, hif := t.hif, faults := t.faults, evr := t.evr, free := t.free, banks := t.banks } := by
  by_cases h : Fits s b ((s.put k i f v).bankDraw b)
  · rw [govern_of_fits (change := fun s => s.put k i f v) hd h]
    obtain ⟨t, ht, hfld, hch, hadm, hrd, hframe⟩ := done_admitted_put hs hon k i hf hl hv ho (newTotal s b ((s.put k i f v).bankDraw b))
    refine ⟨t, ht, fun _ => ⟨hfld, hch, hadm⟩, fun hn => absurd h hn, ⟨fun o hn => hrd o fun hm => hn ?_, fun q _ => ?_, ?_⟩, ?_⟩
    · simp only [List.map_cons, List.map_nil, List.cons_append, List.nil_append, List.mem_cons, List.not_mem_nil, or_false] at hm ⊢
      rcases hm with hm | hm <;> simp [hm]
    · rw [hframe]; rfl
    · rw [hframe]
    · rw [hframe]
  · rw [govern_of_not_fits (change := fun s => s.put k i f v) hd h]
    obtain ⟨t, ht, hres, hsrc, htot, hcnt, hra, -, hrep, hframe⟩ := done_pgvRefuse hs 2 .host (newTotal s b ((s.put k i f v).bankDraw b))
    refine ⟨t, ht, fun hc => absurd hc h, fun _ => ⟨hres, hsrc, htot, hcnt, hra, hrep, hframe⟩, reported_mono hrep (by simp), ?_⟩
    have hb : t.banks = s.banks := by rw [hframe]
    rw [hb]
    exact hframe
end Sys2Proof.Machine

namespace Sys2Proof.Machine
open Sys2Proof Reg

/-! ### Host writes that may raise a bank's charge -/

/-- A host write acts in the host's role while memory accesses act. -/
theorem hostOp_of_live {s : State} (h : s.live = true) (f : Asker → State → Wrote) : s.hostOp f = (f s.host s).1 := by
  rw [State.hostOp, if_pos h]

/-- What the five writes that enable a unit or raise a current limit have in common: one field of a bank's page changes, stored while the
bank counts as gated, else evaluated by the Governor (R127, R362, R364, R368, R373, R576). -/
def State.chargePut (s : State) (who : Asker) (b : Nat) (w : StoredWrite) (k : PageKind) (i : Nat) (f : Fld) (v : Nat) : State :=
  if s.gatedSpan b then s.storeGated who b w fun u => u.put k i f v else (s.govern who b false (fun u => u.put k i f v) id).1

theorem chargePut_of_on {s : State} {b : Nat} (h : s.gatedSpan b = false) (who : Asker) (w : StoredWrite) (k : PageKind) (i : Nat) (f : Fld)
    (v : Nat) : s.chargePut who b w k i f v = (s.govern who b false (fun u => u.put k i f v) id).1 := by
  rw [State.chargePut, h]
  rfl

theorem enWrite_eq_chargePut (s : State) (who : Asker) (u : Nat) :
    (s.enWrite who u true).1 = s.chargePut who (supBank u) (.en u true) (supKind u) (supInst u) DPS_CTRL_EN 1 := by
  simp only [State.enWrite, State.chargePut, State.took, bit, if_true]
  split <;> rfl

theorem ilimWrite_eq_chargePut {s : State} (who : Asker) {i v : Nat} (hv : s.fld .dps i DPS_CLAMP_ILIM < s.ilimStored i v) :
    (s.ilimWrite who i v).1
      = s.chargePut who (i / 3) (.ilim i (s.ilimStored i v)) .dps i DPS_CLAMP_ILIM (s.ilimStored i v) := by
  simp only [State.ilimWrite, State.chargePut, State.took, hv, if_true]
  split <;> rfl

theorem pmuEnWrite_eq_chargePut (s : State) (who : Asker) (b : Nat) :
    (s.pmuEnWrite who b true).1 = s.chargePut who b (.pmu true) .pmu b PMU_CTRL_EN 1 := by
  simp only [State.pmuEnWrite, State.chargePut, State.took, bit, if_true]
  split <;> rfl

theorem acqEnWrite_eq_chargePut (s : State) (who : Asker) (b : Nat) :
    (s.acqEnWrite who b true).1 = s.chargePut who b (.acq true) .acq b ACQ_CTRL_EN 1 := by
  simp only [State.acqEnWrite, State.chargePut, State.took, bit, if_true]
  split <;> rfl

/-- A stored current limit fits its field (R364). -/
theorem ilimStored_lt (s : State) (i v : Nat) : s.ilimStored i v < 1024 := by
  simp only [State.ilimStored]
  split <;> split <;> omega

theorem supKind_dps {u : Nat} (h : u < 72) : supKind u = .dps := if_pos h
theorem supInst_dps {u : Nat} (h : u < 72) : supInst u = u := if_pos h
theorem supBank_dps {u : Nat} (h : u < 72) : supBank u = u / 3 := if_pos h
theorem supKind_hvc (b : Nat) : supKind (72 + b) = .hvc := if_neg (by omega)
theorem supInst_hvc (b : Nat) : supInst (72 + b) = b := (if_neg (by omega)).trans (by omega)
theorem supBank_hvc (b : Nat) : supBank (72 + b) = b := (if_neg (by omega)).trans (by omega)

/-- A flag is set where its field reads 1. -/
theorem flag_of_fld {t : State} {k : PageKind} {i : Nat} {f : Fld} (h : t.fld k i f = 1) : t.flag k i f = true := by
  rw [State.flag, h]
  rfl

/-- What becomes of a host write that enables a unit of a bank that is on. -/
theorem done_govern_enable {s : State} (hs : Steady s) (hd : s.flag .pgv 0 PGV_MODE_DRYRUN = false) {b : Nat} (hon : s.gatedSpan b = false)
    (k : PageKind) (i : Nat) {f : Fld} (hf : f.hi = 0 ∧ f.lo = 0) (ho : 0x300000 ≤ fldOff k i f 0) :
    ∃ t, done (s.govern s.host b false (fun s => s.put k i f 1) id).1 = .next t
      ∧ (Fits s b ((s.put k i f 1).bankDraw b) → t.flag k i f = true ∧ (t.bank b).charge = (s.put k i f 1).bankDraw b
          ∧ PgvAdmitted (newTotal s b ((s.put k i f 1).bankDraw b)) t)
      ∧ (¬ Fits s b ((s.put k i f 1).bankDraw b) → PgvRefused (newTotal s b ((s.put k i f 1).bankDraw b)) s t)
      ∧ Reported [0x3000] [0x304C, 0x3050, fldOff k i f 0] s t
      ∧ t = { s with regs := t.regs, hif := t.hif, faults := t.faults, evr := t.evr, free := t.free, banks := t.banks } := by
  obtain ⟨t, ht, hfit, hrest⟩ := done_govern_put hs hd hon k i (f := f) (v := 1) (by omega) (by omega) (by simp [hf]) ho
  exact ⟨t, ht, fun h => ⟨flag_of_fld (hfit h).1, (hfit h).2⟩, hrest⟩

/-! The six commands, for a host whose memory accesses act. -/

theorem exec_dpsEn_of_live {s : State} (h : s.live = true) (u : Fin 72) :
    exec (.dpsEn u true) s = done (s.chargePut s.host (u.val / 3) (.en u.val true) .dps u.val DPS_CTRL_EN 1) := by
  refine (congrArg done (hostOp_of_live h fun who s => s.enWrite who u.val true)).trans ?_
  rw [enWrite_eq_chargePut, supBank_dps u.isLt, supKind_dps u.isLt, supInst_dps u.isLt]

theorem exec_hvcEn_of_live {s : State} (h : s.live = true) (b : Fin 24) :
    exec (.hvcEn b true) s = done (s.chargePut s.host b.val (.en (72 + b.val) true) .hvc b.val DPS_CTRL_EN 1) := by
  refine (congrArg done (hostOp_of_live h fun who s => s.enWrite who (72 + b.val) true)).trans ?_
  rw [enWrite_eq_chargePut, supBank_hvc, supKind_hvc, supInst_hvc]

theorem exec_ilim_of_live {s : State} (h : s.live = true) (u : Fin 72) (v : Nat)
    (hv : s.fld .dps u.val DPS_CLAMP_ILIM < s.ilimStored u.val (v % 1024)) :
    exec (.ilim u v) s = done (s.chargePut s.host (u.val / 3) (.ilim u.val (s.ilimStored u.val (v % 1024))) .dps u.val DPS_CLAMP_ILIM
      (s.ilimStored u.val (v % 1024))) := by
  refine (congrArg done (hostOp_of_live h fun who s => s.ilimWrite who u.val (v % 1024))).trans ?_
  rw [ilimWrite_eq_chargePut _ hv]

theorem exec_pmuEn_of_live {s : State} (h : s.live = true) (b : Fin 24) :
    exec (.pmuEn b true) s = done (s.chargePut s.host b.val (.pmu true) .pmu b.val PMU_CTRL_EN 1) := by
  refine (congrArg done (hostOp_of_live h fun who s => s.pmuEnWrite who b.val true)).trans ?_
  rw [pmuEnWrite_eq_chargePut]

theorem exec_acqEn_of_live {s : State} (h : s.live = true) (b : Fin 24) :
    exec (.acqEn b true) s = done (s.chargePut s.host b.val (.acq true) .acq b.val ACQ_CTRL_EN 1) := by
  refine (congrArg done (hostOp_of_live h fun who s => s.acqEnWrite who b.val true)).trans ?_
  rw [acqEnWrite_eq_chargePut]

theorem exec_req_of_live {s : State} (h : s.live = true) (b : Fin 24) (m : Fin 4) :
    exec (.req b m) s = done (s.modeWrite s.host b.val m.val).1 := congrArg done (hostOp_of_live h _)

/-- Settles O17: each of the five writes is a put of one field that the Governor settles. -/
theorem governorAdmitsOrRefuses : Obligations.GovernorAdmitsOrRefuses := by
  unfold Obligations.GovernorAdmitsOrRefuses
  intro s hs hd
  refine ⟨fun u hon => ?_, fun b hon => ?_, fun u v hon hv => ?_, fun b hon => ?_, fun b hon => ?_⟩
  · rw [exec_dpsEn_of_live hs.2, chargePut_of_on hon]
    exact done_govern_enable hs.1 hd hon .dps u.val (by decide) (by simp only [fldOff, baseOf]; omega)
  · rw [exec_hvcEn_of_live hs.2, chargePut_of_on hon]
    exact done_govern_enable hs.1 hd hon .hvc b.val (by decide) (by simp only [fldOff, baseOf]; omega)
  · rw [exec_ilim_of_live hs.2 u v hv, chargePut_of_on hon]
    exact done_govern_put hs.1 hd hon .dps u.val (by decide) (by decide) (ilimStored_lt s u.val (v % 1024))
      (by simp only [fldOff, baseOf]; omega)
  · rw [exec_pmuEn_of_live hs.2, chargePut_of_on hon]
    exact done_govern_enable hs.1 hd hon .pmu b.val (by decide) (by simp only [fldOff, baseOf]; omega)
  · rw [exec_acqEn_of_live hs.2, chargePut_of_on hon]
    exact done_govern_enable hs.1 hd hon .acq b.val (by decide) (by simp only [fldOff, baseOf]; omega)

/-! ### The ceiling's own writes -/

/-- A field put by one word's write leaves every other word, and the rest of the state. -/
theorem onlyRegs_put (s : State) (k : PageKind) (i : Nat) (f : Fld) (v : Nat) : OnlyRegs [fldOff k i f 0] s (s.put k i f v) :=
  ⟨fun _ ho => rd_put_other s v (List.ne_of_not_mem_cons ho), rfl⟩

/-- A command that puts one field off the sequencers' status words ends with it put. -/
theorem done_put {s : State} (hs : Steady s) (k : PageKind) (i : Nat) (f : Fld) (v : Nat)
    (ho : ∀ n < 8, baseOf .psq n + 0x14 ≠ fldOff k i f 0) : done (s.put k i f v) = .next (s.put k i f v) := by
  rw [done_of_steady (u := s.put k i f v) hs hs.1 rfl fun n hn => rd_put_other s v (ho n hn), ← hs.2.1]
  rfl

/-- The status words of the sequencers lie past the page of the Governor. -/
theorem psqStat_ne_of_lt {o : Nat} (h : o < 0x80000) (n : Nat) : baseOf .psq n + 0x14 ≠ o := by
  simp only [baseOf]
  omega

/-- The write of the ceiling, in the host's role while accesses act (R30). -/
theorem exec_ceilMwWrite_of_live {s : State} (h : s.live = true) (v : Nat) :
    exec (.ceilMwWrite v) s = done (s.ceilWrite s.host (v % 65536)).1 := congrArg done (hostOp_of_live h _)

theorem ceilWrite_of_locked {s : State} {who : Asker} {v : Nat} (h : s.flag .pgv 0 PGV_CEIL_LOCK = true) : s.ceilWrite who v = (s, 0) := by
  simp [State.ceilWrite, h, State.took]

theorem ceilWrite_of_lt {s : State} {who : Asker} {v : Nat} (h : s.flag .pgv 0 PGV_CEIL_LOCK = false) (hv : v < s.charged) :
    (s.ceilWrite who v).1 = s.pgvRefuse 4 who.src s.charged := by
  simp [State.ceilWrite, h, hv]

theorem ceilWrite_of_le {s : State} {who : Asker} {v : Nat} (h : s.flag .pgv 0 PGV_CEIL_LOCK = false) (hv : s.charged ≤ v) :
    (s.ceilWrite who v).1 = s.put .pgv 0 PGV_CEIL_CEIL_MW (min v 60000) := by
  simp [State.ceilWrite, h, Nat.not_lt.mpr hv, State.took]

/-- CEIL_LOCK sets LOCK in every role (R9). -/
theorem exec_ceilLock_of_live {s : State} (h : s.live = true) : exec .ceilLock s = done (s.put .pgv 0 PGV_CEIL_LOCK 1) := by
  have hr : s.role.meets (wrMin .pgv) = true := by simp [Role.meets, wrMin]
  show done (s.asHost _ _ _) = _
  rw [State.asHost, h, hr]
  rfl

/-- Settles O19: a ceiling write is a refusal, a put of CEIL_MW, or nothing where it is locked. -/
theorem ceilingWrites : Obligations.CeilingWrites := by
  unfold Obligations.CeilingWrites
  intro s hs
  refine ⟨fun v hlock => ?_, fun v hlock => ?_, ?_⟩
  · rw [exec_ceilMwWrite_of_live hs.2]
    rcases Nat.lt_or_ge (v % 65536) s.charged with hv | hv
    · rw [ceilWrite_of_lt hlock hv]
      obtain ⟨t, ht, hres, -, -, hcnt, hra, hint, hrep, hframe⟩ := done_pgvRefuse hs.1 4 .host s.charged
      have hceil : t.fld .pgv 0 PGV_CEIL_CEIL_MW = s.fld .pgv 0 PGV_CEIL_CEIL_MW := fld_congr (hrep.1 _ (by decide))
      exact ⟨t, ht, fun h => absurd hv (Nat.not_lt.mpr h), fun _ => ⟨hceil, hres, hcnt, hint, hra⟩, reported_mono hrep (by simp), hframe⟩
    · rw [ceilWrite_of_le hlock hv]
      refine ⟨_, done_put hs.1 _ _ _ _ fun n _ => psqStat_ne_of_lt (by decide) n, fun _ => ?_, fun h => absurd h (Nat.not_lt.mpr hv),
        ⟨fun o ho => (onlyRegs_put s .pgv 0 PGV_CEIL_CEIL_MW _).1 o fun hm => ho ?_, fun _ _ => rfl, rfl⟩, rfl⟩
      · rw [fld_put_same _ _ _ _ _ (by decide) (by decide)]
        exact Nat.mod_eq_of_lt (by simp only [PGV_CEIL_CEIL_MW]; omega)
      · rw [List.mem_singleton] at hm
        rw [hm]
        decide
  · rw [exec_ceilMwWrite_of_live hs.2, ceilWrite_of_locked hlock]
    exact ⟨s, done_self hs.1, rfl⟩
  · rw [exec_ceilLock_of_live hs.2]
    obtain ⟨hrd, hframe⟩ := onlyRegs_put s .pgv 0 PGV_CEIL_LOCK 1
    refine ⟨_, done_put hs.1 _ _ _ _ fun n _ => psqStat_ne_of_lt (by decide) n, flag_of_fld ?_, ?_, hrd, hframe⟩
    · exact fld_put_same _ _ _ _ _ (by decide) (by decide)
    · exact fld_put_other _ _ (by decide) (by decide) (by decide) (by decide)

end Sys2Proof.Machine

namespace Sys2Proof.Machine
open Sys2Proof Reg

/-! ## The ceiling bounds the charge (O18) -/

/-! ### What charge-changing writes leave aside -/

/-- What no charge-changing write touches: what the command's end looks at, the power domains, and the word of the ceiling. -/
structure LeavesAside (s u : State) : Prop where
  grave : u.grave = s.grave
  dev : u.dev = s.dev
  domains : u.domains = s.domains
  stat : ∀ n < 8, u.rd (baseOf .psq n + 0x14) = s.rd (baseOf .psq n + 0x14)
  ceil : u.rd 0x3040 = s.rd 0x3040

namespace LeavesAside

theorem refl (s : State) : LeavesAside s s := ⟨rfl, rfl, rfl, fun _ _ => rfl, rfl⟩

theorem trans {s t u : State} (h1 : LeavesAside s t) (h2 : LeavesAside t u) : LeavesAside s u where
  grave := h2.grave.trans h1.grave
  dev := h2.dev.trans h1.dev
  domains := h2.domains.trans h1.domains
  stat n hn := (h2.stat n hn).trans (h1.stat n hn)
  ceil := h2.ceil.trans h1.ceil

theorem put (s : State) (k : PageKind) (i : Nat) (f : Fld) (v : Nat) (ho : 0x300000 ≤ fldOff k i f 0) : LeavesAside s (s.put k i f v) where
  grave := rfl
  dev := rfl
  domains := rfl
  stat n hn := rd_put_other s v (by simp only [baseOf]; omega)
  ceil := rd_put_other s v (by omega)

theorem setBank (s : State) (b : Nat) (x : BankSt) : LeavesAside s (s.setBank b x) := ⟨rfl, rfl, rfl, fun _ _ => rfl, rfl⟩

theorem pgvResp (s : State) (r : Nat) (src : Src) (total : Nat) : LeavesAside s (s.pgvResp r src total) where
  grave := rfl
  dev := rfl
  domains := rfl
  stat n _ := psqStat_pgvResp s r src total n
  ceil := rd_pgvResp_other s r src total (by decide)

theorem pgvRefuse (s : State) (r : Nat) (src : Src) (total : Nat) : LeavesAside s (s.pgvRefuse r src total) where
  grave := by rw [pgvRefuse_eq_with]
  dev := by rw [pgvRefuse_eq_with]
  domains := by rw [pgvRefuse_eq_with]
  stat n _ := psqStat_pgvRefuse s r src total n
  ceil := (pgvRefuse_reported s r src total).1 _ (by decide)

theorem of_reportsOn {page : Nat} (hp : page % 0x1000 = 0) {s u : State} (h : ReportsOn page s u) : LeavesAside s u where
  grave := by rw [h.frame]
  dev := by rw [h.frame]
  domains := by rw [h.frame]
  stat n _ := h.rd _ (by simp only [baseOf]; omega) (psqStat_not_mem_pbaOffs n) (psqStat_not_mem_evrOffs n)
  ceil := h.rd _ (by omega) (by decide) (by decide)

theorem recharge (s : State) (b : Nat) : LeavesAside s (s.recharge b) := by
  unfold State.recharge
  split
  · exact setBank s b _
  · exact refl s

theorem touchShadow (s : State) (b : Nat) : LeavesAside s (s.touchShadow b) := by
  unfold State.touchShadow
  split
  · exact setBank s b _
  · exact refl s

theorem storeGated {change : State → State} (hc : ∀ u, LeavesAside u (change u)) (s : State) (who : Asker) (b : Nat) (w : StoredWrite) :
    LeavesAside s (s.storeGated who b w change) := by
  unfold State.storeGated
  split
  · exact setBank s b _
  · exact (hc s).trans (touchShadow _ b)

theorem govern {change apply : State → State} (hc : ∀ u, LeavesAside u (change u)) (ha : ∀ u, LeavesAside u (apply u)) (s : State)
    (who : Asker) (b : Nat) (busy : Bool) : LeavesAside s (s.govern who b busy change apply).1 := by
  unfold State.govern
  rcases evaluate_cases s who.src busy (s.charged - (s.bank b).charge + (change s).bankDraw b) with ⟨-, he⟩ | ⟨r, he⟩ | ⟨r, v, he, hv⟩
  · simp only [he]
    exact (((pgvResp s _ _ _).trans (hc _)).trans (ha _)).trans (recharge _ b)
  · simp only [he]
    exact pgvResp s _ _ _
  · simp only [he]
    cases v
    · exact absurd rfl hv
    all_goals exact pgvRefuse s _ _ _

end LeavesAside

/-! ### Charges after a write -/

/-- A bank's record may change without its charge. -/
theorem charge_setBank_of_same (s : State) (b q : Nat) {x : BankSt} (h : x.charge = (s.bank b).charge) :
    ((s.setBank b x).bank q).charge = (s.bank q).charge := by
  rw [bank_setBank]
  split
  · next hq => rw [h, hq]
  · rfl

theorem charge_touchShadow (s : State) (b q : Nat) : ((s.touchShadow b).bank q).charge = (s.bank q).charge := by
  unfold State.touchShadow
  split
  · exact charge_setBank_of_same s b q rfl
  · rfl

/-- A write to a bank that counts as gated is stored, and charged nothing (R127, R368). -/
theorem charge_storeGated {change : State → State} (hc : ∀ u, (change u).banks = u.banks) (s : State) (who : Asker) (b q : Nat)
    (w : StoredWrite) : ((s.storeGated who b w change).bank q).charge = (s.bank q).charge := by
  unfold State.storeGated
  split
  · exact charge_setBank_of_same s b q rfl
  · rw [charge_touchShadow, State.bank, hc]
    rfl

theorem ceil_congr {s u : State} (h : LeavesAside s u) : u.fld .pgv 0 PGV_CEIL_CEIL_MW = s.fld .pgv 0 PGV_CEIL_CEIL_MW := fld_congr h.ceil

/-- A write that the Governor evaluates leaves the charged total under the ceiling where it was there before (R26, R27). -/
theorem charged_govern_le {s : State} {who : Asker} {b : Nat} (hb : b < 24) {busy : Bool} {change apply : State → State}
    (hle : s.charged ≤ s.fld .pgv 0 PGV_CEIL_CEIL_MW) (hc : ∀ u, LeavesAside u (change u)) (ha : ∀ u, LeavesAside u (apply u))
    (hcb : ∀ u, (change u).banks = u.banks) (hab : ∀ u, (apply u).banks = u.banks)
    (hdraw : ∀ r total, (apply (change (s.pgvResp r who.src total))).bankDraw b = (change s).bankDraw b) :
    (s.govern who b busy change apply).1.charged ≤ s.fld .pgv 0 PGV_CEIL_CEIL_MW := by
  unfold State.govern
  rcases evaluate_cases s who.src busy (s.charged - (s.bank b).charge + (change s).bankDraw b) with ⟨hfit, he⟩ | ⟨r, he⟩ | ⟨r, v, he, hv⟩
  · simp only [he]
    have hu := hdraw 1 (s.charged - (s.bank b).charge + (change s).bankDraw b)
    have hdom := (((LeavesAside.pgvResp s 1 who.src (s.charged - (s.bank b).charge + (change s).bankDraw b)).trans (hc _)).trans (ha _)).domains
    have hbanks := (hab (change (s.pgvResp 1 who.src (s.charged - (s.bank b).charge + (change s).bankDraw b)))).trans (hcb _)
    generalize apply (change (s.pgvResp 1 who.src (s.charged - (s.bank b).charge + (change s).bankDraw b))) = u at *
    have hbank : ∀ q, u.bank q = s.bank q := fun q => by rw [State.bank, hbanks]; rfl
    have hch : u.charged = s.charged := charged_congr hdom fun q => by rw [hbank]
    rw [State.recharge]
    split
    · rw [charged_setBank u hb, hch, hbank, hu]
      exact hfit.elim id fun h => h.trans hle
    · exact hch.le.trans hle
  · simp only [he]
    exact (charged_congr rfl fun _ => rfl).le.trans hle
  · simp only [he]
    have hr : (s.pgvRefuse r who.src (s.charged - (s.bank b).charge + (change s).bankDraw b)).charged = s.charged :=
      charged_congr (by rw [pgvRefuse_eq_with]) fun q => by rw [pgvRefuse_eq_with]; rfl
    cases v
    · exact absurd rfl hv
    all_goals exact hr.le.trans hle

/-- A command that leaves aside what its end looks at keeps under the ceiling what it leaves under it. -/
theorem done_under {s u : State} (hs : Steady s) (ha : LeavesAside s u) (h : u.charged ≤ s.fld .pgv 0 PGV_CEIL_CEIL_MW) :
    ∃ t, done u = .next t ∧ t.charged ≤ t.fld .pgv 0 PGV_CEIL_CEIL_MW :=
  ⟨{ u with sig := [] }, done_of_steady hs (ha.grave.trans hs.1) ha.dev ha.stat, h.trans (ceil_congr ha).ge⟩

/-- A write to a gated bank stays under the ceiling. -/
theorem done_storeGated_under {s : State} (hs : Steady s) (hle : s.charged ≤ s.fld .pgv 0 PGV_CEIL_CEIL_MW) (who : Asker) (b : Nat)
    (w : StoredWrite) {change : State → State} (hc : ∀ u, LeavesAside u (change u)) (hcb : ∀ u, (change u).banks = u.banks) :
    ∃ t, done (s.storeGated who b w change) = .next t ∧ t.charged ≤ t.fld .pgv 0 PGV_CEIL_CEIL_MW := by
  have ha := LeavesAside.storeGated hc s who b w
  exact done_under hs ha ((charged_congr ha.domains fun q => charge_storeGated hcb s who b q w).le.trans hle)

/-- A put of a field of a bank's page, stored or evaluated, stays under the ceiling. -/
theorem done_chargePut_under {s : State} (hs : Steady s) (hle : s.charged ≤ s.fld .pgv 0 PGV_CEIL_CEIL_MW) (who : Asker) {b : Nat}
    (hb : b < 24) (w : StoredWrite) (k : PageKind) (i : Nat) (f : Fld) (v : Nat) (ho : 0x300000 ≤ fldOff k i f 0) :
    ∃ t, done (s.chargePut who b w k i f v) = .next t ∧ t.charged ≤ t.fld .pgv 0 PGV_CEIL_CEIL_MW := by
  have hput : ∀ u, LeavesAside u (State.put u k i f v) := fun u => .put u k i f v ho
  unfold State.chargePut
  split
  · exact done_storeGated_under hs hle who b w hput fun u => put_banks u k i f v
  · exact done_under hs (.govern hput .refl s who b false)
      (charged_govern_le hb hle hput .refl (fun u => put_banks u k i f v) (fun _ => rfl)
        fun r total => bankDraw_put_pgvResp s k i f v b r who.src total)

end Sys2Proof.Machine

namespace Sys2Proof.Machine
open Sys2Proof Reg

/-! ### A mode transition begins -/

theorem freeTmu_eq_with (s : State) (t : Nat) : s.freeTmu t = { s with regs := (s.freeTmu t).regs } := by
  unfold State.freeTmu
  split <;> rfl

/-- A TMU that is given back changes its status word only, which lies at 0x044 or 0x804 of a page. -/
theorem rd_freeTmu_other (s : State) (t : Nat) {o : Nat} (h1 : o % 0x1000 ≠ 0x44) (h2 : o % 0x1000 ≠ 0x804) :
    (s.freeTmu t).rd o = s.rd o := by
  unfold State.freeTmu
  split
  · refine rd_put_other s _ ?_
    simp only [fldOff, baseOf, TMU_STAT_STATE]
    split <;> omega
  · rfl

theorem calAbandon_eq_with (s : State) (r : Nat) :
    s.calAbandon r = { s with regs := (s.calAbandon r).regs, cal := (s.calAbandon r).cal } := by
  simp only [State.calAbandon]
  split
  · rw [freeTmu_eq_with]
    rfl
  · rfl

/-- An abandoned calibration step gives its TMU back, and changes no other register (R446). -/
theorem rd_calAbandon_other (s : State) (r : Nat) {o : Nat} (h1 : o % 0x1000 ≠ 0x44) (h2 : o % 0x1000 ≠ 0x804) :
    (s.calAbandon r).rd o = s.rd o := by
  simp only [State.calAbandon]
  split
  · next t _ => exact rd_freeTmu_other s t h1 h2
  · rfl

theorem levelBlank_eq_with (s : State) (b m : Nat) : s.levelBlank b m = { s with guards := (s.levelBlank b m).guards } := by
  unfold State.levelBlank
  split <;> rfl

/-- Blanking the pin monitors of a bank changes guards only. -/
theorem levelBlanks_eq_with (b : Nat) (l : List Nat) (s : State) :
    l.foldl (fun s m => s.levelBlank b m) s = { s with guards := (l.foldl (fun s m => s.levelBlank b m) s).guards } := by
  induction l generalizing s with
  | nil => rfl
  | cons m l ih => rw [List.foldl_cons, ih, levelBlank_eq_with]

theorem startTransition_eq_with (s : State) (b : Nat) :
    s.startTransition b = { s with
      regs := (s.startTransition b).regs, pins := (s.startTransition b).pins, guards := (s.startTransition b).guards
      cal := (s.startTransition b).cal } := by
  simp only [State.startTransition]
  have hl := levelBlanks_eq_with b (List.range 32) (((s.put .bnk b BNK_MODE_TRANSITION 1).put .bnk b BNK_STAT_TRANSITION 1).safeBankPins b)
  generalize (List.range 32).foldl (fun (s : State) m => s.levelBlank b m) _ = u at *
  have hc := calAbandon_eq_with u b
  generalize u.calAbandon b = v at *
  rw [hc, hl]
  rfl

/-- The words of the state in which TRANSITION is 1, apart from the TMUs' status words. -/
theorem rd_startTransition (s : State) (b : Nat) {o : Nat} (h1 : o % 0x1000 ≠ 0x44) (h2 : o % 0x1000 ≠ 0x804) :
    (s.startTransition b).rd o = ((s.put .bnk b BNK_MODE_TRANSITION 1).put .bnk b BNK_STAT_TRANSITION 1).rd o := by
  simp only [State.startTransition]
  rw [rd_calAbandon_other _ _ h1 h2, levelBlanks_eq_with]
  rfl

theorem rd_startTransition_other (s : State) (b : Nat) {o : Nat} (h1 : o % 0x1000 ≠ 0x44) (h2 : o % 0x1000 ≠ 0x804)
    (h3 : o ≠ baseOf .bnk b + 0x40) (h4 : o ≠ baseOf .bnk b + 0x14) : (s.startTransition b).rd o = s.rd o := by
  rw [rd_startTransition s b h1 h2, rd_put_other _ _ h4, rd_put_other _ _ h3]

/-- A bank in transition draws what the mode it requests draws. -/
theorem bankDraw_startTransition (s : State) (b : Nat) : (s.startTransition b).bankDraw b = s.bankDraw b := by
  have hw : fldOff .bnk b BNK_MODE_REQ 0 % 0x1000 = 0x40 := by simp only [fldOff, baseOf, BNK_MODE_REQ]; omega
  refine bankDraw_congr ?_ fun o ho hm => ?_
  · rw [fld_congr (rd_startTransition s b (by omega) (by omega)), fld_put_other _ _ (by decide) (by decide) (by decide),
      fld_put_other _ _ (by decide) (by decide) (by decide) (.inr (by decide))]
    exact .inl (by simp only [fldOff, BNK_MODE_REQ, BNK_STAT_TRANSITION]; omega)
  · obtain ⟨-, ho⟩ := ho
    exact rd_startTransition_other s b (by omega) (by omega) hm (by simp only [baseOf]; omega)

theorem LeavesAside.startTransition (b : Nat) (s : State) : LeavesAside s (s.startTransition b) where
  grave := by rw [startTransition_eq_with]
  dev := by rw [startTransition_eq_with]
  domains := by rw [startTransition_eq_with]
  stat n hn := rd_startTransition_other s b (by simp only [baseOf]; omega) (by simp only [baseOf]; omega) (by simp only [baseOf]; omega)
    (by simp only [baseOf]; omega)
  ceil := rd_startTransition_other s b (by decide) (by decide) (by simp only [baseOf]; omega) (by simp only [baseOf]; omega)

/-! ### Mode requests -/

section Under
variable {s : State} (hs : Steady s) (hle : s.charged ≤ s.fld .pgv 0 PGV_CEIL_CEIL_MW) (who : Asker)
include hs hle

/-- A mode request that is ignored in a transition only reports on the bank's page (R126). -/
theorem done_modeIgnored_under (b : Nat) :
    ∃ t, done ((s.int .bnk b 3).ignored .bnk b 3).1 = .next t ∧ t.charged ≤ t.fld .pgv 0 PGV_CEIL_CEIL_MW := by
  have hr : ReportsOn (pageBase .bnk b) s ((s.int .bnk b 3).ignored .bnk b 3).1 :=
    (ReportsOn.int s .bnk b 3).trans (ReportsOn.raiseOpen _ .bnk b 3 (by decide))
  have ha := LeavesAside.of_reportsOn (by simp only [pageBase]; omega) hr
  exact done_under hs ha ((charged_congr ha.domains fun q => by rw [hr.frame]; rfl).le.trans hle)

theorem done_modeWrite_under {b : Nat} (hb : b < 24) (m : Nat) :
    ∃ t, done (s.modeWrite who b m).1 = .next t ∧ t.charged ≤ t.fld .pgv 0 PGV_CEIL_CEIL_MW := by
  have ho : 0x300000 ≤ fldOff .bnk b BNK_MODE_REQ 0 := by simp only [fldOff, baseOf]; omega
  have hput : ∀ u, LeavesAside u (u.put .bnk b BNK_MODE_REQ m) := fun u => .put u _ _ _ _ ho
  unfold State.modeWrite
  split
  · exact done_under hs (.refl s) hle
  · split
    · exact done_modeIgnored_under hs hle b
    · split
      · exact done_storeGated_under hs hle who _ _ hput fun u => put_banks u _ _ _ _
      · split
        · refine done_under hs (.govern .refl .refl s who b false)
            (charged_govern_le hb hle .refl .refl (fun _ => rfl) (fun _ => rfl) fun r total => ?_)
          have h : ∀ o, 0x300000 ≤ o → (s.pgvResp r who.src total).rd o = s.rd o := fun o ho => rd_pgvResp_other s _ _ _ (by omega)
          exact bankDraw_congr (fld_congr (h _ ho)) fun o hw _ => h o hw.1
        · refine done_under hs (.govern hput (.startTransition b) s who b _)
            (charged_govern_le hb hle hput (.startTransition b) (fun u => put_banks u _ _ _ _) (fun u => by rw [startTransition_eq_with]) fun r total => ?_)
          rw [bankDraw_startTransition, bankDraw_put_pgvResp]

end Under

/-- Settles O18: a write that is stored or refused leaves every charge, and one that the Governor admits fits under the ceiling or leaves the
charged total no higher. -/
theorem ceilingBoundsTheCharge : Obligations.CeilingBoundsTheCharge := by
  unfold Obligations.CeilingBoundsTheCharge
  intro s hs hle
  refine ⟨fun u => ?_, fun b => ?_, fun u v hv => ?_, fun b => ?_, fun b => ?_, fun b m => ?_⟩
  · rw [exec_dpsEn_of_live hs.2]
    exact done_chargePut_under hs.1 hle _ (by omega) _ _ _ _ _ (by simp only [fldOff, baseOf]; omega)
  · rw [exec_hvcEn_of_live hs.2]
    exact done_chargePut_under hs.1 hle _ b.isLt _ _ _ _ _ (by simp only [fldOff, baseOf]; omega)
  · rw [exec_ilim_of_live hs.2 u v hv]
    exact done_chargePut_under hs.1 hle _ (by omega) _ _ _ _ _ (by simp only [fldOff, baseOf]; omega)
  · rw [exec_pmuEn_of_live hs.2]
    exact done_chargePut_under hs.1 hle _ b.isLt _ _ _ _ _ (by simp only [fldOff, baseOf]; omega)
  · rw [exec_acqEn_of_live hs.2]
    exact done_chargePut_under hs.1 hle _ b.isLt _ _ _ _ _ (by simp only [fldOff, baseOf]; omega)
  · rw [exec_req_of_live hs.2]
    exact done_modeWrite_under hs.1 hle _ b.isLt _

end Sys2Proof.Machine

namespace Sys2Proof.Machine
open Sys2Proof Reg

/-! ## A mode request gives back a TMU that no page shows (O23)

A calibration step names the TMU it holds by any number (`CalStep.tmu`), and no invariant of a steady state says that it is one of the sixteen.
A step that names TMU 16 has its status word computed on page 0x20000, past the pages of the TMUs; the admitted request abandons the step
(R446) and so writes that register. -/

/-- Bank 0 is on, and its calibration record has a step in progress that names TMU 16, whose status word would be register 0x20044. -/
def strayTmuStep : State :=
  let s := { State.reset with dev := .ready, banks := [(0, { BankSt.down with phase := .on })] }
  (s.setCal 0 { CalRec.fresh with step := some ⟨0, 0, 0, some 16⟩ }).put .tmu 16 TMU_STAT_STATE 4

theorem strayTmuStep_serving : Serving strayTmuStep :=
  serving_of (by decide +kernel) (by decide +kernel) (by decide +kernel) (by decide +kernel)

/-- The registers that a command leaves. -/
def wordAfter (o : Host.Outcome State Fault Refusal) (off : Nat) : Word :=
  match o with
  | .next t => t.rd off
  | _ => 0

/-- The admitted request of Performance mode sets the state of TMU 16 back. -/
theorem wordAfter_req_strayTmuStep : wordAfter (exec (.req 0 0) strayTmuStep) 0x20044 ≠ strayTmuStep.rd 0x20044 := by decide +kernel

/-- Refutes O23: an admitted mode request is said to change no register but those of the Governor, of the bank and of the sixteen TMUs, but a
calibration step of the bank that names TMU 16 is given up with a write to register 0x20044. -/
theorem not_modeRequests : ¬ Obligations.ModeRequests := by
  unfold Obligations.ModeRequests
  intro h
  obtain ⟨hadmit, -⟩ := h strayTmuStep strayTmuStep_serving
  obtain ⟨t, ht, -, -, ⟨hregs, -⟩, -⟩ := hadmit 0 0 (by decide +kernel) (by decide) (by decide +kernel) (by decide +kernel)
    (by decide +kernel) (by decide +kernel)
  apply wordAfter_req_strayTmuStep
  rw [ht]
  exact hregs 0x20044 (by decide)

end Sys2Proof.Machine

namespace Sys2Proof.Machine
open Sys2Proof Reg

/-! ## What registers, supplies and reports leave of the rest -/

/-- The banks, the instruments' requests, the noted entry and the device state stand. -/
structure KeepsCore (s u : State) : Prop where
  banks : u.banks = s.banks
  meas : u.meas = s.meas
  grave : u.grave = s.grave
  dev : u.dev = s.dev

namespace KeepsCore

theorem refl (s : State) : KeepsCore s s := ⟨rfl, rfl, rfl, rfl⟩

theorem trans {s t u : State} (h1 : KeepsCore s t) (h2 : KeepsCore t u) : KeepsCore s u :=
  ⟨h2.banks.trans h1.banks, h2.meas.trans h1.meas, h2.grave.trans h1.grave, h2.dev.trans h1.dev⟩

theorem foldl {α : Type} {f : State → α → State} (h : ∀ s a, KeepsCore s (f s a)) (l : List α) (s : State) : KeepsCore s (l.foldl f s) := by
  induction l generalizing s with
  | nil => exact refl s
  | cons a l ih => exact (h s a).trans (ih _)

theorem ite {c : Prop} [Decidable c] {s t u : State} (h1 : KeepsCore s t) (h2 : KeepsCore s u) : KeepsCore s (if c then t else u) := by
  split
  · exact h1
  · exact h2

theorem wr (s : State) (o : Nat) (v : Word) : KeepsCore s (s.wr o v) := ⟨rfl, rfl, rfl, rfl⟩
theorem putAt (s : State) (k : PageKind) (i : Nat) (f : Fld) (j v : Nat) : KeepsCore s (s.putAt k i f j v) := ⟨rfl, rfl, rfl, rfl⟩
theorem put (s : State) (k : PageKind) (i : Nat) (f : Fld) (v : Nat) : KeepsCore s (s.put k i f v) := ⟨rfl, rfl, rfl, rfl⟩
theorem drawn (s : State) : KeepsCore s s.drawn := ⟨rfl, rfl, rfl, rfl⟩
theorem setPin (s : State) (k : Nat) (v : PinSt) : KeepsCore s (s.setPin k v) := ⟨rfl, rfl, rfl, rfl⟩
theorem setSup (s : State) (k : Nat) (v : SupplySt) : KeepsCore s (s.setSup k v) := ⟨rfl, rfl, rfl, rfl⟩
theorem setGuard (s : State) (k : Nat) (v : GuardSt) : KeepsCore s (s.setGuard k v) := ⟨rfl, rfl, rfl, rfl⟩
theorem setFe (s : State) (k : Nat) (v : FeSt) : KeepsCore s (s.setFe k v) := ⟨rfl, rfl, rfl, rfl⟩
theorem setPsq (s : State) (k : Nat) (v : PsqSt) : KeepsCore s (s.setPsq k v) := ⟨rfl, rfl, rfl, rfl⟩
theorem setTmu (s : State) (k : Nat) (v : TmuSt) : KeepsCore s (s.setTmu k v) := ⟨rfl, rfl, rfl, rfl⟩
theorem setCal (s : State) (k : Nat) (v : CalRec) : KeepsCore s (s.setCal k v) := ⟨rfl, rfl, rfl, rfl⟩
theorem setEvr (s : State) (x : EvrSt) : KeepsCore s (s.setEvr x) := ⟨rfl, rfl, rfl, rfl⟩
theorem setDomain (s : State) (d : Nat) (on : Bool) : KeepsCore s (s.setDomain d on) := ⟨rfl, rfl, rfl, rfl⟩

theorem of_reportsOn {page : Nat} {s u : State} (h : ReportsOn page s u) : KeepsCore s u := by
  constructor <;> rw [h.frame]

theorem int (s : State) (k : PageKind) (i b : Nat) : KeepsCore s (s.int k i b) := of_reportsOn (.int s k i b)

theorem levelBlank (s : State) (b m : Nat) : KeepsCore s (s.levelBlank b m) := by
  constructor <;> rw [levelBlank_eq_with]

theorem supTransition (s : State) (u : Nat) : KeepsCore s (s.supTransition u) :=
  .ite ((levelBlank _ _ _).trans (levelBlank _ _ _)) (levelBlank _ _ _)

theorem supFault (s : State) (u : Nat) : KeepsCore s (s.supFault u) :=
  ((((((setSup _ _ _).trans (put _ _ _ _ _)).trans (.ite (refl _) (put _ _ _ _ _))).trans (put _ _ _ _ _)).trans (put _ _ _ _ _)).trans
    (int _ _ _ _)).trans (supTransition _ _)

theorem allSupFault (s : State) : KeepsCore s s.allSupFault := foldl supFault _ s

theorem calAbandon (s : State) (r : Nat) : KeepsCore s (s.calAbandon r) := by
  constructor <;> rw [calAbandon_eq_with]

theorem calAbandonAll (s : State) : KeepsCore s s.calAbandonAll := foldl calAbandon _ s

theorem cutPsq (s : State) (n : Nat) : KeepsCore s (s.cutPsq n) :=
  .ite ((((put _ _ _ _ _).trans (drawn _)).trans (put _ _ _ _ _)).trans (setPsq _ _ _)) (refl s)

theorem bump (s : State) (k : PageKind) (i : Nat) (c o : Fld) : KeepsCore s (s.bump k i c o) := by
  constructor <;> rw [State.bump, bumpBy_eq_with]

end KeepsCore

end Sys2Proof.Machine

namespace Sys2Proof.Machine
open Sys2Proof Reg

/-! ## A stale shadow is discarded at the end of a power-up (O28) -/

/-! ### What a power-up's steps leave of the banks -/

namespace KeepsCore

theorem resetConfig (s : State) (k : PageKind) (i : Nat) : KeepsCore s (s.resetConfig k i) :=
  foldl (fun s _ => foldl (fun _ _ => putAt _ _ _ _ _ _) _ s) _ s

theorem calBit (s : State) (f : Fld) (r : Nat) (on : Bool) : KeepsCore s (s.calBit f r on) := .ite (refl s) (put _ _ _ _ _)

theorem makeDue (s : State) (r : Nat) : KeepsCore s (s.makeDue r) := .ite (refl s) ((setCal _ _ _).trans (calBit _ _ _ _))

theorem makeDueUnrun (s : State) (b : Nat) : KeepsCore s (s.makeDueUnrun b) := .ite (makeDue s b) (refl s)

theorem selectNow (s : State) (r : Nat) : KeepsCore s (s.selectNow r) := by
  unfold State.selectNow
  split
  · exact (setCal _ _ _).trans (int _ _ _ _)
  · exact refl s

theorem applyDeskew (s : State) (k : Nat) : KeepsCore s (s.applyDeskew k) := by
  unfold State.applyDeskew
  split
  · exact (((put _ _ _ _ _).trans (put _ _ _ _ _)).trans (put _ _ _ _ _)).trans (setPin _ _ _)
  · exact refl s

theorem newDeskew (s : State) (k drv cmp : Nat) : KeepsCore s (s.newDeskew k drv cmp) :=
  (setPin s k _).trans (.ite (put _ _ _ _ _) (applyDeskew _ _))

theorem refreshDeskew (s : State) (k : Nat) : KeepsCore s (s.refreshDeskew k) :=
  .ite ((setPin _ _ _).trans (put _ _ _ _ _)) (newDeskew _ _ _ _)

theorem recompute (s : State) (r : Nat) : KeepsCore s (s.recompute r) :=
  (setCal s r _).trans (.ite (foldl (fun _ _ => refreshDeskew _ _) _ _) (refl _))

theorem calModeSelect (s : State) (b : Nat) : KeepsCore s (s.calModeSelect b) := (recompute s b).trans (selectNow _ b)

theorem clipBank (s : State) (b : Nat) : KeepsCore s (s.clipBank b) := foldl (fun _ _ => wr _ _ _) _ s

/-- What keeps the banks keeps them when one of them is set besides. -/
theorem setBank {s u : State} (h : KeepsCore s u) (b : Nat) (x : BankSt) : KeepsCore (s.setBank b x) (u.setBank b x) where
  banks := by rw [State.setBank, h.banks]; rfl
  meas := h.meas
  grave := h.grave
  dev := h.dev

/-- A self-check that no channel fails raises nothing (R129). -/
theorem selfCheck_passes (s : State) (b : Nat) : KeepsCore s (s.selfCheck b 0) := by
  simp only [State.selfCheck]
  split
  · exact foldl (fun s l => .ite (put s _ _ _ _) (refl s)) _ s
  · next h => exact absurd (BitVec.zero_and) h

end KeepsCore

/-! ### The end of a power-up -/

/-- The record of a bank depends on the banks only. -/
theorem bank_congr {s u : State} (h : u.banks = s.banks) (b : Nat) : u.bank b = s.bank b := by rw [State.bank, h]; rfl

/-- What the entry into a mode changes besides the record of its bank. -/
theorem enterMode_keepsCore (s : State) (b : Nat) :
    KeepsCore (s.setBank b { s.bank b with limMode := s.fld .bnk b BNK_MODE_REQ, calMode := s.fld .bnk b BNK_MODE_REQ })
      (s.enterMode b) := by
  have hputs := (KeepsCore.put s .bnk b BNK_MODE_ACTIVE (s.fld .bnk b BNK_MODE_REQ)).trans
    (.put _ .lde b LDE_STAT_RANGE (bit (s.fld .bnk b BNK_MODE_REQ != 0)))
  simp only [State.enterMode]
  generalize (s.put .bnk b BNK_MODE_ACTIVE (s.fld .bnk b BNK_MODE_REQ)).put .lde b LDE_STAT_RANGE (bit (s.fld .bnk b BNK_MODE_REQ != 0)) = u at *
  rw [bank_congr hputs.banks]
  exact (((hputs.setBank b _).trans (.clipBank _ b)).trans (.calModeSelect _ b)).trans (.makeDueUnrun _ b)

/-- A bank with no stored write and no waiting power-down, in a command that recorded no grave entry. -/
structure Plain (b : Nat) (u : State) : Prop where
  stored : (u.bank b).stored = []
  downWait : (u.bank b).downWait = none
  grave : u.grave = none

namespace Plain

theorem keeps {b : Nat} {s u : State} (h : Plain b s) (hk : KeepsCore s u) : Plain b u where
  stored := by rw [bank_congr hk.banks, h.stored]
  downWait := by rw [bank_congr hk.banks, h.downWait]
  grave := hk.grave.trans h.grave

theorem setBank {b : Nat} {s : State} (h : Plain b s) {x : BankSt} (hst : x.stored = []) (hw : x.downWait = none) :
    Plain b (s.setBank b x) where
  stored := by rw [bank_setBank_same, hst]
  downWait := by rw [bank_setBank_same, hw]
  grave := h.grave

theorem recharge {b : Nat} {s : State} (h : Plain b s) : Plain b (s.recharge b) := by
  unfold State.recharge
  split
  · exact h.setBank h.stored h.downWait
  · exact h

end Plain

theorem limMode_recharge (s : State) (b : Nat) : ((s.recharge b).bank b).limMode = (s.bank b).limMode := by
  unfold State.recharge
  split
  · rw [bank_setBank_same]
  · rfl

/-- The mode that a bank enters is the one its shadow requests. -/
theorem limMode_enterMode (s : State) (b : Nat) : ((s.enterMode b).bank b).limMode = s.fld .bnk b BNK_MODE_REQ := by
  rw [bank_congr (enterMode_keepsCore s b).banks, bank_setBank_same]

theorem Plain.enterMode {b : Nat} {s : State} (h : Plain b s) : Plain b (s.enterMode b) := by
  refine Plain.keeps ?_ (enterMode_keepsCore s b)
  exact h.setBank h.stored h.downWait

theorem playDown_of_none {s : State} {b : Nat} (h : (s.bank b).downWait = none) : s.playDown b = s := by
  rw [State.playDown, h]

/-- The domains of a bank that is powered up are on, and its phase is ON. -/
def State.wake (s : State) (b : Nat) : State :=
  let s := ((s.setDomain (12 + b / 6) true).bankPhase b .on).setDomain (16 + b) true
  s.setFe (b / 6) { s.fe (b / 6) with offDue := false }

theorem Plain.wake {b : Nat} {s : State} (h : Plain b s) : Plain b (s.wake b) := by
  have hon : Plain b ((s.setDomain (12 + b / 6) true).bankPhase b .on) := (h.keeps (.setDomain s _ _)).setBank h.stored h.downWait
  exact (hon.keeps (.setDomain _ _ _)).keeps (.setFe _ _ _)

theorem fld_wake (s : State) (b : Nat) (k : PageKind) (i : Nat) (f : Fld) : (s.wake b).fld k i f = s.fld k i f := fld_congr rfl

/-- A power-up whose shadow holds no stored writes, and during which no power-down was asked for, brings the bank into the mode that its
configuration holds once the shadow is taken (R127, R520). -/
theorem bankPowerUpDone_of_plain {s : State} {b : Nat} (hp : (s.bank b).phase = .rising) (h : Plain b (s.takeShadow b)) :
    Plain b (bankPowerUpDone b 0 s)
      ∧ ((bankPowerUpDone b 0 s).bank b).limMode = (s.takeShadow b).fld .bnk b BNK_MODE_REQ := by
  have heq : bankPowerUpDone b 0 s =
      (let u := (((s.takeShadow b).wake b).enterMode b |>.selfCheck b 0).recharge b
       (((u.bank b).stored.foldl (fun s w => s.playStored b w) (u.setBank b { u.bank b with stored := [] })).int .hifRst 0 0).playDown b) := by
    rw [bankPowerUpDone, if_pos hp]
    rfl
  rw [heq]
  have hu := (h.wake.enterMode.keeps (.selfCheck_passes _ b)).recharge
  have hm := (limMode_recharge ((((s.takeShadow b).wake b).enterMode b).selfCheck b 0) b).trans
    ((congrArg BankSt.limMode (bank_congr (KeepsCore.selfCheck_passes _ b).banks b)).trans (limMode_enterMode ((s.takeShadow b).wake b) b))
  rw [fld_wake] at hm
  generalize (((s.takeShadow b).wake b).enterMode b |>.selfCheck b 0).recharge b = u at *
  have hw := (hu.setBank (x := { u.bank b with stored := [] }) rfl hu.downWait).keeps (.int _ .hifRst 0 0)
  simp only [hu.stored, List.foldl_nil, playDown_of_none hw.downWait]
  refine ⟨hw, ?_⟩
  rw [bank_congr (KeepsCore.int _ .hifRst 0 0).banks, bank_setBank_same, hm]

/-! ### A stale shadow -/

/-- A register that no step of a fold writes. -/
theorem rd_foldl {α : Type} {f : State → α → State} {o : Nat} (l : List α) (h : ∀ a ∈ l, ∀ s, (f s a).rd o = s.rd o) (s : State) :
    (l.foldl f s).rd o = s.rd o := by
  induction l generalizing s with
  | nil => rfl
  | cons a l ih => rw [List.foldl_cons, ih (fun b hb => h b (List.mem_cons_of_mem a hb)), h a List.mem_cons_self]

/-- A page whose configuration is reset lies at its base and above. -/
theorem rd_resetConfig_below (s : State) {k : PageKind} {i o : Nat} (h : o < baseOf k i) : (s.resetConfig k i).rd o = s.rd o := by
  refine rd_foldl _ (fun f _ u => rd_foldl _ (fun j _ w => rd_putAt_other w _ ?_) u) s
  rw [fldOff]
  omega

/-- The pages of a bank at their reset configuration. -/
def State.resetPages (s : State) (b : Nat) (ks : List PageKind) : State := ks.foldl (fun s k => s.resetConfig k b) s

/-- Supplies that no longer follow, at their reset configuration. -/
def State.resetSupplies (s : State) (us : List Nat) : State :=
  us.foldl (fun s u => (s.resetConfig .dps u).put .dps u DPS_STAT_FOLLOWER 0) s

/-- Supplies at their power-up codes with empty queues. -/
def State.emptySupplies (s : State) (us : List Nat) : State :=
  us.foldl (fun s u =>
    (s.setSup u { s.sup u with queue := [], issued := none, wait := 0, starting := false, hold := none }).put (supKind u) (supInst u)
      DPS_V_CODE (s.sup u).puvCode) s

/-- The channels of a bank at their reset configuration. -/
def State.resetChannels (s : State) (b : Nat) : State := (List.range 32).foldl (fun s l => s.resetConfig .pec (32 * b + l)) s

theorem KeepsCore.resetPages (s : State) (b : Nat) (ks : List PageKind) : KeepsCore s (s.resetPages b ks) :=
  foldl (fun s k => resetConfig s k b) ks s

theorem KeepsCore.resetSupplies (s : State) (us : List Nat) : KeepsCore s (s.resetSupplies us) :=
  foldl (fun s u => (resetConfig s .dps u).trans (put _ .dps u DPS_STAT_FOLLOWER 0)) us s

theorem KeepsCore.emptySupplies (s : State) (us : List Nat) : KeepsCore s (s.emptySupplies us) :=
  foldl (fun s u => (setSup s u _).trans (put _ (supKind u) (supInst u) DPS_V_CODE _)) us s

theorem KeepsCore.resetChannels (s : State) (b : Nat) : KeepsCore s (s.resetChannels b) :=
  foldl (fun s l => resetConfig s .pec (32 * b + l)) _ s

/-- A register below every page that is reset. -/
theorem rd_resetPages_below (s : State) {b o : Nat} {ks : List PageKind} (h : ∀ k ∈ ks, o < baseOf k b) :
    (s.resetPages b ks).rd o = s.rd o := rd_foldl ks (fun k hk u => rd_resetConfig_below u (h k hk)) s

theorem rd_resetSupplies_below (s : State) {o : Nat} {us : List Nat} (h : ∀ u ∈ us, o < baseOf .dps u) :
    (s.resetSupplies us).rd o = s.rd o := by
  refine rd_foldl us (fun u hu w => (rd_put_other _ _ ?_).trans (rd_resetConfig_below w (h u hu))) s
  have := h u hu
  rw [fldOff]
  omega

theorem rd_emptySupplies_below (s : State) {o : Nat} {us : List Nat} (h : ∀ u ∈ us, o < baseOf (supKind u) (supInst u)) :
    (s.emptySupplies us).rd o = s.rd o := by
  refine rd_foldl us (fun u hu w => (rd_put_other (w.setSup u _) _ ?_).trans rfl) s
  have := h u hu
  rw [fldOff]
  omega

theorem rd_resetChannels_below (s : State) {b o : Nat} (h : o < 0x1000000) : (s.resetChannels b).rd o = s.rd o := by
  refine rd_foldl _ (fun l _ w => rd_resetConfig_below w ?_) s
  simp only [baseOf]
  omega

/-- The edges of a bank's channels are forgotten. -/
def State.dropEdges (s : State) (b : Nat) : State := { s with edgeTab := mapDrop (fun e => e / 2048 / 32 == b) s.edgeTab }

/-- The pages that a discarded shadow resets. -/
def State.resetBank (s : State) (b : Nat) : State :=
  ((((s.resetPages b [.bnk, .hvc, .pmu, .acq, .gmn, .lde]).resetSupplies [3 * b, 3 * b + 1, 3 * b + 2]).emptySupplies
    [3 * b, 3 * b + 1, 3 * b + 2, 72 + b]).resetChannels b).dropEdges b

theorem discardShadow_eq (s : State) (b : Nat) :
    s.discardShadow b = ((s.resetBank b).setBank b { (s.resetBank b).bank b with held := true, stored := [] }).raise .plk 0 6 1
      (BitVec.ofNat 32 b) := rfl

theorem KeepsCore.dropEdges (s : State) (b : Nat) : KeepsCore s (s.dropEdges b) := ⟨rfl, rfl, rfl, rfl⟩

theorem rd_dropEdges (s : State) (b o : Nat) : (s.dropEdges b).rd o = s.rd o := rfl

theorem KeepsCore.resetBank (s : State) (b : Nat) : KeepsCore s (s.resetBank b) := by
  unfold State.resetBank
  refine trans ?_ (dropEdges _ b)
  refine trans ?_ (resetChannels _ b)
  refine trans ?_ (emptySupplies _ _)
  exact (resetPages s b _).trans (resetSupplies _ _)

/-- The registers of the bank's own page come to their reset configuration. -/
theorem rd_resetBank (s : State) {b o : Nat} (h : o < baseOf .bnk b + 0x1000) (hb : b < 24) :
    (s.resetBank b).rd o = (s.resetConfig .bnk b).rd o := by
  have hbase : baseOf .bnk b = 0x300000 + b * 0x10000 := rfl
  have hsup : ∀ u ∈ [3 * b, 3 * b + 1, 3 * b + 2], o < baseOf .dps u := fun u hu => by
    simp only [List.mem_cons, List.not_mem_nil, or_false] at hu
    simp only [baseOf]
    omega
  have hsup' : ∀ u ∈ [3 * b, 3 * b + 1, 3 * b + 2, 72 + b], o < baseOf (supKind u) (supInst u) := fun u hu => by
    simp only [List.mem_cons, List.not_mem_nil, or_false] at hu
    unfold supKind supInst
    split <;> simp only [baseOf] <;> omega
  have hpage : ∀ k ∈ [PageKind.hvc, .pmu, .acq, .gmn, .lde], o < baseOf k b := fun k hk => by
    simp only [List.mem_cons, List.not_mem_nil, or_false] at hk
    rcases hk with rfl | rfl | rfl | rfl | rfl <;> simp only [baseOf] <;> omega
  rw [State.resetBank, rd_dropEdges, rd_resetChannels_below _ (by omega), rd_emptySupplies_below _ hsup', rd_resetSupplies_below _ hsup,
    State.resetPages, List.foldl_cons]
  exact rd_resetPages_below _ hpage

theorem rd_setBank (s : State) (b : Nat) (x : BankSt) (o : Nat) : (s.setBank b x).rd o = s.rd o := rfl

/-- The report of a discarded shadow (R520). -/
theorem raise_stale_reportsOn (s : State) (d : Word) : ReportsOn 0x50000 s (s.raise .plk 0 6 1 d) :=
  ReportsOn.raise (k := .plk) (i := 0) d (by rw [recordedLevel_low _ _ _ (by decide)]; decide)

/-- A discarded shadow leaves a bank without stored writes. -/
theorem Plain.discardShadow {s : State} {b : Nat} (hw : (s.bank b).downWait = none) (hg : s.grave = none) : Plain b (s.discardShadow b) := by
  have hk := KeepsCore.resetBank s b
  have hwait : ((s.resetBank b).bank b).downWait = none := (congrArg BankSt.downWait (bank_congr hk.banks b)).trans hw
  have hgrave : (s.resetBank b).grave = none := hk.grave.trans hg
  have hset : ∀ u : State, (u.bank b).downWait = none → u.grave = none →
      Plain b (u.setBank b { u.bank b with held := true, stored := [] }) := fun u hw hg =>
    ⟨by rw [bank_setBank_same], by rw [bank_setBank_same, hw], hg⟩
  have hraise := KeepsCore.of_reportsOn (raise_stale_reportsOn
    ((s.resetBank b).setBank b { (s.resetBank b).bank b with held := true, stored := [] }) (BitVec.ofNat 32 b))
  rw [← discardShadow_eq] at hraise
  exact (hset (s.resetBank b) hwait hgrave).keeps hraise

/-- The mode that a bank requests once its stale shadow is discarded is the reset configuration's (R520). -/
theorem fld_discardShadow_req (s : State) {b : Nat} (hb : b < 24) :
    (s.discardShadow b).fld .bnk b BNK_MODE_REQ = (s.resetConfig .bnk b).fld .bnk b BNK_MODE_REQ := by
  have hoff : fldOff .bnk b BNK_MODE_REQ 0 = 0x300040 + b * 0x10000 := by
    simp only [fldOff, baseOf, BNK_MODE_REQ]
    omega
  have hbase : baseOf .bnk b = 0x300000 + b * 0x10000 := rfl
  have hpage := rd_resetBank s (o := fldOff .bnk b BNK_MODE_REQ 0) (by omega) hb
  refine fld_congr (Eq.trans ?_ hpage)
  rw [discardShadow_eq]
  generalize s.resetBank b = u
  refine ((raise_stale_reportsOn _ _).rd _ (by omega) ?_ ?_).trans (rd_setBank u b _ _)
  · simp only [pbaOffs, List.mem_cons, List.not_mem_nil, or_false]
    omega
  · simp only [evrOffs, List.mem_cons, List.not_mem_nil, or_false]
    omega

/-! ### Bank 0 powers up with a stale shadow -/

/-- Bank 0 powers up with a shadow of generation 1 that requests Performance mode, while PLK_GEN is 0. -/
def staleShadow : State :=
  { State.reset with dev := .ready, banks := [(0, { BankSt.down with phase := .rising, shadowGen := some 1 })] }.put .bnk 0 BNK_MODE_REQ 0

theorem staleShadow_serving : Serving staleShadow :=
  serving_of (by decide +kernel) (by decide +kernel) (by decide +kernel) (by decide +kernel)

theorem takeShadow_staleShadow : staleShadow.takeShadow 0 = staleShadow.discardShadow 0 := by
  have hb : (staleShadow.bank 0).shadowGen = some 1 := by decide +kernel
  have hg : ¬ 1 = staleShadow.rd (fldOff .plk 0 PLK_GEN 0) := by decide +kernel
  rw [State.takeShadow, hb]
  exact if_neg hg

/-- The reset configuration requests Economy mode, and the shadow of `staleShadow` Performance. -/
theorem req_staleShadow :
    (staleShadow.resetConfig .bnk 0).fld .bnk 0 BNK_MODE_REQ = 2 ∧ staleShadow.fld .bnk 0 BNK_MODE_REQ = 0 := by decide +kernel

/-- The mode in which bank 0 comes up. -/
theorem bankPowerUpDone_staleShadow :
    (bankPowerUpDone 0 0 staleShadow).grave = none ∧ ((bankPowerUpDone 0 0 staleShadow).bank 0).limMode = 2 := by
  have hplain : Plain 0 (staleShadow.takeShadow 0) := by
    rw [takeShadow_staleShadow]
    exact .discardShadow (by decide +kernel) (by decide +kernel)
  obtain ⟨hend, hlim⟩ := bankPowerUpDone_of_plain (by decide +kernel) hplain
  rw [takeShadow_staleShadow, fld_discardShadow_req _ (by decide), req_staleShadow.1] at hlim
  exact ⟨hend.grave, hlim⟩

/-- A command that recorded no grave entry ends with the banks as it left them. -/
theorem banks_of_done {u t : State} (h : u.grave = none) (ht : done u = .next t) : t.banks = u.banks := by
  rw [← Host.Outcome.next.inj ht, State.fall, h, State.settle]
  split <;> rfl

/-- Refutes O28: a bank that comes up with a stale shadow runs in the mode of its reset configuration, the Economy mode 2, and not in the
mode 0 that its configuration held before the shadow was discarded (R127, R520). -/
theorem not_powerSequencesEnd : ¬ Obligations.PowerSequencesEnd := by
  unfold Obligations.PowerSequencesEnd
  intro h
  obtain ⟨hup, -⟩ := h staleShadow staleShadow_serving
  obtain ⟨t, ht, -, -, -, -, hmode, -⟩ := hup 0 0 (by decide +kernel) (by decide +kernel) (by decide +kernel) (by decide +kernel)
  obtain ⟨hgrave, hlim⟩ := bankPowerUpDone_staleShadow
  have hbank : t.bank 0 = (bankPowerUpDone 0 0 staleShadow).bank 0 := bank_congr (banks_of_done hgrave ht) 0
  have hmode : (t.bank 0).limMode = staleShadow.fld .bnk 0 BNK_MODE_REQ := hmode
  rw [hbank, hlim, req_staleShadow.2] at hmode
  exact absurd hmode (by decide)

end Sys2Proof.Machine

namespace Sys2Proof.Machine
open Sys2Proof Reg

/-! ## A Fatal entry during start-up (O59) -/

/-- What every step of a fold keeps. -/
theorem foldl_of_step {α : Type} {P : State → Prop} {f : State → α → State} (hf : ∀ s a, P s → P (f s a)) (l : List α) {s : State}
    (h : P s) : P (l.foldl f s) := by
  induction l generalizing s with
  | nil => exact h
  | cons a l ih => exact ih (hf s a h)

/-- No bank is on and there is no measurement request; where `hit` says so, the command has recorded a Fatal entry. -/
structure Dark (hit : Bool) (u : State) : Prop where
  fatal : hit = true → u.grave.any Prod.fst = true
  notOn : ∀ b, (u.bank b).phase ≠ .on
  meas : u.meas = []

namespace Dark

variable {hit : Bool}

theorem keeps {s u : State} (h : Dark hit s) (hk : KeepsCore s u) : Dark hit u where
  fatal hh := by rw [hk.grave, h.fatal hh]
  notOn b := by rw [bank_congr hk.banks]; exact h.notOn b
  meas := hk.meas.trans h.meas

theorem ite {c : Prop} [Decidable c] {s u : State} (h1 : Dark hit s) (h2 : Dark hit u) : Dark hit (if c then s else u) := by
  split
  · exact h1
  · exact h2

theorem foldl {α : Type} {f : State → α → State} (hf : ∀ s a, Dark hit s → Dark hit (f s a)) (l : List α) {s : State} (h : Dark hit s) :
    Dark hit (l.foldl f s) := foldl_of_step hf l h

theorem setBank {s : State} (h : Dark hit s) (b : Nat) {x : BankSt} (hx : x.phase ≠ .on) : Dark hit (s.setBank b x) where
  fatal := h.fatal
  notOn q := by
    rw [bank_setBank]
    split
    · exact hx
    · exact h.notOn q
  meas := h.meas

/-- A Fatal entry that is noted stays noted. -/
theorem noteGrave {s : State} (h : Dark hit s) (fatal : Bool) (typ : Nat) : Dark hit (s.noteGrave fatal typ) := by
  unfold State.noteGrave
  split
  · next hg => exact ⟨fun hh => absurd (h.fatal hh) (by rw [hg]; decide), h.notOn, h.meas⟩
  · exact .ite ⟨fun _ => rfl, h.notOn, h.meas⟩ h

/-- A page may record an entry at any level. -/
theorem raise {s : State} (h : Dark hit s) (k : PageKind) (i cls base : Nat) (d : Word) : Dark hit (s.raise k i cls base d) := by
  have hset : ∀ (page : Nat) (m : Word) {u : State}, Dark hit u → Dark hit (u.intSet page m) := fun page m u hu =>
    hu.keeps (.of_reportsOn (.intSet page u m))
  have hfault : ∀ (page : Nat) (pf : PageFault), Dark hit (s.setFault page pf) := fun page pf => h.keeps (.of_reportsOn (.setFault page s pf))
  have hoffer : ∀ (x : EvrIn) {u : State}, Dark hit u → Dark hit (u.evrOffer x) := fun x u hu =>
    hu.keeps (.of_reportsOn (.evrOffer 0 u x))
  have hlost : ∀ (c : Prop) [Decidable c] (page : Nat) (m : Word) {u : State}, Dark hit u → Dark hit (if c then u.intSet page m else u) :=
    fun c _ page m u hu => .ite (hset page m hu) hu
  simp only [State.raise, State.recordFault, if_true, ← ite_not (recordedLevel _ _ _ < 2)]
  refine Dark.ite ?_ (Dark.noteGrave (Dark.keeps ?_ (.allSupFault _)) _ _)
  all_goals exact hoffer _ (hlost _ _ _ (hlost _ _ _ (hfault _ _)))

theorem raiseOpen {s : State} (h : Dark hit s) (k : PageKind) (i cls base : Nat) : Dark hit (s.raiseOpen k i cls base) :=
  (h.raise k i cls base _).keeps (.drawn _)

theorem int {s : State} (h : Dark hit s) (k : PageKind) (i b : Nat) : Dark hit (s.int k i b) := h.keeps (.int s k i b)

/-! ### Start-up steps 8 to 10 -/

theorem evrScan {s : State} (h : Dark hit s) : Dark hit s.evrScan := (h.keeps (.put _ _ _ _ _)).keeps (.setEvr _ _)

theorem freshWords {s : State} (n : Nat) (h : Dark hit s) : Dark hit (freshWords n s).1 := by
  induction n generalizing s with
  | zero => exact h
  | succ n ih => exact ih (h.keeps (.drawn s))

theorem shutdownRecord {s : State} (h : Dark hit s) : Dark hit s.shutdownRecord :=
  .ite (((h.freshWords 4).keeps (.put _ _ _ _ _)).keeps (.of_reportsOn (.evrOffer 0 _ _))) h

theorem beginCopy {s : State} (h : Dark hit s) (r : Nat) : Dark hit (s.beginCopy r) := by
  simp only [State.beginCopy]
  split
  · exact .ite (h.keeps (.setCal _ _ _)) h
  · exact h

theorem queueCopies {s : State} (h : Dark hit s) (r : Nat) (ws : List CalWrite) : Dark hit (s.queueCopies r ws) :=
  .ite ((h.keeps (.setCal _ _ _)).beginCopy r) (h.keeps (.setCal _ _ _))

theorem chooseCopy {s : State} (h : Dark hit s) (r : Nat) : Dark hit (s.chooseCopy r) := by
  simp only [State.chooseCopy]
  split
  · exact (h.keeps (.setCal _ _ _)).raiseOpen _ _ _ _
  · split
    · exact (h.keeps (.setCal _ _ _)).queueCopies _ _
    · exact ((h.keeps (.setCal _ _ _)).int _ _ _).raiseOpen _ _ _ _

theorem holdTmu {s : State} (h : Dark hit s) (t owner : Nat) : Dark hit (s.holdTmu t owner) :=
  ((h.keeps (.setTmu _ _ _)).keeps (.put _ _ _ _ _)).keeps (.put _ _ _ _ _)

theorem calAllTmus {s : State} (h : Dark hit s) : Dark hit s.calAllTmus := foldl (fun _ t h => .ite h (h.holdTmu t 2)) _ h

/-! ### Start-up step 11 -/

theorem pwrRefuse {s : State} (h : Dark hit s) (result domain : Nat) : Dark hit (s.pwrRefuse result domain) := (h.int _ _ _).raise _ _ _ _ _

theorem pgvResp {s : State} (h : Dark hit s) (r : Nat) (src : Src) (total : Nat) : Dark hit (s.pgvResp r src total) :=
  ((h.keeps (.put _ _ _ _ _)).keeps (.put _ _ _ _ _)).keeps (.put _ _ _ _ _)

theorem pgvRefuse {s : State} (h : Dark hit s) (r : Nat) (src : Src) (total : Nat) : Dark hit (s.pgvRefuse r src total) :=
  (((h.pgvResp r src total).keeps (.bump _ _ _ _ _)).int _ _ _).raiseOpen _ _ _ _

theorem bankUp {s : State} (h : Dark hit s) (src : Src) (b : Nat) : Dark hit (s.bankUp src b).1 := by
  simp only [State.bankUp]
  split
  · exact h
  · split
    · next hr => exact h.setBank b (by simp [hr])
    · split
      · exact h.pwrRefuse _ _
      · rcases evaluate_cases s src false (s.charged - (s.bank b).charge + s.bankDraw b) with ⟨-, he⟩ | ⟨r, he⟩ | ⟨r, v, he, hv⟩
        · simp only [he]
          exact (h.pgvResp _ _ _).setBank b nofun
        · simp only [he]
          exact h.pgvResp _ _ _
        · simp only [he]
          have hd := h.pgvRefuse r src (s.charged - (s.bank b).charge + s.bankDraw b)
          cases v with
          | admitted => exact absurd rfl hv
          | dryRun => exact hd
          | ceiling => exact hd.pwrRefuse _ _
          | busy => exact hd.pwrRefuse _ _

theorem bankDown {s : State} (h : Dark hit s) (src : Src) (b : Nat) : Dark hit (s.bankDown src b).1 := by
  simp only [State.bankDown]
  split
  · next hr => exact h.setBank b (by simp [hr])
  · next hr => exact absurd hr (h.notOn b)
  · exact h
  · exact h

theorem askBank {s : State} (h : Dark hit s) (b : Nat) (on : Bool) : Dark hit (s.askBank b on) := .ite h (h.keeps (.put _ _ _ _ _))

theorem bankRequest {s : State} (h : Dark hit s) (src : Src) (b : Nat) : Dark hit (s.bankRequest src b).1 := by
  have hr : Dark hit (if !s.bankAsked b then s.bankUp src b else s.bankDown src b).1 := by
    split
    · exact h.bankUp src b
    · exact h.bankDown src b
  exact .ite (hr.askBank _ _) hr

theorem requests {s : State} (h : Dark hit s) {f : State → Nat → State × (Nat × Nat)} (hf : ∀ s d, Dark hit s → Dark hit (f s d).1)
    (ds : List Nat) : Dark hit (s.requests f ds) := by
  have hfold : ∀ (ds : List Nat) (p : State × List (Nat × Nat)), Dark hit p.1 →
      Dark hit (ds.foldl (fun (p : State × List (Nat × Nat)) d => let (s, r) := f p.1 d; (s, p.2 ++ [r])) p).1 := by
    intro ds
    induction ds with
    | nil => exact fun _ hp => hp
    | cons d ds ih => exact fun p hp => ih _ (hf p.1 d hp)
  simp only [State.requests]
  split
  · exact ((hfold ds (s, []) h).keeps (.put _ _ _ _ _)).keeps (.put _ _ _ _ _)
  · exact hfold ds (s, []) h

theorem holdFe {s : State} (h : Dark hit s) (n : Nat) : Dark hit (s.holdFe n) := .ite ((h.keeps (.setFe _ _ _)).raiseOpen _ _ _ _) h

theorem supStart {s : State} (h : Dark hit s) (u : Nat) : Dark hit (s.supStart u) :=
  ((h.keeps (.put _ _ _ _ _)).keeps (.put _ _ _ _ _)).keeps (.put _ _ _ _ _)

theorem startBanks {s : State} (h : Dark hit s) : Dark hit s.startBanks :=
  (foldl (fun _ n h => h.holdFe n) _ (foldl (fun s b h => h.setBank b (x := { s.bank b with held := true }) (h.notOn b)) _
    (foldl (fun _ u h => h.supStart u) _ h))).requests (fun _ b h => h.bankRequest .steward b) _

end Dark

/-! ### The end of the command -/

theorem cancelWhere_of_no_meas {s : State} (h : s.meas = []) (b : Nat) (p : MsrReq → Bool) : s.cancelWhere b p = s := by
  have hm : s.measOf b = MeasSt.idle := by rw [State.measOf, h]; rfl
  simp only [State.cancelWhere, hm, MeasSt.idle, List.filter_nil, List.foldl_nil]

/-- A device in FAULT with no measurement request. -/
structure Faulted (u : State) : Prop where
  dev : u.dev = .fault
  meas : u.meas = []

theorem Faulted.keeps {s u : State} (h : Faulted s) (hk : KeepsCore s u) : Faulted u := ⟨hk.dev.trans h.dev, hk.meas.trans h.meas⟩

theorem enterFault_faulted {s : State} (h : s.meas = []) (cause typ : Nat) : Faulted (s.enterFault cause typ) := by
  simp only [State.enterFault]
  have hcut : ∀ u : State, Faulted u → Faulted ((List.range 8).foldl State.cutPsq u) := fun u hu => hu.keeps (.foldl .cutPsq _ u)
  have hheld : ∀ u : State, Faulted u → Faulted ((List.range 24).foldl (fun s b => s.setBank b { s.bank b with held := true }) u) :=
    fun u hu => foldl_of_step (fun _ _ hu => ⟨hu.dev, hu.meas⟩) _ hu
  have hcancel : ∀ u : State, Faulted u → Faulted ((List.range 24).foldl (fun s b => s.cancelWhere b fun _ => true) u) :=
    fun u hu => foldl_of_step (P := Faulted) (fun s b hs => by rw [cancelWhere_of_no_meas hs.meas]; exact hs) _ hu
  have hsafe : ∀ u : State, Faulted u → Faulted u.safeAllPins := fun u hu => ⟨hu.dev, hu.meas⟩
  have hentry : Faulted { s with dev := .fault, cause := cause, causeType := typ } := ⟨rfl, h⟩
  have hcancelled := hcancel _ (hcut _ (hheld _ (hentry.keeps (.allSupFault _))))
  exact hsafe _ (hcancelled.keeps (.calAbandonAll _))

/-- What a noted Fatal entry makes of a device, `w` being the device as it enters FAULT. -/
theorem dev_of_fatal {v w : State} (h : w.dev = .fault) :
    let t := if decide (v.dev = .off) || decide (v.dev = .boot) || decide (v.dev = .fault) then v else { w with grave := none }
    t.dev = .off ∨ t.dev = .boot ∨ t.dev = .fault := by
  split
  · next hc => simpa [or_assoc] using hc
  · exact .inr (.inr h)

/-- A Fatal entry leaves the device in OFF, BOOT or FAULT when the command ends (R61, R78). -/
theorem Dark.fall_dev {u : State} (h : Dark true u) : u.fall.dev = .off ∨ u.fall.dev = .boot ∨ u.fall.dev = .fault := by
  obtain ⟨⟨fatal, typ⟩, hg, hf⟩ := (Option.any_eq_true _ _).mp (h.fatal rfl)
  have hk := KeepsCore.calAbandonAll { u with grave := none }
  have hv := dev_of_fatal (v := ({ u with grave := none } : State).calAbandonAll) (enterFault_faulted (hk.meas.trans h.meas) 1 typ).dev
  have hfall : u.fall = (let v := ({ u with grave := none } : State).calAbandonAll
      if decide (v.dev = .off) || decide (v.dev = .boot) || decide (v.dev = .fault) then v
      else { v.enterFault 1 typ with grave := none }) := by
    simp only [State.fall, hg, show fatal = true from hf, Bool.not_true, Bool.false_or]
  rw [hfall]
  exact hv

/-- Settling changes DEVICE_STATE between READY, ARMED and RUN only (R78). -/
theorem settle_dev_of_ne {s : State} (h : s.dev = .off ∨ s.dev = .boot ∨ s.dev = .fault) : s.settle.dev = s.dev := by
  rcases h with h | h | h <;> simp only [State.settle, h]

/-- A command in which a Fatal entry was recorded does not end in SAFE. -/
theorem Dark.not_safe {u t : State} (h : Dark true u) (ht : done u = .next t) : t.dev ≠ .safe := by
  have hdev : t.dev = u.fall.dev := (congrArg State.dev (Host.Outcome.next.inj ht)).symm.trans (settle_dev_of_ne h.fall_dev)
  rw [hdev]
  rcases h.fall_dev with h | h | h <;> rw [h] <;> nofun

end Sys2Proof.Machine

namespace Sys2Proof.Machine
open Sys2Proof Reg

/-! ### A class that is raised again -/

theorem supFault_faults (s : State) (u : Nat) : (s.supFault u).faults = s.faults := by
  have hlevel : ∀ (v : State) (b m : Nat), (v.levelBlank b m).faults = v.faults := fun v b m => by rw [levelBlank_eq_with]
  have htrans : ∀ v : State, (v.supTransition u).faults = v.faults := fun v => by
    unfold State.supTransition
    split
    · rw [hlevel, hlevel]
    · exact hlevel _ _ _
  have hite : ∀ (c : Prop) [Decidable c] (v : State) (k : PageKind) (i : Nat) (f : Fld) (x : Nat),
      (if c then v else v.put k i f x).faults = v.faults := fun c _ v k i f x => by split <;> rfl
  simp only [State.supFault]
  rw [htrans, int_eq_with]
  exact hite _ _ _ _ _ _

theorem allSupFault_faults (s : State) : s.allSupFault.faults = s.faults := by
  unfold State.allSupFault
  generalize List.range 96 = l
  induction l generalizing s with
  | nil => rfl
  | cons u l ih => rw [List.foldl_cons, ih, supFault_faults]

theorem noteGrave_faults (s : State) (fatal : Bool) (typ : Nat) : (s.noteGrave fatal typ).faults = s.faults := by
  unfold State.noteGrave
  split
  · rfl
  · split <;> rfl

/-- A Fatal entry is noted. -/
theorem noteGrave_fatal (s : State) (typ : Nat) : (s.noteGrave true typ).grave.any Prod.fst = true := by
  unfold State.noteGrave
  split
  · rfl
  · next f _ hg =>
    cases f
    · rfl
    · simp [hg]

/-- The fault state of a page after an entry at Warning or higher holds its class at the level it was recorded at (R60). -/
theorem unacked_raise (s : State) (k : PageKind) (i cls : Nat) {base : Nat} (d : Word) (hb : ¬ base < 2) :
    ((s.raise k i cls base d).fault (pageBase k i)).unacked
      = noteUnacked (s.fault (pageBase k i)).unacked cls (recordedLevel (s.fault (pageBase k i)) cls base) := by
  have hset : ∀ (c : Prop) [Decidable c] (u : State) (m : Word) (q : Nat), (if c then u.intSet q m else u).fault q = u.fault q := by
    intro c _ u m q
    split
    · rw [intSet_eq_with]; rfl
    · rfl
  have hgrave : ∀ (c : Prop) [Decidable c] (u : State) (fatal : Bool) (typ q : Nat),
      (if c then u else u.allSupFault.noteGrave fatal typ).fault q = u.fault q := by
    intro c _ u fatal typ q
    split
    · rfl
    · rw [State.fault, noteGrave_faults, allSupFault_faults]; rfl
  simp only [State.raise, State.recordFault, if_true, hb, if_false, ← ite_not (recordedLevel _ _ _ < 2), hgrave, evrOffer_fault, hset,
    fault_setFault_same]

theorem grave_raise {s : State} {k : PageKind} {i cls base : Nat} (d : Word)
    (h : recordedLevel (s.fault (pageBase k i)) cls base = 5) : (s.raise k i cls base d).grave.any Prod.fst = true := by
  have h4 : ¬ 5 < 4 := by decide
  simp only [State.raise, State.recordFault, h, h4, if_false]
  exact noteGrave_fatal _ _

/-! ### Three uncorrectable words of NVM -/

/-- An uncorrectable word of NVM that lies in no event slot. -/
def badWord : NvmHit := ⟨0, true, .other⟩

/-- The level at which the page of NVM records an uncorrectable word (R60, R537). -/
def State.hitLevel (s : State) : Nat := recordedLevel (s.fault 0x33000) 2 3

/-- What an uncorrectable word shows in the registers before it is raised. -/
def State.markUe (s : State) : State := (s.put .nvm 0 NVM_UE_VALID 1).put .nvm 0 NVM_UE_OFF badWord.off.toNat

theorem nvmHit_badWord (s : State) : s.nvmHit badWord = (s.markUe.raise .nvm 0 2 3 s.markUe.freeWord).drawn := rfl

theorem markUe_keepsCore (s : State) : KeepsCore s s.markUe := (KeepsCore.put s _ _ _ _).trans (.put _ _ _ _ _)

theorem markUe_fault (s : State) (p : Nat) : s.markUe.fault p = s.fault p := rfl

/-- The next word is recorded one level above this one, up to Fatal (R60). -/
theorem hitLevel_nvmHit (s : State) : (s.nvmHit badWord).hitLevel = max 3 (min 5 (s.hitLevel + 1)) := by
  have h := unacked_raise s.markUe .nvm 0 2 (base := 3) s.markUe.freeWord (by decide)
  have hpage : pageBase .nvm 0 = 0x33000 := by decide
  rw [hpage, markUe_fault] at h
  rw [nvmHit_badWord]
  generalize s.markUe.raise .nvm 0 2 3 s.markUe.freeWord = u at *
  change recordedLevel (u.fault 0x33000) 2 3 = _
  simp only [recordedLevel, h, noteUnacked, lookupKey, List.find?_cons, beq_self_eq_true, Option.map_some, State.hitLevel]
  rfl

theorem Dark.nvmHit {hit : Bool} {s : State} (h : Dark hit s) : Dark hit (s.nvmHit badWord) :=
  (((h.keeps (markUe_keepsCore s)).raise .nvm 0 2 3 s.markUe.freeWord)).keeps (.drawn _)

/-- A word recorded at Fatal. -/
theorem Dark.nvmHit_fatal {hit : Bool} {s : State} (h : Dark hit s) (hl : s.hitLevel = 5) : Dark true (s.nvmHit badWord) where
  fatal _ := by
    rw [nvmHit_badWord]
    exact grave_raise s.markUe.freeWord hl
  notOn := h.nvmHit.notOn
  meas := h.nvmHit.meas

/-- Three words, the first of them at Error, of which the third is recorded at Fatal. -/
theorem nvmHits_three {s : State} (h : Dark false s) (hl : s.hitLevel = 3) : Dark true (s.nvmHits [badWord, badWord, badWord]) := by
  have h1 : (s.nvmHit badWord).hitLevel = 4 := by rw [hitLevel_nvmHit, hl]; rfl
  have h2 : ((s.nvmHit badWord).nvmHit badWord).hitLevel = 5 := by rw [hitLevel_nvmHit, h1]; rfl
  exact h.nvmHit.nvmHit.nvmHit_fatal h2

/-- Start-up steps 8 to 11 with a good identity do not undo a Fatal entry that the words of NVM record. -/
theorem Dark.steward {s : State} {slot : Nat} {i : FwInfo} {sfdp : Option Sfdp} {nvm : List NvmHit}
    (h : Dark true (((({ s.putFw slot i with dev := .safe } : State).identity true).putSfdp sfdp).bootSettings.nvmHits nvm)) :
    Dark true (s.steward slot i true sfdp nvm) := by
  simp only [State.steward, if_true]
  exact (Dark.foldl (fun _ r h => h.chooseCopy r) _ h.evrScan.shutdownRecord).calAllTmus.startBanks

/-- The device in BOOT, with the domains of start-up step 6 on. -/
def clockedBoot : State := { State.reset with dev := .boot, domains := 0xFFFFFFFFFF }

/-- An image of firmware that passes. -/
def goodFw : FwInfo := ⟨1, 0, 0, false⟩

/-- Start-up up to the settings, with the firmware in slot A and a good identity. -/
def afterSettings : State := (({ clockedBoot.putFw 0 goodFw with dev := .safe }.identity true).putSfdp none).bootSettings

theorem bank_of_no_banks {s : State} (h : s.banks = []) (b : Nat) : s.bank b = BankSt.down := by rw [State.bank, h]; rfl

theorem afterSettings_dark : Dark false afterSettings where
  fatal := nofun
  notOn b := by
    rw [bank_of_no_banks (by decide +kernel)]
    decide
  meas := by decide +kernel

theorem afterSettings_hitLevel : afterSettings.hitLevel = 3 := by decide +kernel

theorem clockedBoot_steady : Steady clockedBoot := steady_of (by decide +kernel) (by decide +kernel) (by decide +kernel)

/-- The end of start-up step 11 with a good firmware, a good identity and three uncorrectable words. -/
theorem bootFwLoaded_dark : Dark true (bootFwLoaded (some goodFw) none true none [badWord, badWord, badWord] clockedBoot) := by
  have hfw : clockedBoot.fwChosen (some goodFw) none = some (0, goodFw) := by decide +kernel
  rw [bootFwLoaded, hfw]
  exact Dark.steward (nvmHits_three afterSettings_dark afterSettings_hitLevel)

/-- BOOT_FW_LOADED acts in BOOT once the domains of step 6 are on (R75). -/
theorem exec_bootFwLoaded_of_clocked {s : State} (h : (decide (s.dev = .boot) && s.clocked) = true) (a b : Option FwInfo) (ok : Bool)
    (sf : Option Sfdp) (nv : List NvmHit) : exec (.bootFwLoaded a b ok sf nv) s = done (bootFwLoaded a b ok sf nv s) := by
  change execBootFwLoaded a b ok sf nv s = _
  rw [execBootFwLoaded, if_pos h]

/-- Refutes O59: three uncorrectable words that start-up meets in NVM (R537) raise the same class three times, from Error over Critical to
Fatal (R60), so that the device ends in FAULT (R61), while the statement has it SAFE with a good firmware and a good identity. -/
theorem not_resetsAndStartUp : ¬ Obligations.ResetsAndStartUp := by
  unfold Obligations.ResetsAndStartUp
  intro h
  obtain ⟨-, -, -, -, -, -, hboot, -⟩ := h clockedBoot
  obtain ⟨t, ht, -, -, -, -, hsafe, -⟩ := hboot (some goodFw) none true none [badWord, badWord, badWord] clockedBoot_steady (by simp [badWord])
  obtain ⟨hdev, -⟩ := hsafe (by decide +kernel) (by decide +kernel) (.inl (by decide +kernel)) rfl
  rw [exec_bootFwLoaded_of_clocked (by decide +kernel)] at ht
  exact bootFwLoaded_dark.not_safe ht hdev

end Sys2Proof.Machine

namespace Sys2Proof.Machine
open Sys2Proof Reg

/-! ## Between commands (O2, O3) -/

/-- READY, ARMED or RUN, as the sequencers make it (R78). -/
def State.workState (s : State) : DevState :=
  if (List.range 8).any s.psqBurst then .run else if (List.range 8).any s.psqQualifies then .armed else .ready

/-- DEVICE_STATE after settling. -/
theorem settle_dev (s : State) :
    s.settle.dev = if s.dev = .ready ∨ s.dev = .armed ∨ s.dev = .run then s.workState else s.dev := by
  unfold State.settle State.workState
  split <;> simp_all

/-- The sequencers make DEVICE_STATE one of READY, ARMED and RUN. -/
theorem workState_works (s : State) : s.workState = .ready ∨ s.workState = .armed ∨ s.workState = .run := by
  unfold State.workState
  split
  · exact .inr (.inr rfl)
  · split
    · exact .inr (.inl rfl)
    · exact .inl rfl

/-- Settling twice is settling once. -/
theorem settle_settle (s : State) : s.settle.settle = s.settle := by
  have hwork : s.settle.workState = s.workState := by rw [settle_eq_with]; rfl
  have hdev : s.settle.settle.dev = s.settle.dev := by
    rw [settle_dev, hwork, settle_dev]
    split
    · rw [if_pos (workState_works s)]
    · rfl
  rw [settle_eq_with s.settle, hdev]

/-- Whatever a command did, its end leaves a state between commands. -/
theorem done_steady (s : State) : ∃ t, done s = .next t ∧ Steady t := by
  refine ⟨_, rfl, ?_, rfl, ?_⟩
  · rw [settle_eq_with]
    exact fall_grave s
  · exact settle_of_same (s := s.fall.settle) (settle_settle _) rfl fun _ _ => rfl

/-- Settles O2: every step answers through `done`, which leaves a state between commands. -/
theorem stepKeepsSteady : Obligations.StepKeepsSteady := by
  unfold Obligations.StepKeepsSteady
  intro s _
  obtain ⟨u, hu⟩ := step_is_done s
  rw [hu]
  exact done_steady u

/-- Settles O3: power-on reset leaves no register written, and OFF is no state that settling changes. -/
theorem resetIsSteady : Obligations.ResetIsSteady := by
  unfold Obligations.ResetIsSteady
  exact ⟨steady_of rfl rfl rfl, rfl, rfl, rfl, rfl, by decide +kernel⟩

end Sys2Proof.Machine

namespace Sys2Proof.Machine
open Sys2Proof Reg

/-! ## Messages and pending bits -/

/-- A field of a whole word is the word. -/
theorem bitsOf_word (w : Word) : bitsOf w 31 0 = w.toNat := Nat.mod_eq_of_lt w.isLt

/-- The word of the PBA that holds a vector's pending bit. -/
def pbaOff (v : Nat) : Nat := fldOff .msixPba 0 MSIX_PBA_PENDING (v / 32)

theorem pbaOff_mem {v : Nat} (h : v < 256) : pbaOff v ∈ pbaOffs := mem_pbaOffs v h

theorem pbaOff_eq (v : Nat) : pbaOff v = 0x5000 + 4 * (v / 32) := by simp only [pbaOff, fldOff, baseOf, MSIX_PBA_PENDING]; omega

/-- A pending bit is a bit of its word. -/
theorem pbaBit_eq (s : State) (v : Nat) : s.pbaBit v = (s.rd (pbaOff v)).getLsbD (v % 32) := by
  show (bitsOf (s.rd (pbaOff v)) 31 0).testBit (v % 32) = _
  rw [bitsOf_word, BitVec.getLsbD]

theorem pbaBit_congr {s t : State} {v : Nat} (h : t.rd (pbaOff v) = s.rd (pbaOff v)) : t.pbaBit v = s.pbaBit v := by
  rw [pbaBit_eq, pbaBit_eq, h]

/-- Two vectors share a pending bit only where they are the same. -/
theorem eq_of_pbaOff_eq {v a : Nat} (h : pbaOff v = pbaOff a) (hm : v % 32 = a % 32) : v = a := by
  rw [pbaOff_eq, pbaOff_eq] at h
  omega

/-- The single bit of a vector in its word of the PBA. -/
theorem getLsbD_vectorBit (v a : Nat) : (BitVec.ofNat 32 (2 ^ (a % 32)) : Word).getLsbD (v % 32) = decide (v % 32 = a % 32) := by
  rw [BitVec.getLsbD_ofNat, Nat.testBit_two_pow]
  simp [Nat.mod_lt, eq_comm]

/-- The pending bits after one of them is set. -/
theorem pbaBit_pend (s : State) (a v : Nat) : (s.pend a).pbaBit v = (s.pbaBit v || decide (v = a)) := by
  have hrd : (s.pend a).rd (pbaOff v)
      = if pbaOff v = pbaOff a then s.rd (pbaOff a) ||| BitVec.ofNat 32 (2 ^ (a % 32)) else s.rd (pbaOff v) := rd_wr _ _ _ _
  rw [pbaBit_eq, pbaBit_eq, hrd]
  split
  · next h =>
    have hv : decide (v % 32 = a % 32) = decide (v = a) := decide_eq_decide.mpr ⟨eq_of_pbaOff_eq h, fun h => h ▸ rfl⟩
    rw [BitVec.getLsbD_or, getLsbD_vectorBit, h, hv]
  · next h => rw [decide_eq_false fun hv : v = a => h (hv ▸ rfl), Bool.or_false]

/-- The pending bits after one of them is cleared. -/
theorem pbaBit_unpend (s : State) (a v : Nat) : (s.unpend a).pbaBit v = (s.pbaBit v && !decide (v = a)) := by
  have hrd : (s.unpend a).rd (pbaOff v)
      = if pbaOff v = pbaOff a then s.rd (pbaOff a) &&& ~~~ BitVec.ofNat 32 (2 ^ (a % 32)) else s.rd (pbaOff v) := rd_wr _ _ _ _
  rw [pbaBit_eq, pbaBit_eq, hrd]
  split
  · next h =>
    have hv : decide (v % 32 = a % 32) = decide (v = a) := decide_eq_decide.mpr ⟨eq_of_pbaOff_eq h, fun h => h ▸ rfl⟩
    rw [BitVec.getLsbD_and, BitVec.getLsbD_not, getLsbD_vectorBit, h, hv, decide_eq_true (Nat.mod_lt v (by decide)), Bool.true_and]
  · next h => rw [decide_eq_false fun hv : v = a => h (hv ▸ rfl), Bool.not_false, Bool.and_true]

/-- Whether a vector is masked depends on the function mask and its word of the MSI-X table. -/
theorem vectorMasked_congr {s t : State} {v : Nat} (hf : t.hif.funcMask = s.hif.funcMask)
    (h : t.rd (fldOff .msixTab 0 MSIX_MASK v) = s.rd (fldOff .msixTab 0 MSIX_MASK v)) : t.vectorMasked v = s.vectorMasked v := by
  simp only [State.vectorMasked, State.fldAt, hf, h]

/-- Whether messages can be sent does not depend on those sent. -/
theorem canSend_congr {s t : State} {m : SMap Nat} (h : t.hif = { s.hif with sent := m }) : t.canSend = s.canSend := by
  rw [State.canSend, h]
  rfl

theorem maskOff_not_mem_pbaOffs {v : Nat} (h : v < 256) : fldOff .msixTab 0 MSIX_MASK v ∉ pbaOffs := by
  simp only [fldOff, baseOf, MSIX_MASK, pbaOffs, List.mem_cons, List.not_mem_nil, or_false]
  omega

/-! ### A signalled vector -/

/-- The messages sent after one more. -/
theorem msgs_sendOrPend {s : State} {a : Nat} (h : (s.canSend && !s.vectorMasked a) = true) (v : Nat) :
    msgs (s.sendOrPend a) v = if v = a then msgs s a + 1 else msgs s v := by
  rw [State.sendOrPend, if_pos h]
  exact mapGet_mapSet (fun _ => 0) s.hif.sent a v (msgs s a + 1)

/-- A vector that is signalled goes out, or waits in its pending bit (R55, R57). -/
theorem signalled_signal {s : State} (h : s.sig = []) (v : Nat) : Signalled v s (s.signal v) := by
  have hsignal : s.signal v = { s.sendOrPend v with sig := v :: s.sig } := by simp [State.signal, h]
  rw [hsignal]
  show if s.canSend && !s.vectorMasked v then msgs (s.sendOrPend v) v = msgs s v + 1 else (s.sendOrPend v).pbaBit v = true
  split
  · next hc => rw [msgs_sendOrPend hc, if_pos rfl]
  · next hc => rw [State.sendOrPend, if_neg hc, pbaBit_pend, decide_eq_true rfl, Bool.or_true]

/-- A vector is signalled alike from two states with the same masks and messages. -/
theorem signalled_congr {s s' t : State} {v : Nat} (hh : s'.hif = s.hif)
    (hm : s'.rd (fldOff .msixTab 0 MSIX_MASK v) = s.rd (fldOff .msixTab 0 MSIX_MASK v)) (h : Signalled v s' t) : Signalled v s t := by
  have hc : s'.canSend = s.canSend := canSend_congr (m := s.hif.sent) hh
  have hv : s'.vectorMasked v = s.vectorMasked v := vectorMasked_congr (congrArg HifSt.funcMask hh) hm
  have hs : msgs s' v = msgs s v := by rw [msgs, hh]; rfl
  rwa [Signalled, hc, hv, hs] at h

/-! ### The interrupt registers of a page (O4) -/

/-- A page with a header is not the MSI-X table's. -/
theorem ne_msixTab_of_headerPage {page : Nat} {r : PageRef} (h : headerPage page = some r) : page ≠ 0x4000 := by
  rintro rfl
  exact absurd h (by simp [show headerPage 0x4000 = none by decide])

/-- A page's own registers are no vector's mask. -/
theorem maskOff_ne {page d v : Nat} (hp : page % 0x1000 = 0) (hne : page ≠ 0x4000) (hd : d < 0x1000) (hv : v < 256) :
    fldOff .msixTab 0 MSIX_MASK v ≠ page + d := by
  simp only [fldOff, baseOf, MSIX_MASK]
  omega

/-- A header write in a role that the page admits is performed (R47). -/
theorem header_of_meets {s : State} {page : Nat} {r : PageRef} {f : State → State} (hl : s.live = true)
    (hp : headerPage page = some r) (hr : s.role.meets (wrMin r.kind) = true) : s.header page f = f s := by
  simp [State.header, hp, State.asHost, hl, hr]

/-- What writing header words of a page and signalling its vector change (R46, R55, R56): the words at `offs`, pending bits and messages. -/
structure Interrupts (offs : List Nat) (s u : State) : Prop where
  frame : u = { s with regs := u.regs, hif := { s.hif with sent := u.hif.sent }, sig := u.sig }
  rd : RegsBut (offs ++ pbaOffs) s u

namespace Interrupts

theorem refl (offs : List Nat) (s : State) : Interrupts offs s s := ⟨rfl, fun _ _ => rfl⟩

theorem trans {offs : List Nat} {s t u : State} (h1 : Interrupts offs s t) (h2 : Interrupts offs t u) : Interrupts offs s u where
  frame := by rw [h2.frame, h1.frame]
  rd o ho := (h2.rd o ho).trans (h1.rd o ho)

theorem wr {offs : List Nat} {o : Nat} (h : o ∈ offs) (s : State) (w : Word) : Interrupts offs s (s.wr o w) :=
  ⟨rfl, fun _ hx => rd_wr_other s w fun he => hx (List.mem_append_left _ (he ▸ h))⟩

theorem signal (offs : List Nat) (s : State) {v : Nat} (hv : v < 256) : Interrupts offs s (s.signal v) where
  frame := by rw [← signal_hif]; exact signal_eq_with s v
  rd _ hx := rd_signal_other s hv fun h => hx (List.mem_append_right _ h)

theorem ite {offs : List Nat} {c : Prop} [Decidable c] {s t u : State} (h1 : Interrupts offs s t) (h2 : Interrupts offs s u) :
    Interrupts offs s (if c then t else u) := by
  split
  · exact h1
  · exact h2

theorem intSet (s : State) (page : Nat) (m : Word) : Interrupts [page + 0x18] s (s.intSet page m) :=
  have h := wr (List.mem_singleton_self (page + 0x18)) s (s.intStat page ||| m)
  h.ite (h.trans (signal _ _ (intVec_lt _ _)))

theorem intEnWrite (page : Nat) (v : Word) (s : State) : Interrupts [page + 0x1C] s (intEnWrite page v s) :=
  have h := wr (List.mem_singleton_self (page + 0x1C)) s v
  h.ite (h.trans (signal _ _ (intVec_lt _ _)))

theorem intVecWrite (page : Nat) (v : Word) (s : State) : Interrupts [page + 0x24] s (intVecWrite page v s) :=
  have h := wr (List.mem_singleton_self (page + 0x24)) s (v &&& 0xFF)
  h.ite (h.trans (signal _ _ (intVec_lt _ _)))

/-- A command that only reports interrupts of a page ends with what it did. -/
theorem done {s u : State} (hs : Steady s) {page d : Nat} (hp : page % 0x1000 = 0) (hd : d < 0x1000 ∧ d ≠ 0x14)
    (h : Interrupts [page + d] s u) :
    Machine.done u = .next { u with sig := [] } ∧ RegsBut ([page + d] ++ pbaOffs) s { u with sig := [] }
      ∧ { u with sig := [] } = { s with regs := u.regs, hif := { s.hif with sent := u.hif.sent } } := by
  obtain ⟨hframe, hrd⟩ := h
  have hstat : ∀ n < 8, u.rd (baseOf .psq n + 0x14) = s.rd (baseOf .psq n + 0x14) := fun n _ => by
    refine hrd _ ?_
    rw [List.singleton_append, List.mem_cons, not_or]
    exact ⟨by simp only [baseOf]; omega, psqStat_not_mem_pbaOffs n⟩
  refine ⟨done_of_steady hs (by rw [hframe]; exact hs.1) (by rw [hframe]) hstat, hrd, ?_⟩
  have hsig : s.sig = [] := hs.2.1
  rw [← hsig]
  conv_lhs => rw [hframe]

end Interrupts

/-- A header word of a page is none of the pending bits' words. -/
theorem headerWord_not_mem_pbaOffs {page d : Nat} (h : page % 0x1000 = 0) (hne : page ≠ 0x5000) (hd : d < 0x1000) :
    page + d ∉ pbaOffs := by
  simp only [pbaOffs, List.mem_cons, List.not_mem_nil, or_false]
  omega

/-- After a write of a header word that signals the page's vector where `c` is false, the word stands as written, and the vector is
signalled where it should be. -/
theorem wr_signal_shows {s : State} (hs : Steady s) {page d : Nat} {r : PageRef} (hp : headerPage page = some r) (hd : d < 0x1000) (w : Word)
    {v : Nat} (hv : v < 256) (c : Prop) [Decidable c] :
    (if c then s.wr (page + d) w else (s.wr (page + d) w).signal v).rd (page + d) = w
      ∧ (¬ c → Signalled v s (if c then s.wr (page + d) w else (s.wr (page + d) w).signal v)) := by
  have ha := aligned_of_headerPage hp
  split
  · next h => exact ⟨rd_wr_same _ _ _, fun hc => absurd h hc⟩
  · refine ⟨(rd_signal_other _ hv (headerWord_not_mem_pbaOffs ha (ne_pba_of_headerPage hp) hd)).trans (rd_wr_same _ _ _), fun _ => ?_⟩
    exact signalled_congr (s' := s.wr (page + d) w) rfl (rd_wr_other s w (maskOff_ne ha (ne_msixTab_of_headerPage hp) hd hv))
      (signalled_signal (s := s.wr (page + d) w) hs.2.1 v)

section
variable {s : State} {page : Nat} {r : PageRef} (hs : Header s page r)
include hs

theorem exec_intStatClear_of_header (v w : Word) : exec (.intStatClear page v w) s = done (intStatClear page v w s) := by
  obtain ⟨⟨-, hl⟩, hp, hr⟩ := hs
  show execIntStatClear page v w s = _
  simp [execIntStatClear, hl, hp, hr]

theorem exec_intSet_of_header (v : Word) : exec (.intSet page v) s = done (s.intSet page v) :=
  congrArg done (header_of_meets hs.1.2 hs.2.1 hs.2.2)

theorem exec_intEnWrite_of_header (v : Word) : exec (.intEnWrite page v) s = done (intEnWrite page v s) :=
  congrArg done (header_of_meets hs.1.2 hs.2.1 hs.2.2)

theorem exec_intVecWrite_of_header (v : Word) : exec (.intVecWrite page v) s = done (intVecWrite page v s) :=
  congrArg done (header_of_meets hs.1.2 hs.2.1 hs.2.2)

theorem exec_fltAck_of_header (v : Word) : exec (.fltAck page v) s = done (fltAck page v s) :=
  congrArg done (header_of_meets hs.1.2 hs.2.1 hs.2.2)

/-- INT_STAT_CLEAR clears what is written 1, and hardware sets its bits in the same cycle (R51). -/
theorem done_intStatClear (v w : Word) :
    ∃ t, done (intStatClear page v w s) = .next t ∧ t.rd (page + 0x18) = (s.rd (page + 0x18) &&& ~~~v) ||| w ∧ OnlyInts [page] [] s t := by
  have hp := aligned_of_headerPage hs.2.1
  have hi : Interrupts [page + 0x18] s (intStatClear page v w s) :=
    (Interrupts.wr (List.mem_singleton_self _) s _).trans (.intSet _ page w)
  obtain ⟨hdone, hrd, hframe⟩ := hi.done hs.1.1 hp (by decide)
  refine ⟨_, hdone, ?_, hrd, hframe⟩
  show (intStatClear page v w s).rd (page + 0x18) = _
  rw [intStatClear, rd_intSet_same _ _ _ (intStat_not_mem_pbaOffs hp (ne_pba_of_headerPage hs.2.1)), rd_wr_same, State.intStat]
  ext i
  simp only [BitVec.getElem_or, BitVec.getElem_and, BitVec.getElem_not]
  cases (s.rd (page + 0x18))[i] <;> cases v[i] <;> cases w[i] <;> rfl

/-- INT_SET sets each bit as a hardware set does (R46, R55). -/
theorem done_intSet (v : Word) :
    ∃ t, done (s.intSet page v) = .next t ∧ t.rd (page + 0x18) = s.rd (page + 0x18) ||| v
      ∧ (v &&& ~~~s.rd (page + 0x18) &&& s.rd (page + 0x1C) ≠ 0 → Signalled (s.intVec page) s t) ∧ OnlyInts [page] [] s t := by
  obtain ⟨hdone, hrd, hframe⟩ := (Interrupts.intSet s page v).done hs.1.1 (aligned_of_headerPage hs.2.1) (by decide)
  obtain ⟨hstat, hsig⟩ := wr_signal_shows hs.1.1 hs.2.1 (d := 0x18) (by decide) (s.intStat page ||| v) (intVec_lt s page)
    (v &&& ~~~s.intStat page &&& s.intEn page = 0)
  exact ⟨_, hdone, hstat, hsig, hrd, hframe⟩

/-- INT_EN takes its value, and signals the causes that it enables anew (R56). -/
theorem done_intEnWrite (v : Word) :
    ∃ t, done (intEnWrite page v s) = .next t ∧ t.rd (page + 0x1C) = v
      ∧ (v &&& ~~~s.rd (page + 0x1C) &&& s.rd (page + 0x18) ≠ 0 → Signalled (s.intVec page) s t) ∧ OnlyInts [] [page + 0x1C] s t := by
  obtain ⟨hdone, hrd, hframe⟩ := (Interrupts.intEnWrite page v s).done hs.1.1 (aligned_of_headerPage hs.2.1) (by decide)
  have hvec : (s.wr (page + 0x1C) v).intVec page = s.intVec page := congrArg (bitsOf · 7 0) (rd_wr_other s v (by omega))
  obtain ⟨hen, hsig⟩ := wr_signal_shows hs.1.1 hs.2.1 (d := 0x1C) (by decide) v (intVec_lt s page)
    (v &&& ~~~s.intEn page &&& s.intStat page = 0)
  rw [← hvec] at hen hsig
  exact ⟨_, hdone, hen, hvec ▸ hsig, hrd, hframe⟩

/-- INT_VEC takes its value, and signals the enabled causes on the new vector (R56). -/
theorem done_intVecWrite (v : Word) :
    ∃ t, done (intVecWrite page v s) = .next t ∧ t.rd (page + 0x24) = v &&& 0xFF
      ∧ (s.rd (page + 0x18) &&& s.rd (page + 0x1C) ≠ 0 → Signalled (v &&& 0xFF).toNat s t) ∧ OnlyInts [] [page + 0x24] s t := by
  obtain ⟨hdone, hrd, hframe⟩ := (Interrupts.intVecWrite page v s).done hs.1.1 (aligned_of_headerPage hs.2.1) (by decide)
  have hlt : (v &&& 0xFF).toNat < 256 := by rw [BitVec.toNat_and]; exact Nat.lt_succ_of_le Nat.and_le_right
  have hvec : (s.wr (page + 0x24) (v &&& 0xFF)).intVec page = (v &&& 0xFF).toNat := by
    rw [State.intVec, rd_wr_same]
    exact Nat.mod_eq_of_lt hlt
  have hcause : (s.wr (page + 0x24) (v &&& 0xFF)).intStat page &&& (s.wr (page + 0x24) (v &&& 0xFF)).intEn page
      = s.intStat page &&& s.intEn page := congrArg₂ (· &&& ·) (rd_wr_other s _ (by omega)) (rd_wr_other s _ (by omega))
  obtain ⟨hval, hsig⟩ := wr_signal_shows hs.1.1 hs.2.1 (d := 0x24) (by decide) (v &&& 0xFF) hlt
    (s.intStat page &&& s.intEn page = 0)
  refine ⟨_, hdone, ?_, fun hc => ?_, hrd, hframe⟩
  all_goals simp only [intVecWrite, hcause, hvec]
  · exact hval
  · exact hsig hc

end

/-- Settles O4: each of the four writes stores one header word, and signals the page's vector where an enabled cause is new. -/
theorem interruptRegisters : Obligations.InterruptRegisters := by
  unfold Obligations.InterruptRegisters
  intro s page r v w hs
  rw [exec_intStatClear_of_header hs, exec_intSet_of_header hs, exec_intEnWrite_of_header hs, exec_intVecWrite_of_header hs]
  exact ⟨done_intStatClear hs v w, done_intSet hs v, done_intEnWrite hs v, done_intVecWrite hs v⟩

end Sys2Proof.Machine

namespace Sys2Proof.Machine
open Sys2Proof Reg

/-! ## Faults acknowledged and read (O6) -/

/-- The status word of a sequencer is no other word of a page. -/
theorem psqStat_ne_word {page d : Nat} (hp : page % 0x1000 = 0) (hd : d < 0x1000 ∧ d ≠ 0x14) (n : Nat) :
    baseOf .psq n + 0x14 ≠ page + d := by
  simp only [baseOf]
  omega

/-- The cursor register after a step of the cursor: WORD and ENTRY as one number, modulo 8 entries of 4 words. -/
theorem bits_cursor (e : Nat) {w : Nat} (hw : w < 4) :
    bitsOf (BitVec.ofNat 32 ((e * 4 + w + 1) / 4 % 8 * 16 + (e * 4 + w + 1) % 4)) 1 0 = (w + 1) % 4
      ∧ bitsOf (BitVec.ofNat 32 ((e * 4 + w + 1) / 4 % 8 * 16 + (e * 4 + w + 1) % 4)) 6 4 = (e + if w = 3 then 1 else 0) % 8 := by
  simp only [bitsOf, BitVec.toNat_ofNat, Nat.shiftRight_eq_div_pow]
  split <;> omega

/-- A command that leaves the interrupts alone too ends with what it did. -/
theorem done_quiet {s u : State} (hs : Steady s) (hg : u.grave = s.grave) (hsig : u.sig = s.sig) (hd : u.dev = s.dev)
    (h : ∀ n < 8, u.rd (baseOf .psq n + 0x14) = s.rd (baseOf .psq n + 0x14)) : done u = .next u := by
  rw [done_of_steady hs (hg.trans hs.1) hd h, ← hs.2.1, ← hsig]

section
variable {s : State} {page : Nat} {r : PageRef} (hs : Header s page r)
include hs

theorem exec_fltHistCursorWrite_of_header (v : Word) : exec (.fltHistCursorWrite page v) s = done (fltHistCursorWrite page v s) := by
  obtain ⟨⟨-, hl⟩, hp, -⟩ := hs
  show execFltHistCursorWrite page v s = _
  simp [execFltHistCursorWrite, hl, hp]

theorem exec_fltHistDataRead_of_header : exec (.fltHistDataRead page) s = done (fltHistDataRead page s) := by
  obtain ⟨⟨-, hl⟩, hp, -⟩ := hs
  show execFltHistDataRead page s = _
  simp [execFltHistDataRead, hl, hp]

/-- FLT_ACK takes the acknowledged classes off the unacknowledged, and marks their entries (R62). -/
theorem done_fltAck (v : Word) :
    ∃ t, done (fltAck page v s) = .next t
      ∧ (∀ e ∈ (t.fault page).unacked, v.getLsbD 31 = false ∧ e.1 ≠ bitsOf v 7 0)
      ∧ (∀ e ∈ (s.fault page).unacked, v.getLsbD 31 = false → e.1 ≠ bitsOf v 7 0 → e ∈ (t.fault page).unacked)
      ∧ (∀ e ∈ (t.fault page).hist, (v.getLsbD 31 = true ∨ e.cls = bitsOf v 7 0) → e.acked = true)
      ∧ (t.fault page).hist.map (·.seq) = (s.fault page).hist.map (·.seq)
      ∧ FaultsBut [page] s t ∧ t = { s with faults := t.faults } := by
  have hit : ∀ c, (v.getLsbD 31 || c == bitsOf v 7 0) = true ↔ v.getLsbD 31 = true ∨ c = bitsOf v 7 0 := fun c => by
    rw [Bool.or_eq_true, beq_iff_eq]
  refine ⟨_, done_quiet hs.1.1 rfl rfl rfl fun _ _ => rfl, ?_⟩
  simp only [fltAck, fault_setFault_same]
  refine ⟨fun e he => ?_, fun e he h31 hc => ?_, fun e he hc => ?_, ?_, fun q hq => ?_, rfl⟩
  · have h := (List.mem_filter.mp he).2
    rw [Bool.not_eq_true', ← Bool.not_eq_true, hit, not_or, Bool.not_eq_true] at h
    exact h
  · refine List.mem_filter.mpr ⟨he, ?_⟩
    rw [Bool.not_eq_true', ← Bool.not_eq_true, hit, not_or, Bool.not_eq_true]
    exact ⟨h31, hc⟩
  · obtain ⟨x, -, rfl⟩ := List.mem_map.mp he
    split
    · rfl
    · next h =>
      rw [if_neg h] at hc
      exact absurd ((hit _).mpr hc) h
  · rw [List.map_map]
    refine List.map_congr_left fun e _ => ?_
    rw [Function.comp_apply]
    split <;> rfl
  · exact (fault_setFault s page q _).trans (if_neg (List.ne_of_not_mem_cons hq))

/-- A write of the cursor takes a snapshot of the history (R64). -/
theorem done_fltHistCursorWrite (v : Word) :
    ∃ t, done (fltHistCursorWrite page v s) = .next t
      ∧ t.rd (page + 0x30) = v &&& 0x73
      ∧ (t.fault page).snap = some (s.fault page).hist
      ∧ (t.fault page).hist = (s.fault page).hist
      ∧ FaultsBut [page] s t
      ∧ RegsBut [page + 0x30] s t
      ∧ t = { s with regs := t.regs, faults := t.faults } := by
  have hp := aligned_of_headerPage hs.2.1
  have hstat : ∀ n < 8, (fltHistCursorWrite page v s).rd (baseOf .psq n + 0x14) = s.rd (baseOf .psq n + 0x14) := fun n _ =>
    rd_wr_other s _ (psqStat_ne_word hp (by decide) n)
  have hfault : (fltHistCursorWrite page v s).fault page = { s.fault page with snap := some (s.fault page).hist } :=
    fault_setFault_same _ _ _
  refine ⟨_, done_quiet hs.1.1 rfl rfl rfl hstat, rd_wr_same s _ _, ?_, ?_, fun q hq => ?_, fun o ho => ?_, rfl⟩
  · rw [hfault]
  · rw [hfault]
  · exact (fault_setFault (s.wr (page + 0x30) (v &&& 0x73)) page q _).trans (if_neg (List.ne_of_not_mem_cons hq))
  · exact rd_wr_other s _ (List.ne_of_not_mem_cons ho)

/-- A read of the history answers the word at the cursor, which moves on (R64). -/
theorem done_fltHistDataRead :
    ∃ t, done (fltHistDataRead page s) = .next t
      ∧ bitsOf (t.rd (page + 0x30)) 1 0 = (bitsOf (s.rd (page + 0x30)) 1 0 + 1) % 4
      ∧ (bitsOf (t.rd (page + 0x30)) 6 4
          = (bitsOf (s.rd (page + 0x30)) 6 4 + (if bitsOf (s.rd (page + 0x30)) 1 0 = 3 then 1 else 0)) % 8)
      ∧ OnlyAnswer (s.histWord page) [page + 0x30] s t := by
  have hp := aligned_of_headerPage hs.2.1
  have hstat : ∀ n < 8, (fltHistDataRead page s).rd (baseOf .psq n + 0x14) = s.rd (baseOf .psq n + 0x14) := fun n _ =>
    rd_wr_other (s.answer _) _ (psqStat_ne_word hp (by decide) n)
  have hcursor := bits_cursor (bitsOf (s.rd (page + 0x30)) 6 4) (bitsOf_lt (s.rd (page + 0x30)) 1 0)
  have hword : (fltHistDataRead page s).rd (page + 0x30) = _ := rd_wr_same (s.answer (s.histWord page)) _ _
  rw [← hword] at hcursor
  exact ⟨_, done_quiet hs.1.1 rfl rfl rfl hstat, hcursor.1, hcursor.2, rfl,
    fun o ho => rd_wr_other (s.answer _) _ (List.ne_of_not_mem_cons ho), rfl⟩

end

/-- Settles O6: an acknowledgement filters and marks, a cursor write snapshots, a data read answers and advances. -/
theorem faultRegisters : Obligations.FaultRegisters := by
  unfold Obligations.FaultRegisters
  intro s page r v hs
  rw [exec_fltAck_of_header hs, exec_fltHistCursorWrite_of_header hs, exec_fltHistDataRead_of_header hs]
  exact ⟨done_fltAck hs v, done_fltHistCursorWrite hs v, done_fltHistDataRead hs⟩

end Sys2Proof.Machine

namespace Sys2Proof.Machine
open Sys2Proof Reg

/-! ## Pending messages go out (O7) -/

/-- A vector whose message waits and can go out. -/
def State.ready (s : State) (v : Nat) : Bool := s.pbaBit v && s.canSend && !s.vectorMasked v

/-- The vectors of `l` that were ready have gone out, once each, and nothing else has changed (R57). -/
structure Released (l : List Nat) (s t : State) : Prop where
  frame : t = { s with regs := t.regs, hif := { s.hif with sent := t.hif.sent } }
  rd : RegsBut pbaOffs s t
  bit : ∀ v < 256, t.pbaBit v = if v ∈ l ∧ s.ready v = true then false else s.pbaBit v
  sent : ∀ v < 256, msgs t v = if v ∈ l ∧ s.ready v = true then msgs s v + 1 else msgs s v

namespace Released

theorem canSend {l : List Nat} {s t : State} (h : Released l s t) : t.canSend = s.canSend := by
  rw [h.frame]
  rfl

theorem vectorMasked {l : List Nat} {s t : State} (h : Released l s t) {v : Nat} (hv : v < 256) : t.vectorMasked v = s.vectorMasked v :=
  vectorMasked_congr (by rw [h.frame]) (h.rd _ (maskOff_not_mem_pbaOffs hv))

/-- The clearing of a pending bit makes its vector's message go out. -/
theorem releaseVec (s : State) {a : Nat} (ha : a < 256) : Released [a] s (s.releaseVec a) := by
  unfold State.releaseVec
  have hrd : RegsBut pbaOffs s (s.unpend a) := fun o ho => rd_wr_other s _ fun h => ho (h ▸ pbaOff_mem ha)
  split
  · next h =>
    have hready : s.ready a = true := h
    have hmask : (s.unpend a).vectorMasked a = s.vectorMasked a := vectorMasked_congr rfl (hrd _ (maskOff_not_mem_pbaOffs ha))
    have hcan : ((s.unpend a).canSend && !(s.unpend a).vectorMasked a) = true := by
      rw [hmask]
      rw [Bool.and_assoc, Bool.and_eq_true] at h
      exact h.2
    have hregs : ((s.unpend a).sendOrPend a).regs = (s.unpend a).regs := by rw [State.sendOrPend, if_pos hcan]
    refine ⟨?_, fun o ho => ?_, fun v _ => ?_, fun v _ => ?_⟩
    · rw [State.sendOrPend, if_pos hcan]
      rfl
    · rw [State.rd, hregs]
      exact hrd o ho
    · rw [pbaBit_congr (congrArg (mapGet regReset · _) hregs), pbaBit_unpend]
      by_cases hv : v = a
      · subst hv
        simp [hready]
      · simp [hv]
    · rw [msgs_sendOrPend hcan]
      by_cases hv : v = a
      · subst hv
        rw [if_pos rfl, if_pos ⟨List.mem_singleton_self v, hready⟩]
        rfl
      · rw [if_neg hv, if_neg fun hc => hv (List.mem_singleton.mp hc.1)]
        rfl
  · next h =>
    have hstay : ∀ v, ¬ (v ∈ [a] ∧ s.ready v = true) := fun v hv => h (List.mem_singleton.mp hv.1 ▸ hv.2)
    exact ⟨rfl, fun _ _ => rfl, fun v _ => (if_neg (hstay v)).symm, fun v _ => (if_neg (hstay v)).symm⟩

/-- What was ready and is released is no longer ready; what is not released stays as ready as it was. -/
theorem ready {l : List Nat} {s t : State} (h : Released l s t) {v : Nat} (hv : v < 256) :
    t.ready v = (s.ready v && !decide (v ∈ l)) := by
  rw [State.ready, h.canSend, h.vectorMasked hv, h.bit v hv]
  by_cases hl : v ∈ l <;> by_cases hr : s.ready v = true <;> simp_all [State.ready]

theorem cons {a : Nat} {l : List Nat} {s t u : State} (h1 : Released [a] s t) (h2 : Released l t u) (ha : a ∉ l) :
    Released (a :: l) s u where
  frame := by rw [h2.frame, h1.frame]
  rd o ho := (h2.rd o ho).trans (h1.rd o ho)
  bit v hv := by
    rw [h2.bit v hv, h1.bit v hv, h1.ready hv]
    by_cases hva : v = a
    · subst hva
      simp [ha]
    · simp [hva]
  sent v hv := by
    rw [h2.sent v hv, h1.sent v hv, h1.ready hv]
    by_cases hva : v = a
    · subst hva
      simp [ha]
    · simp [hva]

/-- Every vector of a list is looked at once. -/
theorem foldl (l : List Nat) (hl : l.Nodup) (h256 : ∀ a ∈ l, a < 256) (s : State) : Released l s (l.foldl State.releaseVec s) := by
  induction l generalizing s with
  | nil => exact ⟨rfl, fun _ _ => rfl, fun _ _ => by simp, fun _ _ => by simp⟩
  | cons a l ih =>
    rw [List.nodup_cons] at hl
    exact (releaseVec s (h256 a List.mem_cons_self)).cons (ih hl.2 (fun b hb => h256 b (List.mem_cons_of_mem a hb)) _) hl.1

/-- Every vector of the function is looked at. -/
theorem release (s : State) : Released (List.range 256) s s.release :=
  foldl _ List.nodup_range (fun _ h => List.mem_range.mp h) s

/-- The messages that go out, told from a state with the pending bits and messages of the one that releases them. -/
theorem goesOut {s s' t : State} (h : Released (List.range 256) s' t) (hrd : ∀ o ∈ pbaOffs, s'.rd o = s.rd o)
    (hsent : s'.hif.sent = s.hif.sent) {v : Nat} (hv : v < 256) :
    if s.pbaBit v && t.canSend && !t.vectorMasked v then t.pbaBit v = false ∧ msgs t v = msgs s v + 1
    else t.pbaBit v = s.pbaBit v ∧ msgs t v = msgs s v := by
  have hbit : s'.pbaBit v = s.pbaBit v := pbaBit_congr (hrd _ (pbaOff_mem hv))
  have hmsgs : msgs s' v = msgs s v := by rw [msgs, hsent]; rfl
  have hready : s'.ready v = (s.pbaBit v && t.canSend && !t.vectorMasked v) := by
    rw [State.ready, hbit, h.canSend, h.vectorMasked hv]
  rw [h.bit v hv, h.sent v hv, hbit, hmsgs, hready]
  by_cases hc : (s.pbaBit v && t.canSend && !t.vectorMasked v) = true
  · simp [hc, hv]
  · rw [if_neg hc, if_neg fun hn => hc hn.2, if_neg fun hn => hc hn.2]
    exact ⟨rfl, rfl⟩

end Released

/-- A change of the masks or enables of the function: its own word, the pending bits and the messages sent stand. -/
theorem msixChange_leaves (c : MsixChange) (s : State) :
    (∃ regs hif, msixChange c s = { s with regs := regs, hif := hif }) ∧ (msixChange c s).hif.sent = s.hif.sent
      ∧ ∀ o, o < 0x4000 ∨ 0x5000 ≤ o → (msixChange c s).rd o = s.rd o := by
  cases c with
  | vectorMask v m =>
    unfold msixChange
    simp only
    split
    · refine ⟨⟨_, _, rfl⟩, rfl, fun o ho => rd_putAt_other s _ ?_⟩
      simp only [fldOff, baseOf, MSIX_MASK]
      omega
    · exact ⟨⟨_, _, rfl⟩, rfl, fun _ _ => rfl⟩
  | functionMask m => exact ⟨⟨_, _, rfl⟩, rfl, fun _ _ => rfl⟩
  | msixEnable m => exact ⟨⟨_, _, rfl⟩, rfl, fun _ _ => rfl⟩
  | busMaster m => exact ⟨⟨_, _, rfl⟩, rfl, fun _ _ => rfl⟩
  | d3hot m => exact ⟨⟨_, _, rfl⟩, rfl, fun _ _ => rfl⟩

theorem mem_pbaOffs_ge {o : Nat} (h : o ∈ pbaOffs) : 0x5000 ≤ o := by
  simp only [pbaOffs, List.mem_cons, List.not_mem_nil, or_false] at h
  omega

/-- An unmasking write sends what it frees (R57). -/
theorem done_msixUnmask {s : State} (hs : Steady s) (c : MsixChange) :
    ∃ t, exec (.msixUnmask c) s = .next t
      ∧ (∀ v < 256, if s.pbaBit v && t.canSend && !t.vectorMasked v then t.pbaBit v = false ∧ msgs t v = msgs s v + 1
          else t.pbaBit v = s.pbaBit v ∧ msgs t v = msgs s v)
      ∧ t = { s with regs := t.regs, hif := t.hif } := by
  obtain ⟨⟨regs, hif, hchange⟩, hsent, hrd⟩ := msixChange_leaves c s
  have hr := Released.release (msixChange c s)
  have hframe : (msixChange c s).release = { s with regs := (msixChange c s).release.regs, hif := (msixChange c s).release.hif } := by
    have h := hr.frame
    generalize (msixChange c s).release = u at *
    rw [h, hchange]
  have hstat : ∀ n < 8, (msixChange c s).release.rd (baseOf .psq n + 0x14) = s.rd (baseOf .psq n + 0x14) := fun n _ =>
    (hr.rd _ (psqStat_not_mem_pbaOffs n)).trans (hrd _ (.inr (by simp only [baseOf]; omega)))
  exact ⟨_, done_quiet hs (by rw [hframe]) (by rw [hframe]) (by rw [hframe]) hstat,
    fun v hv => hr.goesOut (fun o ho => hrd o (.inr (mem_pbaOffs_ge ho))) hsent hv, hframe⟩

/-- HIF_LINK after WIDTH and SPEED are written. -/
def State.putLink (s : State) (width speed : Nat) : State := (s.put .hifId 0 HIF_LINK_WIDTH width).put .hifId 0 HIF_LINK_SPEED speed

theorem rd_putLink_other (s : State) (w g : Nat) {o : Nat} (h : o ≠ 0x48) : (s.putLink w g).rd o = s.rd o :=
  (rd_put_other _ _ h).trans (rd_put_other _ _ h)

/-- WIDTH and SPEED show while the word of HIF_LINK stands. -/
theorem shows_putLink {s t : State} {w g : Nat} (hw : w < 256) (hg : g < 16) (h : t.rd 0x48 = (s.putLink w g).rd 0x48) :
    t.fld .hifId 0 HIF_LINK_WIDTH = w ∧ t.fld .hifId 0 HIF_LINK_SPEED = g := by
  refine ⟨(fld_congr h).trans ?_, (fld_congr h).trans ?_⟩
  · rw [State.putLink, fld_put_other _ _ (by decide) (by decide) (by decide) (by decide), fld_put_same _ _ _ _ _ (by decide) (by decide)]
    exact Nat.mod_eq_of_lt hw
  · rw [State.putLink, fld_put_same _ _ _ _ _ (by decide) (by decide)]
    exact Nat.mod_eq_of_lt hg

theorem lanes_lt (w : LinkWidth) : LinkWidth.lanes w < 256 := by cases w <;> decide

/-- The link as training leaves it, before what waits is sent. -/
def State.linkUp (s : State) (width : LinkWidth) (speed : Fin 5) : State :=
  let s := s.putLink (LinkWidth.lanes width) (speed.val + 1)
  { s with hif := { s.hif with linkUp := true } }

theorem exec_hifLinkTrained_of_live {s : State} (hl : s.live = true) (hp : s.hif.perst = false) (w : LinkWidth) (g : Fin 5) :
    exec (.hifLinkTrained w g) s = done (s.linkUp w g).release := by
  have hoff : s.dev ≠ .off := fun h => by simp [State.live, h] at hl
  show execHifLinkTrained w g s = _
  simp only [execHifLinkTrained, hp, hoff, decide_false, Bool.or_self, Bool.false_eq_true, if_false]
  rfl

/-- A trained link shows its width and speed, and what waited goes out (R57, R74). -/
theorem done_hifLinkTrained {s : State} (hs : Serving s) (hp : s.hif.perst = false) (w : LinkWidth) (g : Fin 5) :
    ∃ t, exec (.hifLinkTrained w g) s = .next t
      ∧ t.fld .hifId 0 HIF_LINK_WIDTH = LinkWidth.lanes w
      ∧ t.fld .hifId 0 HIF_LINK_SPEED = g.val + 1
      ∧ t.hif.linkUp = true
      ∧ (∀ v < 256, if s.pbaBit v && t.canSend && !t.vectorMasked v then t.pbaBit v = false ∧ msgs t v = msgs s v + 1
          else t.pbaBit v = s.pbaBit v ∧ msgs t v = msgs s v)
      ∧ RegsBut (0x48 :: pbaOffs) s t
      ∧ t = { s with regs := t.regs, hif := { s.hif with linkUp := true, sent := t.hif.sent } } := by
  have hr := Released.release (s.linkUp w g)
  have hrd : ∀ o, o ≠ 0x48 → (s.linkUp w g).rd o = s.rd o := fun o ho => rd_putLink_other s _ _ ho
  have hframe : (s.linkUp w g).release = { s with
      regs := (s.linkUp w g).release.regs, hif := { s.hif with linkUp := true, sent := (s.linkUp w g).release.hif.sent } } := by
    have h := hr.frame
    generalize (s.linkUp w g).release = u at *
    rw [h]
    rfl
  have hstat : ∀ n < 8, (s.linkUp w g).release.rd (baseOf .psq n + 0x14) = s.rd (baseOf .psq n + 0x14) := fun n _ =>
    (hr.rd _ (psqStat_not_mem_pbaOffs n)).trans (hrd _ (psqStat_ne_of_lt (by decide) n))
  have hshow := shows_putLink (lanes_lt w) (g := g.val + 1) (by omega) (hr.rd 0x48 (by decide))
  rw [exec_hifLinkTrained_of_live hs.2 hp]
  refine ⟨_, done_quiet hs.1 (by rw [hframe]) (by rw [hframe]) (by rw [hframe]) hstat, hshow.1, hshow.2, by rw [hframe],
    fun v hv => hr.goesOut (fun o ho => hrd o ?_) rfl hv, fun o ho => ?_, hframe⟩
  · have := mem_pbaOffs_ge ho
    omega
  · rw [List.mem_cons, not_or] at ho
    exact (hr.rd o ho.2).trans (hrd o ho.1)

/-- A link that goes down shows width and speed 0. -/
theorem done_hifLinkDown {s : State} (hs : Steady s) :
    ∃ t, exec .hifLinkDown s = .next t
      ∧ t.fld .hifId 0 HIF_LINK_WIDTH = 0
      ∧ t.fld .hifId 0 HIF_LINK_SPEED = 0
      ∧ RegsBut [0x48] s t
      ∧ t = { s with regs := t.regs, hif := { s.hif with linkUp := false } } := by
  have hrd : ∀ o, o ≠ 0x48 → (linkDown s).rd o = s.rd o := fun o ho => rd_putLink_other s 0 0 ho
  have hshow : (linkDown s).fld .hifId 0 HIF_LINK_WIDTH = 0 ∧ (linkDown s).fld .hifId 0 HIF_LINK_SPEED = 0 :=
    shows_putLink (s := s) (by decide) (by decide) rfl
  exact ⟨_, done_quiet hs rfl rfl rfl fun n _ => hrd _ (psqStat_ne_of_lt (by decide) n), hshow.1, hshow.2,
    fun o ho => hrd o (List.ne_of_not_mem_cons ho), rfl⟩

/-- Settles O7: releasing the vectors one after another sends each ready one once, whatever freed it. -/
theorem pendingMessagesGoOut : Obligations.PendingMessagesGoOut := by
  unfold Obligations.PendingMessagesGoOut
  intro s hs
  exact ⟨done_msixUnmask hs.1, fun w g hp => done_hifLinkTrained hs hp w g, done_hifLinkDown hs.1⟩

end Sys2Proof.Machine

namespace Sys2Proof.Machine
open Sys2Proof Reg

/-! ## Objects of the Vector Store: allocating and freeing (O43) -/

/-! ### Never-written regions -/

theorem vsWritten_vsForget (s : State) (r q : Nat) : (s.vsForget r).vsWritten q = if q = r then false else s.vsWritten q := by
  split
  · next h => rw [h]; exact mapGet_mapDel_same _ _ _
  · next h => exact mapGet_mapDel_other _ _ h

theorem forgetGranule_eq_with (s : State) (g : Nat) : ∃ b w p,
    s.forgetGranule g = { s with vs := { s.vs with bytes := b, written := w, poison := p } } := by
  unfold State.forgetGranule
  generalize List.range 16 = l
  induction l generalizing s with
  | nil => exact ⟨_, _, _, rfl⟩
  | cons r l ih =>
    obtain ⟨b, w, p, h⟩ := ih (s.vsForget (16 * g + r))
    exact ⟨b, w, p, h⟩

/-- Forgetting granules changes bytes, written-map and poison only. -/
theorem forgetGranules_eq_with (l : List Nat) (s : State) : ∃ b w p,
    l.foldl State.forgetGranule s = { s with vs := { s.vs with bytes := b, written := w, poison := p } } := by
  induction l generalizing s with
  | nil => exact ⟨_, _, _, rfl⟩
  | cons g l ih =>
    obtain ⟨b, w, p, h⟩ := forgetGranule_eq_with s g
    obtain ⟨b', w', p', h'⟩ := ih (s.forgetGranule g)
    exact ⟨b', w', p', by rw [List.foldl_cons, h', h]⟩

/-- What one element of a fold brings about and every other keeps holds after it. -/
theorem foldl_of_mem {α : Type} {P : State → Prop} {f : State → α → State} {l : List α} {a : α} (ha : a ∈ l) (hmake : ∀ s, P (f s a))
    (hkeep : ∀ s b, P s → P (f s b)) (s : State) : P (l.foldl f s) := by
  induction l generalizing s with
  | nil => cases ha
  | cons b l ih =>
    rw [List.foldl_cons]
    rcases List.mem_cons.mp ha with rfl | ha
    · exact foldl_of_step hkeep l (hmake s)
    · exact ih ha _

theorem vsForget_keeps_unwritten {s : State} {q : Nat} (h : s.vsWritten q = false) (r : Nat) : (s.vsForget r).vsWritten q = false := by
  rw [vsWritten_vsForget, h, ite_self]

theorem forgetGranule_keeps_unwritten {s : State} {q : Nat} (h : s.vsWritten q = false) (g : Nat) :
    (s.forgetGranule g).vsWritten q = false :=
  foldl_of_step (P := fun s => s.vsWritten q = false) (fun _ _ h => vsForget_keeps_unwritten h _) _ h

theorem vsWritten_forgetGranule (s : State) {x r : Nat} (hr : r < 16) : (s.forgetGranule x).vsWritten (16 * x + r) = false :=
  foldl_of_mem (P := fun s => s.vsWritten (16 * x + r) = false) (f := fun s r => s.vsForget (16 * x + r)) (List.mem_range.mpr hr)
    (fun s => (vsWritten_vsForget s _ _).trans (if_pos rfl)) (fun _ _ h => vsForget_keeps_unwritten h _) s

/-- A region that a forgotten granule holds is never-written (R294). -/
theorem vsWritten_forgetGranules {l : List Nat} {x r : Nat} (hx : x ∈ l) (hr : r < 16) (s : State) :
    (l.foldl State.forgetGranule s).vsWritten (16 * x + r) = false :=
  foldl_of_mem (P := fun s => s.vsWritten (16 * x + r) = false) hx (fun s => vsWritten_forgetGranule s hr)
    (fun _ g h => forgetGranule_keeps_unwritten h g) s

/-! ### Free slots and granules -/

theorem firstFrom_some {p : Nat → Bool} {m x fuel y : Nat} (h : firstFrom p m x fuel = some y) : p y = true ∧ ∃ z, y = z % m := by
  induction fuel generalizing x with
  | zero => cases h
  | succ n ih =>
    rw [firstFrom] at h
    split at h
    · next hp => exact Option.some.inj h ▸ ⟨hp, x, rfl⟩
    · exact ih h

/-- A slot that is picked holds no object, and lies in the table (R289). -/
theorem pickSlot_some {s : State} {slot : Nat} (h : s.pickSlot = some slot) : s.slotObj slot = none ∧ slot < 16384 := by
  obtain ⟨hp, z, rfl⟩ := firstFrom_some h
  exact ⟨Option.isNone_iff_eq_none.mp hp, Nat.mod_lt _ (by decide)⟩

theorem pickGranules_eq_with (k : Nat) (s : State) (taken : List Nat) :
    (s.pickGranules taken k).1 = { s with free := (s.pickGranules taken k).1.free } := by
  induction k generalizing s taken with
  | zero => rfl
  | succ k ih =>
    rw [State.pickGranules]
    split
    · next g _ =>
      have h := ih s.drawn (taken ++ [g])
      generalize s.drawn.pickGranules (taken ++ [g]) k = u at *
      rw [h]
      rfl
    · rfl

/-- A granule that no object holds and the page table does not reserve. -/
abbrev Spare (s : State) (x : Nat) : Prop := reservedGranule x = false ∧ s.slotOfGranule x = none

/-- Granules that are picked are spare, each picked once (R288, R289). -/
theorem pickGranules_spare (k : Nat) (s : State) (taken : List Nat) (hnd : taken.Nodup) (hsp : ∀ x ∈ taken, Spare s x) :
    (s.pickGranules taken k).2.Nodup ∧ ∀ x ∈ (s.pickGranules taken k).2, Spare s x := by
  induction k generalizing s taken with
  | zero => exact ⟨hnd, hsp⟩
  | succ k ih =>
    rw [State.pickGranules]
    split
    · next g hg =>
      obtain ⟨hfree, -⟩ := firstFrom_some hg
      simp only [State.granuleFree, Bool.and_eq_true, Bool.not_eq_true', Option.isNone_iff_eq_none] at hfree
      obtain ⟨⟨hres, hslot⟩, htaken⟩ := hfree
      rw [← Bool.not_eq_true, List.contains_iff_mem] at htaken
      refine ih s.drawn (taken ++ [g]) ?_ fun x hx => ?_
      · exact List.nodup_append.mpr ⟨hnd, List.nodup_singleton g, fun x hx y hy h => htaken (List.mem_singleton.mp hy ▸ h ▸ hx)⟩
      · rcases List.mem_append.mp hx with hx | hx
        · exact hsp x hx
        · exact List.mem_singleton.mp hx ▸ ⟨hres, hslot⟩
    · exact ⟨hnd, hsp⟩

/-! ### Handles -/

theorem nextGen_lt (g : Nat) : nextGen g < 65536 := by
  unfold nextGen
  split <;> omega

/-- A handle spells its generation and its slot (R290). -/
theorem handle_parts {gen slot : Nat} (hg : gen < 65536) (hs : slot < 16384) :
    handleGen (BitVec.ofNat 32 (65536 * gen + slot)) = gen ∧ handleSlot (BitVec.ofNat 32 (65536 * gen + slot)) = slot := by
  simp only [handleGen, handleSlot, bitsOf, BitVec.toNat_ofNat, Nat.shiftRight_eq_div_pow]
  omega

/-! ### What requests on objects change -/

/-- VMC_RESP takes its result, and then the page only reports. -/
theorem vmcResp_reportsOn (s : State) (r : Nat) (ok : Bool) : ReportsOn 0x200000 (s.put .vmc 0 VMC_RESP_RESULT r) (s.vmcResp r ok) := by
  have h := ReportsOn.int (s.put .vmc 0 VMC_RESP_RESULT r) .vmc 0 0
  unfold State.vmcResp
  split
  · exact h
  · exact h.trans (.raiseOpen _ .vmc 0 7 (by decide))

/-- The words of the VMC page that requests and their completion write: INT_STAT, VMC_ALLOC, VMC_RESP, VMC_HANDLE and VMC_FREEGR. -/
def vmcReqOffs : List Nat := [0x200018, 0x200040, 0x200048, 0x20004C, 0x200050]

/-- The object table and what it reports change, and of registers the request's own (R289, R292). -/
structure VmcOnly (s u : State) : Prop where
  frame : u = { s with
    regs := u.regs, hif := u.hif, faults := u.faults, evr := u.evr, free := u.free, vs := u.vs, sig := u.sig }
  rd : ∀ o, o ∉ vmcReqOffs → o ∉ pbaOffs → o ∉ evrOffs → u.rd o = s.rd o

namespace VmcOnly

theorem refl (s : State) : VmcOnly s s := ⟨rfl, fun _ _ _ _ => rfl⟩

theorem trans {s t u : State} (h1 : VmcOnly s t) (h2 : VmcOnly t u) : VmcOnly s u where
  frame := by rw [h2.frame, h1.frame]
  rd o ho hp he := (h2.rd o ho hp he).trans (h1.rd o ho hp he)

theorem put (s : State) {f : Fld} (v : Nat) (h : fldOff .vmc 0 f 0 ∈ vmcReqOffs) : VmcOnly s (s.put .vmc 0 f v) :=
  ⟨rfl, fun _ ho _ _ => rd_put_other s v fun he => ho (he ▸ h)⟩

theorem of_reportsOn {s u : State} (h : ReportsOn 0x200000 s u) : VmcOnly s u where
  frame := by
    have hvs : u.vs = s.vs := by rw [h.frame]
    rw [hvs]
    exact h.frame
  rd o ho hp he := h.rd o (fun hx => ho (by simp [vmcReqOffs, hx])) hp he

/-- A change of the Vector Store alone. -/
theorem withVs (s : State) (v : VsSt) : VmcOnly s { s with vs := v } := ⟨rfl, fun _ _ _ _ => rfl⟩

theorem vmcResp (s : State) (r : Nat) (ok : Bool) : VmcOnly s (s.vmcResp r ok) :=
  (put s r (by decide)).trans (of_reportsOn (vmcResp_reportsOn s r ok))

/-- Such a command ends with what it did. -/
theorem done {s u : State} (hs : Steady s) (h : VmcOnly s u) :
    Machine.done u = .next { u with sig := [] }
      ∧ { u with sig := [] } = { s with regs := u.regs, hif := u.hif, faults := u.faults, evr := u.evr, free := u.free, vs := u.vs } := by
  have hsig : s.sig = [] := hs.2.1
  refine ⟨done_of_steady hs (by rw [h.frame]; exact hs.1) (by rw [h.frame]) fun n hn => h.rd _ ?_ (psqStat_not_mem_pbaOffs n)
    (psqStat_not_mem_evrOffs n), ?_⟩
  · simp only [vmcReqOffs, baseOf, List.mem_cons, List.not_mem_nil, or_false]
    omega
  · rw [← hsig]
    conv_lhs => rw [h.frame]

end VmcOnly

theorem rd_vmcResp_other (s : State) (r : Nat) (ok : Bool) {o : Nat} (h1 : o ≠ 0x200018) (h2 : o ≠ 0x200048) (hp : o ∉ pbaOffs)
    (he : o ∉ evrOffs) : (s.vmcResp r ok).rd o = s.rd o :=
  ((vmcResp_reportsOn s r ok).rd o h1 hp he).trans (rd_put_other s r h2)

theorem vmcResp_vs (s : State) (r : Nat) (ok : Bool) : (s.vmcResp r ok).vs = s.vs := by
  rw [(vmcResp_reportsOn s r ok).frame]
  rfl

/-- What VMC_RESP shows of a completed request (R289, R292). -/
theorem vmcResp_shows (s : State) {r : Nat} (hr : r < 16) (ok : Bool) :
    (s.vmcResp r ok).fld .vmc 0 VMC_RESP_RESULT = r ∧ ((s.vmcResp r ok).intStat 0x200000).getLsbD 0 = true := by
  have hset := intStat_int (s.put .vmc 0 VMC_RESP_RESULT r) .vmc 0 (b := 0) (by decide) (by decide)
  refine ⟨?_, ?_⟩
  · refine (fld_congr ((vmcResp_reportsOn s r ok).rd _ (by decide) (by decide) (by decide))).trans ?_
    exact (fld_put_same _ _ _ _ _ (by decide) (by decide)).trans (Nat.mod_eq_of_lt hr)
  · unfold State.vmcResp
    split
    · exact hset
    · exact (ReportsOn.raiseOpen _ .vmc 0 7 (by decide)).ints (by decide) 0 hset

/-- A refused request raises class 7 at Notice. -/
theorem raised_vmcResp (s : State) (r : Nat) : Raised 0x200000 7 1 s (s.vmcResp r false) :=
  raised_of_same (s' := (s.put .vmc 0 VMC_RESP_RESULT r).int .vmc 0 0) (by rw [int_eq_with]; rfl) (by rw [int_eq_with]; rfl)
    (raised_raiseOpen _ .vmc 0 7 (by decide))

end Sys2Proof.Machine

namespace Sys2Proof.Machine
open Sys2Proof Reg

/-! ### An allocation, and a free -/

/-- The granules that an allocation of `g` picks. -/
def State.picked (s : State) (g : Nat) : List Nat := (s.drawn.pickGranules [] g).2

/-- The granules are picked and forgotten (R294). -/
def State.emptied (s : State) (g : Nat) : State := (s.picked g).foldl State.forgetGranule (s.drawn.pickGranules [] g).1

/-- An object comes into a slot, whose generation is `gen` (R290). -/
def State.putObject (s : State) (slot : Nat) (o : VsObj) (gen : Nat) : State :=
  { s with vs := { s.vs with objs := mapSet (fun _ => none) s.vs.objs slot (some o), gens := mapSet (fun _ => 0) s.vs.gens slot gen } }

/-- The state after an allocation of `g` granules for a slot (R289). -/
def State.withObject (s : State) (kind : VsKind) (slot g : Nat) : State :=
  ((s.emptied g).putObject slot ⟨kind, s.picked g⟩ (nextGen (s.genOf slot))).put .vmc 0 VMC_FREEGR_FREE ((s.emptied g).freeGranules - g)

theorem emptied_eq_with (s : State) (g : Nat) : ∃ b w p f,
    s.emptied g = { s with vs := { s.vs with bytes := b, written := w, poison := p }, free := f } := by
  obtain ⟨b, w, p, h⟩ := forgetGranules_eq_with (s.picked g) (s.drawn.pickGranules [] g).1
  exact ⟨b, w, p, (s.drawn.pickGranules [] g).1.free, by rw [State.emptied, h, pickGranules_eq_with]; rfl⟩

theorem vsWritten_emptied (s : State) {g x r : Nat} (hx : x ∈ s.picked g) (hr : r < 16) :
    (s.emptied g).vsWritten (16 * x + r) = false := vsWritten_forgetGranules hx hr _

theorem freeGranules_emptied (s : State) (g : Nat) : (s.emptied g).freeGranules = s.freeGranules := by
  obtain ⟨b, w, p, f, h⟩ := emptied_eq_with s g
  rw [h]
  rfl

/-- The handle of the next object of a slot. -/
def State.newHandle (s : State) (slot : Nat) : Word := BitVec.ofNat 32 (65536 * nextGen (s.genOf slot) + slot)

theorem allocObject_of_lt {s : State} {g : Nat} (kind : VsKind) (h : s.freeGranules < g) : s.allocObject kind g = (s, .inr 3) := if_pos h

theorem allocObject_of_no_slot {s : State} {g : Nat} (kind : VsKind) (h : ¬ s.freeGranules < g) (hs : s.pickSlot = none) :
    s.allocObject kind g = (s, .inr 4) := by
  simp only [State.allocObject, if_neg h, hs]

theorem allocObject_of_slot {s : State} {g slot : Nat} (kind : VsKind) (h : ¬ s.freeGranules < g) (hs : s.pickSlot = some slot) :
    s.allocObject kind g = (s.withObject kind slot g, .inl (s.newHandle slot)) := by
  have hgen : (s.drawn.pickGranules [] g).1.genOf slot = s.genOf slot := by rw [pickGranules_eq_with]; rfl
  simp only [State.allocObject, if_neg h, hs, hgen]
  rfl

/-- What an allocation leaves of the object table and of memory (R289, R290, R294). -/
structure Allocated (kind : VsKind) (slot g : Nat) (s u : State) : Prop where
  slotObj : ∀ k, u.slotObj k = if k = slot then some ⟨kind, s.picked g⟩ else s.slotObj k
  genOf : u.genOf slot = nextGen (s.genOf slot)
  unwritten : ∀ x ∈ s.picked g, ∀ r < 16, u.vsWritten (16 * x + r) = false
  job : u.vs.job = s.vs.job

theorem withObject_allocated (s : State) (kind : VsKind) (slot g : Nat) : Allocated kind slot g s (s.withObject kind slot g) := by
  have hun := fun x (hx : x ∈ s.picked g) r (hr : r < 16) => vsWritten_emptied s hx hr
  obtain ⟨b, w, p, f, h⟩ := emptied_eq_with s g
  refine ⟨fun k => ?_, mapGet_mapSet_same (fun _ => 0) (s.emptied g).vs.gens slot _, hun, ?_⟩
  · refine (mapGet_mapSet (fun _ => none) (s.emptied g).vs.objs slot k (some ⟨kind, s.picked g⟩)).trans ?_
    rw [h]
    rfl
  · show (s.emptied g).vs.job = _
    rw [h]

theorem VmcOnly.withObject (s : State) (kind : VsKind) (slot g : Nat) : VmcOnly s (s.withObject kind slot g) := by
  have hemptied : VmcOnly s (s.emptied g) := by
    obtain ⟨b, w, p, f, h⟩ := emptied_eq_with s g
    rw [h]
    exact ⟨rfl, fun _ _ _ _ => rfl⟩
  exact (hemptied.trans (withVs _ _)).trans (put _ _ (by decide))

/-- VMC_FREEGR falls by the granules taken. -/
theorem freeGranules_withObject (s : State) (kind : VsKind) (slot g : Nat) :
    (s.withObject kind slot g).freeGranules = s.freeGranules - g := by
  have hlt : s.freeGranules < 2 ^ 19 := bitsOf_lt _ 18 0
  refine (fld_put_same _ _ _ _ _ (by decide) (by decide)).trans ?_
  rw [freeGranules_emptied]
  exact Nat.mod_eq_of_lt (lt_of_le_of_lt (Nat.sub_le _ _) hlt)

theorem newHandle_parts (s : State) {slot : Nat} (hs : slot < 16384) :
    handleGen (s.newHandle slot) = nextGen (s.genOf slot) ∧ handleSlot (s.newHandle slot) = slot :=
  handle_parts (nextGen_lt _) hs

/-- The handle of a new object names it. -/
theorem Allocated.objAt {kind : VsKind} {slot g : Nat} {s u : State} (h : Allocated kind slot g s u) (hs : slot < 16384) :
    u.objAt (s.newHandle slot) = some ⟨kind, s.picked g⟩ := by
  obtain ⟨hgen, hslot⟩ := newHandle_parts s hs
  rw [State.objAt, hgen, hslot, h.genOf, if_pos ⟨hs, rfl⟩, h.slotObj, if_pos rfl]

/-- The object of a slot goes, and its granules are forgotten (R292). -/
theorem freeSlot_of_some {s : State} {slot : Nat} {o : VsObj} (h : s.slotObj slot = some o) :
    VmcOnly s (s.freeSlot slot) ∧ (∀ k, (s.freeSlot slot).slotObj k = if k = slot then none else s.slotObj k)
      ∧ (∀ x ∈ o.granules, ∀ r < 16, (s.freeSlot slot).vsWritten (16 * x + r) = false) ∧ (s.freeSlot slot).vs.job = s.vs.job := by
  have hun := fun x hx r hr => vsWritten_forgetGranules (l := o.granules) (x := x) (r := r) hx hr s
  obtain ⟨b, w, p, hforget⟩ := forgetGranules_eq_with o.granules s
  rw [hforget] at hun
  simp only [State.freeSlot, h, hforget]
  refine ⟨(VmcOnly.withVs s _).trans (VmcOnly.put _ _ (by decide)), fun k => ?_, hun, rfl⟩
  show mapGet (fun _ => none) (mapDel s.vs.objs slot) k = _
  split
  · next hk => rw [hk, mapGet_mapDel_same]
  · next hk => exact mapGet_mapDel_other _ _ hk

/-! ### Requests complete -/

/-- The state in which a request is no longer in progress. -/
def State.noJob (s : State) : State := { s with vs := { s.vs with job := none } }

theorem vmcAllocDone_of_alloc {s : State} {g : Nat} (h : s.vs.job = some (.alloc g)) : vmcAllocDone s = s.noJob.allocDone g := by
  simp only [vmcAllocDone, h]
  rfl

theorem vmcAllocDone_of_free {s : State} {h : Word} (hj : s.vs.job = some (.free h)) : vmcAllocDone s = s.noJob.freeDone h := by
  simp only [vmcAllocDone, hj]
  rfl

theorem vmcAllocDone_of_none {s : State} (h : s.vs.job = none) : vmcAllocDone s = s := by
  simp only [vmcAllocDone, h]

/-- What an allocation that completes can come to (R289). -/
theorem allocDone_cases (s : State) (g : Nat) :
    (s.freeGranules < g ∧ s.allocDone g = s.vmcResp 3 false)
      ∨ (¬ s.freeGranules < g ∧ s.pickSlot = none ∧ s.allocDone g = s.vmcResp 4 false)
      ∨ ∃ slot, ¬ s.freeGranules < g ∧ s.pickSlot = some slot
          ∧ s.allocDone g = ((s.withObject .plain slot g).put .vmc 0 VMC_HANDLE (s.newHandle slot).toNat).vmcResp 1 true := by
  by_cases h : s.freeGranules < g
  · exact .inl ⟨h, by simp only [State.allocDone, allocObject_of_lt .plain h]⟩
  · rcases hs : s.pickSlot with _ | slot
    · exact .inr (.inl ⟨h, rfl, by simp only [State.allocDone, allocObject_of_no_slot .plain h hs]⟩)
    · exact .inr (.inr ⟨slot, h, rfl, by simp only [State.allocDone, allocObject_of_slot .plain h hs]⟩)

/-- What a free that completes can come to (R292). -/
theorem freeDone_cases (s : State) (h : Word) :
    (s.objAt h = none ∧ s.freeDone h = s.vmcResp 5 false)
      ∨ (∃ o, s.objAt h = some o ∧ o.kind = .sealedObj ∧ s.freeDone h = s.vmcResp 7 false)
      ∨ (∃ o, s.objAt h = some o ∧ o.kind = .plain ∧ s.referenced h o = true ∧ s.freeDone h = s.vmcResp 6 false)
      ∨ ∃ o, s.objAt h = some o ∧ o.kind = .plain ∧ s.referenced h o = false
          ∧ s.freeDone h = (s.freeSlot (handleSlot h)).vmcResp 2 true := by
  rcases ho : s.objAt h with _ | o
  · exact .inl ⟨rfl, by simp only [State.freeDone, ho]⟩
  · rcases hk : o.kind with _ | _
    · by_cases hr : s.referenced h o = true
      · exact .inr (.inr (.inl ⟨o, rfl, hk, hr, by simp [State.freeDone, ho, hk, hr]⟩))
      · exact .inr (.inr (.inr ⟨o, rfl, hk, by simpa using hr, by simp [State.freeDone, ho, hk, hr, State.freeHandle]⟩))
    · exact .inr (.inl ⟨o, rfl, hk, by simp [State.freeDone, ho, hk]⟩)

theorem VmcOnly.allocDone (s : State) (g : Nat) : VmcOnly s (s.allocDone g) := by
  rcases allocDone_cases s g with ⟨-, h⟩ | ⟨-, -, h⟩ | ⟨slot, -, -, h⟩ <;> rw [h]
  · exact vmcResp s 3 false
  · exact vmcResp s 4 false
  · exact ((withObject s .plain slot g).trans (put _ _ (by decide))).trans (vmcResp _ 1 true)

/-- An object that a handle names stands in its slot. -/
theorem slotObj_of_objAt {s : State} {h : Word} {o : VsObj} (ho : s.objAt h = some o) : s.slotObj (handleSlot h) = some o := by
  unfold State.objAt at ho
  split at ho
  · exact ho
  · cases ho

theorem VmcOnly.freeDone (s : State) (h : Word) : VmcOnly s (s.freeDone h) := by
  rcases freeDone_cases s h with ⟨-, hd⟩ | ⟨o, -, -, hd⟩ | ⟨o, -, -, -, hd⟩ | ⟨o, ho, -, -, hd⟩ <;> rw [hd]
  · exact vmcResp s 5 false
  · exact vmcResp s 7 false
  · exact vmcResp s 6 false
  · exact (freeSlot_of_some (slotObj_of_objAt ho)).1.trans (vmcResp _ 2 true)

theorem VmcOnly.vmcAllocDone (s : State) : VmcOnly s (vmcAllocDone s) := by
  rcases hj : s.vs.job with _ | j
  · rw [vmcAllocDone_of_none hj]
    exact refl s
  · cases j with
    | alloc g => rw [vmcAllocDone_of_alloc hj]; exact (withVs s _).trans (allocDone _ g)
    | free h => rw [vmcAllocDone_of_free hj]; exact (withVs s _).trans (freeDone _ h)

end Sys2Proof.Machine

namespace Sys2Proof.Machine
open Sys2Proof Reg

/-! ### What the requests' commands show -/

/-- The handle that a free names is the one in VMC_FREE when the request is taken. -/
theorem fld_freeHandle_request (s : State) (m : Nat) :
    ((vmcAllocDone s).put .vmc 0 VMC_ALLOC_GRANULES_M1 m).fld .vmc 0 VMC_FREE_HANDLE = s.fld .vmc 0 VMC_FREE_HANDLE :=
  fld_congr (((VmcOnly.vmcAllocDone s).trans (VmcOnly.put _ m (by decide))).rd _ (by decide) (by decide) (by decide))

section
variable {s : State} (hs : Serving s)
include hs

/-- The VMC page is open to every role (R44). -/
theorem asHostOn_vmc_of_live (f : State → State) : s.asHostOn .vmc 0 f = f s := by
  have hr : s.role.meets (wrMin .vmc) = true := by simp [Role.meets, wrMin]
  simp [State.asHostOn, State.asHost, hs.2, hr]

/-- A request is taken, once the one before it is complete (R289, R292). -/
theorem done_vmcRequest (m : BitVec 18) (j : State → VsJob) :
    ∃ t, done (s.vmcRequest m.toNat j) = .next t ∧ t.vs.job = some (j ((vmcAllocDone s).put .vmc 0 VMC_ALLOC_GRANULES_M1 m.toNat))
      ∧ t.fld .vmc 0 VMC_ALLOC_GRANULES_M1 = m.toNat
      ∧ (s.vs.job = none → RegsBut [0x200040] s t ∧ t = { s with regs := t.regs, vs := { s.vs with job := t.vs.job } }) := by
  have hput := VmcOnly.put (vmcAllocDone s) (f := VMC_ALLOC_GRANULES_M1) m.toNat (by decide)
  have hall : VmcOnly s (s.vmcRequest m.toNat j) := ((VmcOnly.vmcAllocDone s).trans hput).trans (VmcOnly.withVs _ _)
  refine ⟨_, (hall.done hs.1).1, rfl, ?_, fun hnone => ?_⟩
  · exact (fld_put_same (vmcAllocDone s) _ _ _ _ (by decide) (by decide)).trans (Nat.mod_eq_of_lt m.isLt)
  · have hsig : s.sig = [] := hs.1.2.1
    rw [State.vmcRequest, vmcAllocDone_of_none hnone, ← hsig]
    exact ⟨fun o ho => rd_put_other s _ (List.ne_of_not_mem_cons ho), rfl⟩

/-- An allocation of the host is taken (R289). -/
theorem done_vmcAlloc (g : BitVec 18) :
    ∃ t, exec (.vmcAlloc g) s = .next t
      ∧ t.vs.job = some (.alloc (g.toNat + 1)) ∧ t.fld .vmc 0 VMC_ALLOC_GRANULES_M1 = g.toNat
      ∧ (s.vs.job = none → RegsBut [0x200040] s t ∧ t = { s with regs := t.regs, vs := { s.vs with job := t.vs.job } }) := by
  show ∃ t, done (s.asHostOn .vmc 0 _) = .next t ∧ _
  rw [asHostOn_vmc_of_live hs]
  exact done_vmcRequest hs g _

/-- A free of the host is taken (R292). -/
theorem done_vmcFree (g : BitVec 18) :
    ∃ t, exec (.vmcFree g) s = .next t
      ∧ t.vs.job = some (.free (BitVec.ofNat 32 (s.fld .vmc 0 VMC_FREE_HANDLE)))
      ∧ (s.vs.job = none → RegsBut [0x200040] s t ∧ t = { s with regs := t.regs, vs := { s.vs with job := t.vs.job } }) := by
  show ∃ t, done (s.asHostOn .vmc 0 _) = .next t ∧ _
  rw [asHostOn_vmc_of_live hs]
  obtain ⟨t, ht, hjob, -, hrest⟩ := done_vmcRequest hs g fun s => .free (BitVec.ofNat 32 (s.fld .vmc 0 VMC_FREE_HANDLE))
  rw [fld_freeHandle_request] at hjob
  exact ⟨t, ht, hjob, hrest⟩

end

/-- What a completed request shows of the request itself. -/
abbrev RequestEnded (s u : State) : Prop := u.vs.job = s.vs.job ∧ (u.intStat 0x200000).getLsbD 0 = true

/-- A request that is refused changes no object. -/
theorem vmcResp_refuses (s : State) {r : Nat} (hr : r < 16) :
    RequestEnded s (s.vmcResp r false) ∧ (s.vmcResp r false).fld .vmc 0 VMC_RESP_RESULT = r ∧ (s.vmcResp r false).vs.objs = s.vs.objs
      ∧ Raised 0x200000 7 1 s (s.vmcResp r false) := by
  obtain ⟨hres, hint⟩ := vmcResp_shows s hr false
  have hvs := vmcResp_vs s r false
  exact ⟨⟨congrArg VsSt.job hvs, hint⟩, hres, congrArg VsSt.objs hvs, raised_vmcResp s r⟩

/-- What an allocation with room and a slot shows: the handle of the next generation of the slot, and granules gone from the free ones. -/
theorem allocated_shows (s : State) (slot g : Nat) :
    let u := ((s.withObject .plain slot g).put .vmc 0 VMC_HANDLE (s.newHandle slot).toNat).vmcResp 1 true
    RequestEnded s u ∧ u.fld .vmc 0 VMC_RESP_RESULT = 1 ∧ u.freeGranules = s.freeGranules - g
      ∧ BitVec.ofNat 32 (u.fld .vmc 0 VMC_HANDLE) = s.newHandle slot ∧ Allocated .plain slot g s u := by
  have halloc := withObject_allocated s .plain slot g
  have hfree := freeGranules_withObject s .plain slot g
  generalize s.withObject .plain slot g = w at *
  obtain ⟨hres, hint⟩ := vmcResp_shows (w.put .vmc 0 VMC_HANDLE (s.newHandle slot).toNat) (r := 1) (by decide) true
  have hvs : ((w.put .vmc 0 VMC_HANDLE (s.newHandle slot).toNat).vmcResp 1 true).vs = w.vs := vmcResp_vs _ 1 true
  have hrd := fun o h1 h2 hp he => rd_vmcResp_other (w.put .vmc 0 VMC_HANDLE (s.newHandle slot).toNat) 1 true (o := o) h1 h2 hp he
  generalize (w.put .vmc 0 VMC_HANDLE (s.newHandle slot).toNat).vmcResp 1 true = u at *
  refine ⟨⟨(congrArg VsSt.job hvs).trans halloc.job, hint⟩, hres, ?_, ?_, ?_⟩
  · refine (fld_congr (hrd _ (by decide) (by decide) (by decide) (by decide))).trans ?_
    exact (fld_put_other w _ (by decide) (by decide) (by decide) (by decide)).trans hfree
  · have hfld : u.fld .vmc 0 VMC_HANDLE = (s.newHandle slot).toNat :=
      (fld_congr (hrd _ (by decide) (by decide) (by decide) (by decide))).trans
        ((fld_put_same w _ _ _ _ (by decide) (by decide)).trans (Nat.mod_eq_of_lt (s.newHandle slot).isLt))
    rw [hfld]
    exact BitVec.ofNat_toNat 32 _
  · obtain ⟨hobj, hgen, hun, hjob⟩ := halloc
    refine ⟨fun k => ?_, ?_, fun x hx r hr => ?_, ?_⟩
    · rw [State.slotObj, hvs]
      exact hobj k
    · rw [State.genOf, hvs]
      exact hgen
    · rw [State.vsWritten, hvs]
      exact hun x hx r hr
    · rw [hvs]
      exact hjob

/-- An allocation completes (R289, R290, R294). -/
theorem done_vmcAllocDone_alloc {s : State} (hs : Steady s) {g : Nat} (hj : s.vs.job = some (.alloc g)) :
    ∃ t, exec .vmcAllocDone s = .next t
      ∧ t.vs.job = none ∧ (t.intStat 0x200000).getLsbD 0 = true
      ∧ (s.freeGranules < g → t.fld .vmc 0 VMC_RESP_RESULT = 3 ∧ t.vs.objs = s.vs.objs ∧ Raised 0x200000 7 1 s t)
      ∧ (g ≤ s.freeGranules → s.pickSlot.isSome = true → t.fld .vmc 0 VMC_RESP_RESULT = 1 ∧ t.freeGranules = s.freeGranules - g
          ∧ (t.objAt (BitVec.ofNat 32 (t.fld .vmc 0 VMC_HANDLE))).isSome = true
          ∧ s.slotObj (handleSlot (BitVec.ofNat 32 (t.fld .vmc 0 VMC_HANDLE))) = none
          ∧ handleGen (BitVec.ofNat 32 (t.fld .vmc 0 VMC_HANDLE))
            = nextGen (s.genOf (handleSlot (BitVec.ofNat 32 (t.fld .vmc 0 VMC_HANDLE)))))
      ∧ (∀ o ∈ t.objAt (BitVec.ofNat 32 (t.fld .vmc 0 VMC_HANDLE)), g ≤ s.freeGranules → s.pickSlot.isSome = true →
          o.kind = .plain ∧ o.granules.Nodup
            ∧ ∀ x ∈ o.granules, reservedGranule x = false ∧ s.slotOfGranule x = none ∧ ∀ r < 16, t.vsWritten (16 * x + r) = false)
      ∧ (∀ k < 16384, k ≠ handleSlot (BitVec.ofNat 32 (t.fld .vmc 0 VMC_HANDLE)) → t.slotObj k = s.slotObj k)
      ∧ t = { s with regs := t.regs, hif := t.hif, faults := t.faults, evr := t.evr, free := t.free, vs := t.vs } := by
  obtain ⟨hdone, hframe⟩ := (VmcOnly.vmcAllocDone s).done hs
  rw [vmcAllocDone_of_alloc hj] at hdone hframe
  refine ⟨_, (congrArg done (vmcAllocDone_of_alloc hj)).trans hdone, ?_⟩
  rcases allocDone_cases s.noJob g with ⟨hlt, hd⟩ | ⟨hle, hslot, hd⟩ | ⟨slot, hle, hslot, hd⟩
  · obtain ⟨⟨hjob, hint⟩, hres, hobjs, hra⟩ := vmcResp_refuses s.noJob (r := 3) (by decide)
    rw [← hd] at hjob hint hres hobjs hra
    refine ⟨hjob, hint, fun _ => ⟨hres, hobjs, hra⟩, fun hge => absurd hlt (Nat.not_lt.mpr hge),
      fun _ _ hge => absurd hlt (Nat.not_lt.mpr hge), fun k _ _ => ?_, hframe⟩
    exact congrArg (mapGet (fun _ => none) · k) hobjs
  · obtain ⟨⟨hjob, hint⟩, -, hobjs, -⟩ := vmcResp_refuses s.noJob (r := 4) (by decide)
    rw [← hd] at hjob hint hobjs
    have hno : s.pickSlot.isSome ≠ true := by
      rw [show s.pickSlot = none from hslot]
      decide
    refine ⟨hjob, hint, fun hlt => absurd hlt hle, fun _ h => absurd h hno, fun _ _ _ h => absurd h hno, fun k _ _ => ?_, hframe⟩
    exact congrArg (mapGet (fun _ => none) · k) hobjs
  · obtain ⟨⟨hjob, hint⟩, hres, hfree, hhandle, halloc⟩ := allocated_shows s.noJob slot g
    rw [← hd] at hjob hint hres hfree hhandle halloc
    obtain ⟨hempty, hlt⟩ := pickSlot_some hslot
    obtain ⟨hgen, hpart⟩ := newHandle_parts s.noJob hlt
    have hobj := halloc.objAt hlt
    obtain ⟨hnodup, hspare⟩ := pickGranules_spare g s.noJob.drawn [] List.nodup_nil nofun
    generalize s.noJob.allocDone g = u at *
    have hhandle' : BitVec.ofNat 32 (({ u with sig := [] } : State).fld .vmc 0 VMC_HANDLE) = s.noJob.newHandle slot := hhandle
    rw [hhandle', hgen, hpart]
    refine ⟨hjob, hint, fun h => absurd h hle, fun _ _ => ⟨hres, hfree, ?_, hempty, rfl⟩, fun o ho _ _ => ?_, fun k _ hk => ?_, hframe⟩
    · exact Option.isSome_of_eq_some hobj
    · obtain rfl : (⟨.plain, s.noJob.picked g⟩ : VsObj) = o := Option.some.inj (hobj.symm.trans ho)
      exact ⟨rfl, hnodup, fun x hx => ⟨(hspare x hx).1, (hspare x hx).2, fun r hr => halloc.unwritten x hx r hr⟩⟩
    · exact (halloc.slotObj k).trans (if_neg hk)

/-- What a free that is performed shows: the object is gone, and its granules are never-written (R292, R294). -/
theorem freed_shows {s : State} {h : Word} {o : VsObj} (ho : s.objAt h = some o) :
    let u := (s.freeSlot (handleSlot h)).vmcResp 2 true
    RequestEnded s u ∧ u.fld .vmc 0 VMC_RESP_RESULT = 2 ∧ (∀ k, u.slotObj k = if k = handleSlot h then none else s.slotObj k)
      ∧ u.objAt h = none ∧ ∀ x ∈ o.granules, ∀ r < 16, u.vsWritten (16 * x + r) = false := by
  obtain ⟨-, hobj, hun, hjob⟩ := freeSlot_of_some (slotObj_of_objAt ho)
  generalize s.freeSlot (handleSlot h) = w at *
  obtain ⟨hres, hint⟩ := vmcResp_shows w (r := 2) (by decide) true
  have hvs := vmcResp_vs w 2 true
  generalize w.vmcResp 2 true = u at *
  have hslot : ∀ k, u.slotObj k = if k = handleSlot h then none else s.slotObj k := fun k => by
    rw [State.slotObj, hvs]
    exact hobj k
  refine ⟨⟨(congrArg VsSt.job hvs).trans hjob, hint⟩, hres, hslot, ?_, fun x hx r hr => ?_⟩
  · rw [State.objAt, hslot, if_pos rfl, ite_self]
  · rw [State.vsWritten, hvs]
    exact hun x hx r hr

/-- A free completes (R292). -/
theorem done_vmcAllocDone_free {s : State} (hs : Steady s) {h : Word} (hj : s.vs.job = some (.free h)) :
    ∃ t, exec .vmcAllocDone s = .next t
      ∧ t.vs.job = none
      ∧ (s.objAt h = none → t.fld .vmc 0 VMC_RESP_RESULT = 5 ∧ t.vs.objs = s.vs.objs)
      ∧ (∀ o ∈ s.objAt h, o.kind = .sealedObj → t.fld .vmc 0 VMC_RESP_RESULT = 7 ∧ t.vs.objs = s.vs.objs)
      ∧ (∀ o ∈ s.objAt h, o.kind = .plain → s.referenced h o = true → t.fld .vmc 0 VMC_RESP_RESULT = 6 ∧ t.vs.objs = s.vs.objs)
      ∧ (∀ o ∈ s.objAt h, o.kind = .plain → s.referenced h o = false → t.fld .vmc 0 VMC_RESP_RESULT = 2 ∧ t.objAt h = none
          ∧ ∀ x ∈ o.granules, ∀ r < 16, t.vsWritten (16 * x + r) = false)
      ∧ (∀ k < 16384, k ≠ handleSlot h → t.slotObj k = s.slotObj k)
      ∧ t = { s with regs := t.regs, hif := t.hif, faults := t.faults, evr := t.evr, free := t.free, vs := t.vs } := by
  obtain ⟨hdone, hframe⟩ := (VmcOnly.vmcAllocDone s).done hs
  rw [vmcAllocDone_of_free hj] at hdone hframe
  refine ⟨_, (congrArg done (vmcAllocDone_of_free hj)).trans hdone, ?_⟩
  have hkeep : ∀ u : State, u.vs.objs = s.vs.objs → ∀ k < 16384, k ≠ handleSlot h → u.slotObj k = s.slotObj k := fun u hu k _ _ =>
    congrArg (mapGet (fun _ => none) · k) hu
  rcases freeDone_cases s.noJob h with ⟨ho, hd⟩ | ⟨o, ho, hk, hd⟩ | ⟨o, ho, hk, href, hd⟩ | ⟨o, ho, hk, href, hd⟩
  · obtain ⟨⟨hjob, -⟩, hres, hobjs, -⟩ := vmcResp_refuses s.noJob (r := 5) (by decide)
    rw [← hd] at hjob hres hobjs
    have hnot : ∀ q, ¬ q ∈ s.objAt h := fun q hq => nomatch (ho.symm.trans hq : none = some q)
    exact ⟨hjob, fun _ => ⟨hres, hobjs⟩, fun q hq => absurd hq (hnot q), fun q hq => absurd hq (hnot q), fun q hq => absurd hq (hnot q),
      hkeep _ hobjs, hframe⟩
  · obtain ⟨⟨hjob, -⟩, hres, hobjs, -⟩ := vmcResp_refuses s.noJob (r := 7) (by decide)
    rw [← hd] at hjob hres hobjs
    have hsome : s.objAt h ≠ none := fun hn => nomatch (ho.symm.trans hn : some o = none)
    have hnot : ∀ q, q ∈ s.objAt h → q.kind ≠ .plain := fun q hq => by
      rw [← Option.some.inj (ho.symm.trans hq), hk]
      decide
    exact ⟨hjob, fun hn => absurd hn hsome, fun _ _ _ => ⟨hres, hobjs⟩, fun q hq hp => absurd hp (hnot q hq),
      fun q hq hp => absurd hp (hnot q hq), hkeep _ hobjs, hframe⟩
  · obtain ⟨⟨hjob, -⟩, hres, hobjs, -⟩ := vmcResp_refuses s.noJob (r := 6) (by decide)
    rw [← hd] at hjob hres hobjs
    have hsome : s.objAt h ≠ none := fun hn => nomatch (ho.symm.trans hn : some o = none)
    have hnot : ∀ q, q ∈ s.objAt h → q.kind ≠ .sealedObj ∧ s.referenced h q ≠ false := fun q hq => by
      rw [← Option.some.inj (ho.symm.trans hq), hk, show s.referenced h o = true from href]
      decide
    exact ⟨hjob, fun hn => absurd hn hsome, fun q hq hp => absurd hp (hnot q hq).1, fun _ _ _ _ => ⟨hres, hobjs⟩,
      fun q hq _ hr => absurd hr (hnot q hq).2, hkeep _ hobjs, hframe⟩
  · obtain ⟨⟨hjob, -⟩, hres, hobj, hgone, hun⟩ := freed_shows ho
    rw [← hd] at hjob hres hobj hgone hun
    have hsome : s.objAt h ≠ none := fun hn => nomatch (ho.symm.trans hn : some o = none)
    have hnot : ∀ q, q ∈ s.objAt h → q.kind ≠ .sealedObj ∧ s.referenced h q ≠ true := fun q hq => by
      rw [← Option.some.inj (ho.symm.trans hq), hk, show s.referenced h o = false from href]
      decide
    exact ⟨hjob, fun hn => absurd hn hsome, fun q hq hp => absurd hp (hnot q hq).1, fun q hq _ hr => absurd hr (hnot q hq).2,
      fun q hq _ _ => ⟨hres, hgone, Option.some.inj (ho.symm.trans hq) ▸ hun⟩, fun k _ hk => (hobj k).trans (if_neg hk), hframe⟩

end Sys2Proof.Machine

namespace Sys2Proof.Machine
open Sys2Proof Reg

/-! ### Reads of the Vector Store -/

/-- Chip-wide events are counted on their own page (R255). -/
theorem rd_pcnChip_other (s : State) (e d : Nat) {o : Nat} (h : o < 0x62000 ∨ 0x63000 ≤ o) : (s.pcnChip e d).rd o = s.rd o := by
  have hadd : ∀ i < 8, ∀ u : State, (u.pcnAdd .pcnChip 0 i d).rd o = u.rd o := fun i hi u => by
    have hlo : o ≠ fldOff .pcnChip 0 PCN_CNT_LO i := by simp only [fldOff, baseOf, PCN_CNT_LO]; omega
    have hhi : o ≠ fldOff .pcnChip 0 PCN_CNT_HI i := by simp only [fldOff, baseOf, PCN_CNT_HI]; omega
    have hov : o ≠ fldOff .pcnChip 0 PCN_OVF_CNT 0 := by simp only [fldOff, baseOf, PCN_OVF_CNT]; omega
    simp only [State.pcnAdd]
    split
    · rw [rd_put_other _ _ hov, rd_putAt_other _ _ hhi, rd_putAt_other _ _ hlo]
    · rw [rd_putAt_other _ _ hhi, rd_putAt_other _ _ hlo]
  refine rd_foldl _ (fun i hi u => ?_) s
  split
  · simp only
    split
    · exact hadd i (List.mem_range.mp hi) u
    · exact hadd i (List.mem_range.mp hi) u
  · rfl

/-- No events, nothing counted. -/
theorem pcnChip_zero (s : State) (e : Nat) : s.pcnChip e 0 = s :=
  foldl_of_step (P := fun u => u = s) (fun u _ h => by simpa using h) _ rfl

/-- Whether a channel is marked failed is read from VMC_STAT. -/
theorem chFailed_congr {s t : State} (h : t.rd 0x200014 = s.rd 0x200014) (c : Nat) : t.chFailed c = s.chFailed c := by
  rw [State.chFailed, State.chFailed, fld_congr h]

/-- What reads of words change, where no error is found that is not known: the runs of uncorrectable reads, and counters. -/
structure Reads (s u : State) : Prop where
  frame : u = { s with regs := u.regs, vs := { s.vs with ueRun := u.vs.ueRun }, chipWraps := u.chipWraps }
  rd : ∀ o, o < 0x62000 ∨ 0x63000 ≤ o → o ≠ 0x200064 → u.rd o = s.rd o

/-- A word that is neither poisoned nor in a failed channel. -/
abbrev GoodWord (s : State) (w : Nat) : Prop := s.vsPoison w = false ∧ s.chFailed (vsChannel (8 * w)) = false

namespace Reads

theorem refl (s : State) : Reads s s := ⟨rfl, fun _ _ _ => rfl⟩

theorem trans {s t u : State} (h1 : Reads s t) (h2 : Reads t u) : Reads s u where
  frame := by rw [h2.frame, h1.frame]
  rd o ho he := (h2.rd o ho he).trans (h1.rd o ho he)

theorem pcnChip (s : State) (e d : Nat) : Reads s (s.pcnChip e d) where
  frame := by rw [pcnChip_eq_with]
  rd _ ho _ := rd_pcnChip_other s e d ho

theorem goodRead (s : State) (c : Nat) : Reads s (s.goodRead c) := ⟨rfl, fun _ _ _ => rfl⟩

theorem poison {s u : State} (h : Reads s u) (w : Nat) : u.vsPoison w = s.vsPoison w := by rw [h.frame]; rfl

theorem chFailed {s u : State} (h : Reads s u) (c : Nat) : u.chFailed c = s.chFailed c :=
  chFailed_congr (h.rd _ (.inr (by decide)) (by decide)) c

theorem goodWord {s u : State} (h : Reads s u) {w : Nat} (hg : GoodWord s w) : GoodWord u w :=
  ⟨(h.poison w).trans hg.1, (h.chFailed _).trans hg.2⟩

/-- A bad word that is read again is counted. -/
theorem uncorrected {s : State} {w : Nat} (h : (s.vsPoison w || s.chFailed (vsChannel (8 * w))) = true) : Reads s (s.uncorrected w) := by
  have hbump : Reads s (s.bump .vmc 0 VMC_UE_COUNT VMC_UE_OVF) := by
    refine ⟨?_, fun o _ ho => rd_bumpBy_other s ho ho⟩
    rw [State.bump, bumpBy_eq_with]
  have hbad : ((s.bump .vmc 0 VMC_UE_COUNT VMC_UE_OVF).vsPoison w
      || (s.bump .vmc 0 VMC_UE_COUNT VMC_UE_OVF).chFailed (vsChannel (8 * w))) = true := by rw [hbump.poison, hbump.chFailed, h]
  rw [State.uncorrected, if_pos hbad]
  exact hbump

theorem readWord (s : State) (w : Nat) : Reads s (s.readWord w none).1 := by
  unfold State.readWord
  split
  · exact refl s
  · split
    · next h => exact uncorrected (by simpa using h)
    · exact goodRead s _

end Reads

/-- A good word is delivered. -/
theorem readWord_ok {s : State} {w : Nat} (h : GoodWord s w) : (s.readWord w none).2 = true := by
  obtain ⟨hp, hc⟩ := h
  unfold State.readWord
  simp only [hp, hc, Bool.or_self, reduceCtorEq, if_false]
  split <;> rfl

/-- One word of a demand read in which no error is found, and whether all were delivered so far. -/
def readNext (r : State × Bool) (w : Nat × Nat) : State × Bool := ((r.1.readWord w.1 none).1, r.2 && (r.1.readWord w.1 none).2)

theorem readWords_nil_hits (s : State) (ws : List Nat) :
    s.readWords ws [] = ws.zipIdx.foldl readNext (s.pcnChip 1 ((ws.map (· / 8)).eraseDups.length), true) := rfl

theorem readNexts_reads (l : List (Nat × Nat)) (r : State × Bool) : Reads r.1 (l.foldl readNext r).1 := by
  induction l generalizing r with
  | nil => exact Reads.refl _
  | cons w l ih => exact (Reads.readWord r.1 w.1).trans (ih (readNext r w))

theorem readNexts_ok (l : List (Nat × Nat)) (r : State × Bool) (h : ∀ w ∈ l, GoodWord r.1 w.1) : (l.foldl readNext r).2 = r.2 := by
  induction l generalizing r with
  | nil => rfl
  | cons w l ih =>
    have hw := h w List.mem_cons_self
    rw [List.foldl_cons, ih (readNext r w) fun x hx => (Reads.readWord r.1 w.1).goodWord (h x (List.mem_cons_of_mem w hx))]
    exact (congrArg (r.2 && ·) (readWord_ok hw)).trans (Bool.and_true _)

theorem Reads.readWords (s : State) (ws : List Nat) : Reads s (s.readWords ws []).1 := by
  rw [readWords_nil_hits]
  exact (pcnChip s _ _).trans (readNexts_reads ws.zipIdx (s.pcnChip 1 _, true))

/-- A demand read of good words delivers them. -/
theorem readWords_ok {s : State} {ws : List Nat} (h : ∀ w ∈ ws, GoodWord s w) : (s.readWords ws []).2 = true := by
  have hgood : ∀ w ∈ ws.zipIdx, GoodWord (s.pcnChip 1 ((ws.map (· / 8)).eraseDups.length)) w.1 := fun w hw =>
    (Reads.pcnChip s _ _).goodWord (h w.1 (List.fst_mem_of_mem_zipIdx hw))
  rw [readWords_nil_hits]
  exact readNexts_ok ws.zipIdx (_, true) hgood

theorem readWords_nil (s : State) : s.readWords [] [] = (s, true) := by
  rw [readWords_nil_hits]
  exact congrArg (·, true) (pcnChip_zero s 1)

/-! ### BAR2_READ -/

theorem exec_bar2Read_of_live {s : State} (h : s.live = true) (addr len : Nat) :
    exec (.bar2Read addr len []) s = done (bar2Read addr len [] s) := congrArg done (if_pos h)

/-- What the bytes of a BAR2 access stand for. -/
def State.bar2Ats (s : State) (addr len : Nat) : List Bar2At := (List.range len).map fun i => s.bar2At (addr + i)

/-- The words of the store that an access touches. -/
def bar2Words (ats : List Bar2At) : List Nat := (ats.filterMap fun x => x.phys?.map (· / 8)).eraseDups

/-- A read that meets a never-written region counts and reports it (R295). -/
def State.noteUnwritten (s : State) (ws : List Nat) : State :=
  if ws.any fun w => !s.vsWritten (w / 512) then (s.bump .vmc 0 VMC_UNWR_COUNT VMC_UNWR_OVF).int .vmc 0 1 else s

/-- An access is completed with an answer. -/
def State.completed (s : State) (c : Completion) : State := { s with hif := { s.hif with resp := c } }

theorem bar2Read_eq (addr len : Nat) (s : State) :
    bar2Read addr len [] s =
      (let ats := s.bar2Ats addr len
       let u := ((s.bar2Outside ats).bar2Sealed ats).noteUnwritten (bar2Words ats)
       let r := u.readWords (bar2Words ats) []
       r.1.completed (if r.2 then .bytes (ats.map u.bar2Byte) else .poisoned)) := rfl

/-- An access that changes no more than registers and messages ends with its answer. -/
theorem Interrupts.done_completed {offs : List Nat} {s u : State} (hs : Steady s) (h : Interrupts offs s u)
    (hoffs : ∀ n < 8, baseOf .psq n + 0x14 ∉ offs) (c : Completion) :
    Machine.done (u.completed c) = .next { u.completed c with sig := [] }
      ∧ { u.completed c with sig := [] } = { s with regs := u.regs, hif := (u.completed c).hif } := by
  have hgrave : u.grave = s.grave := by rw [h.frame]
  have hdev : u.dev = s.dev := by rw [h.frame]
  have hsig : s.sig = [] := hs.2.1
  refine ⟨done_of_steady hs (hgrave.trans hs.1) hdev fun n hn => h.rd _ ?_, ?_⟩
  · exact List.not_mem_append (hoffs n hn) (psqStat_not_mem_pbaOffs n)
  · have hhif : u.hif = { s.hif with sent := u.hif.sent } := by conv_lhs => rw [h.frame]
    have hframe := h.frame
    rw [← hhif] at hframe
    rw [← hsig]
    conv_lhs => rw [hframe]
    rfl

theorem bar2Outside_of_not_mem {s : State} {ats : List Bar2At} (h : .outside ∉ ats) : s.bar2Outside ats = s :=
  if_neg fun hc => h (List.contains_iff_mem.mp hc)

theorem bar2Outside_of_mem {s : State} {ats : List Bar2At} (h : .outside ∈ ats) :
    s.bar2Outside ats = s.bump .vmc 0 VMC_BAR2_DISC_COUNT VMC_BAR2_DISC_OVF := if_pos (List.contains_iff_mem.mpr h)

theorem bar2Sealed_of_not_mem {s : State} {ats : List Bar2At} (h : .sealedByte ∉ ats) : s.bar2Sealed ats = s :=
  if_neg fun hc => h (List.contains_iff_mem.mp hc)

theorem bar2Sealed_of_mem {s : State} {ats : List Bar2At} (h : .sealedByte ∈ ats) : s.bar2Sealed ats = s.denied 0x200000 :=
  if_pos (List.contains_iff_mem.mpr h)

/-- The bytes of an access that all stand for the same. -/
theorem bar2Ats_eq_replicate {s : State} {addr len : Nat} {x : Bar2At} (h : ∀ i < len, s.bar2At (addr + i) = x) :
    s.bar2Ats addr len = List.replicate len x := by
  rw [List.eq_replicate_iff]
  refine ⟨by simp [State.bar2Ats], fun y hy => ?_⟩
  obtain ⟨i, hi, rfl⟩ := List.mem_map.mp hy
  exact h i (List.mem_range.mp hi)

/-- An access that touches no byte of the store reads no word. -/
theorem bar2Read_of_no_word {s u : State} {addr len : Nat} (h : bar2Words (s.bar2Ats addr len) = [])
    (hu : (s.bar2Outside (s.bar2Ats addr len)).bar2Sealed (s.bar2Ats addr len) = u) :
    bar2Read addr len [] s = u.completed (.bytes ((s.bar2Ats addr len).map u.bar2Byte)) := by
  simp only [bar2Read_eq, h, hu, State.noteUnwritten, List.any_nil, Bool.false_eq_true, if_false, readWords_nil, if_true]

theorem wordsOf_replicate_of_none {x : Bar2At} (h : x.phys? = none) (n : Nat) : bar2Words (List.replicate n x) = [] := by
  have hnil : (List.replicate n x).filterMap (fun x => x.phys?.map (· / 8)) = [] := by
    rw [List.filterMap_eq_nil_iff]
    intro y hy
    rw [List.eq_of_mem_replicate hy, h]
    rfl
  rw [bar2Words, hnil]
  rfl

/-- A counter of the Vector Store's page moves. -/
theorem Interrupts.bump (s : State) (f g : Fld) : Interrupts [fldOff .vmc 0 f 0, fldOff .vmc 0 g 0] s (s.bump .vmc 0 f g) where
  frame := by rw [State.bump, bumpBy_eq_with]
  rd o ho := by
    rw [List.mem_append, List.mem_cons, List.mem_cons, not_or, not_or, not_or] at ho
    exact rd_bumpBy_other s ho.1.1 ho.1.2.1

/-- A read of bytes outside every mapping gives zeros, and is counted (R306). -/
theorem done_bar2Read_outside {s : State} (hs : Serving s) {addr len : Nat} (h : ∀ i < len, s.bar2At (addr + i) = .outside) (hl : 0 < len) :
    ∃ t, exec (.bar2Read addr len []) s = .next t
      ∧ t.hif.resp = .bytes (List.replicate len 0)
      ∧ Counts .vmc 0 VMC_BAR2_DISC_COUNT s t
      ∧ RegsBut [0x20007c] s t
      ∧ t = { s with regs := t.regs, hif := t.hif } := by
  have hats := bar2Ats_eq_replicate h
  have hmem : Bar2At.outside ∈ List.replicate len .outside := List.mem_replicate.mpr ⟨Nat.ne_of_gt hl, rfl⟩
  have hno : Bar2At.sealedByte ∉ List.replicate len .outside := fun hm => nomatch List.eq_of_mem_replicate hm
  have hcount := counts_bump s .vmc 0 VMC_BAR2_DISC_COUNT VMC_BAR2_DISC_OVF (by decide) (by decide) (by decide) (by decide) (by decide)
  have hrd : RegsBut [0x20007c] s (s.bump .vmc 0 VMC_BAR2_DISC_COUNT VMC_BAR2_DISC_OVF) := fun o ho =>
    rd_bumpBy_other s (List.ne_of_not_mem_cons ho) (List.ne_of_not_mem_cons ho)
  rw [exec_bar2Read_of_live hs.2, bar2Read_of_no_word (hats ▸ wordsOf_replicate_of_none rfl len) rfl, hats, bar2Outside_of_mem hmem,
    bar2Sealed_of_not_mem hno]
  obtain ⟨hdone, hframe⟩ := (Interrupts.bump s VMC_BAR2_DISC_COUNT VMC_BAR2_DISC_OVF).done_completed hs.1 (by decide) (.bytes _)
  exact ⟨_, hdone, congrArg Completion.bytes List.map_replicate, hcount, hrd, hframe⟩

/-- A read of a SEALED object gives nothing of it, and is denied (R304). -/
theorem done_bar2Read_sealed {s : State} (hs : Serving s) {addr len : Nat} (h : ∀ i < len, s.bar2At (addr + i) = .sealedByte) (hl : 0 < len) :
    ∃ t, exec (.bar2Read addr len []) s = .next t
      ∧ t.hif.resp = .bytes (List.replicate len 0)
      ∧ t.intStat 0x200000 = s.intStat 0x200000 ||| 0x40000000
      ∧ RegsBut (0x200018 :: pbaOffs) s t
      ∧ t = { s with regs := t.regs, hif := t.hif } := by
  have hats := bar2Ats_eq_replicate h
  have hmem : Bar2At.sealedByte ∈ List.replicate len .sealedByte := List.mem_replicate.mpr ⟨Nat.ne_of_gt hl, rfl⟩
  have hno : Bar2At.outside ∉ List.replicate len .sealedByte := fun hm => nomatch List.eq_of_mem_replicate hm
  have hi := Interrupts.intSet s 0x200000 0x40000000
  have hset := rd_intSet_same s 0x200000 0x40000000 (by decide)
  rw [exec_bar2Read_of_live hs.2, bar2Read_of_no_word (hats ▸ wordsOf_replicate_of_none rfl len) rfl, hats, bar2Outside_of_not_mem hno,
    bar2Sealed_of_mem hmem]
  obtain ⟨hdone, hframe⟩ := hi.done_completed hs.1 (by decide) (.bytes _)
  exact ⟨_, hdone, congrArg Completion.bytes List.map_replicate, hset, hi.rd, hframe⟩

/-- A byte of the store that an access touches, one of `a` on. -/
theorem mem_bar2Words_of_mem {s : State} {addr a len : Nat} (h : ∀ i < len, s.bar2At (addr + i) = .mem (a + i)) {w : Nat}
    (hw : w ∈ bar2Words (s.bar2Ats addr len)) : ∃ i < len, w = (a + i) / 8 := by
  rw [bar2Words, List.mem_eraseDups, List.mem_filterMap] at hw
  obtain ⟨x, hx, hxw⟩ := hw
  obtain ⟨i, hi, rfl⟩ := List.mem_map.mp hx
  rw [h i (List.mem_range.mp hi)] at hxw
  exact ⟨i, List.mem_range.mp hi, (Option.some.inj hxw).symm⟩

/-- The word of a byte lies in the byte's channel. -/
theorem vsChannel_word (a : Nat) : vsChannel (8 * (a / 8)) = vsChannel a := by
  simp only [vsChannel]
  omega

/-- What noting a never-written region changes: a counter, INT_STAT and messages. -/
theorem Interrupts.noteUnwritten (s : State) (ws : List Nat) :
    Interrupts [0x200018, fldOff .vmc 0 VMC_UNWR_COUNT 0, fldOff .vmc 0 VMC_UNWR_OVF 0] s (s.noteUnwritten ws) := by
  have hbump := Interrupts.bump s VMC_UNWR_COUNT VMC_UNWR_OVF
  have hint := Interrupts.intSet (s.bump .vmc 0 VMC_UNWR_COUNT VMC_UNWR_OVF) 0x200000 (BitVec.ofNat 32 (2 ^ 1))
  refine Interrupts.ite (.trans (t := s.bump .vmc 0 VMC_UNWR_COUNT VMC_UNWR_OVF) ?_ ?_) (.refl _ s)
  · exact ⟨hbump.frame, fun o ho => hbump.rd o fun hm => ho (List.mem_cons_of_mem _ hm)⟩
  · refine ⟨hint.frame, fun o ho => hint.rd o fun hm => ho ?_⟩
    rcases List.mem_cons.mp hm with rfl | hm
    · exact List.mem_cons_self
    · exact List.mem_append_right _ hm

/-- Noting changes no word of the store, and a good word stays good. -/
theorem goodWord_noteUnwritten {s : State} {w : Nat} (h : GoodWord s w) (ws : List Nat) : GoodWord (s.noteUnwritten ws) w := by
  have hnote := Interrupts.noteUnwritten s ws
  have hvs : (s.noteUnwritten ws).vs = s.vs := by rw [hnote.frame]
  refine ⟨?_, (chFailed_congr (hnote.rd _ (by decide)) _).trans h.2⟩
  rw [State.vsPoison, hvs]
  exact h.1

/-- A read of words, where a never-written region is noted first, ends with its answer and changes no byte. -/
theorem done_completed_readWords {s : State} (hs : Steady s) (ws : List Nat) (c : Completion) :
    ∃ t, Machine.done (((s.noteUnwritten ws).readWords ws []).1.completed c) = .next t
      ∧ t.hif.resp = c
      ∧ StoreBut (fun _ => false) s t
      ∧ t = { s with regs := t.regs, hif := t.hif, vs := t.vs, chipWraps := t.chipWraps } := by
  have hnote := Interrupts.noteUnwritten s ws
  have hread := Reads.readWords (s.noteUnwritten ws) ws
  generalize ((s.noteUnwritten ws).readWords ws []).1 = v at *
  generalize s.noteUnwritten ws = u at *
  have hsig : s.sig = [] := hs.2.1
  have hstat : ∀ n < 8, v.rd (baseOf .psq n + 0x14) = s.rd (baseOf .psq n + 0x14) := fun n hn => by
    have hmine : ∀ n < 8, (0x63000 ≤ baseOf .psq n + 0x14 ∧ baseOf .psq n + 0x14 ≠ 0x200064)
        ∧ baseOf .psq n + 0x14 ∉ [0x200018, fldOff .vmc 0 VMC_UNWR_COUNT 0, fldOff .vmc 0 VMC_UNWR_OVF 0] := by decide
    obtain ⟨⟨hlow, hue⟩, hnoted⟩ := hmine n hn
    exact (hread.rd _ (.inr hlow) hue).trans (hnote.rd _ (List.not_mem_append hnoted (psqStat_not_mem_pbaOffs n)))
  obtain ⟨r, h, g, rfl⟩ : ∃ r h g, u = { s with regs := r, hif := h, sig := g } := ⟨_, _, _, hnote.frame⟩
  obtain ⟨r', k, w, rfl⟩ : ∃ r' k w, v = { { s with regs := r, hif := h, sig := g } with
      regs := r', vs := { s.vs with ueRun := k }, chipWraps := w } := ⟨_, _, _, hread.frame⟩
  refine ⟨_, done_of_steady hs hs.1 rfl hstat, rfl, fun _ _ => ⟨rfl, .inr rfl⟩, ?_⟩
  rw [← hsig]
  rfl

/-- A read of bytes of the store gives them (R295, R306). -/
theorem done_bar2Read_mem {s : State} (hs : Serving s) {addr len a : Nat} (h : ∀ i < len, s.bar2At (addr + i) = .mem (a + i))
    (hgood : ∀ i < len, s.vsPoison ((a + i) / 8) = false ∧ s.chFailed (vsChannel (a + i)) = false) :
    ∃ t, exec (.bar2Read addr len []) s = .next t
      ∧ t.hif.resp = .bytes ((List.range len).map fun i => s.vsByte (a + i))
      ∧ StoreBut (fun _ => false) s t
      ∧ t = { s with regs := t.regs, hif := t.hif, vs := t.vs, chipWraps := t.chipWraps } := by
  have hats : s.bar2Ats addr len = (List.range len).map fun i => .mem (a + i) :=
    List.map_congr_left fun i hi => h i (List.mem_range.mp hi)
  have hout : Bar2At.outside ∉ s.bar2Ats addr len := by simp [hats]
  have hseal : Bar2At.sealedByte ∉ s.bar2Ats addr len := by simp [hats]
  have hwords : ∀ w ∈ bar2Words (s.bar2Ats addr len), GoodWord (s.noteUnwritten (bar2Words (s.bar2Ats addr len))) w := fun w hw => by
    obtain ⟨i, hi, rfl⟩ := mem_bar2Words_of_mem h hw
    exact goodWord_noteUnwritten ⟨(hgood i hi).1, vsChannel_word (a + i) ▸ (hgood i hi).2⟩ _
  have hbytes : (s.bar2Ats addr len).map (s.noteUnwritten (bar2Words (s.bar2Ats addr len))).bar2Byte
      = (List.range len).map fun i => s.vsByte (a + i) := by
    have hvs : (s.noteUnwritten (bar2Words (s.bar2Ats addr len))).vs = s.vs := by rw [(Interrupts.noteUnwritten s _).frame]
    generalize s.noteUnwritten _ = u at *
    rw [hats, List.map_map]
    exact List.map_congr_left fun i _ => congrArg (fun v : VsSt => mapGet (fun _ => 0) v.bytes (a + i)) hvs
  rw [exec_bar2Read_of_live hs.2]
  simp only [bar2Read_eq, bar2Outside_of_not_mem hout, bar2Sealed_of_not_mem hseal]
  rw [readWords_ok hwords, hbytes]
  exact done_completed_readWords hs.1 _ _

end Sys2Proof.Machine

namespace Sys2Proof.Machine
open Sys2Proof Reg

/-! ### Writes to the Vector Store -/

/-- What every element of a fold keeps holds after it. -/
theorem foldl_of_inv {α : Type} {I : State → Prop} {f : State → α → State} {l : List α} (hinv : ∀ s, ∀ b ∈ l, I s → I (f s b)) {s : State}
    (hs : I s) : I (l.foldl f s) := by
  induction l generalizing s with
  | nil => exact hs
  | cons b l ih => exact ih (fun s c hc => hinv s c (List.mem_cons_of_mem b hc)) (hinv s b List.mem_cons_self hs)

/-- What one element of a fold brings about, and every other keeps, holds after it; each may use what all keep. -/
theorem foldl_of_mem_of_inv {α : Type} {I P : State → Prop} {f : State → α → State} {l : List α} {a : α} (ha : a ∈ l)
    (hinv : ∀ s, ∀ b ∈ l, I s → I (f s b)) (hmake : ∀ s, I s → P (f s a)) (hkeep : ∀ s, ∀ b ∈ l, I s → P s → P (f s b)) {s : State} (hs : I s) :
    P (l.foldl f s) := by
  obtain ⟨l₁, l₂, rfl⟩ := List.append_of_mem ha
  have hbefore : I (l₁.foldl f s) := foldl_of_inv (fun s b hb => hinv s b (List.mem_append_left _ hb)) hs
  rw [List.foldl_append, List.foldl_cons]
  refine (foldl_of_inv (I := fun s => I s ∧ P s) (fun s b hb h => ?_) ⟨hinv _ a ha hbefore, hmake _ hbefore⟩).2
  have hb' := List.mem_append_right l₁ (List.mem_cons_of_mem a hb)
  exact ⟨hinv s b hb' h.1, hkeep s b hb' h.1 h.2⟩

/-- A program is loaded, or a load under way, as before. -/
abbrev SamePrograms (s u : State) : Prop := ∀ n, (u.psq n).prog = (s.psq n).prog ∧ (u.psq n).load = (s.psq n).load

/-- The sequencers that run on a granule follow from their status words, the page table and their programs. -/
theorem granuleRunning_congr {s u : State} (hstat : ∀ n < 8, u.rd (baseOf .psq n + 0x14) = s.rd (baseOf .psq n + 0x14))
    (hpte : u.vs.pte = s.vs.pte) (hprog : SamePrograms s u) (g : Nat) : u.granuleRunning g = s.granuleRunning g := by
  refine List.filter_congr fun n hn => ?_
  have hrun : u.psqRunning n = s.psqRunning n := by
    rw [State.psqRunning, State.psqRunning, fld_congr (hstat n (List.mem_range.mp hn))]
  have hfoot : u.inFootprint n = s.inFootprint n := by
    funext v
    rw [State.inFootprint, State.inFootprint, (hprog n).1, (hprog n).2]
  rw [hrun, hpte, hfoot]

/-- What storing bytes at the addresses `ks` changes: the bytes there, marks of their regions and words, lines of vector caches that are
dropped or fetched again, and counters. -/
structure Stores (ks : Nat → Prop) (s u : State) : Prop where
  frame : u = { s with
    regs := u.regs, psqs := u.psqs, chipWraps := u.chipWraps
    vs := { s.vs with bytes := u.vs.bytes, written := u.vs.written, poison := u.vs.poison, ueRun := u.vs.ueRun } }
  rd : ∀ o, o < 0x62000 ∨ 0x63000 ≤ o → o ≠ 0x200064 → u.rd o = s.rd o
  progs : SamePrograms s u
  bytes : ∀ x, ¬ ks x → u.vsByte x = s.vsByte x
  written : ∀ r, u.vsWritten r = true ∨ u.vsWritten r = s.vsWritten r
  poison : ∀ w, u.vsPoison w = true → s.vsPoison w = true

namespace Stores
variable {ks : Nat → Prop}

theorem refl (s : State) : Stores ks s s := ⟨rfl, fun _ _ _ => rfl, fun _ => ⟨rfl, rfl⟩, fun _ _ => rfl, fun _ => .inr rfl, fun _ h => h⟩

theorem trans {s t u : State} (h1 : Stores ks s t) (h2 : Stores ks t u) : Stores ks s u where
  frame := by rw [h2.frame, h1.frame]
  rd o ho he := (h2.rd o ho he).trans (h1.rd o ho he)
  progs n := ⟨(h2.progs n).1.trans (h1.progs n).1, (h2.progs n).2.trans (h1.progs n).2⟩
  bytes x hx := (h2.bytes x hx).trans (h1.bytes x hx)
  written r := (h2.written r).elim .inl fun h => (h1.written r).imp h.trans h.trans
  poison w hw := h1.poison w (h2.poison w hw)

theorem mono {ks' : Nat → Prop} (h : ∀ x, ks x → ks' x) {s u : State} (hu : Stores ks s u) : Stores ks' s u :=
  ⟨hu.frame, hu.rd, hu.progs, fun x hx => hu.bytes x fun hk => hx (h x hk), hu.written, hu.poison⟩

theorem foldl {α : Type} {f : State → α → State} (l : List α) (h : ∀ s, ∀ a ∈ l, Stores ks s (f s a)) (s : State) :
    Stores ks s (l.foldl f s) := by
  induction l generalizing s with
  | nil => exact refl s
  | cons a l ih =>
    exact (h s a List.mem_cons_self).trans (ih (fun s b hb => h s b (List.mem_cons_of_mem a hb)) _)

theorem vs {s u : State} (h : Stores ks s u) :
    u.vs = { s.vs with bytes := u.vs.bytes, written := u.vs.written, poison := u.vs.poison, ueRun := u.vs.ueRun } := by
  conv_lhs => rw [h.frame]

/-- The status of the sequencers stays. -/
theorem stat {s u : State} (h : Stores ks s u) : ∀ n < 8, u.rd (baseOf .psq n + 0x14) = s.rd (baseOf .psq n + 0x14) := fun n hn => by
  have hmine : ∀ n < 8, 0x63000 ≤ baseOf .psq n + 0x14 ∧ baseOf .psq n + 0x14 ≠ 0x200064 := by decide
  exact h.rd _ (.inr (hmine n hn).1) (hmine n hn).2

theorem granuleRunning {s u : State} (h : Stores ks s u) (g : Nat) : u.granuleRunning g = s.granuleRunning g :=
  granuleRunning_congr h.stat (by rw [h.frame]) h.progs g

/-- A good word stays good. -/
theorem goodWord {s u : State} (h : Stores ks s u) {w : Nat} (hg : GoodWord s w) : GoodWord u w := by
  refine ⟨Bool.eq_false_iff.mpr fun hp => ?_, (chFailed_congr (h.rd _ (.inr (by decide)) (by decide)) _).trans hg.2⟩
  exact absurd (h.poison w hp) (Bool.eq_false_iff.mp hg.1)

theorem of_reads {s u : State} (h : Reads s u) : Stores ks s u := by
  have hrd := h.rd
  obtain ⟨r, k, w, rfl⟩ : ∃ r k w, u = { s with regs := r, vs := { s.vs with ueRun := k }, chipWraps := w } := ⟨_, _, _, h.frame⟩
  exact ⟨rfl, hrd, fun _ => ⟨rfl, rfl⟩, fun _ _ => rfl, fun _ => .inr rfl, fun _ h => h⟩

/-- A sequencer's record changes, not its programs. -/
theorem setPsq (s : State) (n : Nat) {x : PsqSt} (hp : x.prog = (s.psq n).prog) (hl : x.load = (s.psq n).load) :
    Stores ks s (s.setPsq n x) where
  frame := rfl
  rd _ _ _ := rfl
  progs m := by
    rw [psq_setPsq]
    split
    · next h => exact h ▸ ⟨hp, hl⟩
    · exact ⟨rfl, rfl⟩
  bytes _ _ := rfl
  written _ := .inr rfl
  poison _ h := h

theorem putLine (s : State) (n block : Nat) (l : Line) : Stores ks s (s.putLine n block l) := setPsq s n rfl rfl

theorem fillBlock (s : State) (n block : Nat) : Stores ks s (s.fillBlock n block []) := by
  unfold State.fillBlock
  split
  · exact refl s
  · next a _ =>
    have hread := of_reads (ks := ks) (Reads.readWords s ((List.range 8).map fun i => a / 8 + i))
    generalize s.readWords ((List.range 8).map fun i => a / 8 + i) [] = r at *
    exact hread.trans (putLine r.1 n block _)

/-- Copies that are dropped, or fetched again (R307). -/
theorem dropCopies (s : State) (phys n : Nat) : Stores ks s (s.dropCopies phys n) := by
  unfold State.dropCopies
  split
  · exact refl s
  · split
    · exact refl s
    · refine trans ?_ (foldl _ (fun s b _ => fillBlock s n b) _)
      exact setPsq s n rfl rfl

/-- A byte is stored. -/
theorem poke (s : State) (a : Nat) (v : Byte) : Stores (· = a) s (s.vsPoke a [v]) where
  frame := rfl
  rd _ _ _ := rfl
  progs _ := ⟨rfl, rfl⟩
  bytes _ hx := mapGet_mapSet_other _ _ _ hx
  written r := by
    have h := mapGet_mapSet (fun _ => false) s.vs.written (a / 4096) r true
    by_cases hr : r = a / 4096
    · exact .inl (h.trans (if_pos hr))
    · exact .inr (h.trans (if_neg hr))
  poison _ h := h

theorem clearPoison (s : State) (w : Nat) : Stores ks s (s.setPoison w false) where
  frame := rfl
  rd _ _ _ := rfl
  progs _ := ⟨rfl, rfl⟩
  bytes _ _ := rfl
  written _ := .inr rfl
  poison x hx := by
    have h := mapGet_mapSet (fun _ => false) s.vs.poison w x false
    by_cases hw : x = w
    · exact absurd (hx.symm.trans (h.trans (if_pos hw))) (by decide)
    · exact (h.trans (if_neg hw)).symm.trans hx

end Stores

end Sys2Proof.Machine

namespace Sys2Proof.Machine
open Sys2Proof Reg

/-! ### BAR2_WRITE -/

/-- Bytes stored one by one, each at its address. -/
def State.pokeAll (s : State) (bytes : List (Nat × Byte)) : State := bytes.foldl (fun s b => s.vsPoke b.1 [b.2]) s

/-- Bytes stored in a row are stored one by one. -/
theorem vsPoke_eq_pokeAll {a : Nat} {bytes : List (Nat × Byte)} (h : bytes.map (·.1) = List.range' a bytes.length) (s : State) :
    s.vsPoke a (bytes.map (·.2)) = s.pokeAll bytes := by
  induction bytes generalizing a s with
  | nil => rfl
  | cons b l ih =>
    rw [List.map_cons, List.length_cons, List.range'_succ, List.cons.injEq] at h
    obtain ⟨rfl, hl⟩ := h
    exact ih hl _

theorem Stores.pokeAll (bytes : List (Nat × Byte)) (s : State) : Stores (· ∈ bytes.map (·.1)) s (s.pokeAll bytes) :=
  .foldl bytes (fun s b hb => (poke s b.1 b.2).mono fun _ hx => hx ▸ List.mem_map_of_mem hb) s

/-- Each byte stored is read back, where no address is stored to twice. -/
theorem vsByte_pokeAll {bytes : List (Nat × Byte)} (hnd : (bytes.map (·.1)).Nodup) {e : Nat × Byte} (he : e ∈ bytes) (s : State) :
    (s.pokeAll bytes).vsByte e.1 = e.2 := by
  induction bytes generalizing s with
  | nil => cases he
  | cons b l ih =>
    rw [List.map_cons, List.nodup_cons] at hnd
    rcases List.mem_cons.mp he with rfl | he
    · exact ((Stores.pokeAll l _).bytes _ hnd.1).trans (mapGet_mapSet_same _ _ _ _)
    · exact ih hnd.2 he _

/-- Bytes of one word of the store, by rising address. -/
structure WordBytes (w : Nat) (bytes : List (Nat × Byte)) : Prop where
  rise : (bytes.map (·.1)).Pairwise (· < ·)
  word : ∀ e ∈ bytes, e.1 / 8 = w

/-- Eight bytes of a word are the word. -/
theorem WordBytes.full {w : Nat} {bytes : List (Nat × Byte)} (h : WordBytes w bytes) (hlen : bytes.length = 8) :
    bytes.map (·.1) = List.range' (8 * w) bytes.length := by
  have hsub : bytes.map (·.1) ⊆ List.range' (8 * w) 8 := fun x hx => by
    obtain ⟨e, he, rfl⟩ := List.mem_map.mp hx
    have hw := h.word e he
    rw [List.mem_range'_1]
    omega
  have hnd : (bytes.map (·.1)).Nodup := h.rise.imp Nat.ne_of_lt
  have hperm := (List.subperm_of_subset hnd hsub).perm_of_length_le (by simp [hlen])
  rw [hlen]
  exact hperm.eq_of_pairwise (fun x y _ _ hxy hyx => absurd hxy (Nat.lt_asymm hyx)) h.rise List.pairwise_lt_range'

/-- A good word that no running sequencer holds takes its bytes; copies of it are brought up to date (R298, R307). -/
theorem Stores.bar2Word {s : State} {w : Nat} {bytes : List (Nat × Byte)} (hw : WordBytes w bytes) (hgood : GoodWord s w)
    (hrun : s.granuleRunning (w / 8192) = []) : Stores (fun _ => False) (s.pokeAll bytes) (s.bar2Word w bytes none) := by
  have hnarrow : s.narrowWrite w bytes none = (s.pokeAll bytes).pcnChip 3 1 := by
    obtain ⟨hp, hc⟩ := hgood
    simp only [State.narrowWrite, hp, hc]
    rfl
  have hput : Stores (fun _ => False) (s.pokeAll bytes)
      (if bytes.length = 8 then (s.vsPoke (8 * w) (bytes.map (·.2))).setPoison w false else s.narrowWrite w bytes none) := by
    split
    · next hlen =>
      rw [vsPoke_eq_pokeAll (hw.full hlen)]
      exact clearPoison _ w
    · rw [hnarrow]
      exact of_reads (Reads.pcnChip _ 3 1)
  simp only [State.bar2Word, hrun, List.isEmpty_nil, Bool.not_true, Bool.false_eq_true, if_false]
  exact hput.trans (foldl _ (fun s n _ => dropCopies s _ n) _)

/-- The enabled bytes of a write, each with its address from `a` on. -/
def enabledBytes (a : Nat) (data : List (Option Byte)) : List (Nat × Byte) :=
  data.zipIdx.filterMap fun e => e.1.map fun v => (a + e.2, v)

theorem mem_enabledBytes {a : Nat} {data : List (Option Byte)} {e : Nat × Byte} :
    e ∈ enabledBytes a data ↔ ∃ i, data[i]? = some (some e.2) ∧ e.1 = a + i := by
  obtain ⟨x, v⟩ := e
  simp only [enabledBytes, List.mem_filterMap, Prod.exists, List.mk_mem_zipIdx_iff_getElem?, Option.map_eq_some_iff, Prod.mk.injEq]
  constructor
  · rintro ⟨o, i, hi, v', rfl, rfl, rfl⟩
    exact ⟨i, hi, rfl⟩
  · rintro ⟨i, hi, rfl⟩
    exact ⟨some v, i, hi, v, rfl, rfl, rfl⟩

theorem enabledBytes_rise (a : Nat) (data : List (Option Byte)) : ((enabledBytes a data).map (·.1)).Pairwise (· < ·) := by
  have hidx : data.zipIdx.Pairwise fun x y => x.2 < y.2 := by
    rw [← List.pairwise_map (f := Prod.snd) (R := (· < ·)), List.zipIdx_map_snd]
    exact List.pairwise_lt_range'
  rw [List.pairwise_map]
  refine List.Pairwise.filterMap _ (fun x y hxy b hb c hc => ?_) hidx
  obtain ⟨-, -, rfl⟩ := Option.map_eq_some_iff.mp hb
  obtain ⟨-, -, rfl⟩ := Option.map_eq_some_iff.mp hc
  exact Nat.add_lt_add_left hxy a

/-- The enabled bytes in one word. -/
abbrev bytesOfWord (bytes : List (Nat × Byte)) (w : Nat) : List (Nat × Byte) := bytes.filter fun e => e.1 / 8 == w

theorem wordBytes_bytesOfWord {bytes : List (Nat × Byte)} (h : (bytes.map (·.1)).Pairwise (· < ·)) (w : Nat) :
    WordBytes w (bytesOfWord bytes w) where
  rise := h.sublist (List.filter_sublist.map _)
  word _ he := beq_iff_eq.mp (List.mem_filter.mp he).2

/-- The words that bytes lie in. -/
abbrev touchedWords (bytes : List (Nat × Byte)) : List Nat := (bytes.map (·.1 / 8)).eraseDups

/-- One word's bytes are stored. -/
def takeWord (bytes : List (Nat × Byte)) (s : State) (w : Nat × Nat) : State := s.bar2Word w.1 (bytesOfWord bytes w.1) none

/-- Bytes stored word by word, counted by block (R255). -/
def State.storeWords (s : State) (bytes : List (Nat × Byte)) : State :=
  (touchedWords bytes).zipIdx.foldl (takeWord bytes)
    (s.pcnChip 2 (((touchedWords bytes).map (· / 8)).eraseDups.length))

/-- What the enabled bytes of a write stand for, with their values. -/
def State.enabledAts (s : State) (addr : Nat) (data : List (Option Byte)) : List (Bar2At × Byte) :=
  data.zipIdx.filterMap fun e => e.1.map fun v => (s.bar2At (addr + e.2), v)

/-- A byte of capture memory is written, another is not. -/
def State.putAcq (s : State) (e : Bar2At × Byte) : State :=
  match e.1 with
  | .acq b x => s.setAcqByte b x e.2
  | _ => s

theorem bar2Write_eq (addr : Nat) (data : List (Option Byte)) (s : State) :
    bar2Write addr data [] s =
      ((s.enabledAts addr data).foldl State.putAcq
        ((s.bar2Outside ((s.enabledAts addr data).map (·.1))).bar2Sealed ((s.enabledAts addr data).map (·.1)))).storeWords
        ((s.enabledAts addr data).filterMap fun e => e.1.phys?.map fun a => (a, e.2)) := rfl

theorem enabledAts_of_mem {s : State} {addr a : Nat} {data : List (Option Byte)}
    (h : ∀ i < data.length, s.bar2At (addr + i) = .mem (a + i)) :
    s.enabledAts addr data = (enabledBytes a data).map fun e => (.mem e.1, e.2) := by
  rw [enabledBytes, List.map_filterMap]
  refine List.filterMap_congr fun e he => ?_
  rw [h e.2 (List.snd_lt_of_mem_zipIdx he)]
  cases e.1 <;> rfl

/-- A write to bytes of the store alone stores them. -/
theorem bar2Write_of_mem {s : State} {addr a : Nat} {data : List (Option Byte)}
    (h : ∀ i < data.length, s.bar2At (addr + i) = .mem (a + i)) :
    bar2Write addr data [] s = s.storeWords (enabledBytes a data) := by
  rw [bar2Write_eq, enabledAts_of_mem h, bar2Outside_of_not_mem (by simp), bar2Sealed_of_not_mem (by simp), List.foldl_map,
    List.filterMap_map]
  have hacq : ∀ l : List (Nat × Byte), l.foldl (fun s e => s.putAcq (.mem e.1, e.2)) s = s := fun l =>
    foldl_of_step (P := (· = s)) (fun _ _ h => h) l rfl
  have hphys : ((fun e : Bar2At × Byte => e.1.phys?.map fun a => (a, e.2)) ∘ fun e : Nat × Byte => (.mem e.1, e.2)) = some := rfl
  rw [hacq, hphys, List.filterMap_some]

theorem exec_bar2Write_of_live {s : State} (h : s.live = true) (addr : Nat) (data : List (Option Byte)) :
    exec (.bar2Write addr data []) s = done (bar2Write addr data [] s) := congrArg done (if_pos h)

theorem mem_touchedWords {bytes : List (Nat × Byte)} {w : Nat × Nat} (h : w ∈ (touchedWords bytes).zipIdx) : ∃ e ∈ bytes, e.1 / 8 = w.1 :=
  List.mem_map.mp (List.mem_eraseDups.mp (List.fst_mem_of_mem_zipIdx h))

theorem exists_mem_touchedWords {bytes : List (Nat × Byte)} {e : Nat × Byte} (h : e ∈ bytes) : ∃ i, (e.1 / 8, i) ∈ (touchedWords bytes).zipIdx := by
  have hw : e.1 / 8 ∈ touchedWords bytes := List.mem_eraseDups.mpr (List.mem_map.mpr ⟨e, h, rfl⟩)
  obtain ⟨i, hi⟩ := List.mem_iff_getElem?.mp hw
  exact ⟨i, List.mk_mem_zipIdx_iff_getElem?.mpr hi⟩

/-- A word of bytes that can be stored to: good, and in no running sequencer's footprint. -/
abbrev Storable (s : State) (w : Nat) : Prop := GoodWord s w ∧ s.granuleRunning (w / 8192) = []

section
variable {s : State} {bytes : List (Nat × Byte)} (hrise : (bytes.map (·.1)).Pairwise (· < ·)) (hall : ∀ e ∈ bytes, Storable s (e.1 / 8))
include hrise hall

/-- A word's bytes are stored, at any point of the write. -/
theorem bar2Word_of_storable {u : State} (hu : Stores (· ∈ bytes.map (·.1)) s u) {w : Nat × Nat} (hw : w ∈ (touchedWords bytes).zipIdx) :
    Stores (fun _ => False) (u.pokeAll (bytesOfWord bytes w.1)) (takeWord bytes u w) := by
  obtain ⟨e, he, hew⟩ := mem_touchedWords hw
  obtain ⟨hgood, hrun⟩ := hew ▸ hall e he
  exact .bar2Word (wordBytes_bytesOfWord hrise w.1) (hu.goodWord hgood) ((hu.granuleRunning _).trans hrun)

theorem stores_takeWord {u : State} (hu : Stores (· ∈ bytes.map (·.1)) s u) {w : Nat × Nat} (hw : w ∈ (touchedWords bytes).zipIdx) :
    Stores (· ∈ (bytesOfWord bytes w.1).map (·.1)) u (takeWord bytes u w) :=
  (Stores.pokeAll _ u).trans ((bar2Word_of_storable hrise hall hu hw).mono fun _ h => h.elim)

theorem stores_takeWord_all {u : State} (hu : Stores (· ∈ bytes.map (·.1)) s u) {w : Nat × Nat} (hw : w ∈ (touchedWords bytes).zipIdx) :
    Stores (· ∈ bytes.map (·.1)) s (takeWord bytes u w) :=
  hu.trans ((stores_takeWord hrise hall hu hw).mono fun _ hx => List.map_subset _ List.filter_sublist.subset hx)

omit hrise hall in
theorem stores_count : Stores (· ∈ bytes.map (·.1)) s (s.pcnChip 2 (((touchedWords bytes).map (· / 8)).eraseDups.length)) :=
  .of_reads (Reads.pcnChip s 2 _)

/-- A write changes what storing its bytes changes. -/
theorem Stores.storeWords : Stores (· ∈ bytes.map (·.1)) s (s.storeWords bytes) :=
  foldl_of_inv (I := Stores (· ∈ bytes.map (·.1)) s) (fun _ _ hw hu => stores_takeWord_all hrise hall hu hw) stores_count

/-- A byte is stored with its word. -/
theorem vsByte_takeWord_same {e : Nat × Byte} (he : e ∈ bytes) {u : State} (hu : Stores (· ∈ bytes.map (·.1)) s u) {w : Nat × Nat}
    (hw : w ∈ (touchedWords bytes).zipIdx) (hew : e.1 / 8 = w.1) : (takeWord bytes u w).vsByte e.1 = e.2 := by
  have hmem : e ∈ bytesOfWord bytes w.1 := List.mem_filter.mpr ⟨he, beq_iff_eq.mpr hew⟩
  have hnd : ((bytesOfWord bytes w.1).map (·.1)).Nodup := (wordBytes_bytesOfWord hrise w.1).rise.imp Nat.ne_of_lt
  exact ((bar2Word_of_storable hrise hall hu hw).bytes _ not_false).trans (vsByte_pokeAll hnd hmem u)

/-- Another word's bytes leave it. -/
theorem vsByte_takeWord_other {x : Nat} {u : State} (hu : Stores (· ∈ bytes.map (·.1)) s u) {w : Nat × Nat}
    (hw : w ∈ (touchedWords bytes).zipIdx) (hxw : x / 8 ≠ w.1) : (takeWord bytes u w).vsByte x = u.vsByte x := by
  refine (stores_takeWord hrise hall hu hw).bytes x fun hm => hxw ?_
  obtain ⟨e, he, rfl⟩ := List.mem_map.mp hm
  exact beq_iff_eq.mp (List.mem_filter.mp he).2

/-- The bytes written are read back (R298). -/
theorem vsByte_storeWords {e : Nat × Byte} (he : e ∈ bytes) : (s.storeWords bytes).vsByte e.1 = e.2 := by
  obtain ⟨i, hi⟩ := exists_mem_touchedWords he
  refine foldl_of_mem_of_inv (I := Stores (· ∈ bytes.map (·.1)) s) (P := fun u => u.vsByte e.1 = e.2) hi
    (fun u w hw hu => stores_takeWord_all hrise hall hu hw) (fun u hu => vsByte_takeWord_same hrise hall he hu hi rfl)
    (fun u w hw hu hp => ?_) stores_count
  by_cases hew : e.1 / 8 = w.1
  · exact vsByte_takeWord_same hrise hall he hu hw hew
  · exact (vsByte_takeWord_other hrise hall hu hw hew).trans hp

end

/-- A write to good words that no running sequencer holds stores the enabled bytes (R40, R298, R306). -/
theorem done_bar2Write_mem {s : State} (hs : Serving s) {addr a : Nat} {data : List (Option Byte)}
    (h : ∀ i < data.length, s.bar2At (addr + i) = .mem (a + i))
    (hgood : ∀ i < data.length, s.vsPoison ((a + i) / 8) = false ∧ s.chFailed (vsChannel (a + i)) = false
      ∧ s.granuleRunning ((a + i) / 65536) = []) :
    ∃ t, exec (.bar2Write addr data []) s = .next t
      ∧ (∀ i < data.length, t.vsByte (a + i) = ((data[i]?).join).getD (s.vsByte (a + i)))
      ∧ StoreBut (fun x => decide (a ≤ x) && decide (x < a + data.length)) s t
      ∧ t.sites = s.sites ∧ t.meas = s.meas ∧ t.overlay = s.overlay
      ∧ t = { s with regs := t.regs, vs := t.vs, psqs := t.psqs, chipWraps := t.chipWraps } := by
  have hrise := enabledBytes_rise a data
  have hall : ∀ e ∈ enabledBytes a data, Storable s (e.1 / 8) := fun e he => by
    obtain ⟨i, hi, hx⟩ := mem_enabledBytes.mp he
    obtain ⟨hpoison, hfail, hrun⟩ := hgood i (List.getElem?_eq_some_iff.mp hi).1
    rw [← hx] at hpoison hfail hrun
    refine ⟨⟨hpoison, vsChannel_word e.1 ▸ hfail⟩, ?_⟩
    rwa [Nat.div_div_eq_div_mul]
  have hstores := Stores.storeWords hrise hall
  have hread := fun e => vsByte_storeWords hrise hall (e := e)
  rw [exec_bar2Write_of_live hs.2, bar2Write_of_mem h]
  generalize s.storeWords (enabledBytes a data) = t at *
  have hframe : t = { s with regs := t.regs, vs := t.vs, psqs := t.psqs, chipWraps := t.chipWraps } := by
    conv_lhs => rw [hstores.frame]
    rw [← hstores.vs]
  refine ⟨t, done_quiet hs.1 (by rw [hframe]) (by rw [hframe]) (by rw [hframe]) hstores.stat, fun i hi => ?_,
    fun x hx => ⟨hstores.bytes x fun hk => ?_, hstores.written _⟩, by rw [hframe], by rw [hframe], by rw [hframe], hframe⟩
  · rw [List.getElem?_eq_getElem hi, Option.join_some]
    match hv : data[i] with
    | some v => exact hread (a + i, v) (mem_enabledBytes.mpr ⟨i, by rw [List.getElem?_eq_getElem hi, hv], rfl⟩)
    | none =>
      refine hstores.bytes _ fun hk => ?_
      obtain ⟨e, he, hx⟩ := List.mem_map.mp hk
      obtain ⟨j, hj, hej⟩ := mem_enabledBytes.mp he
      have hij : j = i := Nat.add_left_cancel (hej.symm.trans hx)
      rw [hij, List.getElem?_eq_getElem hi, hv] at hj
      cases hj
  · obtain ⟨e, he, rfl⟩ := List.mem_map.mp hk
    obtain ⟨j, hj, hej⟩ := mem_enabledBytes.mp he
    have hlt := (List.getElem?_eq_some_iff.mp hj).1
    simp only [Bool.and_eq_false_iff, decide_eq_false_iff_not] at hx
    omega

end Sys2Proof.Machine

namespace Sys2Proof.Machine
open Sys2Proof Reg

/-! ### Writes that store nothing -/

theorem phys_of_outside {s : State} {addr : Nat} {data : List (Option Byte)} (h : ∀ i < data.length, s.bar2At (addr + i) = .outside)
    {e : Bar2At × Byte} (he : e ∈ s.enabledAts addr data) : e.1 = .outside := by
  obtain ⟨x, hx, hxe⟩ := List.mem_filterMap.mp he
  obtain ⟨v, -, rfl⟩ := Option.map_eq_some_iff.mp hxe
  exact h x.2 (List.snd_lt_of_mem_zipIdx hx)

theorem enabledAts_ne_nil {s : State} {addr : Nat} {data : List (Option Byte)} (h : data.any Option.isSome = true) :
    s.enabledAts addr data ≠ [] := by
  obtain ⟨o, ho, hsome⟩ := List.any_eq_true.mp h
  obtain ⟨v, rfl⟩ := Option.isSome_iff_exists.mp hsome
  obtain ⟨i, hi⟩ := List.mem_iff_getElem?.mp ho
  have hmem : (s.bar2At (addr + i), v) ∈ s.enabledAts addr data :=
    List.mem_filterMap.mpr ⟨(some v, i), List.mk_mem_zipIdx_iff_getElem?.mpr hi, rfl⟩
  exact List.ne_nil_of_mem hmem

/-- No bytes, nothing stored or counted. -/
theorem storeWords_nil (s : State) : s.storeWords [] = s := pcnChip_zero s 2

/-- A write that runs outside every mapping is counted, and that is all (R306). -/
theorem bar2Write_of_outside {s : State} {addr : Nat} {data : List (Option Byte)} (h : ∀ i < data.length, s.bar2At (addr + i) = .outside)
    (hany : data.any Option.isSome = true) : bar2Write addr data [] s = s.bump .vmc 0 VMC_BAR2_DISC_COUNT VMC_BAR2_DISC_OVF := by
  have hout := fun e => phys_of_outside h (e := e)
  have hmem : Bar2At.outside ∈ (s.enabledAts addr data).map (·.1) := by
    obtain ⟨e, he⟩ := List.exists_mem_of_ne_nil _ (enabledAts_ne_nil (s := s) (addr := addr) hany)
    exact List.mem_map.mpr ⟨e, he, hout e he⟩
  have hno : Bar2At.sealedByte ∉ (s.enabledAts addr data).map (·.1) := fun hm => by
    obtain ⟨e, he, hx⟩ := List.mem_map.mp hm
    exact nomatch hx.symm.trans (hout e he)
  have hphys : ((s.enabledAts addr data).filterMap fun e => e.1.phys?.map fun a => (a, e.2)) = [] :=
    List.filterMap_eq_nil_iff.mpr fun e he => by rw [hout e he]; rfl
  have hacq : ∀ u : State, (s.enabledAts addr data).foldl State.putAcq u = u := fun u =>
    foldl_of_inv (I := (· = u)) (fun v e he hv => by rw [State.putAcq, hout e he]; exact hv) rfl
  rw [bar2Write_eq, bar2Outside_of_mem hmem, bar2Sealed_of_not_mem hno, hphys, hacq, storeWords_nil]

theorem done_bar2Write_outside {s : State} (hs : Serving s) {addr : Nat} {data : List (Option Byte)}
    (h : ∀ i < data.length, s.bar2At (addr + i) = .outside) (hany : data.any Option.isSome = true) :
    ∃ t, exec (.bar2Write addr data []) s = .next t
      ∧ t.vs = s.vs
      ∧ Counts .vmc 0 VMC_BAR2_DISC_COUNT s t
      ∧ RegsBut [0x20007c] s t
      ∧ t = { s with regs := t.regs } := by
  have hcount := counts_bump s .vmc 0 VMC_BAR2_DISC_COUNT VMC_BAR2_DISC_OVF (by decide) (by decide) (by decide) (by decide) (by decide)
  have hrd : RegsBut [0x20007c] s (s.bump .vmc 0 VMC_BAR2_DISC_COUNT VMC_BAR2_DISC_OVF) := fun o ho =>
    rd_bumpBy_other s (List.ne_of_not_mem_cons ho) (List.ne_of_not_mem_cons ho)
  have hframe : s.bump .vmc 0 VMC_BAR2_DISC_COUNT VMC_BAR2_DISC_OVF
      = { s with regs := (s.bump .vmc 0 VMC_BAR2_DISC_COUNT VMC_BAR2_DISC_OVF).regs } := by rw [State.bump, bumpBy_eq_with]
  have hmine : ∀ n < 8, baseOf .psq n + 0x14 ∉ [0x20007c] := by decide
  rw [exec_bar2Write_of_live hs.2, bar2Write_of_outside h hany]
  generalize s.bump .vmc 0 VMC_BAR2_DISC_COUNT VMC_BAR2_DISC_OVF = u at *
  exact ⟨u, done_quiet hs.1 (by rw [hframe]) (by rw [hframe]) (by rw [hframe]) fun n hn => hrd _ (hmine n hn), by rw [hframe], hcount,
    hrd, hframe⟩

theorem writeBusy_eq (s : State) (ns : List Nat) :
    s.writeBusy ns =
      if (ns.filter fun n => !s.raisedOnce n 7).isEmpty then s.int .vmc 0 5
      else ((ns.filter fun n => !s.raisedOnce n 7).foldl (fun s n => s.noteRaised n 7) (s.int .vmc 0 5)).raiseOpen .vmc 0 5 1 := rfl

/-- What writes to pages of running sequencers change: what they report, and the sequencers' notes of it. -/
structure Busies (s u : State) : Prop where
  frame : u = { s with
    regs := u.regs, hif := u.hif, faults := u.faults, evr := u.evr, free := u.free, sig := u.sig, psqs := u.psqs, chipWraps := u.chipWraps }
  rd : ∀ o, o < 0x62000 ∨ 0x63000 ≤ o → o ≠ 0x200018 → o ∉ pbaOffs → o ∉ evrOffs → u.rd o = s.rd o
  progs : SamePrograms s u

namespace Busies

theorem refl (s : State) : Busies s s := ⟨rfl, fun _ _ _ _ _ => rfl, fun _ => ⟨rfl, rfl⟩⟩

theorem trans {s t u : State} (h1 : Busies s t) (h2 : Busies t u) : Busies s u where
  frame := by rw [h2.frame, h1.frame]
  rd o ho hi hp he := (h2.rd o ho hi hp he).trans (h1.rd o ho hi hp he)
  progs n := ⟨(h2.progs n).1.trans (h1.progs n).1, (h2.progs n).2.trans (h1.progs n).2⟩

theorem pcnChip (s : State) (e d : Nat) : Busies s (s.pcnChip e d) where
  frame := by rw [pcnChip_eq_with]
  rd _ ho _ _ _ := rd_pcnChip_other s e d ho
  progs n := by rw [pcnChip_eq_with]; exact ⟨rfl, rfl⟩

theorem of_reportsOn {s u : State} (h : ReportsOn 0x200000 s u) : Busies s u := by
  have hrd := h.rd
  obtain ⟨r, i, f, e, d, g, rfl⟩ : ∃ r i f e d g, u = { s with regs := r, hif := i, faults := f, evr := e, free := d, sig := g } :=
    ⟨_, _, _, _, _, _, h.frame⟩
  exact ⟨rfl, fun o _ hi hp he => hrd o hi hp he, fun _ => ⟨rfl, rfl⟩⟩

theorem noteRaised (s : State) (n what : Nat) : Busies s (s.noteRaised n what) where
  frame := rfl
  rd _ _ _ _ _ := rfl
  progs m := by
    rw [State.noteRaised, psq_setPsq]
    split
    · next h => exact h ▸ ⟨rfl, rfl⟩
    · exact ⟨rfl, rfl⟩

theorem noteRaised_all (ns : List Nat) (s : State) : Busies s (ns.foldl (fun s n => s.noteRaised n 7) s) :=
  foldl_of_step (P := Busies s) (fun u n h => h.trans (noteRaised u n 7)) ns (refl s)

/-- The status of the sequencers stays. -/
theorem stat {s u : State} (h : Busies s u) : ∀ n < 8, u.rd (baseOf .psq n + 0x14) = s.rd (baseOf .psq n + 0x14) := fun n hn => by
  have hmine : ∀ n < 8, 0x63000 ≤ baseOf .psq n + 0x14 ∧ baseOf .psq n + 0x14 ≠ 0x200018 := by decide
  exact h.rd _ (.inr (hmine n hn).1) (hmine n hn).2 (psqStat_not_mem_pbaOffs n) (psqStat_not_mem_evrOffs n)

theorem granuleRunning {s u : State} (h : Busies s u) (g : Nat) : u.granuleRunning g = s.granuleRunning g :=
  granuleRunning_congr h.stat (by rw [h.frame]) h.progs g

/-- WRITE_BUSY is reported (R306). -/
theorem writeBusy (s : State) (ns : List Nat) : Busies s (s.writeBusy ns) := by
  have hint : Busies s (s.int .vmc 0 5) := of_reportsOn (.int s .vmc 0 5)
  rw [writeBusy_eq]
  split
  · exact hint
  · exact (hint.trans (noteRaised_all _ _)).trans (of_reportsOn (.raiseOpen _ .vmc 0 5 (by decide)))

end Busies

theorem intStat_writeBusy (s : State) (ns : List Nat) : ((s.writeBusy ns).intStat 0x200000).getLsbD 5 = true := by
  have hint := intStat_int s .vmc 0 (b := 5) (by decide) (by decide)
  have hnotes : ∀ l : List Nat, (l.foldl (fun s n => s.noteRaised n 7) (s.int .vmc 0 5)).intStat 0x200000 = (s.int .vmc 0 5).intStat 0x200000 :=
    fun l => rd_foldl (f := fun s n => s.noteRaised n 7) l (fun _ _ _ => rfl) _
  rw [writeBusy_eq]
  split
  · exact hint
  · exact (ReportsOn.raiseOpen _ .vmc 0 5 (by decide)).ints (by decide) 5 ((congrArg (·.getLsbD 5) (hnotes _)).trans hint)

/-- A word that a running sequencer holds is not written (R306). -/
theorem takeWord_of_running {bytes : List (Nat × Byte)} {s : State} {w : Nat × Nat} (h : s.granuleRunning (w.1 / 8192) ≠ []) :
    takeWord bytes s w = s.writeBusy (s.granuleRunning (w.1 / 8192)) := by
  have hne : (!(s.granuleRunning (w.1 / 8192)).isEmpty) = true := by simpa using h
  exact if_pos hne

/-- A write to pages that running sequencers hold stores nothing, and is reported (R306). -/
theorem storeWords_of_running {s : State} {bytes : List (Nat × Byte)} (hne : bytes ≠ [])
    (h : ∀ e ∈ bytes, s.granuleRunning (e.1 / 65536) ≠ []) :
    Busies s (s.storeWords bytes) ∧ ((s.storeWords bytes).intStat 0x200000).getLsbD 5 = true := by
  have hword : ∀ u, ∀ w ∈ (touchedWords bytes).zipIdx, Busies s u → takeWord bytes u w = u.writeBusy (u.granuleRunning (w.1 / 8192)) :=
    fun u w hw hu => by
      obtain ⟨e, he, hew⟩ := mem_touchedWords hw
      refine takeWord_of_running ?_
      rw [hu.granuleRunning, ← hew, Nat.div_div_eq_div_mul]
      exact h e he
  have hkeep : ∀ u, ∀ w ∈ (touchedWords bytes).zipIdx, Busies s u → Busies s (takeWord bytes u w) := fun u w hw hu => by
    rw [hword u w hw hu]
    exact hu.trans (.writeBusy u _)
  have hset : ∀ u, ∀ w ∈ (touchedWords bytes).zipIdx, Busies s u → ((takeWord bytes u w).intStat 0x200000).getLsbD 5 = true :=
    fun u w hw hu => by
      rw [hword u w hw hu]
      exact intStat_writeBusy u _
  obtain ⟨e, he⟩ := List.exists_mem_of_ne_nil _ hne
  obtain ⟨i, hi⟩ := exists_mem_touchedWords he
  have hstart := Busies.pcnChip s 2 (((touchedWords bytes).map (· / 8)).eraseDups.length)
  exact ⟨foldl_of_inv hkeep hstart, foldl_of_mem_of_inv (P := fun u => (u.intStat 0x200000).getLsbD 5 = true) hi hkeep
    (fun u hu => hset u _ hi hu) (fun u w hw hu _ => hset u w hw hu) hstart⟩

theorem done_bar2Write_running {s : State} (hs : Serving s) {addr a : Nat} {data : List (Option Byte)}
    (h : ∀ i < data.length, s.bar2At (addr + i) = .mem (a + i)) (hrun : ∀ i < data.length, s.granuleRunning ((a + i) / 65536) ≠ [])
    (hany : data.any Option.isSome = true) :
    ∃ t, exec (.bar2Write addr data []) s = .next t ∧ t.vs = s.vs ∧ (t.intStat 0x200000).getLsbD 5 = true := by
  have hne : enabledBytes a data ≠ [] := fun hnil =>
    enabledAts_ne_nil (s := s) (addr := addr) hany ((enabledAts_of_mem h).trans (congrArg _ hnil))
  have hbusy : ∀ e ∈ enabledBytes a data, s.granuleRunning (e.1 / 65536) ≠ [] := fun e he => by
    obtain ⟨i, hi, hx⟩ := mem_enabledBytes.mp he
    exact hx ▸ hrun i (List.getElem?_eq_some_iff.mp hi).1
  obtain ⟨hb, hint⟩ := storeWords_of_running hne hbusy
  rw [exec_bar2Write_of_live hs.2, bar2Write_of_mem h]
  generalize s.storeWords (enabledBytes a data) = u at *
  have hgrave : u.grave = s.grave := by rw [hb.frame]
  have hvs : u.vs = s.vs := by rw [hb.frame]
  exact ⟨_, done_of_steady hs.1 (hgrave.trans hs.1.1) (by rw [hb.frame]) hb.stat, hvs, hint⟩

/-- Settles O43: requests on objects by what they leave of the table and of memory, accesses by what their bytes stand for. -/
theorem objectsAndBar2 : Obligations.ObjectsAndBar2 := by
  unfold Obligations.ObjectsAndBar2
  intro s hs
  exact ⟨fun g => done_vmcAlloc hs g, fun g => done_vmcFree hs g, fun g hj => done_vmcAllocDone_alloc hs.1 hj,
    fun h hj => done_vmcAllocDone_free hs.1 hj, fun addr len a h hgood => done_bar2Read_mem hs h hgood,
    fun addr len h hl => done_bar2Read_outside hs h hl, fun addr len h hl => done_bar2Read_sealed hs h hl,
    fun addr a data h hgood => done_bar2Write_mem hs h hgood, fun addr data h hany => done_bar2Write_outside hs h hany,
    fun addr a data h hrun hany => done_bar2Write_running hs h hrun hany⟩

end Sys2Proof.Machine

namespace Sys2Proof.Machine
open Sys2Proof Reg

/-! ## Committing and cancelling entries of the Piste (O14) -/

/-- A page that every role may write takes a host write as it is (R44, R47). -/
theorem asHostOn_of_open {s : State} (hl : s.live = true) {k : PageKind} (hk : wrMin k = 0) (i : Nat) (f : State → State) :
    s.asHostOn k i f = f s := by
  have hr : s.role.meets 0 = true := by simp [Role.meets]
  simp [State.asHostOn, State.asHost, hl, hk, hr]

/-! ### PST_RESP -/

theorem rd_pstResp_other (s : State) (r h : Nat) {o : Nat} (ho : o ≠ 0x11054) : (s.pstResp r h).rd o = s.rd o :=
  (rd_put_other _ _ ho).trans (rd_put_other _ _ ho)

theorem fld_pstResp_result (s : State) {r : Nat} (hr : r < 16) (h : Nat) : (s.pstResp r h).fld .pst 0 PST_RESP_RESULT = r := by
  rw [State.pstResp, fld_put_other _ _ (by decide) (by decide) (by decide) (by decide), fld_put_same _ _ _ _ _ (by decide) (by decide)]
  exact Nat.mod_eq_of_lt hr

theorem fld_pstResp_handle (s : State) (r : Nat) {h : Nat} (hh : h < 65536) : (s.pstResp r h).fld .pst 0 PST_RESP_HANDLE = h := by
  rw [State.pstResp, fld_put_same _ _ _ _ _ (by decide) (by decide)]
  exact Nat.mod_eq_of_lt hh

/-- A commit or a cancel ends with its answer and what it made of the table. -/
theorem done_pstResp {s : State} (hs : Steady s) (p : PstSt) (n r h : Nat) :
    done (({ s with pst := p, free := n } : State).pstResp r h) = .next (({ s with pst := p, free := n } : State).pstResp r h)
      ∧ RegsBut [0x11054] s (({ s with pst := p, free := n } : State).pstResp r h) :=
  ⟨done_quiet hs rfl rfl rfl fun m _ => rd_pstResp_other _ r h (psqStat_ne_of_lt (by decide) m),
    fun _ ho => rd_pstResp_other _ r h (List.ne_of_not_mem_cons ho)⟩

/-! ### The slot of a commit -/

theorem mem_freeSlots {s : State} {k : Nat} : k ∈ s.freeSlots ↔ k < 4096 ∧ ∀ x ∈ s.pst.entries, x.slot ≠ k := by
  simp [State.freeSlots]

/-- A table that is not full has a free slot. -/
theorem freeSlots_ne_nil {s : State} (h : s.pst.entries.length < 4096) : s.freeSlots ≠ [] := by
  intro hnil
  have hsub : List.range 4096 ⊆ s.pst.entries.map (·.slot) := fun k hk => by
    have hnot : ¬ k ∈ s.freeSlots := by simp [hnil]
    rw [mem_freeSlots, not_and] at hnot
    have hex := hnot (List.mem_range.mp hk)
    push Not at hex
    exact List.mem_map.mpr hex
  have hle := (List.subperm_of_subset List.nodup_range hsub).length_le
  rw [List.length_range, List.length_map] at hle
  omega

theorem nextTag_bounds (t : Nat) : 1 ≤ nextTag t ∧ nextTag t ≤ 15 := by
  unfold nextTag
  split <;> omega

/-- A commit into a table that is not full takes a free slot, under a tag from 1 to 15 (R107). -/
theorem storeEntry_spec {s : State} (h : s.pst.entries.length < 4096) (e : PstEntry) :
    ∃ slot ∈ s.freeSlots, ∃ tag tags, 1 ≤ tag ∧ tag ≤ 15 ∧ s.storeEntry e
      = ({ s with
          pst := { s.pst with entries := placeEntry { e with slot := slot, tag := tag } s.pst.entries, tags := tags }
          free := s.free + 1 } : State).pstResp 1 (tag * 0x1000 + slot) := by
  have hlt : s.freeVal % s.freeSlots.length < s.freeSlots.length := Nat.mod_lt _ (List.length_pos_iff.mpr (freeSlots_ne_nil h))
  have hmem : s.freeSlots.getD (s.freeVal % s.freeSlots.length) 0 ∈ s.freeSlots := by
    rw [List.getD_eq_getElem _ _ hlt]
    exact List.getElem_mem hlt
  exact ⟨_, hmem, _, _, (nextTag_bounds _).1, (nextTag_bounds _).2, rfl⟩

/-- An entry is itself but for the slot and tag it is stored under. -/
theorem unslotted {e : PstEntry} (hs : e.slot = 0) (ht : e.tag = 0) (slot tag : Nat) :
    ({ ({ e with slot := slot, tag := tag } : PstEntry) with slot := 0, tag := 0 } : PstEntry) = e := by
  obtain ⟨_, _⟩ := e
  subst hs ht
  rfl

theorem mem_placeEntry (e : PstEntry) (l : List PstEntry) : e ∈ placeEntry e l := by
  induction l with
  | nil => exact List.mem_singleton_self e
  | cons x l ih =>
    unfold placeEntry
    split
    · exact List.mem_cons_self
    · exact List.mem_cons_of_mem x ih

/-! ### The checks of a commit -/

/-- The answers to a commit are those of R107. -/
theorem commitResult_lt (s : State) (e : PstEntry) : s.commitResult e < 16 := by
  unfold State.commitResult
  split_ifs <;> omega

/-- An entry is stored only where the table has room (R107: FULL). -/
theorem length_of_commitResult {s : State} {e : PstEntry} (h : s.commitResult e = 1) : s.pst.entries.length < 4096 := by
  unfold State.commitResult at h
  by_contra hfull
  rw [if_pos (Nat.le_of_not_lt hfull)] at h
  split_ifs at h <;> omega

/-! ### GO and CANCEL -/

section
variable {s : State} (hs : Serving s)
include hs

/-- GO answers the first check that fails, or stores the staged entry in a free slot (R107). -/
theorem done_go :
    ∃ t, exec .go s = .next t
      ∧ t.fld .pst 0 PST_RESP_RESULT = s.commitResult s.staged
      ∧ (s.commitResult s.staged ≠ 1 → t = { s with regs := t.regs })
      ∧ (s.commitResult s.staged = 1 → ∃ e ∈ t.pst.entries, t.pst.entries = placeEntry e s.pst.entries
          ∧ ({ e with slot := 0, tag := 0 } : PstEntry) = s.staged ∧ e.slot < 4096 ∧ (∀ x ∈ s.pst.entries, x.slot ≠ e.slot)
          ∧ 1 ≤ e.tag ∧ e.tag ≤ 15 ∧ t.fld .pst 0 PST_RESP_HANDLE = e.tag * 0x1000 + e.slot)
      ∧ RegsBut [0x11054] s t
      ∧ t = { s with regs := t.regs, pst := t.pst, free := t.free } := by
  show ∃ t, done (s.asHostOn .pst 0 pstGo) = .next t ∧ _
  rw [asHostOn_of_open hs.2 rfl, pstGo]
  by_cases h : s.commitResult s.staged = 1
  · obtain ⟨slot, hslot, tag, tags, htag1, htag15, hstore⟩ := storeEntry_spec (length_of_commitResult h) s.staged
    obtain ⟨hlt, hfree⟩ := mem_freeSlots.mp hslot
    have hhandle : tag * 0x1000 + slot < 65536 := by omega
    rw [if_pos h, h, hstore]
    obtain ⟨hdone, hrd⟩ := done_pstResp hs.1 _ (s.free + 1) 1 (tag * 0x1000 + slot)
    exact ⟨_, hdone, fld_pstResp_result _ (by decide) _, fun hn => absurd rfl hn,
      fun _ => ⟨_, mem_placeEntry _ _, rfl, unslotted rfl rfl slot tag, hlt, hfree, htag1, htag15, fld_pstResp_handle _ _ hhandle⟩, hrd, rfl⟩
  · obtain ⟨hdone, hrd⟩ := done_pstResp hs.1 s.pst s.free (s.commitResult s.staged) 0
    rw [if_neg h]
    exact ⟨_, hdone, fld_pstResp_result s (commitResult_lt s s.staged) 0, fun _ => rfl, fun hc => absurd hc h, hrd, rfl⟩

/-- CANCEL frees the entry that its handle names, unless there is none or its position is too near (R107). -/
theorem done_cancel :
    ∃ t, exec .cancel s = .next t
      ∧ (∀ e ∈ s.pst.entries.find? (fun e => e.tag * 0x1000 + e.slot == s.fldAt .pst 0 PST_W 0 % 65536),
          if s.epc.valid = true ∧ s.cyclesTo e.f e.p ≤ 512 then t.fld .pst 0 PST_RESP_RESULT = 2 ∧ t.pst = s.pst
          else t.fld .pst 0 PST_RESP_RESULT = 8 ∧ t.pst.entries = s.pst.entries.filter fun x => x.slot != e.slot)
      ∧ (s.pst.entries.find? (fun e => e.tag * 0x1000 + e.slot == s.fldAt .pst 0 PST_W 0 % 65536) = none →
          t.fld .pst 0 PST_RESP_RESULT = 9 ∧ t.pst = s.pst)
      ∧ RegsBut [0x11054] s t
      ∧ t = { s with regs := t.regs, pst := t.pst } := by
  show ∃ t, done (s.asHostOn .pst 0 pstCancel) = .next t ∧ _
  rw [asHostOn_of_open hs.2 rfl, pstCancel]
  cases hfind : s.pst.entries.find? fun e => e.tag * 0x1000 + e.slot == s.fldAt .pst 0 PST_W 0 % 2 ^ 16 with
  | none =>
    obtain ⟨hdone, hrd⟩ := done_pstResp hs.1 s.pst s.free 9 0
    exact ⟨_, hdone, nofun, fun _ => ⟨fld_pstResp_result s (by decide) 0, rfl⟩, hrd, rfl⟩
  | some e =>
    by_cases hlate : s.epc.valid = true ∧ s.cyclesTo e.f e.p ≤ 512
    · obtain ⟨hdone, hrd⟩ := done_pstResp hs.1 s.pst s.free 2 0
      have hc : (s.epc.valid && decide (s.cyclesTo e.f e.p ≤ 512)) = true := by simpa using hlate
      simp only [hc, if_true]
      refine ⟨_, hdone, fun x hx => ?_, nofun, hrd, rfl⟩
      obtain rfl : e = x := Option.some.inj hx
      rw [if_pos hlate]
      exact ⟨fld_pstResp_result s (by decide) 0, rfl⟩
    · obtain ⟨hdone, hrd⟩ := done_pstResp hs.1 { s.pst with entries := s.pst.entries.filter fun x => x.slot != e.slot } s.free 8
        (s.fldAt .pst 0 PST_W 0 % 2 ^ 16)
      have hc : ¬ (s.epc.valid && decide (s.cyclesTo e.f e.p ≤ 512)) = true := by simpa using hlate
      simp only [if_neg hc]
      refine ⟨_, hdone, fun x hx => ?_, nofun, hrd, rfl⟩
      obtain rfl : e = x := Option.some.inj hx
      rw [if_neg hlate]
      exact ⟨fld_pstResp_result _ (by decide) _, rfl⟩

end

/-- Settles O14: a commit that passes every check finds a free slot, since the table is not full, and a cancel looks its handle up. -/
theorem commitAndCancel : Obligations.CommitAndCancel := by
  unfold Obligations.CommitAndCancel
  intro s hs
  exact ⟨done_go hs, done_cancel hs⟩

end Sys2Proof.Machine

namespace Sys2Proof.Machine
open Sys2Proof Reg

/-! ## Changes of the clock source (O9) -/

/-! ### What they change -/

/-- What changes of the clock source change before they raise a fault: registers, messages, the recorder's ingress, the epoch controller, and
what sequencers and TMUs know of a holdover. -/
structure Sourced (offs : List Nat) (s u : State) : Prop where
  frame : u = { s with
    regs := u.regs, hif := { s.hif with sent := u.hif.sent }, evr := u.evr, free := u.free, epc := u.epc, psqs := u.psqs, tmus := u.tmus
    sig := u.sig }
  rd : RegsBut ([0x2018] ++ offs ++ pbaOffs ++ evrOffs) s u

namespace Sourced
variable {offs : List Nat}

theorem refl (s : State) : Sourced offs s s := ⟨rfl, fun _ _ => rfl⟩

theorem trans {s t u : State} (h1 : Sourced offs s t) (h2 : Sourced offs t u) : Sourced offs s u where
  frame := by rw [h2.frame, h1.frame]
  rd o ho := (h2.rd o ho).trans (h1.rd o ho)

theorem mem_offs {o : Nat} (h : o ∈ offs) : o ∈ [0x2018] ++ offs ++ pbaOffs ++ evrOffs :=
  List.mem_append_left _ (List.mem_append_left _ (List.mem_append_right _ h))

theorem put (s : State) {k : PageKind} {i : Nat} {f : Fld} (v : Nat) (h : fldOff k i f 0 ∈ offs) : Sourced offs s (s.put k i f v) :=
  ⟨rfl, fun _ ho => rd_put_other s v fun he => ho (he ▸ mem_offs h)⟩

theorem bump (s : State) {k : PageKind} {i : Nat} {c o : Fld} (hc : fldOff k i c 0 ∈ offs) (ho : fldOff k i o 0 ∈ offs) :
    Sourced offs s (s.bump k i c o) where
  frame := by rw [State.bump, bumpBy_eq_with]
  rd _ hx := rd_bumpBy_other s (fun he => hx (he ▸ mem_offs hc)) fun he => hx (he ▸ mem_offs ho)

theorem withEpc (s : State) (e : EpcSt) : Sourced offs s { s with epc := e } := ⟨rfl, fun _ _ => rfl⟩

/-- What only reports on the page of the clock sources, and raises nothing. -/
theorem of_reportsOn {s u : State} (h : ReportsOn 0x2000 s u) (hf : u.faults = s.faults) : Sourced offs s u where
  frame := by
    have he : u.epc = s.epc := by rw [h.frame]
    have hp : u.psqs = s.psqs := by rw [h.frame]
    have ht : u.tmus = s.tmus := by rw [h.frame]
    have hframe := h.frame
    rwa [he, hp, ht, ← h.hif, ← hf]
  rd o ho := by
    simp only [List.mem_append, List.mem_singleton, not_or] at ho
    exact h.rd o ho.1.1.1 ho.1.2 ho.2

/-- Such a command ends with what it did, and with what it then raised. -/
theorem done {s u v : State} (hs : Steady s) (h : Sourced offs s u) (hr : ReportsOn 0x2000 u v)
    (hoffs : ∀ n < 8, baseOf .psq n + 0x14 ∉ offs) :
    Machine.done v = .next { v with sig := [] } ∧ Reported [0x2000] offs s { v with sig := [] }
      ∧ { v with sig := [] } = { s with
          regs := v.regs, hif := v.hif, faults := v.faults, evr := v.evr, free := v.free, epc := v.epc, psqs := v.psqs, tmus := v.tmus } := by
  have hhif : u.hif = { s.hif with sent := u.hif.sent } := by rw [h.frame]
  have hfault : ∀ q, u.fault q = s.fault q := fun q => by rw [h.frame]; rfl
  have hframe : v = { s with
      regs := v.regs, hif := v.hif, faults := v.faults, evr := v.evr, free := v.free, epc := v.epc, psqs := v.psqs, tmus := v.tmus
      sig := v.sig } := by
    have he : v.epc = u.epc := by rw [hr.frame]
    have hp : v.psqs = u.psqs := by rw [hr.frame]
    have ht : v.tmus = u.tmus := by rw [hr.frame]
    have hv := hr.frame
    rw [he, hp, ht]
    rw [h.frame] at hv
    exact hv
  have hrd : RegsBut ([0x2018] ++ offs ++ pbaOffs ++ evrOffs) s v := fun o ho => by
    refine (hr.rd o ?_ ?_ ?_).trans (h.rd o ho) <;>
      simp only [List.mem_append, List.mem_singleton, not_or] at ho
    exacts [ho.1.1.1, ho.1.2, ho.2]
  have hstat : ∀ n < 8, v.rd (baseOf .psq n + 0x14) = s.rd (baseOf .psq n + 0x14) := fun n hn => by
    refine hrd _ ?_
    simp only [List.mem_append, List.mem_singleton, not_or]
    exact ⟨⟨⟨psqStat_ne_of_lt (by decide) n, hoffs n hn⟩, psqStat_not_mem_pbaOffs n⟩, psqStat_not_mem_evrOffs n⟩
  refine ⟨done_of_steady hs (by rw [hframe]; exact hs.1) (by rw [hframe]) hstat, ⟨hrd, fun q hq => ?_, ?_⟩, ?_⟩
  · exact (hr.faults q hq).trans (hfault q)
  · show v.hif = { s.hif with sent := v.hif.sent }
    rw [hr.hif, hhif]
  · have hsig : s.sig = [] := hs.2.1
    rw [← hsig]
    conv_lhs => rw [hframe]

end Sourced

/-- A command of the clock source that leaves sequencers and TMUs alone. -/
theorem frame_of_units {s t : State}
    (h : t = { s with
      regs := t.regs, hif := t.hif, faults := t.faults, evr := t.evr, free := t.free, epc := t.epc, psqs := t.psqs, tmus := t.tmus })
    (hp : t.psqs = s.psqs) (ht : t.tmus = s.tmus) :
    t = { s with regs := t.regs, hif := t.hif, faults := t.faults, evr := t.evr, free := t.free, epc := t.epc } := by
  rwa [hp, ht] at h

/-! ### Reports at an acknowledged class -/

/-- An entry of an acknowledged class is recorded at its base level (R60). -/
theorem recordedLevel_of_acked {s : State} {page cls : Nat} (h : Acked s page cls) (base : Nat) :
    recordedLevel (s.fault page) cls base = base := by
  rw [recordedLevel, h]
  split <;> rfl

section
variable {s : State} {k : PageKind} {i cls base : Nat} (h : Acked s (pageBase k i) cls) (hb : base < 4)
include h hb

theorem ReportsOn.raiseOpen_of_acked : ReportsOn (pageBase k i) s (s.raiseOpen k i cls base) :=
  (ReportsOn.raise _ (by rwa [recordedLevel_of_acked h])).trans (ReportsOn.drawn _ _)

theorem raised_raiseOpen_of_acked : Raised (pageBase k i) cls base s (s.raiseOpen k i cls base) :=
  raised_raise _ (by rwa [recordedLevel_of_acked h])

/-- A cause bit is set, and a class is raised. -/
theorem int_raiseOpen_of_acked (b : Nat) :
    ReportsOn (pageBase k i) s ((s.int k i b).raiseOpen k i cls base) ∧ Raised (pageBase k i) cls base s ((s.int k i b).raiseOpen k i cls base) := by
  have hf : ∀ q, (s.int k i b).fault q = s.fault q := fun q => by rw [int_eq_with]; rfl
  have he : (s.int k i b).epc = s.epc := by rw [int_eq_with]
  have hu : Acked (s.int k i b) (pageBase k i) cls := by rwa [Acked, hf]
  exact ⟨(ReportsOn.int s k i b).trans (.raiseOpen_of_acked hu hb), raised_of_same (hf _) he (raised_raiseOpen_of_acked hu hb)⟩

end

/-- An entry that is newest over a state with the same fault state of the page, and at the same position. -/
theorem raised_of_position {s s' t : State} {page cls base : Nat} (hfault : s'.fault page = s.fault page) (hf : s'.epc.f = s.epc.f)
    (hp : s'.epc.p = s.epc.p) (h : Raised page cls base s' t) : Raised page cls base s t := by
  rwa [Raised, hfault, hf, hp] at h

/-! ### SOURCE changes -/

/-- Whether a sequencer runs is read from its status word. -/
theorem psqRunning_congr {s t : State} {n : Nat} (h : t.rd (baseOf .psq n + 0x14) = s.rd (baseOf .psq n + 0x14)) :
    t.psqRunning n = s.psqRunning n := by
  rw [State.psqRunning, State.psqRunning, fld_congr h]

theorem anyRunning_congr {s t : State} (h : ∀ n < 8, t.rd (baseOf .psq n + 0x14) = s.rd (baseOf .psq n + 0x14)) :
    t.anyRunning = s.anyRunning := by
  rw [State.anyRunning, State.anyRunning, Bool.eq_iff_iff, List.any_eq_true, List.any_eq_true]
  exact exists_congr fun n => and_congr_right fun hn => by rw [psqRunning_congr (h n (List.mem_range.mp hn))]

/-- The sequencers enter a holdover. -/
theorem inHoldover_all (s : State) :
    ∃ p, (List.range 8).foldl State.inHoldover s = { s with psqs := p } := by
  refine foldl_of_step (P := fun u => ∃ p, u = { s with psqs := p }) ?_ _ ⟨_, rfl⟩
  rintro u n ⟨p, rfl⟩
  unfold State.inHoldover
  split <;> exact ⟨_, rfl⟩

/-- A sequencer that runs is noted. -/
theorem holdover_inHoldover_all {s : State} {n : Nat} (hn : n < 8) (hrun : s.psqRunning n = true) :
    (((List.range 8).foldl State.inHoldover s).psq n).holdover = true := by
  have hstep : ∀ u m, (∃ p, u = { s with psqs := p }) → ∃ p, State.inHoldover u m = { s with psqs := p } := by
    rintro u m ⟨p, rfl⟩
    unfold State.inHoldover
    split <;> exact ⟨_, rfl⟩
  refine foldl_of_mem_of_inv (I := fun u => ∃ p, u = { s with psqs := p }) (P := fun u => (u.psq n).holdover = true)
    (List.mem_range.mpr hn) (fun u m _ => hstep u m) ?_ ?_ ⟨_, rfl⟩
  · rintro u ⟨p, rfl⟩
    have hr : State.psqRunning { s with psqs := p } n = true := hrun
    rw [State.inHoldover, if_pos hr, psq_setPsq_same]
  · intro u m _ _ hu
    unfold State.inHoldover
    split
    · rw [psq_setPsq]
      split
      · rfl
      · exact hu
    · exact hu

theorem tmusInHoldover_eq_with (s : State) : ∃ m, s.tmusInHoldover = { s with tmus := m } := by
  refine foldl_of_step (P := fun u => ∃ m, u = { s with tmus := m }) ?_ _ ⟨_, rfl⟩
  rintro u n ⟨m, rfl⟩
  split <;> exact ⟨_, rfl⟩

/-- The state in which the new source is in force, before the change is counted and signalled. -/
def State.withSource (s : State) (src : ClkSource) : State :=
  let s := { s with epc := { s.epc with source := src } }
  if src = .holdover then ((List.range 8).foldl State.inHoldover s).tmusInHoldover else s

theorem withSource_eq_with (s : State) (src : ClkSource) :
    ∃ p m, s.withSource src = { s with epc := { s.epc with source := src }, psqs := p, tmus := m } := by
  unfold State.withSource
  simp only
  split
  · obtain ⟨p, hp⟩ := inHoldover_all { s with epc := { s.epc with source := src } }
    obtain ⟨m, hm⟩ := tmusInHoldover_eq_with ((List.range 8).foldl State.inHoldover { s with epc := { s.epc with source := src } })
    exact ⟨p, m, by rw [hm, hp]⟩
  · exact ⟨s.psqs, s.tmus, rfl⟩

theorem withSource_of_ne {src : ClkSource} (h : src ≠ .holdover) (s : State) :
    s.withSource src = { s with epc := { s.epc with source := src } } := if_neg h

theorem holdover_withSource {s : State} {n : Nat} (hn : n < 8) (hrun : s.psqRunning n = true) :
    ((s.withSource .holdover).psq n).holdover = true := by
  obtain ⟨m, hm⟩ := tmusInHoldover_eq_with ((List.range 8).foldl State.inHoldover { s with epc := { s.epc with source := .holdover } })
  rw [State.withSource, if_pos rfl, hm]
  exact holdover_inHoldover_all (s := { s with epc := { s.epc with source := .holdover } }) hn hrun

/-- A change of the source that is in force is counted, signalled and told to the recorder (R83). -/
def State.countSwitch (s : State) : State := s.bump .epcSrc 0 EPC_SRCSTAT_SWITCH_COUNT EPC_SRCSTAT_OVF

theorem Sourced.countSwitch {offs : List Nat} (h : 0x2044 ∈ offs) (s : State) : Sourced offs s s.countSwitch :=
  .bump s (k := .epcSrc) (i := 0) h h

theorem setSource_reports (s : State) (src : ClkSource) :
    ReportsOn 0x2000 (s.withSource src).countSwitch (s.setSource src)
      ∧ (s.setSource src).faults = (s.withSource src).countSwitch.faults := by
  refine ⟨((ReportsOn.int _ .epcSrc 0 0).trans (.evrOffer _ _ _)).trans (.drawn _ _), ?_⟩
  simp only [State.setSource]
  rw [drawn_faults, evrOffer_eq_with, int_eq_with]
  rfl

theorem Sourced.setSource {offs : List Nat} (h : 0x2044 ∈ offs) (s : State) (src : ClkSource) : Sourced offs s (s.setSource src) := by
  obtain ⟨p, m, hw⟩ := withSource_eq_with s src
  obtain ⟨hr, hf⟩ := setSource_reports s src
  have hset : Sourced offs s (s.withSource src) := by
    rw [hw]
    exact ⟨rfl, fun _ _ => rfl⟩
  exact (hset.trans (.countSwitch h _)).trans (.of_reportsOn hr hf)

/-- What the units hold after a change of the source. -/
theorem setSource_holds (s : State) (src : ClkSource) :
    (s.setSource src).epc = { s.epc with source := src } ∧ (s.setSource src).psqs = (s.withSource src).psqs
      ∧ (s.setSource src).tmus = (s.withSource src).tmus := by
  obtain ⟨p, m, hw⟩ := withSource_eq_with s src
  obtain ⟨hr, -⟩ := setSource_reports s src
  have hc : (s.withSource src).countSwitch = { s.withSource src with regs := (s.withSource src).countSwitch.regs } := bumpBy_eq_with _ _ _ _ _ _
  refine ⟨?_, ?_, ?_⟩ <;> rw [hr.frame, hc]
  rw [hw]

/-- A field of the counter's word that is neither the counter nor its overflow bit. -/
theorem fld_bump_other (s : State) {k : PageKind} {i : Nat} {c o f : Fld} (hc : c.hi < 32) (hcl : c.lo ≤ c.hi) (ho : o.hi < 32)
    (hol : o.lo ≤ o.hi) (hf : f.hi < 32) (h1 : fldOff k i f 0 ≠ fldOff k i c 0 ∨ f.hi < c.lo ∨ c.hi < f.lo)
    (h2 : fldOff k i f 0 ≠ fldOff k i o 0 ∨ f.hi < o.lo ∨ o.hi < f.lo) : (s.bump k i c o).fld k i f = s.fld k i f := by
  simp only [State.bump, State.bumpBy]
  split
  · rw [fld_put_other _ _ ho hol hf h2, fld_put_other _ _ hc hcl hf h1]
  · rw [fld_put_other _ _ hc hcl hf h1]

/-- What EPC_SRCSTAT shows after a change of the source: one more switch, and REF_PRESENT as before. -/
theorem setSource_shows (s : State) (src : ClkSource) :
    Counts .epcSrc 0 EPC_SRCSTAT_SWITCH_COUNT s (s.setSource src)
      ∧ (s.setSource src).fld .epcSrc 0 EPC_SRCSTAT_REF_PRESENT = s.fld .epcSrc 0 EPC_SRCSTAT_REF_PRESENT := by
  obtain ⟨p, m, hw⟩ := withSource_eq_with s src
  obtain ⟨hr, -⟩ := setSource_reports s src
  have hword : (s.setSource src).rd 0x2044 = (s.withSource src).countSwitch.rd 0x2044 :=
    hr.rd _ (by decide) (by decide) (by decide)
  have hsame : ∀ f, (s.withSource src).fld .epcSrc 0 f = s.fld .epcSrc 0 f := fun f => by rw [hw]; rfl
  refine ⟨?_, ?_⟩
  · rw [Counts, fld_congr hword, ← hsame]
    exact counts_bump _ _ _ _ _ (by decide) (by decide) (by decide) (by decide) (by decide)
  · rw [fld_congr hword, ← hsame]
    exact fld_bump_other _ (by decide) (by decide) (by decide) (by decide) (by decide) (by decide) (by decide)

/-! ### REFCLK is lost -/

/-- The state in which the loss of REFCLK is noted. -/
def State.refLost (s : State) : State :=
  { s.put .epcSrc 0 EPC_SRCSTAT_REF_PRESENT 0 with epc := { s.epc with switchWait := false } }

theorem refclkLost_of_refclk {s : State} (hsrc : s.epc.source = .refclk) (hp : s.flag .epcSrc 0 EPC_SRCSTAT_REF_PRESENT = true) :
    refclkLost s
      = (s.refLost.enterHoldover.int .epcSrc 0 1).raiseOpen .epcSrc 0 1 (if s.refLost.enterHoldover.anyRunning then 2 else 1) := by
  have hu : s.refLost.epc.source = .refclk := hsrc
  unfold refclkLost
  rw [if_pos hp]
  show ((if s.refLost.epc.source = .refclk then s.refLost.enterHoldover else s.refLost).int .epcSrc 0 1).raiseOpen .epcSrc 0 1
    (if (if s.refLost.epc.source = .refclk then s.refLost.enterHoldover else s.refLost).anyRunning then 2 else 1) = _
  rw [if_pos hu]

/-- A holdover begins with its time at 0. -/
def State.clearHeld (s : State) : State := { s.put .epcSrc 0 EPC_HOLD_ELAPSED_MS 0 with epc := { s.epc with heldFor := 0 } }

theorem rd_clearHeld_other (s : State) {o : Nat} (h : o ≠ 0x2050) : s.clearHeld.rd o = s.rd o :=
  rd_put_other s (k := .epcSrc) (i := 0) (f := EPC_HOLD_ELAPSED_MS) 0 h

theorem fld_clearHeld_elapsed (s : State) : s.clearHeld.fld .epcSrc 0 EPC_HOLD_ELAPSED_MS = 0 :=
  fld_put_same s .epcSrc 0 EPC_HOLD_ELAPSED_MS 0 (by decide) (by decide)

theorem clearHeld_epc (s : State) : s.clearHeld.epc = { s.epc with heldFor := 0 } := rfl

theorem enterHoldover_eq (s : State) : s.enterHoldover = (s.setSource .holdover).clearHeld := rfl

theorem Sourced.refLost (s : State) : Sourced [0x2044, 0x2050] s s.refLost :=
  (Sourced.put (k := .epcSrc) (i := 0) (f := EPC_SRCSTAT_REF_PRESENT) s 0 (by decide)).trans (.withEpc _ _)

theorem Sourced.clearHeld (s : State) : Sourced [0x2044, 0x2050] s s.clearHeld :=
  (Sourced.put (k := .epcSrc) (i := 0) (f := EPC_HOLD_ELAPSED_MS) s 0 (by decide)).trans (.withEpc _ _)

/-- Every running sequencer notes the holdover (R86). -/
theorem holdover_enterHoldover {s : State} {n : Nat} (hn : n < 8) (hrun : s.psqRunning n = true) :
    (s.enterHoldover.psq n).holdover = true := by
  have hpsqs : s.enterHoldover.psqs = (s.withSource .holdover).psqs := (setSource_holds s .holdover).2.1
  rw [State.psq, hpsqs]
  exact holdover_withSource hn hrun

theorem enterHoldover_epc (s : State) : s.enterHoldover.epc = { s.epc with source := .holdover, heldFor := 0 } := by
  have h := clearHeld_epc (s.setSource .holdover)
  rw [(setSource_holds s .holdover).1] at h
  rw [enterHoldover_eq]
  exact h

/-- What the registers show once a holdover has begun. -/
theorem enterHoldover_shows (s : State) :
    s.enterHoldover.fld .epcSrc 0 EPC_HOLD_ELAPSED_MS = 0 ∧ Counts .epcSrc 0 EPC_SRCSTAT_SWITCH_COUNT s s.enterHoldover
      ∧ s.enterHoldover.fld .epcSrc 0 EPC_SRCSTAT_REF_PRESENT = s.fld .epcSrc 0 EPC_SRCSTAT_REF_PRESENT := by
  have hword : (s.setSource .holdover).clearHeld.rd 0x2044 = (s.setSource .holdover).rd 0x2044 := rd_clearHeld_other _ (by decide)
  obtain ⟨hcount, hpres⟩ := setSource_shows s .holdover
  rw [enterHoldover_eq]
  exact ⟨fld_clearHeld_elapsed _, (fld_congr hword).trans hcount, (fld_congr hword).trans hpres⟩

/-- What the registers show once REFCLK's loss is noted. -/
theorem refLost_shows (s : State) :
    s.refLost.fld .epcSrc 0 EPC_SRCSTAT_REF_PRESENT = 0
      ∧ s.refLost.fld .epcSrc 0 EPC_SRCSTAT_SWITCH_COUNT = s.fld .epcSrc 0 EPC_SRCSTAT_SWITCH_COUNT :=
  ⟨fld_put_same s _ _ _ _ (by decide) (by decide), fld_put_other s _ (by decide) (by decide) (by decide) (by decide)⟩

/-- The status words of the sequencers stand through a change of the source. -/
theorem Sourced.stat {offs : List Nat} {s u : State} (h : Sourced offs s u) (hoffs : ∀ n < 8, baseOf .psq n + 0x14 ∉ offs) :
    ∀ n < 8, u.rd (baseOf .psq n + 0x14) = s.rd (baseOf .psq n + 0x14) := fun n hn => by
  refine h.rd _ ?_
  simp only [List.mem_append, List.mem_singleton, not_or]
  exact ⟨⟨⟨psqStat_ne_of_lt (by decide) n, hoffs n hn⟩, psqStat_not_mem_pbaOffs n⟩, psqStat_not_mem_evrOffs n⟩

/-- REFCLK is lost while it is the source (R81, R83, R86). -/
theorem done_refclkLost {s : State} (hs : Serving s) (hsrc : s.epc.source = .refclk)
    (hp : s.flag .epcSrc 0 EPC_SRCSTAT_REF_PRESENT = true) (hack : Acked s 0x2000 1) :
    ∃ t, exec .refclkLost s = .next t
      ∧ t.epc.source = .holdover
      ∧ t.epc.f = s.epc.f ∧ t.epc.p = s.epc.p ∧ t.epc.valid = s.epc.valid
      ∧ t.flag .epcSrc 0 EPC_SRCSTAT_REF_PRESENT = false
      ∧ t.fld .epcSrc 0 EPC_HOLD_ELAPSED_MS = 0
      ∧ Counts .epcSrc 0 EPC_SRCSTAT_SWITCH_COUNT s t
      ∧ (Raised 0x2000 1 (if s.anyRunning then 2 else 1) s t)
      ∧ (∀ n < 8, s.psqRunning n = true → (t.psq n).holdover = true)
      ∧ Reported [0x2000] [0x2044, 0x2050] s t
      ∧ (t = { s with
          regs := t.regs, hif := t.hif, faults := t.faults, evr := t.evr, free := t.free, epc := t.epc, psqs := t.psqs, tmus := t.tmus }) := by
  have hoffs : ∀ n < 8, baseOf .psq n + 0x14 ∉ [0x2044, 0x2050] := by decide
  have hlost := Sourced.refLost s
  have hall : Sourced [0x2044, 0x2050] s s.refLost.enterHoldover :=
    (hlost.trans (.setSource (by decide) _ .holdover)).trans (.clearHeld _)
  have hmarks : ∀ n < 8, s.psqRunning n = true → (s.refLost.enterHoldover.psq n).holdover = true := fun n hn hrun =>
    holdover_enterHoldover hn ((psqRunning_congr (hlost.stat hoffs n hn)).trans hrun)
  obtain ⟨helapsed, hcount, hpres⟩ := enterHoldover_shows s.refLost
  obtain ⟨hpres0, hcount0⟩ := refLost_shows s
  rw [hpres0] at hpres
  rw [Counts, hcount0] at hcount
  have hepc : s.refLost.enterHoldover.epc = _ := enterHoldover_epc s.refLost
  have hrun : s.refLost.enterHoldover.anyRunning = s.anyRunning := anyRunning_congr (hall.stat hoffs)
  show ∃ t, done (refclkLost s) = .next t ∧ _
  rw [refclkLost_of_refclk hsrc hp, hrun]
  generalize s.refLost.enterHoldover = u at *
  have hfault : u.fault 0x2000 = s.fault 0x2000 := by rw [hall.frame]; rfl
  have hlevel : (if s.anyRunning then 2 else 1) < 4 := by split <;> decide
  have hu : Acked u (pageBase .epcSrc 0) 1 := (congrArg (fun x => lookupKey x.unacked 1) hfault).trans hack
  obtain ⟨hr, hra⟩ := int_raiseOpen_of_acked hu hlevel 1
  generalize (u.int .epcSrc 0 1).raiseOpen .epcSrc 0 1 (if s.anyRunning then 2 else 1) = v at *
  obtain ⟨hdone, hrep, hframe⟩ := hall.done hs.1 hr hoffs
  have hve : v.epc = u.epc := by rw [hr.frame]
  have hvp : v.psqs = u.psqs := by rw [hr.frame]
  have h44 : v.rd 0x2044 = u.rd 0x2044 := hr.rd _ (by decide) (by decide) (by decide)
  have h50 : v.rd 0x2050 = u.rd 0x2050 := hr.rd _ (by decide) (by decide) (by decide)
  have hf : u.epc.f = s.epc.f := by rw [hepc]; rfl
  have hpos : u.epc.p = s.epc.p := by rw [hepc]; rfl
  refine ⟨_, hdone, ?_, ?_, ?_, ?_, ?_, ?_, ?_, raised_of_position hfault hf hpos hra, fun n hn h => ?_, hrep, hframe⟩
  · exact (congrArg EpcSt.source hve).trans (by rw [hepc])
  · exact (congrArg EpcSt.f hve).trans hf
  · exact (congrArg EpcSt.p hve).trans hpos
  · exact (congrArg EpcSt.valid hve).trans (by rw [hepc]; rfl)
  · exact (flag_congr h44).trans (by rw [State.flag, hpres]; rfl)
  · exact (fld_congr h50).trans helapsed
  · exact (fld_congr h44).trans hcount
  · exact (congrArg (fun p => (mapGet (fun _ => PsqSt.idle) p n).holdover) hvp).trans (hmarks n hn h)

/-! ### REFCLK returns -/

/-- The state in which REFCLK is known to be present, and the switch to it waits (R82). -/
def State.refFound (s : State) : State :=
  { s.put .epcSrc 0 EPC_SRCSTAT_REF_PRESENT 1 with epc := { s.epc with switchWait := true } }

theorem Sourced.refFound (s : State) : Sourced [0x2044, 0x204C] s s.refFound :=
  (Sourced.put (k := .epcSrc) (i := 0) (f := EPC_SRCSTAT_REF_PRESENT) s 1 (by decide)).trans (.withEpc _ _)

theorem flag_refFound_present (s : State) : s.refFound.flag .epcSrc 0 EPC_SRCSTAT_REF_PRESENT = true := by
  have h : s.refFound.fld .epcSrc 0 EPC_SRCSTAT_REF_PRESENT = 1 :=
    fld_put_same s .epcSrc 0 EPC_SRCSTAT_REF_PRESENT 1 (by decide) (by decide)
  rw [State.flag, h]
  rfl

theorem flag_refFound_force (s : State) : s.refFound.flag .epcSrc 0 EPC_SRC_FORCE_XTAL = s.flag .epcSrc 0 EPC_SRC_FORCE_XTAL :=
  flag_congr (rd_put_other s (k := .epcSrc) (i := 0) (f := EPC_SRCSTAT_REF_PRESENT) 1 (by decide))

theorem refclkReturn_of_ne {s : State} (h : s.epc.source ≠ .refclk) : refclkReturn s = s.refFound.trySwitch := if_neg h

/-- LEARNED is measured anew, and the return is noted (R82, R96). -/
def State.learn (s : State) (back : Bool) : State :=
  { (s.put .epcSrc 0 EPC_LEARNED s.freeVal).drawn with epc := { s.epc with returnCheck := back, switchWait := false, missRun := 0 } }

theorem rd_learn_other (s : State) (back : Bool) {o : Nat} (h : o ≠ 0x204C) : (s.learn back).rd o = s.rd o :=
  rd_put_other s (k := .epcSrc) (i := 0) (f := EPC_LEARNED) s.freeVal h

theorem Sourced.learn (s : State) (back : Bool) : Sourced [0x2044, 0x204C] s (s.learn back) :=
  (Sourced.put (k := .epcSrc) (i := 0) (f := EPC_LEARNED) s s.freeVal (by decide)).trans ⟨rfl, fun _ _ => rfl⟩

theorem takeRefclk_eq (s : State) :
    s.takeRefclk = (s.setSource .refclk).learn (decide (s.epc.source = .holdover) && s.epc.valid) := rfl

/-- What the switch to REFCLK leaves: the source, the correction that waits, and no unit noted for a holdover. -/
theorem takeRefclk_holds (s : State) :
    s.takeRefclk.epc
        = { s.epc with
            source := .refclk, returnCheck := decide (s.epc.source = .holdover) && s.epc.valid, switchWait := false, missRun := 0 }
      ∧ s.takeRefclk.psqs = s.psqs ∧ s.takeRefclk.tmus = s.tmus
      ∧ s.takeRefclk.fld .epcSrc 0 EPC_SRCSTAT_REF_PRESENT = s.fld .epcSrc 0 EPC_SRCSTAT_REF_PRESENT
      ∧ Sourced [0x2044, 0x204C] s s.takeRefclk := by
  obtain ⟨hepc, hpsqs, htmus⟩ := setSource_holds s .refclk
  obtain ⟨-, hpres⟩ := setSource_shows s .refclk
  have hset : Sourced [0x2044, 0x204C] s (s.setSource .refclk) := .setSource (by decide) s .refclk
  rw [withSource_of_ne (by decide)] at hpsqs htmus
  rw [takeRefclk_eq]
  generalize s.setSource .refclk = u at *
  refine ⟨?_, hpsqs, htmus, (fld_congr (rd_learn_other u _ (by decide))).trans hpres, hset.trans (.learn u _)⟩
  show ({ u.epc with returnCheck := _, switchWait := false, missRun := 0 } : EpcSt) = _
  rw [hepc]

theorem trySwitch_of_free {s : State} (hw : s.epc.switchWait = true) (hrun : s.anyRunning = false)
    (hforce : s.flag .epcSrc 0 EPC_SRC_FORCE_XTAL = false) (hp : s.flag .epcSrc 0 EPC_SRCSTAT_REF_PRESENT = true)
    (hsrc : s.epc.source ≠ .refclk) : s.trySwitch = s.takeRefclk := by
  simp [State.trySwitch, hw, hrun, hforce, hp, hsrc]

theorem trySwitch_of_held {s : State} (h : s.anyRunning = true ∨ s.flag .epcSrc 0 EPC_SRC_FORCE_XTAL = true) : s.trySwitch = s := by
  rcases h with h | h <;> simp [State.trySwitch, h]

/-- REFCLK has been present for 1 ms: it is taken, or the switch waits (R82). -/
theorem done_refclkReturn {s : State} (hs : Serving s) (hsrc : s.epc.source ≠ .refclk) :
    ∃ t, exec .refclkReturn s = .next t
      ∧ t.flag .epcSrc 0 EPC_SRCSTAT_REF_PRESENT = true
      ∧ (s.anyRunning = false → s.flag .epcSrc 0 EPC_SRC_FORCE_XTAL = false → t.epc.source = .refclk ∧ t.epc.switchWait = false
          ∧ t.epc.returnCheck = (s.epc.source == .holdover && s.epc.valid))
      ∧ (s.anyRunning = true ∨ s.flag .epcSrc 0 EPC_SRC_FORCE_XTAL = true → t.epc.source = s.epc.source ∧ t.epc.switchWait = true)
      ∧ t.epc.f = s.epc.f ∧ t.epc.p = s.epc.p ∧ t.epc.valid = s.epc.valid
      ∧ Reported [0x2000] [0x2044, 0x204c] s t
      ∧ (t = { s with regs := t.regs, hif := t.hif, faults := t.faults, evr := t.evr, free := t.free, epc := t.epc }) := by
  have hoffs : ∀ n < 8, baseOf .psq n + 0x14 ∉ [0x2044, 0x204C] := by decide
  have hfound := Sourced.refFound s
  have hrun : s.refFound.anyRunning = s.anyRunning := anyRunning_congr (hfound.stat hoffs)
  have hforce := flag_refFound_force s
  have hpres := flag_refFound_present s
  have hon : s.dev ≠ .off := fun h => by simpa [State.live, h] using hs.2
  show ∃ t, done (if s.dev = .off then s else refclkReturn s) = .next t ∧ _
  rw [if_neg hon, refclkReturn_of_ne hsrc]
  by_cases hfree : s.anyRunning = false ∧ s.flag .epcSrc 0 EPC_SRC_FORCE_XTAL = false
  · obtain ⟨hidle, hopen⟩ := hfree
    obtain ⟨hepc, hpsqs, htmus, hshow, htake⟩ := takeRefclk_holds s.refFound
    rw [trySwitch_of_free rfl (hrun.trans hidle) (hforce.trans hopen) hpres hsrc]
    generalize s.refFound.takeRefclk = u at *
    obtain ⟨hdone, hrep, hframe⟩ := (hfound.trans htake).done hs.1 (.refl 0x2000 u) hoffs
    have hnot : ¬ (s.anyRunning = true ∨ s.flag .epcSrc 0 EPC_SRC_FORCE_XTAL = true) := by simp [hidle, hopen]
    exact ⟨_, hdone, (congrArg (· == 1) hshow).trans hpres,
      fun _ _ => ⟨congrArg EpcSt.source hepc, congrArg EpcSt.switchWait hepc, congrArg EpcSt.returnCheck hepc⟩, fun h => absurd h hnot,
      (congrArg EpcSt.f hepc :), (congrArg EpcSt.p hepc :), (congrArg EpcSt.valid hepc :), hrep, frame_of_units hframe hpsqs htmus⟩
  · rw [not_and_or, Bool.not_eq_false, Bool.not_eq_false] at hfree
    rw [trySwitch_of_held (hfree.imp hrun.trans hforce.trans)]
    obtain ⟨hdone, hrep, hframe⟩ := hfound.done hs.1 (.refl 0x2000 _) hoffs
    refine ⟨_, hdone, hpres, fun hidle hopen => ?_, fun _ => ⟨rfl, rfl⟩, rfl, rfl, rfl, hrep, frame_of_units hframe rfl rfl⟩
    rw [hidle, hopen] at hfree
    exact absurd hfree (by decide)

/-! ### A holdover runs out -/

/-- The state in which the epoch is invalid, and ELAPSED_MS shows HOLD_MAX_MS (R85). -/
def State.holdOver (s : State) : State :=
  { s.put .epcSrc 0 EPC_HOLD_ELAPSED_MS (s.fld .epcSrc 0 EPC_HOLD_HOLD_MAX_MS) with
    epc := { s.epc with
      valid := false
      heldFor := 100000 * (s.put .epcSrc 0 EPC_HOLD_ELAPSED_MS (s.fld .epcSrc 0 EPC_HOLD_HOLD_MAX_MS)).mult
        * (s.put .epcSrc 0 EPC_HOLD_ELAPSED_MS (s.fld .epcSrc 0 EPC_HOLD_HOLD_MAX_MS)).fld .epcSrc 0 EPC_HOLD_HOLD_MAX_MS } }

theorem Sourced.holdOver (s : State) : Sourced [0x2050] s s.holdOver :=
  (Sourced.put (k := .epcSrc) (i := 0) (f := EPC_HOLD_ELAPSED_MS) s (s.fld .epcSrc 0 EPC_HOLD_HOLD_MAX_MS) (by decide)).trans (.withEpc _ _)

theorem fld_holdOver_elapsed (s : State) : s.holdOver.fld .epcSrc 0 EPC_HOLD_ELAPSED_MS = s.fld .epcSrc 0 EPC_HOLD_HOLD_MAX_MS :=
  (fld_put_same s .epcSrc 0 EPC_HOLD_ELAPSED_MS (s.fld .epcSrc 0 EPC_HOLD_HOLD_MAX_MS) (by decide) (by decide)).trans
    (Nat.mod_eq_of_lt (bitsOf_lt _ 31 16))

theorem holdExpired_of_holdover {s : State} (h : s.epc.source = .holdover) :
    holdExpired s = (s.holdOver.int .epcSrc 0 2).raiseOpen .epcSrc 0 2 3 := if_pos h

/-- A holdover longer than HOLD_MAX_MS invalidates the epoch (R85). -/
theorem done_holdExpired {s : State} (hs : Serving s) (hsrc : s.epc.source = .holdover) (hack : Acked s 0x2000 2) :
    ∃ t, exec .holdExpired s = .next t
      ∧ t.epc.valid = false
      ∧ t.fld .epcSrc 0 EPC_HOLD_ELAPSED_MS = s.fld .epcSrc 0 EPC_HOLD_HOLD_MAX_MS
      ∧ Raised 0x2000 2 3 s t
      ∧ Reported [0x2000] [0x2050] s t
      ∧ (t = { s with regs := t.regs, hif := t.hif, faults := t.faults, evr := t.evr, free := t.free, epc := t.epc }) := by
  have hheld := Sourced.holdOver s
  have helapsed := fld_holdOver_elapsed s
  have hack' : Acked s.holdOver (pageBase .epcSrc 0) 2 := hack
  obtain ⟨hr, hra⟩ := int_raiseOpen_of_acked hack' (base := 3) (by decide) 2
  obtain ⟨hdone, hrep, hframe⟩ := hheld.done hs.1 hr (by decide)
  show ∃ t, done (holdExpired s) = .next t ∧ _
  rw [holdExpired_of_holdover hsrc]
  generalize (s.holdOver.int .epcSrc 0 2).raiseOpen .epcSrc 0 2 3 = v at *
  have hve : v.epc = s.holdOver.epc := by rw [hr.frame]
  have hvp : v.psqs = s.psqs := by rw [hr.frame]; rfl
  have hvt : v.tmus = s.tmus := by rw [hr.frame]; rfl
  exact ⟨_, hdone, congrArg EpcSt.valid hve, (fld_congr (hr.rd 0x2050 (by decide) (by decide) (by decide))).trans helapsed,
    raised_of_position rfl rfl rfl hra, hrep, frame_of_units hframe hvp hvt⟩

/-- Settles O9: the loss of REFCLK begins a holdover, its return ends one unless it must wait, and a holdover that is too long ends the epoch. -/
theorem losingAndRegainingRefclk : Obligations.LosingAndRegainingRefclk := by
  unfold Obligations.LosingAndRegainingRefclk
  intro s hs
  exact ⟨done_refclkLost hs, done_refclkReturn hs, done_holdExpired hs⟩

end Sys2Proof.Machine

namespace Sys2Proof.Machine
open Sys2Proof Reg

/-! ## MULT, the frame length and the seed (O10) -/

/-! ### A change of MULT -/

/-- Every bin table is invalid (R432). -/
def State.clearTabs (s : State) : State := (List.range 16).foldl (fun s t => s.put .tmu t TMU_STAT_BINTAB_VALID 0) s

/-- The words that hold BINTAB_VALID of the TMUs. -/
def bintabOffs : List Nat := (List.range 16).map fun u => fldOff .tmu u TMU_STAT_BINTAB_VALID 0

theorem clearTabs_changes (s : State) : (∃ r, s.clearTabs = { s with regs := r }) ∧ RegsBut bintabOffs s s.clearTabs := by
  refine foldl_of_inv (I := fun u => (∃ r, u = { s with regs := r }) ∧ RegsBut bintabOffs s u) ?_ ⟨⟨_, rfl⟩, fun _ _ => rfl⟩
  rintro u t ht ⟨⟨r, rfl⟩, hrd⟩
  refine ⟨⟨_, rfl⟩, fun o ho => (rd_put_other _ _ fun he => ho ?_).trans (hrd o ho)⟩
  exact he ▸ List.mem_map.mpr ⟨t, ht, rfl⟩

/-- A field that is put at 0 reads 0 on every page where it reads 0 before. -/
theorem fld_put_zero {s : State} {k : PageKind} {i j : Nat} {f : Fld} (hh : f.hi < 32) (hl : f.lo ≤ f.hi) (h : s.fld k j f = 0) :
    (s.put k i f 0).fld k j f = 0 := by
  by_cases ho : fldOff k j f 0 = fldOff k i f 0
  · have hsame : (s.put k i f 0).fld k j f = (s.put k i f 0).fld k i f := by simp only [State.fld, State.fldAt, ho]
    rw [hsame, fld_put_same _ _ _ _ _ hh hl, Nat.zero_mod]
  · rw [fld_congr (rd_put_other s 0 ho), h]

theorem flag_clearTabs (s : State) {t : Nat} (ht : t < 16) : s.clearTabs.flag .tmu t TMU_STAT_BINTAB_VALID = false := by
  have h : s.clearTabs.fld .tmu t TMU_STAT_BINTAB_VALID = 0 :=
    foldl_of_mem (P := fun u => u.fld .tmu t TMU_STAT_BINTAB_VALID = 0) (List.mem_range.mpr ht)
      (fun u => fld_put_same u _ _ _ 0 (by decide) (by decide)) (fun u b hu => fld_put_zero (by decide) (by decide) hu) s
  rw [State.flag, h]
  rfl

/-- MULT takes its value, the PLL is unlocked, and every bin table is invalid. -/
def State.putMult (s : State) (m : Nat) : State := ((s.put .epcSrc 0 EPC_SRC_MULT m).put .epcSrc 0 EPC_SRCSTAT_PLL_LOCK 0).clearTabs

/-- What a change of MULT leaves (R84, R432). -/
def State.changeMult (s : State) (m : Nat) : State :=
  { s.putMult m with epc := { s.epc with valid := false, relocking := true } }

theorem multFree_of_ready {s : State} (hd : s.dev = .ready) (he : s.pst.entries = []) : s.multFree = true := by
  simp [State.multFree, hd, he]

theorem not_multFree {s : State} (h : s.dev = .run ∨ s.dev = .armed ∨ s.pst.entries ≠ []) : s.multFree = false := by
  rcases h with h | h | h <;> simp [State.multFree, h]

theorem multWrite_same {s : State} {m : Nat} (hf : s.multFree = true) (h : m < 16 ∨ 20 < m ∨ m = s.fld .epcSrc 0 EPC_SRC_MULT) :
    multWrite m s = s := by
  unfold multWrite
  rcases h with h | h | h <;> simp [h, hf]

theorem multWrite_change {s : State} {m : Nat} (hf : s.multFree = true) (h16 : 16 ≤ m) (h20 : m ≤ 20)
    (h : m ≠ s.fld .epcSrc 0 EPC_SRC_MULT) : multWrite m s = s.changeMult m := by
  obtain ⟨r, hr⟩ := (clearTabs_changes ((s.put .epcSrc 0 EPC_SRC_MULT m).put .epcSrc 0 EPC_SRCSTAT_PLL_LOCK 0)).1
  have hrange : (decide (m < 16) || decide (20 < m)) = false := by simp [h16, h20]
  have hepc : (s.putMult m).epc = s.epc := by rw [State.putMult, hr]; rfl
  rw [multWrite, hrange, hf, State.changeMult, ← hepc]
  simp only [Bool.false_eq_true, Bool.not_true, if_false, if_neg h]
  rfl

theorem multWrite_refused {s : State} {m : Nat} (hf : s.multFree = false) (h16 : 16 ≤ m) (h20 : m ≤ 20) :
    multWrite m s = s.raiseOpen .epcSrc 0 7 1 := by
  have hrange : (decide (m < 16) || decide (20 < m)) = false := by simp [h16, h20]
  rw [multWrite, hrange, hf]
  rfl

/-- The words that a change of MULT writes. -/
theorem putMult_changes (s : State) (m : Nat) :
    (∃ r, s.putMult m = { s with regs := r }) ∧ RegsBut ([0x2040, 0x2044] ++ bintabOffs) s (s.putMult m)
      ∧ (s.putMult m).rd 0x2040 = (s.put .epcSrc 0 EPC_SRC_MULT m).rd 0x2040
      ∧ (s.putMult m).flag .epcSrc 0 EPC_SRCSTAT_PLL_LOCK = false := by
  obtain ⟨⟨r, hr⟩, hrd⟩ := clearTabs_changes ((s.put .epcSrc 0 EPC_SRC_MULT m).put .epcSrc 0 EPC_SRCSTAT_PLL_LOCK 0)
  have hunlock : (s.putMult m).fld .epcSrc 0 EPC_SRCSTAT_PLL_LOCK = 0 :=
    (fld_congr (hrd 0x2044 (by decide))).trans (fld_put_same _ _ _ _ 0 (by decide) (by decide))
  refine ⟨⟨r, hr⟩, fun o ho => ?_, ?_, ?_⟩
  · rw [List.mem_append, List.mem_cons, List.mem_singleton, not_or, not_or] at ho
    obtain ⟨⟨h40, h44⟩, ho⟩ := ho
    exact (hrd o ho).trans ((rd_put_other _ _ h44).trans (rd_put_other _ _ h40))
  · exact (hrd _ (by decide)).trans (rd_put_other _ _ (by decide))
  · rw [State.flag, hunlock]
    rfl

/-- No word of the TMUs or of the clock sources is a sequencer's status word. -/
theorem psqStat_not_mem_bintabOffs (n : Nat) : baseOf .psq n + 0x14 ∉ bintabOffs := by
  intro h
  obtain ⟨t, ht, he⟩ := List.mem_map.mp h
  have := List.mem_range.mp ht
  simp only [fldOff, baseOf, TMU_STAT_BINTAB_VALID] at he
  split at he <;> omega

/-- A command that only reports on a page ends with what it reported. -/
theorem ReportsOn.done {page : Nat} {s u : State} (hs : Steady s) (hp : page % 0x1000 = 0) (h : ReportsOn page s u) :
    Machine.done u = .next { u with sig := [] } ∧ Reported [page] [] s { u with sig := [] }
      ∧ { u with sig := [] } = { s with regs := u.regs, hif := u.hif, faults := u.faults, evr := u.evr, free := u.free } := by
  refine ⟨done_of_steady hs (by rw [h.frame]; exact hs.1) (by rw [h.frame]) fun n _ => ?_, ⟨fun o ho => ?_, h.faults, h.hif⟩, ?_⟩
  · exact h.rd _ (psqStat_ne_intStat hp n) (psqStat_not_mem_pbaOffs n) (psqStat_not_mem_evrOffs n)
  · simp only [List.map_cons, List.map_nil, List.append_nil, List.cons_append, List.nil_append, List.mem_cons, List.mem_append, not_or] at ho
    exact h.rd o ho.1 ho.2.1 ho.2.2
  · have hsig : s.sig = [] := hs.2.1
    rw [← hsig]
    conv_lhs => rw [h.frame]

section
variable {s : State} (hs : Serving s)
include hs

/-- MULT is written where it may change (R84). -/
theorem done_multWrite_free (v : Nat) (hd : s.dev = .ready) (he : s.pst.entries = []) :
    ∃ t, exec (.multWrite v) s = .next t
      ∧ (v % 32 < 16 ∨ 20 < v % 32 ∨ v % 32 = s.fld .epcSrc 0 EPC_SRC_MULT → t = s)
      ∧ (16 ≤ v % 32 → v % 32 ≤ 20 → v % 32 ≠ s.fld .epcSrc 0 EPC_SRC_MULT →
          t.fld .epcSrc 0 EPC_SRC_MULT = v % 32 ∧ t.epc.valid = false ∧ t.epc.relocking = true
            ∧ t.flag .epcSrc 0 EPC_SRCSTAT_PLL_LOCK = false ∧ ∀ u < 16, t.flag .tmu u TMU_STAT_BINTAB_VALID = false)
      ∧ t.epc.f = s.epc.f ∧ t.epc.p = s.epc.p
      ∧ (RegsBut ([0x2040, 0x2044] ++ (List.range 16).map fun u => fldOff .tmu u TMU_STAT_BINTAB_VALID 0) s t)
      ∧ t = { s with regs := t.regs, epc := { s.epc with valid := t.epc.valid, relocking := t.epc.relocking } } := by
  have hf := multFree_of_ready hd he
  show ∃ t, done (s.asHostOn .epcSrc 0 (multWrite (v % 32))) = .next t ∧ _
  rw [asHostOn_of_open hs.2 rfl]
  by_cases h : v % 32 < 16 ∨ 20 < v % 32 ∨ v % 32 = s.fld .epcSrc 0 EPC_SRC_MULT
  · rw [multWrite_same hf h]
    exact ⟨s, done_self hs.1, fun _ => rfl, fun h1 h2 h3 => absurd h (by omega), rfl, rfl, fun _ _ => rfl, rfl⟩
  · simp only [not_or, not_lt] at h
    obtain ⟨h16, h20, hne⟩ := h
    obtain ⟨⟨r, hr⟩, hrd, hmult, hlock⟩ := putMult_changes s (v % 32)
    have htabs : ∀ u < 16, (s.putMult (v % 32)).flag .tmu u TMU_STAT_BINTAB_VALID = false := fun u hu => flag_clearTabs _ hu
    have hval : (s.putMult (v % 32)).fld .epcSrc 0 EPC_SRC_MULT = v % 32 :=
      (fld_congr hmult).trans ((fld_put_same s _ _ _ _ (by decide) (by decide)).trans (Nat.mod_eq_of_lt (Nat.mod_lt v (by decide))))
    have hstat : ∀ n < 8, (s.putMult (v % 32)).rd (baseOf .psq n + 0x14) = s.rd (baseOf .psq n + 0x14) := fun n _ =>
      hrd _ (List.not_mem_append (by simp only [baseOf, List.mem_cons, List.not_mem_nil, or_false]; omega) (psqStat_not_mem_bintabOffs n))
    rw [multWrite_change hf h16 h20 hne, State.changeMult]
    generalize s.putMult (v % 32) = w at *
    subst hr
    exact ⟨_, done_quiet hs.1 rfl rfl rfl hstat, fun h => absurd h (by omega), fun _ _ _ => ⟨hval, rfl, rfl, hlock, htabs⟩, rfl, rfl, hrd, rfl⟩

/-- A write of MULT that may not change it now only raises class 7 (R84). -/
theorem done_multWrite_refused (v : Nat) (h : s.dev = .run ∨ s.dev = .armed ∨ s.pst.entries ≠ []) (h16 : 16 ≤ v % 32) (h20 : v % 32 ≤ 20) :
    ∃ t, exec (.multWrite v) s = .next t
      ∧ t.fld .epcSrc 0 EPC_SRC_MULT = s.fld .epcSrc 0 EPC_SRC_MULT
      ∧ t.epc = s.epc
      ∧ Raised 0x2000 7 1 s t
      ∧ Reported [0x2000] [] s t
      ∧ (t = { s with regs := t.regs, hif := t.hif, faults := t.faults, evr := t.evr, free := t.free }) := by
  have hr : ReportsOn 0x2000 s (s.raiseOpen .epcSrc 0 7 1) := .raiseOpen s .epcSrc 0 7 (by decide)
  have hra : Raised 0x2000 7 1 s (s.raiseOpen .epcSrc 0 7 1) := raised_raiseOpen s .epcSrc 0 7 (by decide)
  show ∃ t, done (s.asHostOn .epcSrc 0 (multWrite (v % 32))) = .next t ∧ _
  rw [asHostOn_of_open hs.2 rfl, multWrite_refused (not_multFree h) h16 h20]
  generalize s.raiseOpen .epcSrc 0 7 1 = u at *
  obtain ⟨hdone, hrep, hframe⟩ := hr.done hs.1 rfl
  have hepc : u.epc = s.epc := by rw [hr.frame]
  exact ⟨_, hdone, fld_congr (hr.rd 0x2040 (by decide) (by decide) (by decide)), hepc, hra, hrep, hframe⟩

end

/-! ### The PLL locks again -/

/-- What a calibration of TMUs changes: registers at their status words, and the units. -/
structure TmusTaken (s u : State) : Prop where
  frame : ∃ r m, u = { s with regs := r, tmus := m }
  rd : RegsBut ((List.range 16).map fun u => baseOf .tmu u + 4) s u

/-- The device takes a TMU (R432, R433). -/
theorem TmusTaken.holdTmu {s u : State} (h : TmusTaken s u) {t : Nat} (ht : t < 16) (owner : Nat) : TmusTaken s (u.holdTmu t owner) where
  frame := by
    obtain ⟨r, m, rfl⟩ := h.frame
    exact ⟨_, _, rfl⟩
  rd o ho := by
    have hne : o ≠ baseOf .tmu t + 4 := fun he => ho (he ▸ List.mem_map.mpr ⟨t, List.mem_range.mpr ht, rfl⟩)
    exact (rd_put_other (k := .tmu) (i := t) (f := TMU_STAT_OWNER) _ owner hne).trans
      ((rd_put_other (k := .tmu) (i := t) (f := TMU_STAT_STATE) _ 4 hne).trans (h.rd o ho))

theorem tmusTaken_calAllTmus (s : State) : TmusTaken s s.calAllTmus := by
  refine foldl_of_inv (I := TmusTaken s) (fun u t ht h => ?_) ⟨⟨_, _, rfl⟩, fun _ _ => rfl⟩
  split
  · exact h
  · exact h.holdTmu (List.mem_range.mp ht) 2

/-- The PLL is locked again. -/
def State.lockPll (s : State) : State := { s.put .epcSrc 0 EPC_SRCSTAT_PLL_LOCK 1 with epc := { s.epc with relocking := false } }

theorem rd_lockPll_other (s : State) {o : Nat} (h : o ≠ 0x2044) : s.lockPll.rd o = s.rd o :=
  rd_put_other s (k := .epcSrc) (i := 0) (f := EPC_SRCSTAT_PLL_LOCK) 1 h

theorem flag_lockPll (s : State) : s.lockPll.flag .epcSrc 0 EPC_SRCSTAT_PLL_LOCK = true := by
  have h : s.lockPll.fld .epcSrc 0 EPC_SRCSTAT_PLL_LOCK = 1 := fld_put_same s .epcSrc 0 EPC_SRCSTAT_PLL_LOCK 1 (by decide) (by decide)
  rw [State.flag, h]
  rfl

theorem pllRelockDone_of_relocking {s : State} (h : s.epc.relocking = true) : pllRelockDone s = s.lockPll.calAllTmus := if_pos h

theorem psqStat_not_mem_tmuStats (n : Nat) : baseOf .psq n + 0x14 ∉ (List.range 16).map fun u => baseOf .tmu u + 4 :=
  psqStat_not_mem_bintabOffs n

/-- The seed as it is stored: clipped, and the clip noted (R98). -/
theorem setSeed_shows (s : State) {v : Nat} (hv : v < 8192) :
    (s.setSeed v).fld .epcCtl 0 EPC_SKEW_SEED_SEED_PS = min 7000 v
      ∧ (7000 < v → (s.setSeed v).flag .epcCtl 0 EPC_SKEW_SEED_CLIPPED = true)
      ∧ (v ≤ 7000 → (s.setSeed v).flag .epcCtl 0 EPC_SKEW_SEED_CLIPPED = s.flag .epcCtl 0 EPC_SKEW_SEED_CLIPPED)
      ∧ RegsBut [0x10064, 0x10068] s (s.setSeed v) ∧ s.setSeed v = { s with regs := (s.setSeed v).regs } := by
  have hseed : ∀ w o, o ≠ 0x10064 → (s.put .epcCtl 0 EPC_SKEW_SEED_SEED_PS w).rd o = s.rd o := fun w _ ho => rd_put_other s w ho
  have hval : ∀ w, (s.put .epcCtl 0 EPC_SKEW_SEED_SEED_PS w).fld .epcCtl 0 EPC_SKEW_SEED_SEED_PS = w % 8192 := fun w =>
    fld_put_same s _ _ _ w (by decide) (by decide)
  unfold State.setSeed
  split
  · next h =>
    have hclip := fld_put_same (s.put .epcCtl 0 EPC_SKEW_SEED_SEED_PS 7000) .epcCtl 0 EPC_SKEW_SEED_CLIPPED 1 (by decide) (by decide)
    refine ⟨?_, fun _ => ?_, fun hle => absurd h (Nat.not_lt.mpr hle), fun o ho => ?_, rfl⟩
    · rw [fld_put_other _ _ (by decide) (by decide) (by decide) (by decide), hval]
      omega
    · rw [State.flag, hclip]
      rfl
    · rw [List.mem_cons, List.mem_singleton, not_or] at ho
      exact (rd_put_other _ _ ho.2).trans (hseed _ o ho.1)
  · next h =>
    refine ⟨?_, fun hgt => absurd hgt h, fun _ => flag_congr (hseed v _ (by decide)), fun o ho => ?_, rfl⟩
    · rw [hval]
      omega
    · exact hseed v o (List.ne_of_not_mem_cons ho)

section
variable {s : State} (hs : Serving s)
include hs

/-- The relock that follows a change of MULT sets PLL_LOCK, and every TMU the device may take is calibrated (R84, R432). -/
theorem done_pllRelockDone (h : s.epc.relocking = true) :
    ∃ t, exec .pllRelockDone s = .next t
      ∧ t.flag .epcSrc 0 EPC_SRCSTAT_PLL_LOCK = true
      ∧ t.epc = { s.epc with relocking := false }
      ∧ (RegsBut ([0x2044] ++ (List.range 16).map fun u => baseOf .tmu u + 4) s t)
      ∧ t = { s with regs := t.regs, epc := t.epc, tmus := t.tmus } := by
  obtain ⟨⟨r, m, hframe⟩, hrd⟩ := tmusTaken_calAllTmus s.lockPll
  have hall : RegsBut ([0x2044] ++ (List.range 16).map fun u => baseOf .tmu u + 4) s s.lockPll.calAllTmus := fun o ho => by
    rw [List.mem_append, List.mem_singleton, not_or] at ho
    exact (hrd o ho.2).trans (rd_lockPll_other s ho.1)
  have hlock := (flag_congr (hrd 0x2044 (by decide))).trans (flag_lockPll s)
  have hstat : ∀ n < 8, s.lockPll.calAllTmus.rd (baseOf .psq n + 0x14) = s.rd (baseOf .psq n + 0x14) := fun n _ =>
    hall _ (List.not_mem_append (by rw [List.mem_singleton]; exact psqStat_ne_of_lt (by decide) n) (psqStat_not_mem_tmuStats n))
  show ∃ t, done (pllRelockDone s) = .next t ∧ _
  rw [pllRelockDone_of_relocking h]
  generalize s.lockPll.calAllTmus = u at *
  subst hframe
  exact ⟨_, done_quiet hs.1 rfl rfl rfl hstat, hlock, rfl, hall, rfl⟩

/-! ### The frame length and the seed -/

/-- LEN takes a value of 100 to 3,200 while the epoch is invalid (R88). -/
theorem done_frameLenWrite (v : Nat) :
    ∃ t, exec (.frameLenWrite v) s = .next t
      ∧ (t.fld .epcCtl 0 EPC_FRAME_LEN = if s.epc.valid || v < 100 || 3200 < v then s.fld .epcCtl 0 EPC_FRAME_LEN else v)
      ∧ RegsBut [0x10040] s t
      ∧ t = { s with regs := t.regs } := by
  show ∃ t, done (s.asHostOn .epcCtl 0 (frameLenWrite v)) = .next t ∧ _
  rw [asHostOn_of_open hs.2 rfl, frameLenWrite]
  split
  · exact ⟨s, done_self hs.1, rfl, fun _ _ => rfl, rfl⟩
  · next h =>
    simp only [Bool.or_eq_true, decide_eq_true_eq, not_or, not_lt] at h
    have hother : ∀ o, o ≠ 0x10040 → (s.put .epcCtl 0 EPC_FRAME_LEN v).rd o = s.rd o := fun _ ho => rd_put_other s v ho
    refine ⟨_, done_quiet hs.1 rfl rfl rfl fun n _ => hother _ (psqStat_ne_of_lt (by decide) n), ?_,
      fun o ho => hother o (List.ne_of_not_mem_cons ho), rfl⟩
    exact (fld_put_same s _ _ _ _ (by decide) (by decide)).trans (Nat.mod_eq_of_lt (by show v < 4096; omega))

/-- A write of the seed stores it, clipped at 7,000 (R98). -/
theorem done_seedPsWrite (v : Nat) :
    ∃ t, exec (.seedPsWrite v) s = .next t
      ∧ t.fld .epcCtl 0 EPC_SKEW_SEED_SEED_PS = min 7000 (v % 8192)
      ∧ (7000 < v % 8192 → t.flag .epcCtl 0 EPC_SKEW_SEED_CLIPPED = true)
      ∧ (v % 8192 ≤ 7000 → t.flag .epcCtl 0 EPC_SKEW_SEED_CLIPPED = s.flag .epcCtl 0 EPC_SKEW_SEED_CLIPPED)
      ∧ RegsBut [0x10064, 0x10068] s t
      ∧ t = { s with regs := t.regs } := by
  obtain ⟨hval, hset, hkeep, hrd, hframe⟩ := setSeed_shows s (Nat.mod_lt v (by decide : 0 < 8192))
  show ∃ t, done (s.asHostOn .epcCtl 0 fun s => s.setSeed (v % 0x2000)) = .next t ∧ _
  rw [asHostOn_of_open hs.2 rfl]
  generalize s.setSeed (v % 8192) = u at *
  refine ⟨u, done_quiet hs.1 (by rw [hframe]) (by rw [hframe]) (by rw [hframe]) fun n _ => hrd _ ?_, hval, hset, hkeep, hrd, hframe⟩
  simp only [baseOf, List.mem_cons, List.not_mem_nil, or_false]
  omega

end

/-- Settles O10: MULT changes only where it is free to, its relock ends the change, and LEN and the seed take what their ranges admit. -/
theorem mclkAndTheFrameLength : Obligations.MclkAndTheFrameLength := by
  unfold Obligations.MclkAndTheFrameLength
  intro s hs
  exact ⟨done_multWrite_free hs, done_multWrite_refused hs, done_pllRelockDone hs, done_frameLenWrite hs, done_seedPsWrite hs⟩

end Sys2Proof.Machine

namespace Sys2Proof.Machine
open Sys2Proof Reg

/-! ## What the Piste's entries and the SYNC lanes do (O13, O15) -/

/-! ### Single bits of a field -/

/-- A bit of a field is a bit of its word. -/
theorem testBit_bitsOf (w : Word) (hi lo i : Nat) : (bitsOf w hi lo).testBit i = (decide (i < hi + 1 - lo) && w.getLsbD (lo + i)) := by
  rw [bitsOf, Nat.testBit_mod_two_pow, Nat.testBit_shiftRight, BitVec.getLsbD]

/-- A field of eight bits with one of them replaced holds the new bit. -/
theorem bitAt_putBit (w : Word) {n : Nat} (hn : n < 8) (b : Bool) : bitAt (bitsOf (putBits w n n (bit b)) 7 0) n = b := by
  have h : bitsOf (putBits w n n (bit b)) n n = bit b % 2 ^ (n + 1 - n) := bitsOf_putBits_same w n n _ (by omega) le_rfl
  have ht := congrArg (·.testBit 0) h
  simp only [testBit_bitsOf, Nat.add_sub_cancel_left, Nat.add_zero] at ht
  rw [bitAt, testBit_bitsOf, Nat.zero_add]
  cases b <;> simpa [hn, bit] using ht

/-! ### What they change -/

/-- What an entry that executes, or an edge on a lane, changes: registers and messages, the Piste's table and log, the sequencers' stop
requests, and selections of calibration. -/
structure Performs (offs : List Nat) (s u : State) : Prop where
  frame : u = { s with
    regs := u.regs, hif := { s.hif with sent := u.hif.sent }, pst := u.pst, psqs := u.psqs, cal := u.cal, sig := u.sig }
  rd : RegsBut (offs ++ pbaOffs) s u

namespace Performs
variable {offs : List Nat}

theorem refl (s : State) : Performs offs s s := ⟨rfl, fun _ _ => rfl⟩

theorem trans {s t u : State} (h1 : Performs offs s t) (h2 : Performs offs t u) : Performs offs s u where
  frame := by rw [h2.frame, h1.frame]
  rd o ho := (h2.rd o ho).trans (h1.rd o ho)

theorem mono {offs' : List Nat} {s u : State} (h : Performs offs s u) (hsub : offs ⊆ offs') : Performs offs' s u where
  frame := h.frame
  rd o ho := h.rd o fun hm => ho (List.mem_append.mpr ((List.mem_append.mp hm).imp_left fun hm => hsub hm))

theorem putAt (s : State) {k : PageKind} {i : Nat} {f : Fld} {j : Nat} (v : Nat) (h : fldOff k i f j ∈ offs) :
    Performs offs s (s.putAt k i f j v) :=
  ⟨rfl, fun _ ho => rd_putAt_other s v fun he => ho (List.mem_append_left _ (he ▸ h))⟩

theorem put (s : State) {k : PageKind} {i : Nat} {f : Fld} (v : Nat) (h : fldOff k i f 0 ∈ offs) : Performs offs s (s.put k i f v) :=
  putAt s v h

theorem of_interrupts {s u : State} (h : Interrupts offs s u) : Performs offs s u where
  frame := by
    have hp : u.pst = s.pst := by rw [h.frame]
    have hq : u.psqs = s.psqs := by rw [h.frame]
    have hc : u.cal = s.cal := by rw [h.frame]
    rw [hp, hq, hc]
    exact h.frame
  rd := h.rd

theorem int (s : State) (k : PageKind) (i b : Nat) : Performs [pageBase k i + 0x18] s (s.int k i b) := of_interrupts (.intSet s _ _)

theorem setCal (s : State) (r : Nat) (x : CalRec) : Performs offs s (s.setCal r x) := ⟨rfl, fun _ _ => rfl⟩

theorem foldl {α : Type} {f : State → α → State} (h : ∀ s a, Performs offs s (f s a)) (l : List α) (s : State) :
    Performs offs s (l.foldl f s) :=
  foldl_of_step (P := Performs offs s) (fun _ a hu => hu.trans (h _ a)) l (refl s)

/-- Such a command ends with what it did. -/
theorem done {s u : State} (hs : Steady s) (h : Performs offs s u) (hoffs : ∀ n < 8, baseOf .psq n + 0x14 ∉ offs) :
    Machine.done u = .next { u with sig := [] } ∧ { u with sig := [] } = { s with
      regs := u.regs, hif := { s.hif with sent := u.hif.sent }, pst := u.pst, psqs := u.psqs, cal := u.cal } := by
  have hstat : ∀ n < 8, u.rd (baseOf .psq n + 0x14) = s.rd (baseOf .psq n + 0x14) := fun n hn =>
    h.rd _ (List.not_mem_append (hoffs n hn) (psqStat_not_mem_pbaOffs n))
  refine ⟨done_of_steady hs (by rw [h.frame]; exact hs.1) (by rw [h.frame]) hstat, ?_⟩
  have hsig : s.sig = [] := hs.2.1
  rw [← hsig]
  conv_lhs => rw [h.frame]

end Performs

/-! ### Stop requests -/

/-- What one element of a list without repetition brings about once, and the others leave, holds after a fold. -/
theorem foldl_of_once {α : Type} {I J : State → Prop} {f : State → α → State} {l : List α} {a : α} (hl : l.Nodup) (ha : a ∈ l)
    (hI : ∀ s, ∀ b ∈ l, b ≠ a → I s → I (f s b)) (hmake : ∀ s, I s → J (f s a)) (hJ : ∀ s, ∀ b ∈ l, b ≠ a → J s → J (f s b)) {s : State}
    (hs : I s) : J (l.foldl f s) := by
  obtain ⟨l₁, l₂, rfl⟩ := List.append_of_mem ha
  have hnot := (List.nodup_middle.mp hl).notMem
  rw [List.mem_append, not_or] at hnot
  rw [List.foldl_append, List.foldl_cons]
  refine foldl_of_inv (fun s b hb => hJ s b (by simp [hb]) fun he => hnot.2 (he ▸ hb)) (hmake _ ?_)
  exact foldl_of_inv (fun s b hb => hI s b (by simp [hb]) fun he => hnot.1 (he ▸ hb)) hs

/-- The position at which a stop request reaches a sequencer (R210). -/
def State.stopPos (s : State) (n cause : Nat) : Nat :=
  if cause = 5 then max ((s.psq n).now + bit (s.psqBurst n) * 24) (s.fromT0 n + 24).toNat else s.psqNow n

/-- A sequencer after a stop request. -/
def State.stopped (s : State) (n cause lane : Nat) : PsqSt :=
  if s.psqRunning n then { s.psq n with stops := (s.psq n).stops ++ [⟨cause, lane, s.stopPos n cause⟩] } else s.psq n

/-- Only sequencers differ. -/
abbrev PsqsOnly (s u : State) : Prop := ∃ p, u = { s with psqs := p }

theorem psqsOnly_requestStop {s u : State} (h : PsqsOnly s u) (n cause lane : Nat) : PsqsOnly s (u.requestStop n cause lane) := by
  obtain ⟨p, rfl⟩ := h
  unfold State.requestStop
  simp only
  split <;> exact ⟨_, rfl⟩

theorem psq_requestStop_other (s : State) {n m : Nat} (cause lane : Nat) (h : m ≠ n) : (s.requestStop n cause lane).psq m = s.psq m := by
  unfold State.requestStop
  simp only
  split
  · exact (psq_setPsq _ _ _ _).trans (if_neg h)
  · rfl

/-- A stop request reads of the other sequencers nothing. -/
theorem psq_requestStop_same {s u : State} {n : Nat} (h : PsqsOnly s u) (hn : u.psq n = s.psq n) (cause lane : Nat) :
    (u.requestStop n cause lane).psq n = s.stopped n cause lane := by
  have hrun : u.psqRunning n = s.psqRunning n := by
    obtain ⟨p, rfl⟩ := h
    rfl
  have hpos : (if cause = 5 then max ((u.psq n).now + bit (u.psqBurst n) * 24) (u.fromT0 n + 24).toNat else u.psqNow n)
      = s.stopPos n cause := by
    have hcyc : u.cyclesTo = s.cyclesTo ∧ u.psqBurst n = s.psqBurst n := by
      obtain ⟨p, rfl⟩ := h
      exact ⟨rfl, rfl⟩
    simp only [State.stopPos, State.psqNow, State.sinceT0, State.fromT0, hn, hcyc]
  simp only [State.requestStop, State.stopped, hpos, hrun]
  split
  · rw [psq_setPsq_same, hn]
  · exact hn

section
variable {s : State} {f : State → Nat → State} {mask : Nat → Bool} {cause lane : Nat}
  (hf : ∀ u, PsqsOnly s u → ∀ n, f u n = if mask n then u.requestStop n cause lane else u)
include hf

theorem psqsOnly_step {u : State} (hu : PsqsOnly s u) (n : Nat) : PsqsOnly s (f u n) := by
  rw [hf u hu]
  split
  · exact psqsOnly_requestStop hu n cause lane
  · exact hu

theorem psqsOnly_stops : PsqsOnly s ((List.range 8).foldl f s) :=
  foldl_of_inv (I := PsqsOnly s) (fun _ n _ hu => psqsOnly_step hf hu n) ⟨s.psqs, rfl⟩

/-- A stop request delivered to the masked sequencers reaches each of them once. -/
theorem psq_stops {n : Nat} (hn : n < 8) :
    ((List.range 8).foldl f s).psq n = if mask n then s.stopped n cause lane else s.psq n := by
  have hother : ∀ u m, PsqsOnly s u → m ≠ n → (f u m).psq n = u.psq n := fun u m hu hm => by
    rw [hf u hu]
    split
    · exact psq_requestStop_other u cause lane hm.symm
    · rfl
  refine (foldl_of_once (I := fun u => PsqsOnly s u ∧ u.psq n = s.psq n)
    (J := fun u => PsqsOnly s u ∧ u.psq n = if mask n then s.stopped n cause lane else s.psq n) List.nodup_range (List.mem_range.mpr hn)
    (fun u m _ hm hu => ⟨psqsOnly_step hf hu.1 m, (hother u m hu.1 hm).trans hu.2⟩) (fun u hu => ⟨psqsOnly_step hf hu.1 n, ?_⟩)
    (fun u m _ hm hu => ⟨psqsOnly_step hf hu.1 m, (hother u m hu.1 hm).trans hu.2⟩) ⟨⟨_, rfl⟩, rfl⟩).2
  rw [hf u hu.1]
  split
  · exact psq_requestStop_same hu.1 hu.2 cause lane
  · exact hu.2

end

/-! ### The lanes' status -/

theorem rd_setLevel_other (s : State) (n : Nat) (b : Bool) {o : Nat} (h : o ≠ 0x100E0) : (s.setLevel n b).rd o = s.rd o :=
  rd_put_other s _ h

theorem rd_setDriving_other (s : State) (n : Nat) (b : Bool) {o : Nat} (h : o ≠ 0x100E0) : (s.setDriving n b).rd o = s.rd o :=
  rd_put_other s _ h

theorem bitAt_setLevel (s : State) {n : Nat} (hn : n < 8) (b : Bool) : bitAt ((s.setLevel n b).fld .epcCtl 0 SYNC_STAT_LEVEL) n = b := by
  rw [State.setLevel, fld_put_same _ _ _ _ _ (by decide) (by decide)]
  exact (congrArg (bitAt · n) (Nat.mod_eq_of_lt (bitsOf_lt _ 7 0))).trans (bitAt_putBit _ hn b)

theorem bitAt_setDriving (s : State) {n : Nat} (hn : n < 8) (b : Bool) :
    bitAt ((s.setDriving n b).fld .epcCtl 0 SYNC_STAT_DRIVING) n = b := by
  rw [State.setDriving, fld_put_same _ _ _ _ _ (by decide) (by decide)]
  exact (congrArg (bitAt · n) (Nat.mod_eq_of_lt (bitsOf_lt _ 7 0))).trans (bitAt_putBit _ hn b)

/-- LEVEL and DRIVING are fields of their own. -/
theorem fld_setLevel_driving (s : State) (n : Nat) (b : Bool) :
    (s.setLevel n b).fld .epcCtl 0 SYNC_STAT_DRIVING = s.fld .epcCtl 0 SYNC_STAT_DRIVING :=
  fld_put_other s _ (by decide) (by decide) (by decide) (by decide)

end Sys2Proof.Machine

namespace Sys2Proof.Machine
open Sys2Proof Reg

/-! ## An edge on a SYNC lane (O13) -/

/-- An array's field depends on its word. -/
theorem fldAt_congr {s u : State} {k : PageKind} {i j : Nat} {f : Fld} (h : u.rd (fldOff k i f j) = s.rd (fldOff k i f j)) :
    u.fldAt k i f j = s.fldAt k i f j := by
  simp only [State.fldAt, h]

/-- A lane's role is a field of its configuration. -/
theorem laneRole_congr {s u : State} {l : Nat} (h : u.rd (0x10080 + 4 * l) = s.rd (0x10080 + 4 * l)) : u.laneRole l = s.laneRole l := by
  have hw : fldOff .epcCtl 0 SYNC_CFG_ROLE l = 0x10080 + 4 * l := by simp only [fldOff, baseOf, SYNC_CFG_ROLE]; omega
  have hr : u.fldAt .epcCtl 0 SYNC_CFG_ROLE l = s.fldAt .epcCtl 0 SYNC_CFG_ROLE l := fldAt_congr (by rw [hw, h])
  rw [State.laneRole, State.laneRole, hr]

/-- A stop request's position follows from the sequencer, the epoch and the frame's length. -/
theorem stopped_congr {s u : State} {n : Nat} (hq : u.psq n = s.psq n) (he : u.epc = s.epc) (hlen : u.rd 0x10040 = s.rd 0x10040)
    (hmult : u.rd 0x2040 = s.rd 0x2040) (hstat : u.rd (baseOf .psq n + 0x14) = s.rd (baseOf .psq n + 0x14)) (cause lane : Nat) :
    u.stopped n cause lane = s.stopped n cause lane := by
  have hframe : u.frameN = s.frameN := by
    rw [State.frameN, State.frameN, fld_congr (k := .epcCtl) hlen, fld_congr (k := .epcSrc) hmult]
  have hstate : u.fld .psq n PSQ_STAT_RUNSTATE = s.fld .psq n PSQ_STAT_RUNSTATE := fld_congr hstat
  have hsince : u.fromT0 n = s.fromT0 n := by simp only [State.fromT0, State.cyclesTo, hq, he, hframe]
  have hpos : u.stopPos n cause = s.stopPos n cause := by
    simp only [State.stopPos, State.psqNow, State.sinceT0, State.psqBurst, hq, hsince, hstate]
  rw [State.stopped, State.stopped, State.psqRunning, State.psqRunning, hstate, hq, hpos]

/-- A lane's accepted assertion has raised its level and latched the position (R102). -/
def State.captured (s : State) (l : Nat) : State :=
  (((s.setLevel l true).putAt .epcCtl 0 SYNC_CAP_F_LO l (s.epc.f.toNat % 2 ^ 32)).putAt .epcCtl 0 SYNC_CAP_P l s.epc.p).putAt .epcCtl 0
    SYNC_CAP_F_HI l (s.epc.f.toNat / 2 ^ 32)

/-- And it has set the lane's cause. -/
def State.latched (s : State) (l : Nat) : State := (s.captured l).int .epcCtl 0 l

/-- The words that an edge on a lane writes. -/
abbrev edgeOffs (l : Nat) : List Nat := [0x10000 + 0x18, 0x100E0, 0x100A0 + 8 * l, 0x100A4 + 8 * l]

/-- A captured position is in words of its own. -/
theorem performs_captured (s : State) (l : Nat) : Performs [0x100E0, 0x100A0 + 8 * l, 0x100A4 + 8 * l] s (s.captured l) :=
  (((Performs.put s _ (by simp [fldOff, baseOf, SYNC_STAT_LEVEL])).trans
    (.putAt _ _ (by simp [fldOff, baseOf, SYNC_CAP_F_LO]; omega))).trans
    (.putAt _ _ (by simp [fldOff, baseOf, SYNC_CAP_P]; omega))).trans
    (.putAt _ _ (by simp [fldOff, baseOf, SYNC_CAP_F_HI]; omega))

theorem performs_latched (s : State) (l : Nat) : Performs (edgeOffs l) s (s.latched l) :=
  ((performs_captured s l).mono (List.subset_cons_self _ _)).trans
    ((Performs.int _ .epcCtl 0 l).mono (List.cons_subset_cons _ (List.nil_subset _)))

/-- A lane's configuration is not among the words that an edge writes. -/
theorem cfg_not_mem_edgeOffs {l : Nat} (hl : l < 8) : 0x10080 + 4 * l ∉ edgeOffs l ++ pbaOffs := by
  simp only [pbaOffs, List.mem_append, List.mem_cons, List.not_mem_nil, or_false]
  omega

/-- An edge's cause leaves the latched position. -/
theorem fldAt_int_cap (s : State) (l b : Nat) {f : Fld} (hf : f.off = 0xA0 ∨ f.off = 0xA4) :
    (s.int .epcCtl 0 b).fldAt .epcCtl 0 f l = s.fldAt .epcCtl 0 f l := by
  have hoff : fldOff .epcCtl 0 f l ≠ pageBase .epcCtl 0 + 0x18 ∧ fldOff .epcCtl 0 f l ∉ pbaOffs := by
    simp only [fldOff, baseOf, pageBase, pbaOffs, List.mem_cons, List.not_mem_nil, or_false]
    omega
  exact fldAt_congr (rd_intSet_other s _ hoff.1 hoff.2)

/-- The position that an edge latches. -/
theorem caps_latched (s : State) (l : Nat) :
    (s.latched l).fldAt .epcCtl 0 SYNC_CAP_P l = s.epc.p % 65536
      ∧ (s.latched l).fldAt .epcCtl 0 SYNC_CAP_F_LO l + 2 ^ 32 * (s.latched l).fldAt .epcCtl 0 SYNC_CAP_F_HI l = s.epc.f.toNat := by
  have hwords : fldOff .epcCtl 0 SYNC_CAP_F_LO l ≠ fldOff .epcCtl 0 SYNC_CAP_P l
      ∧ fldOff .epcCtl 0 SYNC_CAP_F_LO l ≠ fldOff .epcCtl 0 SYNC_CAP_F_HI l := by
    simp [fldOff, baseOf, SYNC_CAP_F_LO, SYNC_CAP_P, SYNC_CAP_F_HI]
  have hp : (s.latched l).fldAt .epcCtl 0 SYNC_CAP_P l = s.epc.p % 65536 :=
    (fldAt_int_cap _ _ _ (by decide)).trans ((fldAt_putAt_other _ _ (by decide) (by decide) (by decide) (.inr (.inr (by decide)))).trans
      (fldAt_putAt_same _ _ _ _ _ _ (by decide) (by decide)))
  have hlo : (s.latched l).fldAt .epcCtl 0 SYNC_CAP_F_LO l = s.epc.f.toNat % 2 ^ 32 := by
    refine (fldAt_int_cap _ _ _ (by decide)).trans ?_
    rw [State.captured, fldAt_putAt_other _ _ (by decide) (by decide) (by decide) (.inl hwords.2),
      fldAt_putAt_other _ _ (by decide) (by decide) (by decide) (.inl hwords.1), fldAt_putAt_same _ _ _ _ _ _ (by decide) (by decide)]
    exact Nat.mod_eq_of_lt (Nat.mod_lt _ (by decide))
  have hhi : (s.latched l).fldAt .epcCtl 0 SYNC_CAP_F_HI l = s.epc.f.toNat / 2 ^ 32 % 2 ^ 16 :=
    (fldAt_int_cap _ _ _ (by decide)).trans (fldAt_putAt_same _ _ _ _ _ _ (by decide) (by decide))
  refine ⟨hp, ?_⟩
  have hlt := s.epc.f.isLt
  rw [hlo, hhi]
  omega

/-- An edge's cause joins those set. -/
theorem intStat_latched (s : State) (l : Nat) : s.intStat 0x10000 ||| BitVec.ofNat 32 (2 ^ l) = (s.latched l).intStat 0x10000 := by
  have hkept : (s.captured l).rd 0x10018 = s.rd 0x10018 := (performs_captured s l).rd _ (by
    simp only [pbaOffs, List.mem_append, List.mem_cons, List.not_mem_nil, or_false]
    omega)
  have hset := rd_intSet_same (s.captured l) 0x10000 (BitVec.ofNat 32 (2 ^ l)) (by decide)
  exact (hset.trans (congrArg (· ||| _) hkept)).symm

/-- An edge leaves the sequencers until their stop requests. -/
theorem psq_latched (s : State) (l n : Nat) : (s.latched l).psq n = s.psq n := by
  rw [State.latched, int_eq_with]
  rfl

/-- And what a stop request would do to them. -/
theorem stopped_latched (s : State) {l n : Nat} (hl : l < 8) (hn : n < 8) (cause lane : Nat) :
    (s.latched l).stopped n cause lane = s.stopped n cause lane := by
  have hrd := (performs_latched s l).rd
  have he : (s.latched l).epc = s.epc := by rw [(performs_latched s l).frame]
  refine stopped_congr (psq_latched s l n) he (hrd _ ?_) (hrd _ ?_) (hrd _ ?_) cause lane <;>
  · simp only [baseOf, pbaOffs, List.mem_append, List.mem_cons, List.not_mem_nil, or_false]
    omega

/-- An accepted edge in role STOP or MARKER latches the position, and in role STOP the masked sequencers are asked to stop (R102). -/
theorem syncEdge_of_latching {s : State} {l : Fin 8} {w : Nat} (hw : s.fldAt .epcCtl 0 SYNC_CFG_FILTER l.val ≤ w)
    (hr : s.laneRole l.val = 1 ∨ s.laneRole l.val = 2) :
    syncEdge l w s = if s.laneRole l.val = 1 then (List.range 8).foldl (fun u q =>
        if bitAt (u.fldAt .epcCtl 0 SYNC_CFG_PSQ_MASK l.val) q then u.requestStop q 6 l.val else u) (s.latched l.val)
      else s.latched l.val := by
  have hfilter : (s.setLevel l true).fldAt .epcCtl 0 SYNC_CFG_FILTER l = s.fldAt .epcCtl 0 SYNC_CFG_FILTER l :=
    fldAt_congr (rd_setLevel_other s l true (by simp only [fldOff, baseOf, SYNC_CFG_FILTER]; omega))
  have hrole : (s.setLevel l true).laneRole l.val = s.laneRole l.val := laneRole_congr (rd_setLevel_other s l true (by omega))
  have hlat : (s.latched l.val).laneRole l.val = s.laneRole l.val := 
    laneRole_congr ((performs_latched s l).rd _ (cfg_not_mem_edgeOffs l.isLt))
  have h0 : s.laneRole l.val ≠ 0 := by omega
  have h3 : s.laneRole l.val ≠ 3 := by omega
  simp only [syncEdge, if_neg h0, hfilter, if_neg (Nat.not_lt.mpr hw), hrole, if_neg h3]
  change (if (s.latched l.val).laneRole l.val = 1 then _ else _) = _
  rw [hlat]
  rfl

/-- The stop requests that an edge delivers. -/
theorem stops_syncEdge {s : State} {l : Fin 8} {w : Nat} (hw : s.fldAt .epcCtl 0 SYNC_CFG_FILTER l.val ≤ w)
    (hr : s.laneRole l.val = 1 ∨ s.laneRole l.val = 2) :
    PsqsOnly (s.latched l) (syncEdge l w s) ∧ ∀ n < 8, (syncEdge l w s).psq n =
      if s.laneRole l.val = 1 ∧ bitAt (s.fldAt .epcCtl 0 SYNC_CFG_PSQ_MASK l.val) n = true then s.stopped n 6 l else s.psq n := by
  have hmask : ∀ u, PsqsOnly (s.latched l) u → ∀ q, (if bitAt (u.fldAt .epcCtl 0 SYNC_CFG_PSQ_MASK l.val) q then u.requestStop q 6 l.val else u)
      = if bitAt (s.fldAt .epcCtl 0 SYNC_CFG_PSQ_MASK l.val) q then u.requestStop q 6 l.val else u := by
    rintro u ⟨p, rfl⟩ q
    have hcfg : fldOff .epcCtl 0 SYNC_CFG_PSQ_MASK l.val = 0x10080 + 4 * l.val := by simp only [fldOff, baseOf, SYNC_CFG_PSQ_MASK]; omega
    have hkept : (s.latched l).fldAt .epcCtl 0 SYNC_CFG_PSQ_MASK l.val = s.fldAt .epcCtl 0 SYNC_CFG_PSQ_MASK l.val :=
      fldAt_congr (by rw [hcfg, (performs_latched s l).rd _ (cfg_not_mem_edgeOffs l.isLt)])
    rw [← hkept]
    rfl
  rw [syncEdge_of_latching hw hr]
  by_cases h1 : s.laneRole l.val = 1
  · rw [if_pos h1]
    refine ⟨psqsOnly_stops hmask, fun n hn => (psq_stops hmask hn).trans ?_⟩
    simp only [h1, true_and, stopped_latched s l.isLt hn, psq_latched]
  · rw [if_neg h1]
    exact ⟨⟨_, rfl⟩, fun n _ => by rw [if_neg fun h => h1 h.1, psq_latched]⟩

/-- The requests that a sequencer holds after a stop request other than the Piste's. -/
theorem stops_stopped (s : State) (n lane : Nat) {cause : Nat} (hc : cause ≠ 5) :
    (s.stopped n cause lane).stops = if s.psqRunning n = true then (s.psq n).stops ++ [⟨cause, lane, s.psqNow n⟩] else (s.psq n).stops := by
  rw [State.stopped, State.stopPos, if_neg hc]
  split <;> rfl

/-- A lane's pulse that ends releases the lane, whose level is then what another device holds (R103). -/
theorem syncPulseEnd_spec (s : State) (l : Fin 8) (h : Bool) :
    bitAt ((syncPulseEnd l h s).fld .epcCtl 0 SYNC_STAT_DRIVING) l.val = false
      ∧ (bitAt (s.fld .epcCtl 0 SYNC_STAT_DRIVING) l.val = true → bitAt ((syncPulseEnd l h s).fld .epcCtl 0 SYNC_STAT_LEVEL) l.val = h)
      ∧ RegsBut [0x100E0] s (syncPulseEnd l h s) ∧ syncPulseEnd l h s = { s with regs := (syncPulseEnd l h s).regs } := by
  unfold syncPulseEnd
  split
  · refine ⟨?_, fun _ => bitAt_setLevel _ l.isLt h, fun o ho => ?_, rfl⟩
    · rw [fld_setLevel_driving]
      exact bitAt_setDriving _ l.isLt false
    · have ho := List.ne_of_not_mem_cons ho
      rw [rd_setLevel_other _ _ _ ho, rd_setDriving_other _ _ _ ho]
  · next hd => exact ⟨Bool.eq_false_iff.mpr hd, fun ht => absurd ht hd, fun _ _ => rfl, rfl⟩

/-- An accepted edge writes the words of its lane, and besides the registers only the sequencers' stop requests. -/
theorem performs_syncEdge {s : State} {l : Fin 8} {w : Nat} (hw : s.fldAt .epcCtl 0 SYNC_CFG_FILTER l.val ≤ w)
    (hr : s.laneRole l.val = 1 ∨ s.laneRole l.val = 2) : Performs (edgeOffs l) s (syncEdge l w s) := by
  obtain ⟨p, hp⟩ := (stops_syncEdge hw hr).1
  rw [hp]
  exact (performs_latched s l).trans ⟨rfl, fun _ _ => rfl⟩

/-- What is performed with the Piste and the calibration as they were. -/
theorem frame_of_pst_of_cal {s t : State} (h : t = { s with
      regs := t.regs, hif := { s.hif with sent := t.hif.sent }, pst := t.pst, psqs := t.psqs, cal := t.cal })
    (hp : t.pst = s.pst) (hc : t.cal = s.cal) : t = { s with regs := t.regs, psqs := t.psqs, hif := { s.hif with sent := t.hif.sent } } := by
  rwa [hp, hc] at h

/-- Settles O13: the edge's writes and its cause first, then one pass of stop requests over the sequencers, each reached once. -/
theorem syncLanes : Obligations.SyncLanes := by
  unfold Obligations.SyncLanes
  intro s hs
  refine ⟨fun l w hw hr => ?_, fun l h => ?_⟩
  · obtain ⟨⟨p, hp⟩, hstops⟩ := stops_syncEdge hw hr
    have hperf := performs_syncEdge hw hr
    obtain ⟨hdone, hframe⟩ := hperf.done hs.1 (offs := edgeOffs l) fun n _ => by
      simp only [baseOf, List.mem_cons, List.not_mem_nil, or_false]
      omega
    obtain ⟨hcp, hcf⟩ := caps_latched s l
    have hword : ∀ o, (syncEdge l w s).rd o = (s.latched l).rd o := fun o => by rw [hp]; rfl
    have hcap : ∀ f, (syncEdge l w s).fldAt .epcCtl 0 f l = (s.latched l).fldAt .epcCtl 0 f l := fun f => fldAt_congr (hword _)
    refine ⟨_, hdone, (intStat_latched s l).trans (hword _).symm, (hcap _).trans hcp, ?_, fun n hn => ?_, hperf.rd, ?_⟩
    · refine Eq.trans ?_ hcf
      rw [← hcap, ← hcap]
      rfl
    · refine (congrArg PsqSt.stops (hstops n hn)).trans ?_
      rw [apply_ite PsqSt.stops, stops_stopped s n l.val (by decide), ← ite_and]
      simp only [and_assoc]
    · have hkept : (s.latched l).pst = s.pst ∧ (s.latched l).cal = s.cal := by rw [State.latched, int_eq_with]; exact ⟨rfl, rfl⟩
      have hsame : (syncEdge l w s).pst = (s.latched l).pst ∧ (syncEdge l w s).cal = (s.latched l).cal := by rw [hp]; exact ⟨rfl, rfl⟩
      exact frame_of_pst_of_cal hframe (hsame.1.trans hkept.1) (hsame.2.trans hkept.2)
  · obtain ⟨hdriving, hlevel, hrd, hframe⟩ := syncPulseEnd_spec s l h
    refine ⟨_, done_quiet hs.1 (by rw [hframe]) (by rw [hframe]) (by rw [hframe]) fun n hn => hrd _ ?_, hdriving, hlevel, hrd, hframe⟩
    simp only [baseOf, List.mem_singleton]
    omega

end Sys2Proof.Machine

namespace Sys2Proof.Machine
open Sys2Proof Reg

/-! ## A TMU is given back to a state that its status does not hold (O12)

The state that a TMU returns to after a measurement (`TmuSt.back`) is any number, while TMU_STAT.STATE has three bits. A device reaches only
states 0 to 7 there, but nothing that `Serving` says bounds the number, and the statement takes it modulo 16. -/

/-- The skew measurement holds TMU 15, whose state to return to is noted as 8. -/
def strayTmuReturn : State :=
  let s := { State.reset with dev := .ready, epc := { State.reset.epc with skewTmu := some 15 } }
  (s.setTmu 15 { TmuSt.idle with back := 8 }).put .tmu 15 TMU_STAT_STATE 4

theorem strayTmuReturn_serving : Serving strayTmuReturn :=
  serving_of (by decide +kernel) (by decide +kernel) (by decide +kernel) (by decide +kernel)

/-- The result of the measurement returns TMU 15 to state 0. -/
theorem wordAfter_skewMeasureDone_strayTmuReturn :
    bitsOf (wordAfter (exec (.skewMeasureDone (some 0)) strayTmuReturn) (fldOff .tmu 15 TMU_STAT_STATE 0)) 31 29 = 0 := by decide +kernel

/-- Refutes O12: the result of a skew measurement is said to return the TMU to the noted state modulo 16, but a noted state of 8 reads back
as 0 from the three bits of TMU_STAT.STATE. -/
theorem not_frameBoundaryAndSkew : ¬ Obligations.FrameBoundaryAndSkew := by
  unfold Obligations.FrameBoundaryAndSkew
  intro h
  obtain ⟨-, -, -, hresult⟩ := h strayTmuReturn strayTmuReturn_serving
  obtain ⟨t, ht, -, -, -, -, hback, -⟩ := hresult (some 0) (by decide +kernel) (by decide +kernel)
  have h8 : t.tmuState 15 = 8 := (hback 15 (by decide +kernel) (by decide +kernel)).trans (by decide +kernel)
  have h0 := wordAfter_skewMeasureDone_strayTmuReturn
  rw [ht] at h0
  exact absurd (h8.symm.trans h0) (by decide)

end Sys2Proof.Machine

namespace Sys2Proof.Machine
open Sys2Proof Reg

/-! ## Entries of the Piste that act (O15) -/

/-! ### The end of an entry -/

theorem pisteAct_of_took {s u : State} {a : Nat} {e : PstEntry} {f : PstEntry → State → State × PstEnd} {w : Word}
    (h : s.dueEntry a = some e) (hf : f e s = (u, .took w)) : s.pisteAct a f = u.retire e (if s.epc.source = .holdover then 2 else 0) w := by
  simp [State.pisteAct, h, hf]

theorem pisteAct_of_refused {s u : State} {a : Nat} {e : PstEntry} {f : PstEntry → State → State × PstEnd} {w : Word}
    (h : s.dueEntry a = some e) (hf : f e s = (u, .refused w)) : s.pisteAct a f = (u.retire e 1 w).int .pst 0 0 := by
  simp [State.pisteAct, h, hf]

/-- An entry that acted over `u` has left the table and stands in the log (R114). -/
structure EndsEntry (e : PstEntry) (status : Nat) (word : Word) (u t : State) : Prop where
  entries : t.pst.entries = u.pst.entries.filter fun x => x.slot != e.slot
  log : t.pst.log.head? = some ⟨e.f, e.p, status, e.tag * 0x1000 + e.slot, word⟩
  performs : Performs [0x11018] u t
  psqs : t.psqs = u.psqs
  cal : t.cal = u.cal

namespace EndsEntry
variable {e : PstEntry} {status : Nat} {word : Word} {u t : State}

/-- A cause of the Piste window page leaves the entry's end. -/
theorem int (h : EndsEntry e status word u t) (b : Nat) : EndsEntry e status word u (t.int .pst 0 b) where
  entries := by rw [int_eq_with]; exact h.entries
  log := by rw [int_eq_with]; exact h.log
  performs := h.performs.trans (.int t .pst 0 b)
  psqs := by rw [int_eq_with]; exact h.psqs
  cal := by rw [int_eq_with]; exact h.cal

theorem retire (u : State) (e : PstEntry) (status : Nat) (word : Word) : EndsEntry e status word u (u.retire e status word) := by
  have hleft : EndsEntry e status word u { u with pst := { u.pst with
      entries := u.pst.entries.filter fun x => x.slot != e.slot
      log := ((⟨e.f, e.p, status, e.tag * 0x1000 + e.slot, word⟩ : PstLog) :: u.pst.log).take 256 } } :=
    ⟨rfl, rfl, ⟨rfl, fun _ _ => rfl⟩, rfl, rfl⟩
  simp only [State.retire]
  split
  · exact hleft.int 2
  · exact hleft

/-- A steady device whose entry acted and ended: the table, the log and the rest. -/
theorem done {s : State} {offs : List Nat} (hs : Steady s) (h : EndsEntry e status word u t) (hu : Performs offs s u) (hpst : u.pst = s.pst)
    (hoffs : ∀ n < 8, baseOf .psq n + 0x14 ∉ 0x11018 :: offs) :
    ∃ v, Machine.done t = .next v
      ∧ v.pst.entries = (s.pst.entries.filter fun x => x.slot != e.slot)
      ∧ v.pst.log.head? = some ⟨e.f, e.p, status, e.tag * 0x1000 + e.slot, word⟩
      ∧ RegsBut ((0x11018 :: offs) ++ pbaOffs) s v ∧ RegsBut ([0x11018] ++ pbaOffs) u v ∧ v.psqs = u.psqs ∧ v.cal = u.cal
      ∧ v = { s with regs := v.regs, hif := { s.hif with sent := v.hif.sent }, pst := v.pst, psqs := v.psqs, cal := v.cal } := by
  have hp : Performs (0x11018 :: offs) s t := (hu.mono (List.subset_cons_self _ _)).trans
    (h.performs.mono (List.cons_subset_cons _ (List.nil_subset _)))
  obtain ⟨hdone, hframe⟩ := hp.done hs hoffs
  exact ⟨_, hdone, h.entries.trans (by rw [hpst]), h.log, hp.rd, h.performs.rd, h.psqs, h.cal, hframe⟩

end EndsEntry

/-- What is performed with the sequencers as they were. -/
theorem frame_of_psqs {s t : State} (h : t = { s with
      regs := t.regs, hif := { s.hif with sent := t.hif.sent }, pst := t.pst, psqs := t.psqs, cal := t.cal }) (hq : t.psqs = s.psqs) :
    t = { s with regs := t.regs, pst := t.pst, cal := t.cal, hif := { s.hif with sent := t.hif.sent } } := by
  rwa [hq] at h

/-- And with the calibration as it was. -/
theorem frame_of_cal {s t : State} (h : t = { s with
      regs := t.regs, hif := { s.hif with sent := t.hif.sent }, pst := t.pst, psqs := t.psqs, cal := t.cal }) (hc : t.cal = s.cal) :
    t = { s with regs := t.regs, pst := t.pst, psqs := t.psqs, hif := { s.hif with sent := t.hif.sent } } := by
  rwa [hc] at h

/-- And with both. -/
theorem frame_of_psqs_of_cal {s t : State} (h : t = { s with
      regs := t.regs, hif := { s.hif with sent := t.hif.sent }, pst := t.pst, psqs := t.psqs, cal := t.cal })
    (hq : t.psqs = s.psqs) (hc : t.cal = s.cal) :
    t = { s with regs := t.regs, pst := t.pst, hif := { s.hif with sent := t.hif.sent } } := by
  rwa [hq, hc] at h

/-! ### Quiet windows -/

/-- The banks whose quiet window is open depend on their word. -/
theorem quietOpen_congr {s u : State} (h : u.rd 0x11068 = s.rd 0x11068) : u.quietOpen = s.quietOpen := fld_congr (k := .pst) h

/-- The quiet windows are set for the banks whose bits are given. -/
theorem quietOpen_put (s : State) {v : Nat} (h : v < 2 ^ 24) : (s.put .pst 0 PST_QUIET_OPEN v).quietOpen = v :=
  (fld_put_same s .pst 0 PST_QUIET_OPEN v (by decide) (by decide)).trans (Nat.mod_eq_of_lt h)

/-- What a quiet window that opens or closes does to the calibration of its banks, and nothing else. -/
structure Selects (offs : List Nat) (s u : State) : Prop where
  performs : Performs offs s u
  pst : u.pst = s.pst
  psqs : u.psqs = s.psqs

namespace Selects
variable {offs : List Nat}

theorem refl (s : State) : Selects offs s s := ⟨.refl s, rfl, rfl⟩

theorem trans {s t u : State} (h1 : Selects offs s t) (h2 : Selects offs t u) : Selects offs s u :=
  ⟨h1.performs.trans h2.performs, h2.pst.trans h1.pst, h2.psqs.trans h1.psqs⟩

theorem foldl {α : Type} {f : State → α → State} (h : ∀ s a, Selects offs s (f s a)) (l : List α) (s : State) :
    Selects offs s (l.foldl f s) :=
  foldl_of_step (P := Selects offs s) (fun _ a hu => hu.trans (h _ a)) l (refl s)

/-- What was passed over in a gap is tried again in the next (R444). -/
theorem gapEnds (s : State) (b : Nat) : Selects offs s (s.gapEnds b) := ⟨.setCal s b _, rfl, rfl⟩

/-- A pending selection takes effect with its cause (R440). -/
theorem selectNow (s : State) (r : Nat) : Selects [0x41018] s (s.selectNow r) := by
  unfold State.selectNow
  split
  · refine ⟨(Performs.setCal s r _).trans (.int _ .cal 0 4), ?_, ?_⟩ <;>
    · rw [int_eq_with]
      rfl
  · exact refl s

/-- Where its condition holds (R441). -/
theorem trySelect (s : State) (r : Nat) : Selects [0x41018] s (s.trySelect r) := by
  unfold State.trySelect
  split
  · split
    · exact selectNow s r
    · exact refl s
  · split
    · exact refl s
    · exact selectNow s r

end Selects

/-- The bits of `q` that `w` does not hold. -/
theorem bitAt_and_not (q : Nat) (w : Word) {b : Nat} (hb : b < 24) :
    bitAt (BitVec.ofNat 24 q &&& ~~~ BitVec.ofNat 24 w.toNat).toNat b = (bitAt q b && !w.getLsbD b) := by
  have hw : w.toNat.testBit b = w.getLsbD b := rfl
  rw [bitAt, BitVec.testBit_toNat, BitVec.getLsbD_and, BitVec.getLsbD_not, BitVec.getLsbD_ofNat, BitVec.getLsbD_ofNat, hw]
  simp [hb, bitAt]

/-! ### The actions -/

section
variable {s : State} (hs : Steady s) {e : PstEntry}
include hs

/-- MARK logs its ARG (R104). -/
theorem done_mark (he : s.dueEntry 0 = some e) :
    ∃ t, exec .mark s = .next t
      ∧ t.pst.entries = (s.pst.entries.filter fun x => x.slot != e.slot)
      ∧ t.pst.log.head? = some ⟨e.f, e.p, if s.epc.source = .holdover then 2 else 0, e.tag * 0x1000 + e.slot, e.arg⟩
      ∧ RegsBut ([0x11018] ++ pbaOffs) s t
      ∧ t = { s with regs := t.regs, pst := t.pst, hif := { s.hif with sent := t.hif.sent } } := by
  obtain ⟨t, hdone, hentries, hlog, hrd, -, hpsqs, hcal, hframe⟩ :=
    (EndsEntry.retire s e (if s.epc.source = .holdover then 2 else 0) e.arg).done hs (.refl (offs := []) s) rfl (by decide)
  rw [← pisteAct_of_took (f := fun e s => (s, .took e.arg)) he rfl] at hdone
  exact ⟨t, hdone, hentries, hlog, hrd, frame_of_psqs_of_cal hframe hpsqs hcal⟩

/-- PSQ_STOP delivers a stop request to the masked sequencers that run (R104, R109). -/
theorem done_psqStop (he : s.dueEntry 2 = some e) :
    ∃ t, exec .psqStop s = .next t
      ∧ t.pst.entries = (s.pst.entries.filter fun x => x.slot != e.slot)
      ∧ t.pst.log.head? = some ⟨e.f, e.p, if s.epc.source = .holdover then 2 else 0, e.tag * 0x1000 + e.slot, 0⟩
      ∧ (∀ n < 8, (t.psq n).stops.map (·.cause)
        = (s.psq n).stops.map (·.cause) ++ if bitAt e.target n = true ∧ s.psqRunning n = true then [5] else [])
      ∧ RegsBut ([0x11018] ++ pbaOffs) s t
      ∧ t = { s with regs := t.regs, pst := t.pst, psqs := t.psqs, hif := { s.hif with sent := t.hif.sent } } := by
  have hmask : ∀ u, PsqsOnly s u → ∀ n, (if bitAt e.target n then u.requestStop n 5 0 else u)
      = if bitAt e.target n then u.requestStop n 5 0 else u := fun _ _ _ => rfl
  obtain ⟨p, hp⟩ := psqsOnly_stops hmask
  have hstops := fun n hn => psq_stops hmask (n := n) hn
  have hact := pisteAct_of_took (f := fun e s =>
    ((List.range 8).foldl (fun s n => if bitAt e.target n then s.requestStop n 5 0 else s) s, .took 0)) he rfl
  generalize (List.range 8).foldl (fun u n => if bitAt e.target n then u.requestStop n 5 0 else u) s = u at hp hstops hact
  obtain ⟨t, hdone, hentries, hlog, hrd, -, hpsqs, hcal, hframe⟩ :=
    (EndsEntry.retire u e (if s.epc.source = .holdover then 2 else 0) 0).done (offs := []) hs (by rw [hp]; exact ⟨rfl, fun _ _ => rfl⟩)
      (by rw [hp]) (by decide)
  rw [← hact] at hdone
  refine ⟨t, hdone, hentries, hlog, fun n hn => ?_, hrd, frame_of_cal hframe (hcal.trans (by rw [hp]))⟩
  have hpsq : t.psq n = u.psq n := by rw [State.psq, State.psq, hpsqs]
  rw [hpsq, hstops n hn]
  by_cases hm : bitAt e.target n = true <;> by_cases hr : s.psqRunning n = true <;> simp [State.stopped, hm, hr]

/-- An entry that sets the open quiet windows to `v`, and has `step` act on the banks for it (R112). -/
theorem done_quietSet {a v : Nat} {offs : List Nat} {step : State → Nat → State} {f : PstEntry → State → State × PstEnd}
    (he : s.dueEntry a = some e) (hf : f e s = ((List.range 24).foldl step (s.put .pst 0 PST_QUIET_OPEN v), .took 0)) (hv : v < 2 ^ 24)
    (hstep : ∀ u b, Selects offs u (step u b)) (hoffs : ∀ n < 8, baseOf .psq n + 0x14 ∉ 0x11018 :: 0x11068 :: offs)
    (hword : 0x11068 ∉ offs) :
    ∃ t, done (s.pisteAct a f) = .next t
      ∧ t.pst.entries = (s.pst.entries.filter fun x => x.slot != e.slot)
      ∧ t.pst.log.head? = some ⟨e.f, e.p, if s.epc.source = .holdover then 2 else 0, e.tag * 0x1000 + e.slot, 0⟩
      ∧ t.quietOpen = v ∧ RegsBut ((0x11018 :: 0x11068 :: offs) ++ pbaOffs) s t
      ∧ t = { s with regs := t.regs, pst := t.pst, cal := t.cal, hif := { s.hif with sent := t.hif.sent } } := by
  have hput : Performs [0x11068] s (s.put .pst 0 PST_QUIET_OPEN v) := .put s v (by decide)
  obtain ⟨hsel, hpst, hpsqs⟩ := Selects.foldl hstep (List.range 24) (s.put .pst 0 PST_QUIET_OPEN v)
  have hopen := (quietOpen_congr (hsel.rd 0x11068 (List.not_mem_append hword (by decide)))).trans (quietOpen_put s hv)
  have hu := (hput.mono (List.cons_subset_cons _ (List.nil_subset offs))).trans (hsel.mono (List.subset_cons_self _ _))
  rw [pisteAct_of_took he hf]
  obtain ⟨t, hdone, hentries, hlog, hrd, hleft, hsame, -, hframe⟩ := (EndsEntry.retire _ e _ 0).done hs hu hpst hoffs
  exact ⟨t, hdone, hentries, hlog, (quietOpen_congr (hleft 0x11068 (by decide))).trans hopen, hrd, frame_of_psqs hframe (hsame.trans hpsqs)⟩

/-- SYNC_PULSE drives the lane in the roles STOP and MARKER (R104). -/
theorem done_syncPulse (he : s.dueEntry 5 = some e) (hl : e.target < 8) :
    ∃ t, exec .syncPulse s = .next t
      ∧ t.pst.entries = (s.pst.entries.filter fun x => x.slot != e.slot)
      ∧ (s.laneRole e.target = 1 ∨ s.laneRole e.target = 2 →
        t.pst.log.head? = some ⟨e.f, e.p, if s.epc.source = .holdover then 2 else 0, e.tag * 0x1000 + e.slot, 0⟩
          ∧ bitAt (t.fld .epcCtl 0 SYNC_STAT_DRIVING) e.target = true ∧ bitAt (t.fld .epcCtl 0 SYNC_STAT_LEVEL) e.target = true)
      ∧ (s.laneRole e.target ≠ 1 → s.laneRole e.target ≠ 2 → t.pst.log.head? = some ⟨e.f, e.p, 1, e.tag * 0x1000 + e.slot, 1⟩)
      ∧ RegsBut ([0x11018, 0x100E0] ++ pbaOffs) s t
      ∧ t = { s with regs := t.regs, pst := t.pst, hif := { s.hif with sent := t.hif.sent } } := by
  change ∃ t, done (s.pisteAct 5 fun e s =>
    if s.laneRole e.target = 1 || s.laneRole e.target = 2 then (s.syncDrive e.target, .took 0) else (s, .refused 1)) = .next t ∧ _
  by_cases hr : s.laneRole e.target = 1 ∨ s.laneRole e.target = 2
  · have hdrive : Performs [0x100E0] s (s.syncDrive e.target) := (Performs.put s _ (by decide)).trans (.put _ _ (by decide))
    rw [pisteAct_of_took he (if_pos (by simpa using hr))]
    obtain ⟨t, hdone, hentries, hlog, hrd, hleft, hpsqs, hcal, hframe⟩ := (EndsEntry.retire _ e _ 0).done hs hdrive rfl (by decide)
    have hstat : t.rd 0x100E0 = (s.syncDrive e.target).rd 0x100E0 := hleft _ (by decide)
    refine ⟨t, hdone, hentries, fun _ => ⟨hlog, ?_, ?_⟩, fun h1 h2 => absurd hr (not_or.mpr ⟨h1, h2⟩), hrd,
      frame_of_psqs_of_cal hframe hpsqs hcal⟩
    · rw [fld_congr (k := .epcCtl) hstat, State.syncDrive, fld_setLevel_driving]
      exact bitAt_setDriving s hl true
    · rw [fld_congr (k := .epcCtl) hstat]
      exact bitAt_setLevel _ hl true
  · rw [pisteAct_of_refused he (if_neg (by simpa using hr))]
    obtain ⟨t, hdone, hentries, hlog, hrd, -, hpsqs, hcal, hframe⟩ :=
      ((EndsEntry.retire s e 1 1).int 0).done (offs := [0x100E0]) hs (.refl s) rfl (by decide)
    exact ⟨t, hdone, hentries, fun h => absurd h hr, fun _ _ => hlog, hrd, frame_of_psqs_of_cal hframe hpsqs hcal⟩

/-- QUIET_OPEN adds the masked banks to the open windows (R104, R112). -/
theorem done_quietOpen (he : s.dueEntry 3 = some e) :
    ∃ t, exec .quietOpen s = .next t
      ∧ t.pst.entries = (s.pst.entries.filter fun x => x.slot != e.slot)
      ∧ t.pst.log.head? = some ⟨e.f, e.p, if s.epc.source = .holdover then 2 else 0, e.tag * 0x1000 + e.slot, 0⟩
      ∧ t.quietOpen = s.quietOpen ||| e.arg.toNat % 2 ^ 24
      ∧ RegsBut ([0x11018, 0x11068, 0x41018] ++ pbaOffs) s t
      ∧ t = { s with regs := t.regs, pst := t.pst, cal := t.cal, hif := { s.hif with sent := t.hif.sent } } :=
  done_quietSet hs he rfl (Nat.or_lt_two_pow (bitsOf_lt _ 23 0) (Nat.mod_lt _ (by decide))) Selects.trySelect (by decide) (by decide)

/-- QUIET_CLOSE takes the masked banks away from the open windows (R104, R112). -/
theorem done_quietClose (he : s.dueEntry 4 = some e) :
    ∃ t, exec .quietClose s = .next t
      ∧ t.pst.entries = (s.pst.entries.filter fun x => x.slot != e.slot)
      ∧ t.pst.log.head? = some ⟨e.f, e.p, if s.epc.source = .holdover then 2 else 0, e.tag * 0x1000 + e.slot, 0⟩
      ∧ (∀ b < 24, bitAt t.quietOpen b = (bitAt s.quietOpen b && !e.arg.getLsbD b))
      ∧ RegsBut ([0x11018, 0x11068] ++ pbaOffs) s t
      ∧ t = { s with regs := t.regs, pst := t.pst, cal := t.cal, hif := { s.hif with sent := t.hif.sent } } := by
  have hgap : ∀ u b, Selects [] u (if e.arg.getLsbD b then u.gapEnds b else u) := fun u b => by
    split
    · exact .gapEnds u b
    · exact .refl u
  obtain ⟨t, hdone, hentries, hlog, hopen, hrd, hframe⟩ :=
    done_quietSet (f := fun e s =>
      ((List.range 24).foldl (fun s b => if e.arg.getLsbD b then s.gapEnds b else s)
        (s.put .pst 0 PST_QUIET_OPEN (BitVec.ofNat 24 s.quietOpen &&& ~~~ BitVec.ofNat 24 e.arg.toNat).toNat), .took 0))
      hs he rfl (BitVec.isLt _) hgap (by decide) (by decide)
  exact ⟨t, hdone, hentries, hlog, fun b hb => by rw [hopen, bitAt_and_not _ _ hb], hrd, hframe⟩

end

/-- Settles O15, an action at a time: each is performed, and its entry then ends. -/
theorem pisteActs : Obligations.PisteActs := by
  unfold Obligations.PisteActs
  intro s e hs
  exact ⟨done_mark hs.1, done_psqStop hs.1, done_quietOpen hs.1, done_quietClose hs.1, done_syncPulse hs.1⟩

end Sys2Proof.Machine

namespace Sys2Proof.Machine
open Sys2Proof Reg

/-! ## A mode request in a transition (O24) -/

/-! ### A cause set and a class raised at Notice -/

/-- A register past the pages of the PBA and of the recorder is none that a report changes on those. -/
theorem not_mem_reports {o : Nat} (h : 0x33000 ≤ o) : o ∉ pbaOffs ++ evrOffs := by
  simp only [pbaOffs, evrOffs, List.cons_append, List.nil_append, List.mem_cons, List.not_mem_nil, or_false]
  omega

/-- A page that reports keeps its registers but INT_STAT. -/
theorem ReportsOn.rd_word {page d : Nat} {s t : State} (h : ReportsOn page s t) (hp : 0x33000 ≤ page) (hd : d ≠ 0x18) :
    t.rd (page + d) = s.rd (page + d) := by
  have hn := not_mem_reports (Nat.le_add_right_of_le hp (k := d))
  rw [List.mem_append, not_or] at hn
  exact h.rd _ (by omega) hn.1 hn.2

/-- What a page that sets a cause bit and raises a class at Notice or Info shows, and that it changes nothing else. -/
theorem int_raiseOpen_shows (s : State) {k : PageKind} {i page : Nat} (hpage : pageBase k i = page) (hp : 0x33000 ≤ page) (cls : Nat)
    {b base : Nat} (hb : b < 32) (hbase : base < 2) :
    ReportsOn page s ((s.int k i b).raiseOpen k i cls base) ∧ Raised page cls base s ((s.int k i b).raiseOpen k i cls base)
      ∧ (((s.int k i b).raiseOpen k i cls base).intStat page).getLsbD b = true := by
  subst hpage
  have hn := not_mem_reports (Nat.le_add_right_of_le hp (k := 0x18))
  have hr : ReportsOn (pageBase k i) (s.int k i b) ((s.int k i b).raiseOpen k i cls base) := .raiseOpen _ k i cls hbase
  refine ⟨(ReportsOn.int s k i b).trans hr, ?_, hr.ints hn b (intStat_int s k i hb fun h => hn (List.mem_append_left _ h))⟩
  refine raised_of_same ?_ ?_ (raised_raiseOpen _ k i cls hbase)
  · rw [int_eq_with]; rfl
  · rw [int_eq_with]

/-! ### The request -/

theorem pageBase_bnk (b : Nat) : pageBase .bnk b = baseOf .bnk b := by
  simp only [pageBase, baseOf]
  omega

/-- A request of a mode that meets a transition is ignored, its bank raising MODE_BUSY (R126). -/
theorem modeWrite_of_transition {s : State} {b m : Nat} (hm : m ≠ 3) (htr : s.flag .bnk b BNK_MODE_TRANSITION = true) (who : Asker) :
    (s.modeWrite who b m).1 = (s.int .bnk b 3).raiseOpen .bnk b 3 1 := by
  simp only [State.modeWrite, if_neg hm, htr, if_true, State.ignored]

/-- Settles O24: the request only reports on the bank's page, and neither the bank's mode nor a word of the Governor lies in what a report
changes. -/
theorem modeBusy : Obligations.ModeBusy := by
  unfold Obligations.ModeBusy
  intro s hs b m hm htr
  have hpage : 0x300000 ≤ baseOf .bnk b.val := by simp only [baseOf]; omega
  obtain ⟨hr, hra, hint⟩ := int_raiseOpen_shows s (pageBase_bnk b.val) (by omega) 3 (b := 3) (base := 1) (by decide) (by decide)
  rw [exec_req_of_live hs.2, modeWrite_of_transition hm htr]
  generalize (s.int .bnk b.val 3).raiseOpen .bnk b.val 3 1 = u at *
  obtain ⟨hdone, hrep, hframe⟩ := hr.done hs.1 (by simp only [baseOf]; omega)
  have hcharged : u.charged = s.charged := charged_congr (by rw [hr.frame]) fun q => by rw [hr.frame]; rfl
  refine ⟨_, hdone, fun _ => hr.rd_word (by omega) (by decide), ?_, ?_, hcharged, hra, hint, hrep, hframe⟩
  · exact hr.rd 0x304C (by omega) (by decide) (by decide)
  · exact hr.rd 0x3050 (by omega) (by decide) (by decide)

end Sys2Proof.Machine

namespace Sys2Proof.Machine
open Sys2Proof Reg

/-! ## The PPMU's connection, IDLE_HOLD and compliance (O25) -/

theorem pageBase_pec (k : Nat) : pageBase .pec k = baseOf .pec k := by
  simp only [pageBase, baseOf]
  omega

/-- The channels' pages lie past those of the PBA and of the recorder. -/
theorem pec_past_reports (k : Nat) : 0x33000 ≤ baseOf .pec k := by
  simp only [baseOf]
  omega

/-- The status word of a sequencer lies below the channels' pages. -/
theorem psqStat_ne_pec {n : Nat} (hn : n < 8) (k d : Nat) : baseOf .psq n + 0x14 ≠ baseOf .pec k + d := by
  simp only [baseOf]
  omega

/-- BNK_MODE of a channel's bank lies below the channels' pages. -/
theorem modeWord_ne_pec {k : Nat} (hk : k < 768) (d : Nat) : baseOf .bnk (k / 32) + 0x40 ≠ baseOf .pec k + d := by
  simp only [baseOf]
  omega

/-- A one-bit field that is put to a truth value reads it. -/
theorem flag_put_bit (s : State) (k : PageKind) (i : Nat) {f : Fld} (hh : f.hi < 32) (hl : f.lo = f.hi) (c : Bool) :
    (s.put k i f (bit c)).flag k i f = c := by
  rw [State.flag, fld_put_same s k i f _ hh (by omega), hl, Nat.add_sub_cancel_left]
  cases c <;> rfl

/-! ### What a command of a channel changes -/

/-- What a command of a channel changes before it reports: registers at the offsets given, the channels' elements, and the banks' shadows. -/
structure OnPins (offs : List Nat) (s u : State) : Prop where
  frame : u = { s with regs := u.regs, pins := u.pins, banks := u.banks }
  rd : RegsBut offs s u

namespace OnPins
variable {offs : List Nat}

theorem trans {s t u : State} (h1 : OnPins offs s t) (h2 : OnPins offs t u) : OnPins offs s u where
  frame := by rw [h2.frame, h1.frame]
  rd o ho := (h2.rd o ho).trans (h1.rd o ho)

theorem put (s : State) (k : PageKind) (i : Nat) (f : Fld) (v : Nat) : OnPins [fldOff k i f 0] s (s.put k i f v) where
  frame := rfl
  rd _ ho := rd_put_other s v (List.ne_of_not_mem_cons ho)

theorem setPin (s : State) (k : Nat) (p : PinSt) : OnPins offs s (s.setPin k p) := ⟨rfl, fun _ _ => rfl⟩

theorem touchShadow (s : State) (b : Nat) : OnPins offs s (s.touchShadow b) := by
  unfold State.touchShadow
  split <;> exact ⟨rfl, fun _ _ => rfl⟩

/-- Such a command ends with what it did. -/
theorem done {s u : State} (hs : Steady s) (h : OnPins offs s u) (hoffs : ∀ n < 8, baseOf .psq n + 0x14 ∉ offs) :
    Machine.done u = .next u :=
  done_quiet hs (by rw [h.frame]) (by rw [h.frame]) (by rw [h.frame]) fun n hn => h.rd _ (hoffs n hn)

/-- Such a command ends with what it did, and with what a page then reported. -/
theorem done_reported {s u v : State} {page : Nat} (hs : Steady s) (hp : page % 0x1000 = 0) (h : OnPins offs s u) (hr : ReportsOn page u v)
    (hoffs : ∀ n < 8, baseOf .psq n + 0x14 ∉ offs) :
    Machine.done v = .next { v with sig := [] } ∧ Reported [page] offs s { v with sig := [] }
      ∧ { v with sig := [] } = { s with
          regs := v.regs, hif := v.hif, faults := v.faults, evr := v.evr, free := v.free, pins := u.pins, banks := u.banks } := by
  have hsteady : Steady u :=
    steady_of (by rw [h.frame]; exact hs.1) (by rw [h.frame]; exact hs.2.1)
      (by rw [settle_of_same hs.2.2 (by rw [h.frame]) fun n hn => h.rd _ (hoffs n hn)])
  obtain ⟨hdone, ⟨hrd, hfaults, hhif⟩, hframe⟩ := hr.done hsteady hp
  refine ⟨hdone, ⟨fun o ho => ?_, fun q hq => (hfaults q hq).trans ?_, hhif.trans ?_⟩, hframe.trans ?_⟩
  · simp only [List.mem_append, not_or] at ho
    refine (hrd o ?_).trans (h.rd o ho.1.1.2)
    simp only [List.append_nil, List.mem_append, not_or]
    exact ⟨⟨ho.1.1.1, ho.1.2⟩, ho.2⟩
  · rw [h.frame]; rfl
  · rw [h.frame]
  · conv_lhs => rw [h.frame]

end OnPins

/-! ### A channel's state after one of its settings is written -/

theorem rd_touchShadow (s : State) (b o : Nat) : (s.touchShadow b).rd o = s.rd o :=
  (OnPins.touchShadow (offs := []) s b).rd o List.not_mem_nil

theorem touchShadow_pins (s : State) (b : Nat) : (s.touchShadow b).pins = s.pins := by
  unfold State.touchShadow
  split <;> rfl

/-- A shadow takes its generation, and stays in every other respect (R520). -/
theorem bank_touchShadow (s : State) (b q : Nat) : ∃ g, (s.touchShadow b).bank q = { s.bank q with shadowGen := g } := by
  unfold State.touchShadow
  split
  · rw [bank_setBank]
    split
    · next h => exact ⟨_, by rw [h]⟩
    · exact ⟨_, rfl⟩
  · exact ⟨_, rfl⟩

/-- A setting of a channel is put, and the shadow of its bank takes note. -/
def State.putPec (s : State) (k : Nat) (f : Fld) (v : Nat) : State := (s.put .pec k f v).touchShadow (k / 32)

theorem putPec_onPins (s : State) (k : Nat) (f : Fld) (v : Nat) : OnPins [fldOff .pec k f 0] s (s.putPec k f v) :=
  (OnPins.put s .pec k f v).trans (.touchShadow _ _)

theorem putPec_pins (s : State) (k : Nat) (f : Fld) (v : Nat) : (s.putPec k f v).pins = s.pins := touchShadow_pins _ _

theorem flag_putPec_bit (s : State) (k : Nat) {f : Fld} (hh : f.hi < 32) (hl : f.lo = f.hi) (c : Bool) :
    (s.putPec k f (bit c)).flag .pec k f = c :=
  (flag_congr (rd_touchShadow _ _ _)).trans (flag_put_bit s .pec k hh hl c)

/-- A channel is in SAFE by its bank's phase and hold, the device state, and three words (R116). -/
theorem pinSafe_congr {s u : State} {k : Nat} (hdev : u.dev = s.dev) (hdom : u.domains = s.domains)
    (hbank : ∃ g, u.bank (k / 32) = { s.bank (k / 32) with shadowGen := g }) (hstat : u.rd (baseOf .pec k + 0x14) = s.rd (baseOf .pec k + 0x14))
    (hsite : u.rd (baseOf .pec k + 0x4C) = s.rd (baseOf .pec k + 0x4C))
    (hmode : u.rd (baseOf .bnk (k / 32) + 0x40) = s.rd (baseOf .bnk (k / 32) + 0x40)) : u.pinSafe k = s.pinSafe k := by
  obtain ⟨g, hg⟩ := hbank
  have h1 : u.flag .pec k PEC_SITE_BOUND = s.flag .pec k PEC_SITE_BOUND := flag_congr hsite
  have h2 : u.flag .bnk (k / 32) BNK_MODE_TRANSITION = s.flag .bnk (k / 32) BNK_MODE_TRANSITION := flag_congr hmode
  have h3 : u.flag .pec k PEC_STAT_SELFCHK_FAIL = s.flag .pec k PEC_STAT_SELFCHK_FAIL := flag_congr hstat
  simp only [State.pinSafe, State.bankOn, h1, h2, h3, hdev, hdom, hg]

theorem pinSafe_putPec (s : State) {k : Nat} (hk : k < 768) {f : Fld} (v : Nat) (h14 : fldOff .pec k f 0 ≠ baseOf .pec k + 0x14)
    (h4c : fldOff .pec k f 0 ≠ baseOf .pec k + 0x4C) : (s.putPec k f v).pinSafe k = s.pinSafe k := by
  have hu := putPec_onPins s k f v
  have hbank := bank_touchShadow (s.put .pec k f v) (k / 32) (k / 32)
  refine pinSafe_congr (by rw [hu.frame]) (by rw [hu.frame]) hbank ?_ ?_ ?_ <;> refine hu.rd _ (List.mem_singleton.not.mpr ?_)
  · exact h14.symm
  · exact h4c.symm
  · exact modeWord_ne_pec hk _

/-- A connection request waits where its channel is in SAFE or the bank PMU holds the pad (R120). -/
theorem ppmuHeld_of_conn {s : State} {k : Nat} (h : s.flag .pec k PEC_PPMU_CONN = true) :
    s.ppmuHeld k = (s.pinSafe k || s.flag .pec k PEC_STAT_PMU_ON) := by
  rw [State.ppmuHeld, h, Bool.true_and]

/-- A channel's state follows from SAFE and words that lie at no offset 0x40 of a page (R116). -/
theorem pinState_congr {s u : State} {k : Nat} (hsafe : u.pinSafe k = s.pinSafe k) (h : ∀ o, o % 0x1000 ≠ 0x40 → u.rd o = s.rd o) :
    u.pinState k = s.pinState k := by
  have hpec : ∀ d, d < 0x1000 → d ≠ 0x40 → u.rd (baseOf .pec k + d) = s.rd (baseOf .pec k + d) := fun d hd hne =>
    h _ (by simp only [baseOf]; omega)
  have hpmu : u.flag .pec k PEC_STAT_PMU_ON = s.flag .pec k PEC_STAT_PMU_ON := flag_congr (hpec 0x14 (by decide) (by decide))
  have hconn : u.flag .pec k PEC_PPMU_CONN = s.flag .pec k PEC_PPMU_CONN := flag_congr (hpec 0x50 (by decide) (by decide))
  have hbound : u.flag .pec k PEC_SITE_BOUND = s.flag .pec k PEC_SITE_BOUND := flag_congr (hpec 0x4C (by decide) (by decide))
  have hsite : u.fld .pec k PEC_SITE = s.fld .pec k PEC_SITE := fld_congr (hpec 0x4C (by decide) (by decide))
  have hbind : ∀ i, u.fld .site i SITE_BIND_PSQ = s.fld .site i SITE_BIND_PSQ := fun i =>
    fld_congr (h _ (by simp only [fldOff, baseOf, SITE_BIND_PSQ]; omega))
  have hpsq : ∀ n, u.psqRunning n = s.psqRunning n := fun n => psqRunning_congr (h _ (by simp only [baseOf]; omega))
  have hheld : u.ppmuHeld k = s.ppmuHeld k := by rw [State.ppmuHeld, State.ppmuHeld, hconn, hsafe, hpmu]
  have hof : u.pinPsq k = s.pinPsq k := by rw [State.pinPsq, State.pinPsq, hbound, hsite, hbind]
  rw [State.pinState, State.pinState, hsafe, hpmu, hconn, hheld, hof, funext hpsq]

/-! ### A connection request -/

/-- A request of the PPMU is stored in CONN. -/
abbrev State.putConn (s : State) (k : Nat) (on : Bool) : State := s.putPec k PEC_PPMU_CONN (bit on)

theorem pinSafe_putConn (s : State) {k : Nat} (hk : k < 768) (on : Bool) : (s.putConn k on).pinSafe k = s.pinSafe k :=
  pinSafe_putPec s hk _ (by simp [fldOff, PEC_PPMU_CONN]) (by simp [fldOff, PEC_PPMU_CONN])

theorem pmuOn_putConn (s : State) (k : Nat) (on : Bool) : (s.putConn k on).flag .pec k PEC_STAT_PMU_ON = s.flag .pec k PEC_STAT_PMU_ON :=
  flag_congr ((putPec_onPins s k _ _).rd _ (by simp [fldOff, PEC_PPMU_CONN, PEC_STAT_PMU_ON]))

theorem conn_putConn (s : State) (k : Nat) (on : Bool) : (s.putConn k on).flag .pec k PEC_PPMU_CONN = on :=
  flag_putPec_bit s k (by decide) rfl on

theorem pin_putConn (s : State) (k : Nat) (on : Bool) (j : Nat) : (s.putConn k on).pin j = s.pin j := by
  rw [State.pin, putPec_pins, ← State.pin]

theorem held_putConn (s : State) {k : Nat} (hk : k < 768) :
    (s.putConn k true).ppmuHeld k = (s.pinSafe k || s.flag .pec k PEC_STAT_PMU_ON) := by
  rw [ppmuHeld_of_conn (conn_putConn s k true), pinSafe_putConn s hk, pmuOn_putConn]

/-- The words of CONN decide the hold alike with and without the note in the shadow. -/
theorem held_put_conn (s : State) {k : Nat} (hk : k < 768) :
    (s.put .pec k PEC_PPMU_CONN 1).ppmuHeld k = (s.pinSafe k || s.flag .pec k PEC_STAT_PMU_ON) := by
  have hrd : ∀ d, d ≠ 0x50 → (s.put .pec k PEC_PPMU_CONN 1).rd (baseOf .pec k + d) = s.rd (baseOf .pec k + d) := fun d hd =>
    rd_put_other s 1 (by simpa [fldOff, PEC_PPMU_CONN] using hd)
  have hsafe : (s.put .pec k PEC_PPMU_CONN 1).pinSafe k = s.pinSafe k :=
    pinSafe_congr rfl rfl ⟨_, rfl⟩ (hrd 0x14 (by decide)) (hrd 0x4C (by decide)) (rd_put_other s 1 (modeWord_ne_pec hk _))
  have hpmu : (s.put .pec k PEC_PPMU_CONN 1).flag .pec k PEC_STAT_PMU_ON = s.flag .pec k PEC_STAT_PMU_ON := flag_congr (hrd 0x14 (by decide))
  have hconn : (s.put .pec k PEC_PPMU_CONN 1).flag .pec k PEC_PPMU_CONN = true := flag_put_bit s .pec k (by decide) rfl true
  rw [ppmuHeld_of_conn hconn, hsafe, hpmu]

/-- A write of 1 to CONN by what holds the request (R116, R118, R120). -/
theorem ppmuWrite_on (s : State) {k : Nat} (hk : k < 768) :
    (s.ppmuWrite k true).1 =
      if s.flag .pec k PEC_STAT_PMU_ON && !s.pinSafe k then ((s.putConn k true).int .pec k 3).raiseOpen .pec k 4 1
      else if s.pinSafe k || s.flag .pec k PEC_STAT_PMU_ON then s.putConn k true
      else (s.putConn k true).setPin k (s.pin k).measure := by
  have h : (s.ppmuWrite k true).1 =
      if (s.putConn k true).flag .pec k PEC_STAT_PMU_ON && !(s.putConn k true).pinSafe k then
        ((s.putConn k true).int .pec k 3).raiseOpen .pec k 4 1
      else if (s.putConn k true).ppmuHeld k then s.putConn k true
      else (s.putConn k true).setPin k ((s.putConn k true).pin k).measure := by
    simp only [State.ppmuWrite, if_true, apply_ite Prod.fst]
    rfl
  rw [h, held_putConn s hk, pmuOn_putConn, pinSafe_putConn s hk, pin_putConn]

/-- In SAFE the request is held, and nothing is raised (R120). -/
theorem ppmuWrite_of_safe {s : State} {k : Nat} (hk : k < 768) (h : s.pinSafe k = true) : (s.ppmuWrite k true).1 = s.putConn k true := by
  simp [ppmuWrite_on s hk, h]

/-- Where the bank PMU holds the pad the request is held, and PPMU_BLOCKED raised (R120). -/
theorem ppmuWrite_of_blocked {s : State} {k : Nat} (hk : k < 768) (h : s.pinSafe k = false) (hpmu : s.flag .pec k PEC_STAT_PMU_ON = true) :
    (s.ppmuWrite k true).1 = ((s.putConn k true).int .pec k 3).raiseOpen .pec k 4 1 := by
  simp [ppmuWrite_on s hk, h, hpmu]

/-- A request that nothing holds puts the channel into MEASURE (R116, R118). -/
theorem ppmuWrite_of_free {s : State} {k : Nat} (hk : k < 768) (h : s.pinSafe k = false) (hpmu : s.flag .pec k PEC_STAT_PMU_ON = false) :
    (s.ppmuWrite k true).1 = (s.putConn k true).setPin k (s.pin k).measure := by
  simp [ppmuWrite_on s hk, h, hpmu]

/-- A request's end: the PPMU leaves the pad, and the channel is exiting MEASURE if it was there (R118). -/
def PinSt.leave (p : PinSt) : PinSt := { p with ppmuOn := false, exiting := p.ppmuOn || p.exiting }

theorem ppmuWrite_off (s : State) (k : Nat) : (s.ppmuWrite k false).1 = (s.putConn k false).setPin k (s.pin k).leave := by
  rw [← pin_putConn s k false]
  rfl

/-- However a write of CONN comes out, it ends with CONN as written and what its channel reports. -/
theorem done_putConn {s u v : State} (hs : Steady s) {k : Nat} {c : Bool} (hu : OnPins [baseOf .pec k + 0x50] s u)
    (hr : ReportsOn (baseOf .pec k) u v) (hc : u.flag .pec k PEC_PPMU_CONN = c) :
    done v = .next { v with sig := [] } ∧ v.flag .pec k PEC_PPMU_CONN = c
      ∧ Reported [baseOf .pec k] [baseOf .pec k + 0x50] s { v with sig := [] }
      ∧ { v with sig := [] } = { s with
          regs := v.regs, hif := v.hif, faults := v.faults, evr := v.evr, free := v.free, pins := v.pins, banks := v.banks } := by
  obtain ⟨hdone, hrep, hframe⟩ := hu.done_reported hs (by simp only [baseOf]; omega) hr
    fun n hn => List.mem_singleton.not.mpr (psqStat_ne_pec hn k _)
  have hpins : v.pins = u.pins := by rw [hr.frame]
  have hbanks : v.banks = u.banks := by rw [hr.frame]
  refine ⟨hdone, (flag_congr (hr.rd_word (pec_past_reports k) (d := 0x50) (by decide))).trans hc, hrep, hframe.trans ?_⟩
  rw [hpins, hbanks]

/-- A write of CONN (R116, R118, R120). -/
theorem done_conn {s : State} (hs : Serving s) (k : Fin 768) (c : Bool) :
    ∃ t, exec (.conn k c) s = .next t
      ∧ t.flag .pec k.val PEC_PPMU_CONN = c
      ∧ (c = true → (s.put .pec k.val PEC_PPMU_CONN 1).ppmuHeld k.val = false →
          (t.pin k.val).drvOn = false ∧ (t.pin k.val).edges = [] ∧ (t.pin k.val).compares = [])
      ∧ (c = true → s.flag .pec k.val PEC_STAT_PMU_ON = true → s.pinSafe k.val = false →
          t.pin k.val = s.pin k.val ∧ Raised (baseOf .pec k.val) 4 1 s t ∧ (t.intStat (baseOf .pec k.val)).getLsbD 3 = true)
      ∧ (c = false → (t.pin k.val).ppmuOn = false)
      ∧ Reported [baseOf .pec k.val] [baseOf .pec k.val + 0x50] s t
      ∧ t = { s with
          regs := t.regs, hif := t.hif, faults := t.faults, evr := t.evr, free := t.free, pins := t.pins, banks := t.banks } := by
  have hput : OnPins [baseOf .pec k.val + 0x50] s (s.putConn k.val c) :=
    putPec_onPins s k.val PEC_PPMU_CONN (bit c)
  have hconn := conn_putConn s k.val c
  rw [show exec (.conn k c) s = done (s.ppmuWrite k.val c).1 from congrArg done (hostOp_of_live hs.2 _), held_put_conn s k.isLt]
  cases c with
  | false =>
    rw [ppmuWrite_off]
    obtain ⟨hdone, hc, hrep, hframe⟩ := done_putConn hs.1 (hput.trans (.setPin _ k.val (s.pin k.val).leave)) (.refl _ _) hconn
    refine ⟨_, hdone, hc, fun h => (nomatch h), fun h => (nomatch h), fun _ => ?_, hrep, hframe⟩
    exact congrArg PinSt.ppmuOn (pin_setPin_same _ _ _)
  | true =>
    cases hsafe : s.pinSafe k.val with
    | true =>
      rw [ppmuWrite_of_safe k.isLt hsafe]
      obtain ⟨hdone, hc, hrep, hframe⟩ := done_putConn hs.1 hput (.refl _ _) hconn
      exact ⟨_, hdone, hc, fun _ h => by simp at h, fun _ _ h => (nomatch h), fun h => (nomatch h), hrep, hframe⟩
    | false =>
      cases hpmu : s.flag .pec k.val PEC_STAT_PMU_ON with
      | true =>
        rw [ppmuWrite_of_blocked k.isLt hsafe hpmu]
        obtain ⟨hr, hra, hint⟩ := int_raiseOpen_shows (s.putConn k.val true) (pageBase_pec k.val) (pec_past_reports k.val) 4 (b := 3)
          (base := 1) (by decide) (by decide)
        generalize ((s.putConn k.val true).int .pec k.val 3).raiseOpen .pec k.val 4 1 = v at *
        obtain ⟨hdone, hc, hrep, hframe⟩ := done_putConn hs.1 hput hr hconn
        have hfault : (s.putConn k.val true).fault (baseOf .pec k.val) = s.fault (baseOf .pec k.val) := by rw [hput.frame]; rfl
        have hpin : v.pin k.val = s.pin k.val := by rw [hr.frame]; exact pin_putConn s k.val true k.val
        exact ⟨_, hdone, hc, fun _ h => by simp at h,
          fun _ _ _ => ⟨hpin, raised_of_same hfault (by rw [hput.frame]) hra, hint⟩, fun h => (nomatch h), hrep, hframe⟩
      | false =>
        rw [ppmuWrite_of_free k.isLt hsafe hpmu]
        obtain ⟨hdone, hc, hrep, hframe⟩ := done_putConn hs.1 (hput.trans (.setPin _ k.val (s.pin k.val).measure)) (.refl _ _) hconn
        have hpin : ((s.putConn k.val true).setPin k.val (s.pin k.val).measure).pin k.val = (s.pin k.val).measure := pin_setPin_same _ _ _
        refine ⟨_, hdone, hc, fun _ _ => ?_, fun _ h => (nomatch h), fun h => (nomatch h), hrep, hframe⟩
        exact ⟨congrArg PinSt.drvOn hpin, congrArg PinSt.edges hpin, congrArg PinSt.compares hpin⟩

/-! ### The PPMU connects and leaves -/

/-- An end of break-before-make: the channel's elements are as given, and PPMU_ON shows it (R118). -/
theorem done_setPin_putPpmuOn {s : State} (hs : Steady s) (k : Nat) (p : PinSt) (c : Bool) :
    done ((s.setPin k p).put .pec k PEC_STAT_PPMU_ON (bit c)) = .next ((s.setPin k p).put .pec k PEC_STAT_PPMU_ON (bit c))
      ∧ ((s.setPin k p).put .pec k PEC_STAT_PPMU_ON (bit c)).pin k = p
      ∧ ((s.setPin k p).put .pec k PEC_STAT_PPMU_ON (bit c)).flag .pec k PEC_STAT_PPMU_ON = c
      ∧ RegsBut [baseOf .pec k + 0x14] s ((s.setPin k p).put .pec k PEC_STAT_PPMU_ON (bit c)) := by
  have hu : OnPins [baseOf .pec k + 0x14] s ((s.setPin k p).put .pec k PEC_STAT_PPMU_ON (bit c)) :=
    (OnPins.setPin s k p).trans (.put _ .pec k PEC_STAT_PPMU_ON _)
  exact ⟨hu.done hs fun n hn => List.mem_singleton.not.mpr (psqStat_ne_pec hn k _), pin_setPin_same s k p,
    flag_put_bit _ .pec k (by decide) rfl c, hu.rd⟩

theorem ppmuConnect_of_free {s : State} {k : Nat} (hc : s.flag .pec k PEC_PPMU_CONN = true) (hh : s.ppmuHeld k = false) :
    ppmuConnect k s = (s.setPin k { (s.pin k).measure with ppmuOn := true, exiting := false }).put .pec k PEC_STAT_PPMU_ON (bit true) := by
  simp [ppmuConnect, hc, hh, bit]

theorem measureExit_of_exiting {s : State} {k : Nat} (h : (s.pin k).exiting = true) :
    measureExit k s = (s.setPin k { s.pin k with exiting := false, drvOn := false }).put .pec k PEC_STAT_PPMU_ON (bit false) := by
  simp [measureExit, h, bit]

/-- PPMU_CONNECT (R118). -/
theorem done_ppmuConnect {s : State} (hs : Steady s) (k : Fin 768) (hc : s.flag .pec k.val PEC_PPMU_CONN = true)
    (hh : s.ppmuHeld k.val = false) :
    ∃ t, exec (.ppmuConnect k) s = .next t
      ∧ (t.pin k.val).ppmuOn = true ∧ (t.pin k.val).drvOn = false ∧ t.flag .pec k.val PEC_STAT_PPMU_ON = true
      ∧ RegsBut [baseOf .pec k.val + 0x14] s t
      ∧ t = { s with regs := t.regs, pins := t.pins } := by
  obtain ⟨hdone, hpin, hflag, hrd⟩ :=
    done_setPin_putPpmuOn hs k.val { (s.pin k.val).measure with ppmuOn := true, exiting := false } true
  refine ⟨_, (congrArg done (ppmuConnect_of_free hc hh)).trans hdone, ?_, ?_, hflag, hrd, rfl⟩
  · exact congrArg PinSt.ppmuOn hpin
  · exact congrArg PinSt.drvOn hpin

/-- MEASURE_EXIT (R118). -/
theorem done_measureExit {s : State} (hs : Steady s) (k : Fin 768) (h : (s.pin k.val).exiting = true) :
    ∃ t, exec (.measureExit k) s = .next t
      ∧ (t.pin k.val).exiting = false ∧ (t.pin k.val).drvOn = false ∧ t.flag .pec k.val PEC_STAT_PPMU_ON = false
      ∧ RegsBut [baseOf .pec k.val + 0x14] s t
      ∧ t = { s with regs := t.regs, pins := t.pins } := by
  obtain ⟨hdone, hpin, hflag, hrd⟩ := done_setPin_putPpmuOn hs k.val { s.pin k.val with exiting := false, drvOn := false } false
  refine ⟨_, (congrArg done (measureExit_of_exiting h)).trans hdone, ?_, ?_, hflag, hrd, rfl⟩
  · exact congrArg PinSt.exiting hpin
  · exact congrArg PinSt.drvOn hpin

/-! ### IDLE_HOLD -/

/-- IDLE_HOLD is stored. -/
abbrev State.putIdleHold (s : State) (k : Nat) (on : Bool) : State := s.putPec k PEC_CFG_IDLE_HOLD (bit on)

/-- IDLE_HOLD has no part in a channel's state (R116, R117). -/
theorem pinState_putIdleHold (s : State) {k : Nat} (hk : k < 768) (on : Bool) : (s.putIdleHold k on).pinState k = s.pinState k :=
  pinState_congr (pinSafe_putPec s hk _ (by simp [fldOff, PEC_CFG_IDLE_HOLD]) (by simp [fldOff, PEC_CFG_IDLE_HOLD])) fun o ho =>
    (putPec_onPins s k PEC_CFG_IDLE_HOLD (bit on)).rd o
      (List.mem_singleton.not.mpr (by simp only [fldOff, baseOf, PEC_CFG_IDLE_HOLD]; omega))

/-- A write of IDLE_HOLD that the role may make: 0 turns off the driver in IDLE (R117). -/
theorem idleHoldWrite_of_open {s : State} {who : Asker} {k : Nat} (hk : k < 768) (h : s.sealedTo k who.role = false) (on : Bool) :
    (s.idleHoldWrite who k on).1 = if on = false ∧ s.pinState k = 1 then (s.putIdleHold k on).setPin k { s.pin k with drvOn := false }
      else s.putIdleHold k on := by
  have hpin : (s.putIdleHold k on).pin k = s.pin k := by rw [State.pin, putPec_pins, ← State.pin]
  have hw : (s.idleHoldWrite who k on).1 = if !on && (s.putIdleHold k on).pinState k == 1 then
      (s.putIdleHold k on).setPin k { (s.putIdleHold k on).pin k with drvOn := false } else s.putIdleHold k on := by
    simp only [State.idleHoldWrite, h]
    rfl
  rw [hw, pinState_putIdleHold s hk, hpin]
  simp

theorem exec_idleHold_of_live {s : State} (h : s.live = true) (k : Fin 768) (c : Bool) :
    exec (.idleHold k c) s = done (s.idleHoldWrite s.host k.val c).1 := congrArg done (hostOp_of_live h _)

/-- IDLE_HOLD of a channel that no bundle seals against the role (R117). -/
theorem done_idleHold {s : State} (hs : Serving s) (k : Fin 768) (c : Bool) (hseal : s.sealedTo k.val s.role = false) :
    ∃ t, exec (.idleHold k c) s = .next t
      ∧ t.flag .pec k.val PEC_CFG_IDLE_HOLD = c
      ∧ (c = false → s.pinState k.val = 1 → (t.pin k.val).drvOn = false)
      ∧ (c = true → t.pins = s.pins)
      ∧ RegsBut [baseOf .pec k.val + 0x40] s t
      ∧ t = { s with regs := t.regs, pins := t.pins, banks := t.banks } := by
  have hput : OnPins [baseOf .pec k.val + 0x40] s (s.putIdleHold k.val c) :=
    putPec_onPins s k.val PEC_CFG_IDLE_HOLD (bit c)
  have hflag : (s.putIdleHold k.val c).flag .pec k.val PEC_CFG_IDLE_HOLD = c := flag_putPec_bit s k.val (by decide) rfl c
  have hstat : ∀ n < 8, baseOf .psq n + 0x14 ∉ [baseOf .pec k.val + 0x40] := fun n hn =>
    List.mem_singleton.not.mpr (psqStat_ne_pec hn k.val _)
  rw [exec_idleHold_of_live hs.2, idleHoldWrite_of_open k.isLt hseal]
  split
  · next h =>
    have hu := hput.trans (.setPin _ k.val { s.pin k.val with drvOn := false })
    refine ⟨_, hu.done hs.1 hstat, hflag, fun _ _ => ?_, fun hc => ?_, hu.rd, hu.frame⟩
    · exact congrArg PinSt.drvOn (pin_setPin_same _ _ _)
    · rw [h.1] at hc
      cases hc
  · next h =>
    exact ⟨_, hput.done hs.1 hstat, hflag, fun hc hp => absurd ⟨hc, hp⟩ h, fun _ => putPec_pins s k.val _ _, hput.rd, hput.frame⟩

/-- IDLE_HOLD of a channel sealed against the role is refused (R152). -/
theorem done_idleHold_sealed {s : State} (hs : Serving s) (k : Fin 768) (c : Bool) (hseal : s.sealedTo k.val s.role = true) :
    ∃ t, exec (.idleHold k c) s = .next t
      ∧ t.intStat (baseOf .pec k.val) = s.intStat (baseOf .pec k.val) ||| 0x40000000
      ∧ RegsBut ([baseOf .pec k.val + 0x18] ++ pbaOffs) s t
      ∧ t = { s with regs := t.regs, hif := { s.hif with sent := t.hif.sent } } := by
  have hw : (s.idleHoldWrite s.host k.val c).1 = s.denied (baseOf .pec k.val) := by
    have hseal' : s.sealedTo k.val s.host.role = true := hseal
    rw [State.idleHoldWrite, if_pos hseal', State.deniedAt, pageBase_pec]
  rw [exec_idleHold_of_live hs.2, hw]
  exact done_denied hs.1 (by simp only [baseOf]; omega) (by simp only [baseOf]; omega)

/-! ### Compliance -/

/-- Compliance of a PPMU that is connected and forces: an onset is raised (R148). -/
theorem ppmuCompliance_of_forcing {s : State} {k : Nat} (hon : (s.pin k).ppmuOn = true) (hm : s.fld .pec k PEC_PPMU_MODE ≠ 2) (c : Bool) :
    ppmuCompliance k c s = if c = true ∧ s.flag .pec k PEC_PPMU_COMPLIANCE = false
      then ((s.put .pec k PEC_PPMU_COMPLIANCE (bit c)).int .pec k 2).raiseOpen .pec k 3 1
      else s.put .pec k PEC_PPMU_COMPLIANCE (bit c) := by
  simp [ppmuCompliance, hon, hm]

/-- PPMU_COMPLIANCE (R148). -/
theorem done_ppmuCompliance {s : State} (hs : Steady s) (k : Fin 768) (c : Bool) (hon : (s.pin k.val).ppmuOn = true)
    (hm : s.fld .pec k.val PEC_PPMU_MODE ≠ 2) :
    ∃ t, exec (.ppmuCompliance k c) s = .next t
      ∧ t.flag .pec k.val PEC_PPMU_COMPLIANCE = c
      ∧ (c = true → s.flag .pec k.val PEC_PPMU_COMPLIANCE = false →
          Raised (baseOf .pec k.val) 3 1 s t ∧ (t.intStat (baseOf .pec k.val)).getLsbD 2 = true)
      ∧ Reported [baseOf .pec k.val] [baseOf .pec k.val + 0x50] s t
      ∧ t = { s with regs := t.regs, hif := t.hif, faults := t.faults, evr := t.evr, free := t.free } := by
  have hput : OnPins [baseOf .pec k.val + 0x50] s (s.put .pec k.val PEC_PPMU_COMPLIANCE (bit c)) :=
    .put s .pec k.val PEC_PPMU_COMPLIANCE (bit c)
  have hflag := flag_put_bit s .pec k.val (f := PEC_PPMU_COMPLIANCE) (by decide) rfl c
  have hend : ∀ v, ReportsOn (baseOf .pec k.val) (s.put .pec k.val PEC_PPMU_COMPLIANCE (bit c)) v → _ := fun v hr =>
    hput.done_reported hs (by simp only [baseOf]; omega) hr fun n hn => List.mem_singleton.not.mpr (psqStat_ne_pec hn k.val _)
  change ∃ t, done (ppmuCompliance k.val c s) = .next t ∧ _
  rw [ppmuCompliance_of_forcing hon hm]
  split
  · obtain ⟨hr, hra, hint⟩ := int_raiseOpen_shows (s.put .pec k.val PEC_PPMU_COMPLIANCE (bit c)) (pageBase_pec k.val)
      (pec_past_reports k.val) 3 (b := 2) (base := 1) (by decide) (by decide)
    generalize ((s.put .pec k.val PEC_PPMU_COMPLIANCE (bit c)).int .pec k.val 2).raiseOpen .pec k.val 3 1 = v at *
    obtain ⟨hdone, hrep, hframe⟩ := hend v hr
    have hflag' := (flag_congr (k := .pec) (hr.rd_word (pec_past_reports k.val) (d := 0x50) (by decide))).trans hflag
    exact ⟨_, hdone, hflag', fun _ _ => ⟨hra, hint⟩, hrep, hframe⟩
  · next h =>
    obtain ⟨hdone, hrep, hframe⟩ := hend _ (.refl _ _)
    exact ⟨_, hdone, hflag, fun hc hw => absurd ⟨hc, hw⟩ h, hrep, hframe⟩

/-- Settles O25, a command at a time: each puts a field of the channel's page, sets the channel's elements, and may raise a class there. -/
theorem ppmuConnection : Obligations.PpmuConnection := by
  unfold Obligations.PpmuConnection
  intro s hs
  exact ⟨done_conn hs, done_ppmuConnect hs.1, done_measureExit hs.1, done_idleHold hs, done_idleHold_sealed hs, done_ppmuCompliance hs.1⟩

end Sys2Proof.Machine

namespace Sys2Proof.Machine
open Sys2Proof Reg

/-! ## A pattern fault that is recorded at Fatal (O34, O35)

A pattern fault raises class 1 of its PSQ's page at Error (R222, R227). The third that the host leaves unacknowledged, in as many bursts, is
recorded at Fatal (R60), so that the device enters FAULT (R61), which cuts every burst short (R35). -/

/-! ### What a noted Fatal entry outlasts -/

namespace KeepsCore

theorem raise_of_low {s : State} {k : PageKind} {i cls base : Nat} (d : Word) (h : base < 2) :
    KeepsCore s (s.raise k i cls base d) := by
  have hl : recordedLevel (s.fault (pageBase k i)) cls base < 4 := by rw [recordedLevel_low _ _ _ h]; omega
  constructor <;> rw [State.raise, recordFault_eq_with _ _ _ _ _ _ _ hl]

theorem raiseOpen_of_low (s : State) (k : PageKind) (i cls : Nat) {base : Nat} (h : base < 2) : KeepsCore s (s.raiseOpen k i cls base) :=
  (raise_of_low _ h).trans (drawn _)

theorem syncDrive (s : State) (lane : Nat) : KeepsCore s (s.syncDrive lane) := (put s _ _ _ _).trans (put _ _ _ _ _)

theorem requestStop (s : State) (n cause lane : Nat) : KeepsCore s (s.requestStop n cause lane) := .ite (setPsq s _ _) (refl s)

/-- A stop condition asks for a stop, and may drive its SYNC lane or raise a Notice (R211). -/
theorem stopCond (s : State) (n cond : Nat) : KeepsCore s (s.stopCond n cond) :=
  .ite ((requestStop s n 7 0).trans (.ite (.ite (syncDrive _ _) (raiseOpen_of_low _ _ _ _ (by decide))) (refl _))) (refl s)

end KeepsCore

/-- Taint changes registers and sites only (R223). -/
theorem taintSite_eq_with (s : State) (i b : Nat) :
    s.taintSite i b = { s with regs := (s.taintSite i b).regs, sites := (s.taintSite i b).sites } := by
  unfold State.taintSite
  simp only
  split <;> rfl

theorem taintAll_eq_with (s : State) (n b : Nat) :
    s.taintAll n b = { s with regs := (s.taintAll n b).regs, sites := (s.taintAll n b).sites } := by
  unfold State.taintAll
  have hfold : ∀ (l : List Nat) (u : State), ∃ r x, l.foldl (fun s i => s.taintSite i b) u = { u with regs := r, sites := x } := by
    intro l
    induction l with
    | nil => exact fun u => ⟨u.regs, u.sites, rfl⟩
    | cons i l ih =>
      intro u
      obtain ⟨r, x, h⟩ := ih (u.taintSite i b)
      exact ⟨r, x, by rw [List.foldl_cons, h, taintSite_eq_with]⟩
  obtain ⟨r, x, h⟩ := hfold (s.sitesOf n) (s.taintPsq n b)
  rw [h]
  rfl

/-- The device runs, and no measurement request waits. -/
structure RunsUnmeasured (u : State) : Prop where
  dev : u.dev = .run
  meas : u.meas = []

namespace RunsUnmeasured

theorem keeps {s u : State} (h : RunsUnmeasured s) (hk : KeepsCore s u) : RunsUnmeasured u := ⟨hk.dev.trans h.dev, hk.meas.trans h.meas⟩

theorem ite {c : Prop} [Decidable c] {s u : State} (h1 : RunsUnmeasured s) (h2 : RunsUnmeasured u) : RunsUnmeasured (if c then s else u) := by
  split
  · exact h1
  · exact h2

theorem noteGrave {s : State} (h : RunsUnmeasured s) (fatal : Bool) (typ : Nat) : RunsUnmeasured (s.noteGrave fatal typ) := by
  unfold State.noteGrave
  split
  · exact ⟨h.dev, h.meas⟩
  · exact .ite ⟨h.dev, h.meas⟩ h

/-- An entry may be recorded at any level: what it does to the device waits for the end of the command. -/
theorem raise {s : State} (h : RunsUnmeasured s) (k : PageKind) (i cls base : Nat) (d : Word) : RunsUnmeasured (s.raise k i cls base d) := by
  have hset : ∀ (c : Prop) [Decidable c] (page : Nat) (m : Word) {u : State}, RunsUnmeasured u →
      RunsUnmeasured (if c then u.intSet page m else u) :=
    fun c _ page m u hu => .ite (hu.keeps (.of_reportsOn (.intSet page u m))) hu
  have hoffer : ∀ (x : EvrIn) {u : State}, RunsUnmeasured u → RunsUnmeasured (u.evrOffer x) := fun x u hu =>
    hu.keeps (.of_reportsOn (.evrOffer 0 u x))
  simp only [State.raise, State.recordFault, if_true, ← ite_not (recordedLevel _ _ _ < 2)]
  refine RunsUnmeasured.ite ?_ (RunsUnmeasured.noteGrave (RunsUnmeasured.keeps ?_ (.allSupFault _)) _ _)
  all_goals exact hoffer _ (hset _ _ _ (hset _ _ _ (h.keeps (.of_reportsOn (.setFault _ s _)))))

end RunsUnmeasured

/-! ### The fault is raised -/

/-- The end of a burst at a pattern fault (R222). -/
def State.endedByFault (s : State) (n code : Nat) : State :=
  s.setPsq n { s.psq n with ending := some (2, code, 0), emit := none, micro := none, hold := .none }

/-- What a pattern fault does before it raises its class (R222). -/
def State.faultMarked (s : State) (n code : Nat) : State :=
  let s := s.endedByFault n code
  (((s.put .psq n PSQ_FAULT_PC (s.fld .psq n PSQ_PC)).put .psq n PSQ_STAT_RUNSTATE 8).taintAll n 2).int .psq n 6

theorem patternFault_eq (s : State) (n code : Nat) :
    s.patternFault n code = (if (s.faultMarked n code).raisedOnce n 1 then s.faultMarked n code
      else ((s.faultMarked n code).noteRaised n 1).raiseOpen .psq n 1 3).stopCond n 0 := rfl

theorem faultMarked_eq_with (s : State) (n code : Nat) :
    s.faultMarked n code = { s.endedByFault n code with
      regs := (s.faultMarked n code).regs, hif := (s.faultMarked n code).hif, sig := (s.faultMarked n code).sig
      sites := (s.faultMarked n code).sites } := by
  simp only [State.faultMarked]
  rw [int_eq_with, taintAll_eq_with]
  rfl

theorem faultMarked_keepsCore (s : State) (n code : Nat) : KeepsCore s (s.faultMarked n code) := by
  constructor <;> rw [faultMarked_eq_with] <;> rfl

theorem faultMarked_faults (s : State) (n code : Nat) : (s.faultMarked n code).faults = s.faults := by
  rw [faultMarked_eq_with]
  rfl

theorem raisedOnce_faultMarked (s : State) (n code what : Nat) : (s.faultMarked n code).raisedOnce n what = s.raisedOnce n what := by
  have hpsq : (s.faultMarked n code).psq n = (s.endedByFault n code).psq n := by rw [faultMarked_eq_with]; rfl
  rw [State.raisedOnce, hpsq, State.endedByFault, psq_setPsq_same, State.raisedOnce]

/-- The first pattern fault of a burst raises class 1 at Error (R222, R227). -/
theorem patternFault_of_first {s : State} {n : Nat} (code : Nat) (h : s.raisedOnce n 1 = false) :
    s.patternFault n code = (((s.faultMarked n code).noteRaised n 1).raiseOpen .psq n 1 3).stopCond n 0 := by
  rw [patternFault_eq, raisedOnce_faultMarked, h]
  rfl

/-! ### The burst is cut short -/

/-- RUNSTATE after FAULT has cut a burst short (R35). -/
theorem runstate_cutPsq (s : State) (n : Nat) : (s.cutPsq n).fld .psq n PSQ_STAT_RUNSTATE = 0 := by
  unfold State.cutPsq
  split
  · exact (fld_put_same (s.put .psq n PSQ_END_CAUSE s.freeVal).drawn .psq n PSQ_STAT_RUNSTATE 0 (by decide) (by decide)).trans (Nat.zero_mod _)
  · next h => simpa [State.psqRunning] using h

theorem runstate_zero_cutPsq {s : State} {n : Nat} (m : Nat) (h : s.fld .psq n PSQ_STAT_RUNSTATE = 0) :
    (s.cutPsq m).fld .psq n PSQ_STAT_RUNSTATE = 0 := by
  unfold State.cutPsq
  split
  · refine fld_put_zero (s := (s.put .psq m PSQ_END_CAUSE s.freeVal).drawn) (by decide) (by decide) ?_
    refine (fld_congr (rd_put_other s _ ?_)).trans h
    simp only [fldOff, baseOf, PSQ_STAT_RUNSTATE, PSQ_END_CAUSE]
    omega
  · exact h

theorem rd_calAbandonAll_other (s : State) {o : Nat} (h1 : o % 0x1000 ≠ 0x44) (h2 : o % 0x1000 ≠ 0x804) :
    s.calAbandonAll.rd o = s.rd o :=
  foldl_of_step (P := fun u => u.rd o = s.rd o) (fun u r hu => (rd_calAbandon_other u r h1 h2).trans hu) _ rfl

theorem runstate_calAbandonAll (s : State) (n : Nat) : s.calAbandonAll.fld .psq n PSQ_STAT_RUNSTATE = s.fld .psq n PSQ_STAT_RUNSTATE :=
  fld_congr (rd_calAbandonAll_other s (by simp only [fldOff, baseOf, PSQ_STAT_RUNSTATE]; omega)
    (by simp only [fldOff, baseOf, PSQ_STAT_RUNSTATE]; omega))

/-- FAULT has cut a sequencer's burst short, and there is no measurement request to cancel. -/
structure CutShort (n : Nat) (u : State) : Prop where
  runstate : u.fld .psq n PSQ_STAT_RUNSTATE = 0
  meas : u.meas = []

/-- No sequencer runs in a device that has entered FAULT (R35). -/
theorem enterFault_cutShort {s : State} (h : s.meas = []) (cause typ : Nat) {n : Nat} (hn : n < 8) : CutShort n (s.enterFault cause typ) := by
  simp only [State.enterFault]
  have hheld : ∀ u : State, u.meas = [] → ((List.range 24).foldl (fun s b => s.setBank b { s.bank b with held := true }) u).meas = [] :=
    fun u hu => foldl_of_step (P := fun u => u.meas = []) (f := fun s b => s.setBank b { s.bank b with held := true }) (fun _ _ hu => hu) _ hu
  have hcut : ∀ u : State, u.meas = [] → CutShort n ((List.range 8).foldl State.cutPsq u) := fun u hu =>
    ⟨foldl_of_mem (P := fun v => v.fld .psq n PSQ_STAT_RUNSTATE = 0) (List.mem_range.mpr hn) (fun v => runstate_cutPsq v n)
      (fun _ m hv => runstate_zero_cutPsq m hv) u, (KeepsCore.foldl .cutPsq _ u).meas.trans hu⟩
  have hcancel : ∀ u : State, CutShort n u → CutShort n ((List.range 24).foldl (fun s b => s.cancelWhere b fun _ => true) u) :=
    fun u hu => foldl_of_step (P := CutShort n) (fun s b hs => by rw [cancelWhere_of_no_meas hs.meas]; exact hs) _ hu
  have hcal : ∀ u : State, CutShort n u → CutShort n u.calAbandonAll := fun u hu =>
    ⟨(runstate_calAbandonAll u n).trans hu.runstate, (KeepsCore.calAbandonAll u).meas.trans hu.meas⟩
  have hsafe : ∀ u : State, CutShort n u → CutShort n u.safeAllPins := fun u hu => ⟨hu.runstate, hu.meas⟩
  exact hsafe _ (hcal _ (hcancel _ (hcut _ (hheld _ ((KeepsCore.allSupFault _).meas.trans h)))))

/-- Settling changes no register. -/
theorem done_regs {u t : State} (ht : done u = .next t) : t.regs = u.fall.regs :=
  have hsettle : u.fall.settle.regs = u.fall.regs := by rw [settle_eq_with]
  (congrArg State.regs (Host.Outcome.next.inj ht)).symm.trans hsettle

/-- A Fatal entry takes a device that runs into FAULT (R61, R78). -/
theorem fall_of_fatal {u v w : State} {typ : Nat} (hg : u.grave = some (true, typ))
    (hv : ({ u with grave := none } : State).calAbandonAll = v) (hdev : v.dev = .run) (hw : v.enterFault 1 typ = w) :
    u.fall = { w with grave := none } := by
  simp only [State.fall, hg, hv, hw]
  exact if_neg (by simp [hdev])

/-- A Fatal entry of a device that runs ends every burst with the command (R35, R61). -/
theorem runstate_of_fatal {u t : State} (hg : u.grave.any Prod.fst = true) (hu : RunsUnmeasured u) (ht : done u = .next t) {n : Nat}
    (hn : n < 8) : t.fld .psq n PSQ_STAT_RUNSTATE = 0 := by
  obtain ⟨⟨fatal, typ⟩, hgrave, rfl⟩ := (Option.any_eq_true _ _).mp hg
  -- the states are named, so that no comparison of their fields unfolds how they came about
  obtain ⟨v, hab⟩ : ∃ v, ({ u with grave := none } : State).calAbandonAll = v := ⟨_, rfl⟩
  have hv : RunsUnmeasured v := hab ▸ RunsUnmeasured.keeps (s := { u with grave := none }) ⟨hu.dev, hu.meas⟩ (.calAbandonAll _)
  obtain ⟨w, hw⟩ : ∃ w, v.enterFault 1 typ = w := ⟨_, rfl⟩
  have hcut : CutShort n w := hw ▸ enterFault_cutShort hv.meas 1 typ hn
  have hrd : ∀ o, t.rd o = w.rd o := fun o => by rw [State.rd, State.rd, done_regs ht, fall_of_fatal hgrave hab hv.dev hw]
  exact (fld_congr (hrd _)).trans hcut.runstate

/-- A pattern fault whose class is unacknowledged at Critical ends its burst at once: RUNSTATE is 0, and not the 8 of a burst whose end
is fixed (R60, R61, R222). -/
theorem runstate_done_patternFault {s t : State} {n code : Nat} (hs : RunsUnmeasured s) (hfirst : s.raisedOnce n 1 = false)
    (hcrit : lookupKey (s.fault (pageBase .psq n)).unacked 1 = some 4) (ht : done (s.patternFault n code) = .next t) (hn : n < 8) :
    t.fld .psq n PSQ_STAT_RUNSTATE = 0 := by
  rw [patternFault_of_first code hfirst] at ht
  have hmarked : KeepsCore s ((s.faultMarked n code).noteRaised n 1) := (faultMarked_keepsCore s n code).trans (.setPsq _ _ _)
  have hfaults : ((s.faultMarked n code).noteRaised n 1).faults = s.faults := faultMarked_faults s n code
  generalize (s.faultMarked n code).noteRaised n 1 = u at *
  have hlevel : recordedLevel (u.fault (pageBase .psq n)) 1 3 = 5 := by
    rw [State.fault, hfaults, ← State.fault, recordedLevel, hcrit]
    rfl
  have hend : KeepsCore (u.raise .psq n 1 3 u.freeWord) ((u.raiseOpen .psq n 1 3).stopCond n 0) := (KeepsCore.drawn _).trans (.stopCond _ _ _)
  refine runstate_of_fatal ?_ (((hs.keeps hmarked).raise .psq n 1 3 _).keeps hend) ht hn
  rw [hend.grave]
  exact grave_raise _ hlevel

/-- A pattern fault does not end its burst as the statements say (`Faults`) where the class is unacknowledged at Critical. -/
theorem not_faults_of_critical {s t : State} {n code : Nat} (hs : RunsUnmeasured s) (hfirst : s.raisedOnce n 1 = false)
    (hcrit : lookupKey (s.fault (pageBase .psq n)).unacked 1 = some 4) (ht : done (s.patternFault n code) = .next t) (hn : n < 8) (r : State) :
    ¬ Faults n code r t := by
  rintro ⟨-, -, hrun⟩
  rw [runstate_done_patternFault hs hfirst hcrit ht hn] at hrun
  exact absurd hrun (by decide)

/-! ### The next instruction acts -/

/-- The instruction that a sequencer is to take acts: it takes its slot, and ends as its function says (R191, R203). -/
theorem asOp_of_nextOp {s : State} {n : Nat} {f : Func} (h : NextOp s n f) :
    s.asOp n f none = ((s.takeSlot n).fn n (s.instr n) f).1.vendorEnd n ((s.takeSlot n).fn n (s.instr n) f).2 := by
  obtain ⟨hburst, hhold, hemit, hmicro, hend, hfetch, hfunc⟩ := h
  have htake : s.takeAjump n = s := by simp only [State.takeAjump, hend, Bool.not_false, if_true]
  simp [State.asOp, hburst, hhold, hemit, hmicro, htake, hfetch, hfunc]

theorem retFn_of_empty {s : State} {n : Nat} (h : s.callDepth n = 0) : s.retFn n = (s, .fault 9) := by
  simp only [State.retFn, h, if_true]

theorem matchFn_of_outside {s : State} {n w : Nat} (h : s.vpSegment n 0 = none) : s.matchFn n w = (s, .fault 5) := by
  simp only [State.matchFn, h]

theorem exec_ret_of_empty {s : State} {n : Fin 8} (h : NextOp s n.val .ret) (hempty : (s.takeSlot n.val).callDepth n.val = 0) :
    exec (.ret n) s = done ((s.takeSlot n.val).patternFault n.val 9) := by
  change done (s.asOp n.val .ret none) = _
  rw [asOp_of_nextOp h, State.fn, retFn_of_empty hempty, State.vendorEnd]

theorem exec_matchVec_of_outside {s : State} {n : Fin 8} (h : NextOp s n.val .matchVec) (hout : (s.takeSlot n.val).vpSegment n.val 0 = none) :
    exec (.matchVec n) s = done ((s.takeSlot n.val).patternFault n.val 5) := by
  change done (s.asOp n.val .matchVec none) = _
  rw [asOp_of_nextOp h, State.fn, matchFn_of_outside hout, State.vendorEnd]

/-! ### The third pattern fault that nobody acknowledged -/

/-- An entry of class 1 at base level Error. -/
def patternEntry (level : Nat) (seq : BitVec 16) : FaultEntry := ⟨1, level, 3, false, seq, 0, 0, 0⟩

/-- PSQ 3 begins a burst of a program of the one instruction `w`, with no call and no valid VP. The pattern faults of two bursts before it
stand unacknowledged, the second recorded at Critical (R60). -/
def thirdBurst (w : Nat) : State :=
  let s := { State.reset with dev := .run }
  let s := s.setFault (pageBase .psq 3) ⟨[patternEntry 4 1, patternEntry 3 0], 2, [(1, 4)], none⟩
  let s := (((s.put .mce 3 MCE_STAT_VENDOR_VALID 1).put .psq 3 PSQ_STAT_RUNSTATE 2).put .psq 3 PSQ_STAT_BOUND 1).put .psq 3 PSQ_STAT_LOADED 1
  s.setPsq 3 { s.psq 3 with
    prog := some ⟨0, 1, 0x1000, [], [(0, 1)]⟩
    cache := [(0, ⟨.good, natBytes 8 w ++ natBytes 56 0⟩)] }

/-- RET, with nothing to go back to. -/
def retBurst : State := thirdBurst 0x0A00000000000000

/-- MATCH, with VP in no segment. -/
def matchBurst : State := thirdBurst 0x1000000000000000

theorem retBurst_serving : Serving retBurst :=
  serving_of (by decide +kernel) (by decide +kernel) (by decide +kernel) (by decide +kernel)

theorem matchBurst_serving : Serving matchBurst :=
  serving_of (by decide +kernel) (by decide +kernel) (by decide +kernel) (by decide +kernel)

theorem retBurst_next : NextOp retBurst (3 : Fin 8).val .ret := by decide +kernel

theorem matchBurst_next : NextOp matchBurst (3 : Fin 8).val .matchVec := by decide +kernel

/-- Refutes O34: a RET with an empty call stack is said to fix the burst's end with RUNSTATE 8, but as the third pattern fault that nobody
acknowledged it is recorded at Fatal (R60), so that the device enters FAULT and the burst is over (R35, R61). -/
theorem not_programControl : ¬ Obligations.ProgramControl := by
  unfold Obligations.ProgramControl
  intro h
  obtain ⟨-, -, -, -, -, -, hret⟩ := h retBurst retBurst_serving
  obtain ⟨t, ht, -, hempty, -⟩ := hret 3 retBurst_next
  rw [exec_ret_of_empty (n := 3) retBurst_next (by decide +kernel)] at ht
  exact not_faults_of_critical ⟨by decide +kernel, by decide +kernel⟩ (by decide +kernel) (by decide +kernel) ht (by decide) _
    (hempty (by decide +kernel))

/-- Refutes O35: a MATCH with VP in no segment is said to fix the burst's end with RUNSTATE 8, but as the third pattern fault that nobody
acknowledged it is recorded at Fatal (R60), so that the device enters FAULT and the burst is over (R35, R61). -/
theorem not_emissionsAndWaits : ¬ Obligations.EmissionsAndWaits := by
  unfold Obligations.EmissionsAndWaits
  intro h
  obtain ⟨-, -, hmatch, -⟩ := h matchBurst matchBurst_serving
  obtain ⟨t, ht, -, -, -, hout⟩ := hmatch 3 matchBurst_next
  rw [exec_matchVec_of_outside (n := 3) matchBurst_next (by decide +kernel)] at ht
  exact not_faults_of_critical ⟨by decide +kernel, by decide +kernel⟩ (by decide +kernel) (by decide +kernel) ht (by decide) _
    (hout (by decide +kernel))

end Sys2Proof.Machine

namespace Sys2Proof.Machine
open Sys2Proof Reg

/-! ## A reserved SITEOP that is recorded at Fatal (O36) -/

/-- A SITEOP that a sequencer is to take acts by its subcode (R270). -/
theorem asOp_siteop_of_nextOp {s : State} {n : Nat} (h : NextOp s n .siteop) :
    s.asOp n .siteop (some (subOf (s.instr n)))
      = ((s.takeSlot n).siteopFn n (s.instr n)).1.vendorEnd n ((s.takeSlot n).siteopFn n (s.instr n)).2 := by
  obtain ⟨hburst, hhold, hemit, hmicro, hend, hfetch, hfunc⟩ := h
  have htake : s.takeAjump n = s := by simp only [State.takeAjump, hend, Bool.not_false, if_true]
  simp [State.asOp, State.fn, hburst, hhold, hemit, hmicro, htake, hfetch, hfunc]

/-- A STATE with a reserved operation is a SITEOP fault (R273, R275). -/
theorem stateFn_of_reserved {s : State} {n w : Nat} (hop : 2 < natBits w 43 40) (hw : s.needWait n = false) :
    s.stateFn n w = s.soFault n 1 := by
  simp [State.stateFn, State.afterWait, hw, hop]

theorem exec_siteState_of_reserved {s : State} {n : Fin 8} (h : NextOp s n.val .siteop) (hsub : subOf (s.instr n.val) = 3)
    (hop : 2 < natBits (s.instr n.val) 43 40) (hw : (s.takeSlot n.val).needWait n.val = false) :
    exec (.siteState n) s = done (((s.takeSlot n.val).soFault n.val 1).1.patternFault n.val 18) := by
  have hfn : (s.takeSlot n.val).siteopFn n.val (s.instr n.val) = (s.takeSlot n.val).soFault n.val 1 := by
    simp only [State.siteopFn, hsub, stateFn_of_reserved hop hw]
  change done (s.asOp n.val .siteop (some 3)) = _
  rw [← hsub, asOp_siteop_of_nextOp h, hfn]
  rfl

/-- STATE with the reserved operation 3. -/
def reservedBurst : State := thirdBurst 0x1800330000000000

theorem reservedBurst_serving : Serving reservedBurst :=
  serving_of (by decide +kernel) (by decide +kernel) (by decide +kernel) (by decide +kernel)

theorem reservedBurst_next : NextOp reservedBurst (3 : Fin 8).val .siteop := by decide +kernel

/-- Refutes O36: a STATE with a reserved operation is said to fix the burst's end with RUNSTATE 8, but as the third pattern fault that nobody
acknowledged it is recorded at Fatal (R60, R275), so that the device enters FAULT and the burst is over (R35, R61). -/
theorem not_siteOperations : ¬ Obligations.SiteOperations := by
  unfold Obligations.SiteOperations
  intro h
  obtain ⟨-, -, hstate, -⟩ := h reservedBurst reservedBurst_serving
  obtain ⟨t, ht, -, -, -, -, hfault⟩ :=
    hstate 3 reservedBurst_next (by decide +kernel) (by decide +kernel) (by decide +kernel)
  rw [exec_siteState_of_reserved (n := 3) reservedBurst_next (by decide +kernel) (by decide +kernel) (by decide +kernel)] at ht
  exact not_faults_of_critical ⟨by decide +kernel, by decide +kernel⟩ (by decide +kernel) (by decide +kernel) ht (by decide) _
    (hfault (by decide +kernel)).1

end Sys2Proof.Machine

namespace Sys2Proof.Machine
open Sys2Proof Reg

/-! ## Writes of the registers of a page (O29, O31) -/

/-- What a write of a page's registers changes: the words at `offs`, and what the page then reports. -/
structure Accesses (page : Nat) (offs : List Nat) (s u : State) : Prop where
  frame : u = { s with regs := u.regs, hif := u.hif, faults := u.faults, evr := u.evr, free := u.free, sig := u.sig }
  reported : Reported [page] offs s u

namespace Accesses
variable {page : Nat} {offs : List Nat}

theorem of_reportsOn {s u : State} (h : ReportsOn page s u) : Accesses page offs s u where
  frame := h.frame
  reported := by
    refine ⟨fun o ho => ?_, h.faults, h.hif⟩
    simp only [List.map_cons, List.map_nil, List.cons_append, List.nil_append, List.mem_cons, List.mem_append, not_or] at ho
    exact h.rd o ho.1 ho.2.1.2 ho.2.2

theorem refl (s : State) : Accesses page offs s s := of_reportsOn (.refl page s)

theorem trans {s t u : State} (h1 : Accesses page offs s t) (h2 : Accesses page offs t u) : Accesses page offs s u where
  frame := by rw [h2.frame, h1.frame]
  reported := by
    obtain ⟨hr1, hf1, hh1⟩ := h1.reported
    obtain ⟨hr2, hf2, hh2⟩ := h2.reported
    exact ⟨fun o ho => (hr2 o ho).trans (hr1 o ho), fun q hq => (hf2 q hq).trans (hf1 q hq), by rw [hh2, hh1]⟩

theorem ite {c : Prop} [Decidable c] {s t u : State} (h1 : Accesses page offs s t) (h2 : Accesses page offs s u) :
    Accesses page offs s (if c then t else u) := by
  split
  · exact h1
  · exact h2

theorem putAt (s : State) {k : PageKind} {i : Nat} {f : Fld} {j : Nat} (v : Nat) (h : fldOff k i f j ∈ offs) :
    Accesses page offs s (s.putAt k i f j v) where
  frame := rfl
  reported := by
    refine ⟨fun o ho => rd_putAt_other s v fun he => ho ?_, fun _ _ => rfl, rfl⟩
    simp only [List.mem_append]
    exact .inl (.inl (.inr (he ▸ h)))

theorem put (s : State) {k : PageKind} {i : Nat} {f : Fld} (v : Nat) (h : fldOff k i f 0 ∈ offs) : Accesses page offs s (s.put k i f v) :=
  putAt s v h

/-- A word that is none of those written, nor one that a report changes. -/
theorem rd {s u : State} (h : Accesses page offs s u) {o : Nat} (ho : o ∉ offs) (hi : o ≠ page + 0x18) (hr : o ∉ pbaOffs ++ evrOffs) :
    u.rd o = s.rd o := by
  refine h.reported.1 o ?_
  simp only [List.map_cons, List.map_nil, List.cons_append, List.nil_append, List.mem_cons, List.mem_append, not_or] at hr ⊢
  exact ⟨hi, ⟨ho, hr.1⟩, hr.2⟩

/-- Such a write ends with what it did. -/
theorem done {s u : State} (hs : Steady s) (h : Accesses page offs s u) (hp : page % 0x1000 = 0)
    (hoffs : ∀ n < 8, baseOf .psq n + 0x14 ∉ offs) :
    Machine.done u = .next { u with sig := [] } ∧ Reported [page] offs s { u with sig := [] }
      ∧ { u with sig := [] } = { s with regs := u.regs, hif := u.hif, faults := u.faults, evr := u.evr, free := u.free } := by
  have hstat : ∀ n < 8, u.rd (baseOf .psq n + 0x14) = s.rd (baseOf .psq n + 0x14) := fun n hn =>
    h.rd (hoffs n hn) (psqStat_ne_intStat hp n) (List.not_mem_append (psqStat_not_mem_pbaOffs n) (psqStat_not_mem_evrOffs n))
  refine ⟨done_of_steady hs (by rw [h.frame]; exact hs.1) (by rw [h.frame]) hstat, h.reported, ?_⟩
  have hsig : s.sig = [] := hs.2.1
  rw [← hsig]
  conv_lhs => rw [h.frame]

end Accesses

/-- A page whose registers have been written sets a cause bit and raises a class at Notice or Info. -/
theorem int_raiseOpen_shows_of_regs {s u : State} (h : u = { s with regs := u.regs }) {k : PageKind} {i page : Nat} (hpage : pageBase k i = page)
    (hp : 0x33000 ≤ page) (cls : Nat) {b base : Nat} (hb : b < 32) (hbase : base < 2) :
    ReportsOn page u ((u.int k i b).raiseOpen k i cls base) ∧ Raised page cls base s ((u.int k i b).raiseOpen k i cls base)
      ∧ (((u.int k i b).raiseOpen k i cls base).intStat page).getLsbD b = true := by
  obtain ⟨hr, hra, hint⟩ := int_raiseOpen_shows u hpage hp cls hb hbase
  exact ⟨hr, raised_of_same (by rw [h]; rfl) (by rw [h]) hra, hint⟩

end Sys2Proof.Machine

namespace Sys2Proof.Machine
open Sys2Proof Reg

/-! ## Masking, retiring and unretiring a site, its registers and flags (O29) -/

/-! ### A site's page -/

theorem pageBase_site (i : Nat) : pageBase .site i = baseOf .site i := by
  simp only [pageBase, baseOf]
  omega

/-- The sites' pages lie past those of the PBA and of the recorder. -/
theorem site_past_reports (i : Nat) : 0x33000 ≤ baseOf .site i := by
  simp only [baseOf]
  omega

/-- The status words of the sequencers lie below the sites' pages. -/
theorem psqStat_ne_site {n : Nat} (hn : n < 8) (i d : Nat) : baseOf .psq n + 0x14 ≠ baseOf .site i + d := by
  simp only [baseOf]
  omega

theorem psqStat_not_mem_site {n : Nat} (hn : n < 8) (i d : Nat) : baseOf .psq n + 0x14 ∉ [baseOf .site i + d] :=
  List.mem_singleton.not.mpr (psqStat_ne_site hn i d)

/-! ### Whether a site's sequencer runs -/

theorem sitePsq_lt {s : State} {i n : Nat} (h : s.sitePsq i = some n) : n < 8 := by
  unfold State.sitePsq at h
  split at h
  · exact Option.some.inj h ▸ bitsOf_lt _ 26 24
  · cases h

theorem siteRunning_of_psq {s : State} {i n : Nat} (h : s.sitePsq i = some n) : s.siteRunning i = s.psqRunning n := by
  simp only [State.siteRunning, h]

theorem sitePsq_congr {s t : State} {i : Nat} (h : t.rd (baseOf .site i + 0x48) = s.rd (baseOf .site i + 0x48)) :
    t.sitePsq i = s.sitePsq i := by
  have hb : t.flag .site i SITE_BIND_BOUND = s.flag .site i SITE_BIND_BOUND := flag_congr h
  have hp : t.fld .site i SITE_BIND_PSQ = s.fld .site i SITE_BIND_PSQ := fld_congr h
  rw [State.sitePsq, State.sitePsq, State.siteBound, State.siteBound, hb, hp]

theorem siteRunning_congr {s t : State} {i : Nat} (h : t.rd (baseOf .site i + 0x48) = s.rd (baseOf .site i + 0x48))
    (hstat : ∀ n < 8, t.rd (baseOf .psq n + 0x14) = s.rd (baseOf .psq n + 0x14)) : t.siteRunning i = s.siteRunning i := by
  have hpsq := sitePsq_congr h
  cases hn : s.sitePsq i with
  | none => simp only [State.siteRunning, hpsq, hn]
  | some n => rw [siteRunning_of_psq hn, siteRunning_of_psq (hpsq.trans hn), psqRunning_congr (hstat n (sitePsq_lt hn))]

/-- A field of the site's page other than those of SITE_BIND. -/
theorem siteRunning_put (s : State) (i : Nat) {f : Fld} (v : Nat) (h : f.off ≠ 0x48) : (s.put .site i f v).siteRunning i = s.siteRunning i :=
  siteRunning_congr (rd_put_other s v (by simp only [fldOff]; omega)) fun n hn => rd_put_other s v (psqStat_ne_site hn i _)

/-! ### A change of mask, and a retirement -/

/-- A change takes effect at once while no sequencer runs the site (R279, R280). -/
theorem siteChange_of_idle {s : State} {i : Nat} (h : s.siteRunning i = false) (c : SiteChange) : s.siteChange i c = s.changeNow i c := by
  unfold State.siteChange
  split
  · next n hn => rw [siteRunning_of_psq hn] at h; simp only [h, Bool.false_eq_true, if_false]
  · rfl

/-- A change waits while the site's sequencer runs (R279, R280). -/
theorem siteChange_of_running {s : State} {i : Nat} (h : s.siteRunning i = true) (c : SiteChange) :
    ∃ p, s.siteChange i c = s.setSite i { s.site i with changes := (s.site i).changes ++ [(c, p)] } := by
  unfold State.siteChange
  split
  · next n hn =>
    rw [siteRunning_of_psq hn] at h
    exact ⟨s.psqNow n, if_pos h⟩
  · next hn => simp only [State.siteRunning, hn, Bool.false_eq_true] at h

/-- The condition NO_ACTIVE is one of a running sequencer (R211). -/
theorem checkNoActive_of_idle {s : State} {i n : Nat} (hn : s.sitePsq i = some n) (h : s.siteRunning i = false) : s.checkNoActive n = s := by
  rw [siteRunning_of_psq hn] at h
  simp [State.checkNoActive, h]

theorem maskNow_of_idle {s : State} {i : Nat} (h : s.siteRunning i = false) (on : Bool) :
    s.maskNow i on = s.put .site i SITE_STATE_MASKED (bit on) := by
  have hput := (siteRunning_put s i (f := SITE_STATE_MASKED) (bit on) (by decide)).trans h
  simp only [State.maskNow]
  split
  · next n hn => rw [checkNoActive_of_idle hn hput, ite_self]
  · rfl

/-- MASK (R279). -/
theorem done_mask {s : State} (hs : Serving s) (i : Fin 256) (c : Bool) :
    ∃ t, exec (.mask i c) s = .next t
      ∧ t.flag .site i.val SITE_CTRL_MASK = c
      ∧ (s.siteRunning i.val = false → t.siteMasked i.val = c ∧ t.sites = s.sites)
      ∧ (s.siteRunning i.val = true → t.siteMasked i.val = s.siteMasked i.val
          ∧ (t.site i.val).changes.map (·.1) = (s.site i.val).changes.map (·.1) ++ [.mask c])
      ∧ RegsBut [baseOf .site i.val + 0x40, baseOf .site i.val + 0x4C] s t
      ∧ t = { s with regs := t.regs, sites := t.sites } := by
  have hctrl : (s.put .site i.val SITE_CTRL_MASK (bit c)).flag .site i.val SITE_CTRL_MASK = c := flag_put_bit s .site i.val (by decide) rfl c
  have hrun := siteRunning_put s i.val (f := SITE_CTRL_MASK) (bit c) (by decide)
  have hrd : ∀ o ∉ [baseOf .site i.val + 0x40, baseOf .site i.val + 0x4C], (s.put .site i.val SITE_CTRL_MASK (bit c)).rd o = s.rd o :=
    fun o ho => rd_put_other s _ (List.ne_of_not_mem_cons ho)
  have hstat : ∀ n < 8, baseOf .psq n + 0x14 ∉ [baseOf .site i.val + 0x40, baseOf .site i.val + 0x4C] := fun n hn hm =>
    (List.mem_cons.mp hm).elim (psqStat_ne_site hn _ _) (psqStat_not_mem_site hn _ _)
  change ∃ t, done (s.asHostOn .site i.val _) = .next t ∧ _
  rw [asHostOn_of_open hs.2 rfl, siteMask]
  cases hr : s.siteRunning i.val with
  | false =>
    rw [siteChange_of_idle (hrun.trans hr), State.changeNow, maskNow_of_idle (hrun.trans hr)]
    have hall : RegsBut [baseOf .site i.val + 0x40, baseOf .site i.val + 0x4C] s
        ((s.put .site i.val SITE_CTRL_MASK (bit c)).put .site i.val SITE_STATE_MASKED (bit c)) := fun o ho =>
      (rd_put_other _ _ (List.ne_of_not_mem_cons (List.not_mem_of_not_mem_cons ho))).trans (hrd o ho)
    refine ⟨_, done_quiet hs.1 rfl rfl rfl fun n hn => hall _ (hstat n hn), ?_, fun _ => ⟨?_, rfl⟩, fun h => (nomatch h), hall, rfl⟩
    · exact (flag_congr (rd_put_other _ _ (by simp [fldOff, SITE_CTRL_MASK, SITE_STATE_MASKED]))).trans hctrl
    · exact flag_put_bit _ .site i.val (by decide) rfl c
  | true =>
    obtain ⟨p, hchange⟩ := siteChange_of_running (hrun.trans hr) (.mask c)
    rw [hchange]
    refine ⟨_, done_quiet hs.1 rfl rfl rfl fun n hn => hrd _ (hstat n hn), hctrl, fun h => (nomatch h), fun _ => ⟨?_, ?_⟩, hrd, rfl⟩
    · exact flag_congr (rd_put_other s _ (by simp [fldOff, SITE_CTRL_MASK, SITE_STATE_MASKED]))
    · rw [site_setSite_same]
      exact List.map_append

/-! ### Writes that take effect at once, or are ignored -/

/-- A field of other bits of a page's word is put. -/
theorem fld_put_bits (s : State) {k : PageKind} {i : Nat} {f g : Fld} (v : Nat) (hf : f.hi < 32) (hl : f.lo ≤ f.hi) (hg : g.hi < 32)
    (h : g.hi < f.lo ∨ f.hi < g.lo) : (s.put k i f v).fld k i g = s.fld k i g := fld_put_other s v hf hl hg (.inr h)

theorem flag_put_bits (s : State) {k : PageKind} {i : Nat} {f g : Fld} (v : Nat) (hf : f.hi < 32) (hl : f.lo ≤ f.hi) (hg : g.hi < 32)
    (h : g.hi < f.lo ∨ f.hi < g.lo) : (s.put k i f v).flag k i g = s.flag k i g := congrArg (· == 1) (fld_put_bits s v hf hl hg h)

theorem flag_put_zero (s : State) (k : PageKind) (i : Nat) {f : Fld} (hh : f.hi < 32) (hl : f.lo ≤ f.hi) : (s.put k i f 0).flag k i f = false :=
  congrArg (· == 1) ((fld_put_same s k i f 0 hh hl).trans (Nat.zero_mod _))

/-- A write that is ignored because the site's sequencer runs only reports SITE_BUSY on the site's page (R267, R281). -/
theorem siteBusy_shows {s u : State} (h : u = { s with regs := u.regs }) (i : Nat) :
    ReportsOn (baseOf .site i) u (u.siteBusy i) ∧ Raised (baseOf .site i) 1 1 s (u.siteBusy i)
      ∧ ((u.siteBusy i).intStat (baseOf .site i)).getLsbD 2 = true :=
  int_raiseOpen_shows_of_regs h (pageBase_site i) (site_past_reports i) 1 (by decide) (by decide)

/-- A write that changes one word of a site's page, and what the page then reports. -/
theorem Accesses.done_site {i d : Nat} {s u : State} (hs : Steady s) (h : Accesses (baseOf .site i) [baseOf .site i + d] s u) :
    Machine.done u = .next { u with sig := [] } ∧ Reported [baseOf .site i] [baseOf .site i + d] s { u with sig := [] }
      ∧ { u with sig := [] } = { s with regs := u.regs, hif := u.hif, faults := u.faults, evr := u.evr, free := u.free } :=
  h.done hs (by simp only [baseOf]; omega) fun _ hn => psqStat_not_mem_site hn i d

/-- UNRETIRE (R281). -/
theorem done_unretire {s : State} (hs : Serving s) (i : Fin 256) :
    ∃ t, exec (.unretire i) s = .next t
      ∧ (s.siteRunning i.val = false →
          t.siteRetired i.val = false ∧ t.fld .site i.val SITE_STATE_CAUSE = 0 ∧ t.siteMasked i.val = s.siteMasked i.val)
      ∧ (s.siteRunning i.val = true → t.siteRetired i.val = s.siteRetired i.val ∧ Raised (baseOf .site i.val) 1 1 s t
          ∧ (t.intStat (baseOf .site i.val)).getLsbD 2 = true)
      ∧ Reported [baseOf .site i.val] [baseOf .site i.val + 0x4C] s t
      ∧ t = { s with regs := t.regs, hif := t.hif, faults := t.faults, evr := t.evr, free := t.free } := by
  change ∃ t, done (s.asHostOn .site i.val _) = .next t ∧ _
  rw [asHostOn_of_open hs.2 rfl]
  cases hr : s.siteRunning i.val with
  | true =>
    rw [siteUnretire, if_pos hr]
    obtain ⟨hrep, hra, hint⟩ := siteBusy_shows (s := s) (u := s) rfl i.val
    generalize s.siteBusy i.val = u at *
    obtain ⟨hdone, hreported, hframe⟩ := (Accesses.of_reportsOn hrep (offs := [baseOf .site i.val + 0x4C])).done_site hs.1
    have hword := hrep.rd_word (site_past_reports i.val) (d := 0x4C) (by decide)
    exact ⟨_, hdone, fun h => (nomatch h), fun _ => ⟨flag_congr hword, hra, hint⟩, hreported, hframe⟩
  | false =>
    rw [siteUnretire, if_neg (Bool.eq_false_iff.mp hr)]
    have hput : Accesses (baseOf .site i.val) [baseOf .site i.val + 0x4C] s
        ((s.put .site i.val SITE_STATE_RETIRED 0).put .site i.val SITE_STATE_CAUSE 0) :=
      .trans (.put s 0 (List.mem_singleton.mpr rfl)) (.put _ 0 (List.mem_singleton.mpr rfl))
    have hretired := (flag_put_bits (s.put .site i.val SITE_STATE_RETIRED 0) (f := SITE_STATE_CAUSE) (g := SITE_STATE_RETIRED) 0 (by decide)
      (by decide) (by decide) (by decide)).trans (flag_put_zero s .site i.val (by decide) (by decide))
    have hcause := fld_put_same (s.put .site i.val SITE_STATE_RETIRED 0) .site i.val SITE_STATE_CAUSE 0 (by decide) (by decide)
    have hmasked := (flag_put_bits (s.put .site i.val SITE_STATE_RETIRED 0) (f := SITE_STATE_CAUSE) (g := SITE_STATE_MASKED) 0 (by decide)
      (by decide) (by decide) (by decide)).trans (flag_put_bits s (f := SITE_STATE_RETIRED) 0 (by decide) (by decide) (by decide) (by decide))
    generalize (s.put .site i.val SITE_STATE_RETIRED 0).put .site i.val SITE_STATE_CAUSE 0 = u at *
    obtain ⟨hdone, hreported, hframe⟩ := hput.done_site hs.1
    exact ⟨_, hdone, fun _ => ⟨hretired, hcause, hmasked⟩, fun h => (nomatch h), hreported, hframe⟩

/-- A write of a site register, by what may refuse it (R267, R283). -/
theorem siteRegWrite_of_sealed {s : State} {i : Nat} (h : s.regSealed i = true) (hrole : s.role = .operator) (r : Nat) (v : Word) :
    siteRegWrite i r v s = s.denied (baseOf .site i) := by
  have hopens : ∀ o, s.opens s.role o = false := fun o => by
    rw [hrole]
    cases o <;> rfl
  simp only [siteRegWrite, h, hopens, Bool.not_false, Bool.and_self, if_true]

theorem siteRegWrite_of_running {s : State} {i : Nat} (h : s.regSealed i = false) (hr : s.siteRunning i = true) (r : Nat) (v : Word) :
    siteRegWrite i r v s = s.siteBusy i := by
  simp only [siteRegWrite, h, hr, Bool.false_and, Bool.false_eq_true, if_false, if_true]

theorem siteRegWrite_of_idle {s : State} {i : Nat} (h : s.regSealed i = false) (hr : s.siteRunning i = false) (r : Nat) (v : Word) :
    siteRegWrite i r v s = s.setSiteReg i r v.toNat := by
  simp only [siteRegWrite, h, hr, Bool.false_and, Bool.false_eq_true, if_false]

theorem siteReg_off (i r : Nat) : fldOff .site i SITE_S r = baseOf .site i + 0x60 + 4 * r := by
  simp only [fldOff, SITE_S, Nat.add_assoc]

/-- A site register written reads back as the word (R267). -/
theorem siteReg_setSiteReg (s : State) (i r : Nat) (v : Word) : (s.setSiteReg i r v.toNat).siteReg i r = v.toNat :=
  (fldAt_putAt_same s .site i SITE_S r _ (by decide) (by decide)).trans (Nat.mod_eq_of_lt v.isLt)

theorem siteReg_congr {s t : State} {i r : Nat} (h : t.rd (baseOf .site i + 0x60 + 4 * r) = s.rd (baseOf .site i + 0x60 + 4 * r)) :
    t.siteReg i r = s.siteReg i r := by
  rw [State.siteReg, State.siteReg, State.fldAt, State.fldAt, siteReg_off, h]

/-- A write of a site register (R267, R283). -/
theorem done_siteRegWrite {s : State} (hs : Serving s) (i : Fin 256) (r : Fin 16) (v : Word) :
    ∃ t, exec (.siteRegWrite i r v) s = .next t
      ∧ (s.regSealed i.val = false → s.siteRunning i.val = false → t.siteReg i.val r.val = v.toNat)
      ∧ (s.regSealed i.val = false → s.siteRunning i.val = true →
          Raised (baseOf .site i.val) 1 1 s t ∧ t.siteReg i.val r.val = s.siteReg i.val r.val)
      ∧ (s.regSealed i.val = true → s.role = .operator →
          t.intStat (baseOf .site i.val) = s.intStat (baseOf .site i.val) ||| 0x40000000 ∧ t.siteReg i.val r.val = s.siteReg i.val r.val)
      ∧ Reported [baseOf .site i.val] [baseOf .site i.val + 0x60 + 4 * r.val] s t
      ∧ t = { s with regs := t.regs, hif := t.hif, faults := t.faults, evr := t.evr, free := t.free } := by
  have hdenied : ReportsOn (baseOf .site i.val) s (s.denied (baseOf .site i.val)) := .intSet _ s _
  have hstat : (s.denied (baseOf .site i.val)).intStat (baseOf .site i.val) = s.intStat (baseOf .site i.val) ||| 0x40000000 :=
    rd_intSet_same s (baseOf .site i.val) _ fun h =>
      not_mem_reports (Nat.le_add_right_of_le (site_past_reports i.val)) (List.mem_append_left _ h)
  obtain ⟨hbusy, hra, -⟩ := siteBusy_shows (s := s) (u := s) rfl i.val
  have hput : Accesses (baseOf .site i.val) [baseOf .site i.val + (0x60 + 4 * r.val)] s (s.setSiteReg i.val r.val v.toNat) :=
    .putAt s _ (by simp [siteReg_off, Nat.add_assoc])
  have hreg := siteReg_setSiteReg s i.val r.val v
  have hall : Accesses (baseOf .site i.val) [baseOf .site i.val + (0x60 + 4 * r.val)] s (siteRegWrite i.val r.val v s) :=
    .ite (.of_reportsOn hdenied) (.ite (.of_reportsOn hbusy) hput)
  have hkept : ∀ {u : State}, ReportsOn (baseOf .site i.val) s u → u.siteReg i.val r.val = s.siteReg i.val r.val := fun h =>
    siteReg_congr (by simpa only [Nat.add_assoc] using h.rd_word (site_past_reports i.val) (d := 0x60 + 4 * r.val) (by omega))
  have hidle := siteRegWrite_of_idle (s := s) (i := i.val) (r := r.val) (v := v)
  have hrunning := siteRegWrite_of_running (s := s) (i := i.val) (r := r.val) (v := v)
  have hsealed := siteRegWrite_of_sealed (s := s) (i := i.val) (r := r.val) (v := v)
  change ∃ t, done (s.asHostOn .site i.val _) = .next t ∧ _
  rw [asHostOn_of_open hs.2 rfl]
  generalize siteRegWrite i.val r.val v s = u at *
  obtain ⟨hdone, hreported, hframe⟩ := hall.done_site hs.1
  simp only [Nat.add_assoc]
  refine ⟨_, hdone, fun ho hr => ?_, fun ho hr => ?_, fun ho hrole => ?_, hreported, hframe⟩
  · exact (congrArg (State.siteReg · i.val r.val) (hidle ho hr)).trans hreg
  · rw [← hrunning ho hr] at hra hbusy
    exact ⟨hra, hkept (u := u) hbusy⟩
  · rw [← hsealed ho hrole] at hdenied hstat
    exact ⟨hstat, hkept (u := u) hdenied⟩

/-- The flags that a write of SITE_STATE clears (R267). -/
theorem siteClear_accesses (s : State) (i : Nat) (v : Word) : Accesses (baseOf .site i) [baseOf .site i + 0x4C] s (siteClear i v s) :=
  have hput : ∀ (u : State) (f : Fld), fldOff .site i f 0 = baseOf .site i + 0x4C →
      Accesses (baseOf .site i) [baseOf .site i + 0x4C] u (u.put .site i f 0) := fun u _ hf => .put u 0 (List.mem_singleton.mpr hf)
  have hmid : Accesses (baseOf .site i) [baseOf .site i + 0x4C] s (if v.getLsbD 23 then s.put .site i SITE_STATE_CAP_MID 0 else s) :=
    .ite (hput s _ rfl) (.refl s)
  .ite (hmid.trans (hput _ _ rfl)) hmid

theorem siteClear_eq_with (s : State) (i : Nat) (v : Word) : siteClear i v s = { s with regs := (siteClear i v s).regs } := by
  simp only [siteClear]
  split <;> split <;> rfl

/-- A field of SITE_STATE that is not of the two flags stands. -/
theorem fld_siteClear_other (s : State) (i : Nat) (v : Word) {f : Fld} (h' : f.hi < 32) (h : f.hi < 22 ∨ 23 < f.lo) :
    (siteClear i v s).fld .site i f = s.fld .site i f := by
  have hput : ∀ (u : State) (g : Fld), g.hi < 32 → g.lo ≤ g.hi → 22 ≤ g.lo → g.hi ≤ 23 → (u.put .site i g 0).fld .site i f = u.fld .site i f :=
    fun u g hg hl h22 h23 => fld_put_other u 0 hg hl h' (.inr (by omega))
  simp only [siteClear]
  split <;> split <;> simp only [hput _ SITE_STATE_CAP_MID (by decide) (by decide) (by decide) (by decide),
    hput _ SITE_STATE_OVL_RANGE (by decide) (by decide) (by decide) (by decide)]

/-- CAP_MID and OVL_RANGE clear where 1 is written (R267). -/
theorem siteClear_clears (s : State) (i : Nat) (v : Word) :
    (v.getLsbD 23 = true → (siteClear i v s).flag .site i SITE_STATE_CAP_MID = false)
      ∧ (v.getLsbD 22 = true → (siteClear i v s).flag .site i SITE_STATE_OVL_RANGE = false) := by
  constructor <;> intro h <;> simp only [siteClear, h, if_true]
  · split
    · rw [flag_put_bits _ _ (by decide) (by decide) (by decide) (by decide)]
      exact flag_put_zero s .site i (by decide) (by decide)
    · exact flag_put_zero s .site i (by decide) (by decide)
  · exact flag_put_zero _ .site i (by decide) (by decide)

theorem siteRunning_siteClear (s : State) (i : Nat) (v : Word) : (siteClear i v s).siteRunning i = s.siteRunning i := by
  have h := siteClear_accesses s i v
  refine siteRunning_congr (h.rd (by simp) (by simp) (not_mem_reports (Nat.le_add_right_of_le (site_past_reports i)))) fun n hn => h.rd ?_ ?_ ?_
  · exact psqStat_not_mem_site hn i _
  · exact psqStat_ne_site hn i _
  · exact List.not_mem_append (psqStat_not_mem_pbaOffs n) (psqStat_not_mem_evrOffs n)

/-- SF and LF of a site put to two bits (R267). -/
def State.putFlags (s : State) (i sf lf : Nat) : State := (s.put .site i SITE_STATE_SF sf).put .site i SITE_STATE_LF lf

theorem putFlags_accesses (s : State) (i sf lf : Nat) : Accesses (baseOf .site i) [baseOf .site i + 0x4C] s (s.putFlags i sf lf) :=
  .trans (.put s _ (List.mem_singleton.mpr rfl)) (.put _ _ (List.mem_singleton.mpr rfl))

/-- The two bits are put, and the flags below them stand. -/
theorem putFlags_shows (s : State) (i : Nat) {sf lf : Nat} (hsf : sf < 2) (hlf : lf < 2) :
    (s.putFlags i sf lf).fld .site i SITE_STATE_SF = sf ∧ (s.putFlags i sf lf).fld .site i SITE_STATE_LF = lf
      ∧ ∀ f : Fld, f.hi < 24 → (s.putFlags i sf lf).flag .site i f = s.flag .site i f := by
  refine ⟨?_, (fld_put_same _ .site i SITE_STATE_LF lf (by decide) (by decide)).trans (Nat.mod_eq_of_lt hlf), fun f hf => ?_⟩
  · rw [State.putFlags, fld_put_bits _ _ (by decide) (by decide) (by decide) (by decide), fld_put_same _ _ _ _ _ (by decide) (by decide)]
    exact Nat.mod_eq_of_lt hsf
  · exact (flag_put_bits _ _ (by decide) (by decide) (by omega) (.inl hf)).trans
      (flag_put_bits s _ (by decide) (by decide) (by omega) (.inl (Nat.lt_succ_of_lt hf)))

/-- SF and LF take what is written, where that changes them and no sequencer runs the site (R267). -/
theorem siteStateWrite_eq (s : State) (i : Nat) (v : Word) :
    siteStateWrite i v s =
      if bitsOf v 25 25 = s.fld .site i SITE_STATE_SF ∧ bitsOf v 24 24 = s.fld .site i SITE_STATE_LF then siteClear i v s
      else if s.siteRunning i then (siteClear i v s).siteBusy i
      else (siteClear i v s).putFlags i (bitsOf v 25 25) (bitsOf v 24 24) := by
  simp only [siteStateWrite, State.putFlags, siteRunning_siteClear, fld_siteClear_other s i v (f := SITE_STATE_SF) (by decide) (by decide),
    fld_siteClear_other s i v (f := SITE_STATE_LF) (by decide) (by decide)]

/-- A write of SITE_STATE (R267). -/
theorem done_siteStateWrite {s : State} (hs : Serving s) (i : Fin 256) (v : Word) :
    ∃ t, exec (.siteStateWrite i v) s = .next t
      ∧ (s.siteRunning i.val = false → t.fld .site i.val SITE_STATE_SF = bitsOf v 25 25 ∧ t.fld .site i.val SITE_STATE_LF = bitsOf v 24 24)
      ∧ (v.getLsbD 23 = true → t.flag .site i.val SITE_STATE_CAP_MID = false)
      ∧ (v.getLsbD 22 = true → t.flag .site i.val SITE_STATE_OVL_RANGE = false)
      ∧ (s.siteRunning i.val = true → bitsOf v 25 25 ≠ s.fld .site i.val SITE_STATE_SF →
          Raised (baseOf .site i.val) 1 1 s t ∧ t.fld .site i.val SITE_STATE_SF = s.fld .site i.val SITE_STATE_SF)
      ∧ Reported [baseOf .site i.val] [baseOf .site i.val + 0x4C] s t
      ∧ t = { s with regs := t.regs, hif := t.hif, faults := t.faults, evr := t.evr, free := t.free } := by
  have hclear := siteClear_accesses s i.val v
  obtain ⟨hmid, hovl⟩ := siteClear_clears s i.val v
  have hregs := siteClear_eq_with s i.val v
  have hsf := fld_siteClear_other s i.val v (f := SITE_STATE_SF) (by decide) (by decide)
  have hlf := fld_siteClear_other s i.val v (f := SITE_STATE_LF) (by decide) (by decide)
  change ∃ t, done (s.asHostOn .site i.val _) = .next t ∧ _
  rw [asHostOn_of_open hs.2 rfl, siteStateWrite_eq]
  generalize siteClear i.val v s = w at *
  split
  · next h =>
    obtain ⟨hdone, hreported, hframe⟩ := hclear.done_site hs.1
    exact ⟨_, hdone, fun _ => ⟨hsf.trans h.1.symm, hlf.trans h.2.symm⟩, hmid, hovl, fun _ hne => absurd h.1 hne, hreported, hframe⟩
  · split
    · next hr =>
      obtain ⟨hrep, hra, -⟩ := siteBusy_shows hregs i.val
      generalize w.siteBusy i.val = u at *
      obtain ⟨hdone, hreported, hframe⟩ := (hclear.trans (.of_reportsOn hrep)).done_site hs.1
      have hword := hrep.rd_word (site_past_reports i.val) (d := 0x4C) (by decide)
      have hflag : ∀ f : Fld, fldOff .site i.val f 0 = baseOf .site i.val + 0x4C → u.flag .site i.val f = w.flag .site i.val f := fun f hf =>
        flag_congr (hf ▸ hword)
      refine ⟨_, hdone, fun h => ?_, fun h => (hflag _ rfl).trans (hmid h), fun h => (hflag _ rfl).trans (hovl h), fun _ _ => ⟨hra, ?_⟩,
        hreported, hframe⟩
      · exact absurd hr (Bool.eq_false_iff.mp h)
      · exact (fld_congr hword).trans hsf
    · next hr =>
      have hput := putFlags_accesses w i.val (bitsOf v 25 25) (bitsOf v 24 24)
      obtain ⟨hput25, hput24, hflag⟩ := putFlags_shows w i.val (bitsOf_lt v 25 25) (bitsOf_lt v 24 24)
      generalize w.putFlags i.val (bitsOf v 25 25) (bitsOf v 24 24) = u at *
      obtain ⟨hdone, hreported, hframe⟩ := (hclear.trans hput).done_site hs.1
      exact ⟨_, hdone, fun _ => ⟨hput25, hput24⟩, fun h => (hflag _ (by decide)).trans (hmid h), fun h => (hflag _ (by decide)).trans (hovl h),
        fun h => absurd h hr, hreported, hframe⟩

/-! ### A retirement -/

/-- What turning supplies off changes: words of the supplies' pages, monitors blanked, and charges (R362, R383). -/
structure TurnsOff (s u : State) : Prop where
  frame : u = { s with regs := u.regs, banks := u.banks, guards := u.guards }
  rd : ∀ o < 0x300000, u.rd o = s.rd o

namespace TurnsOff

theorem refl (s : State) : TurnsOff s s := ⟨rfl, fun _ _ => rfl⟩

theorem trans {s t u : State} (h1 : TurnsOff s t) (h2 : TurnsOff t u) : TurnsOff s u where
  frame := by rw [h2.frame, h1.frame]
  rd o ho := (h2.rd o ho).trans (h1.rd o ho)

theorem put (s : State) (u : Nat) (f : Fld) (v : Nat) : TurnsOff s (s.put (supKind u) (supInst u) f v) := by
  refine ⟨rfl, fun o ho => rd_put_other s v ?_⟩
  have hbase : 0x300000 ≤ baseOf (supKind u) (supInst u) := by
    unfold supKind supInst
    split <;> simp only [baseOf] <;> omega
  simp only [fldOff]
  omega

theorem levelBlank (s : State) (b m : Nat) : TurnsOff s (s.levelBlank b m) := by
  rw [levelBlank_eq_with]
  exact ⟨rfl, fun _ _ => rfl⟩

theorem supTransition (s : State) (u : Nat) : TurnsOff s (s.supTransition u) := by
  unfold State.supTransition
  split
  · exact (levelBlank s _ _).trans (levelBlank _ _ _)
  · exact levelBlank s _ _

theorem openSwitch (s : State) (u : Nat) : TurnsOff s (s.openSwitch u) := by
  unfold State.openSwitch
  split
  · exact (put s u _ _).trans (supTransition _ u)
  · exact refl s

theorem recharge (s : State) (b : Nat) : TurnsOff s (s.recharge b) := by
  unfold State.recharge
  split
  · exact ⟨rfl, fun _ _ => rfl⟩
  · exact refl s

theorem disableSup (s : State) (u : Nat) : TurnsOff s (s.disableSup u) :=
  (((put s u _ _).trans (openSwitch _ u)).trans (put _ u _ _)).trans (recharge _ _)

end TurnsOff

/-- The supplies of a site go off where the site is set to it (R280). -/
def State.retireSupplies (s : State) (i : Nat) : State :=
  if s.flag .site i SITE_CFG_RETIRE_SUPPLY then (s.siteSupplies i).foldl State.disableSup s else s

theorem retireSupplies_turnsOff (s : State) (i : Nat) : TurnsOff s (s.retireSupplies i) := by
  unfold State.retireSupplies
  split
  · exact foldl_of_step (P := TurnsOff s) (fun u k h => h.trans (.disableSup u k)) _ (.refl s)
  · exact .refl s

/-- The position a retirement records: the vector count of the site's sequencer (R280). -/
def State.retireAt (s : State) (i : Nat) : Nat :=
  match s.sitePsq i with
  | some n => s.vcount n
  | none => 0

/-- SITE_STATE and SITE_RETIRE_AT of a site that is retired (R280). -/
def State.retirePuts (s : State) (i cause at_ : Nat) : State :=
  (((s.put .site i SITE_STATE_RETIRED 1).put .site i SITE_STATE_CAUSE cause).put .site i SITE_RETIRE_AT_LO at_).put .site i SITE_RETIRE_AT_HI
    (at_ / 2 ^ 32)

theorem retireAt_lt (s : State) (i : Nat) : s.retireAt i < 2 ^ 64 := by
  unfold State.retireAt
  split
  · next n _ =>
    have hlo : s.fld .psq n PSQ_VCOUNT_LO < 2 ^ 32 := bitsOf_lt _ 31 0
    have hhi : s.fld .psq n PSQ_VCOUNT_HI < 2 ^ 32 := bitsOf_lt _ 31 0
    simp only [State.vcount]
    omega
  · decide

theorem retirePuts_accesses (s : State) (i cause at_ : Nat) :
    Accesses (baseOf .site i) [baseOf .site i + 0x4C, baseOf .site i + 0x50, baseOf .site i + 0x54] s (s.retirePuts i cause at_) :=
  .trans (.trans (.trans (.put s _ (by simp [fldOff, SITE_STATE_RETIRED])) (.put _ _ (by simp [fldOff, SITE_STATE_CAUSE])))
    (.put _ _ (by simp [fldOff, SITE_RETIRE_AT_LO]))) (.put _ _ (by simp [fldOff, SITE_RETIRE_AT_HI]))

/-- What a retired site shows. -/
theorem retirePuts_shows (s : State) (i : Nat) {cause at_ : Nat} (hc : cause < 8) (ha : at_ < 2 ^ 64) :
    (s.retirePuts i cause at_).siteRetired i = true ∧ (s.retirePuts i cause at_).fld .site i SITE_STATE_CAUSE = cause
      ∧ (s.retirePuts i cause at_).fld .site i SITE_RETIRE_AT_LO + 2 ^ 32 * (s.retirePuts i cause at_).fld .site i SITE_RETIRE_AT_HI = at_ := by
  have hword : ∀ f : Fld, f.off = 0x4C → (s.retirePuts i cause at_).fld .site i f
      = ((s.put .site i SITE_STATE_RETIRED 1).put .site i SITE_STATE_CAUSE cause).fld .site i f := fun f hf =>
    fld_congr ((rd_put_other _ _ (by simp [fldOff, SITE_RETIRE_AT_HI, hf])).trans (rd_put_other _ _ (by simp [fldOff, SITE_RETIRE_AT_LO, hf])))
  have hhi : (s.retirePuts i cause at_).fld .site i SITE_RETIRE_AT_HI = at_ / 2 ^ 32 % 2 ^ 32 :=
    fld_put_same _ .site i SITE_RETIRE_AT_HI _ (by decide) (by decide)
  have hlo : (s.retirePuts i cause at_).fld .site i SITE_RETIRE_AT_LO = at_ % 2 ^ 32 :=
    (fld_put_other _ _ (by decide) (by decide) (by decide) (.inl (by simp [fldOff, SITE_RETIRE_AT_LO, SITE_RETIRE_AT_HI]))).trans
      (fld_put_same _ .site i SITE_RETIRE_AT_LO at_ (by decide) (by decide))
  refine ⟨flag_of_fld ((hword SITE_STATE_RETIRED rfl).trans ?_), (hword SITE_STATE_CAUSE rfl).trans ?_, ?_⟩
  · rw [fld_put_bits _ _ (by decide) (by decide) (by decide) (by decide)]
    exact fld_put_same s .site i SITE_STATE_RETIRED 1 (by decide) (by decide)
  · exact (fld_put_same _ .site i SITE_STATE_CAUSE cause (by decide) (by decide)).trans (Nat.mod_eq_of_lt hc)
  · rw [hlo, hhi]
    omega

/-- The vector count is read in a sequencer's page. -/
theorem retireAt_congr {s t : State} {i : Nat} (h : ∀ o, o ≠ baseOf .site i + 0x4C → t.rd o = s.rd o) : t.retireAt i = s.retireAt i := by
  rw [State.retireAt, State.retireAt, sitePsq_congr (h _ (by omega))]
  split
  · next n hn =>
    have hn8 := sitePsq_lt hn
    rw [State.vcount, State.vcount, fld_congr (h _ (by simp only [fldOff, baseOf, PSQ_VCOUNT_LO]; omega)),
      fld_congr (h _ (by simp only [fldOff, baseOf, PSQ_VCOUNT_HI]; omega))]
  · rfl

/-- What a retirement reports: the cause bit of the site's page, and an entry at Info for the recorder (R280). -/
def State.retireReports (s : State) (i : Nat) : State := (s.int .site i 0).retireEntry i

theorem retireReports_eq_with (s : State) (i : Nat) : s.retireReports i = { s with
    regs := (s.retireReports i).regs, hif := (s.retireReports i).hif, evr := (s.retireReports i).evr, free := (s.retireReports i).free
    sig := (s.retireReports i).sig } := by
  simp only [State.retireReports, State.retireEntry, State.drawn]
  rw [evrOffer_eq_with, int_eq_with]

theorem retireReports_reportsOn (s : State) (i : Nat) : ReportsOn (baseOf .site i) s (s.retireReports i) := by
  have hint := ReportsOn.int s .site i 0
  rw [pageBase_site] at hint
  exact (hint.trans (.evrOffer _ _ _)).trans (.drawn _ _)

theorem intStat_retireReports (s : State) (i : Nat) : ((s.retireReports i).intStat (baseOf .site i)).getLsbD 0 = true := by
  have hn := not_mem_reports (Nat.le_add_right_of_le (site_past_reports i) (k := 0x18))
  have hint := intStat_int s .site i (b := 0) (by decide) (by rw [pageBase_site]; exact fun h => hn (List.mem_append_left _ h))
  rw [pageBase_site] at hint
  exact ((ReportsOn.evrOffer _ (s.int .site i 0) _).trans (.drawn _ _)).ints hn 0 hint

/-- A site once retired, its supplies off. -/
def State.retired (s : State) (i cause : Nat) : State := ((s.retirePuts i cause (s.retireAt i)).retireReports i).retireSupplies i

theorem rd_retired (s : State) {i : Nat} (cause : Nat) {o : Nat} (ho : o < 0x300000)
    (hm : o ∉ [baseOf .site i + 0x4C, baseOf .site i + 0x50, baseOf .site i + 0x54]) (hi : o ≠ baseOf .site i + 0x18)
    (hr : o ∉ pbaOffs ++ evrOffs) : (s.retired i cause).rd o = s.rd o :=
  ((retireSupplies_turnsOff _ i).rd o ho).trans
    (((retirePuts_accesses s i cause _).trans (.of_reportsOn (retireReports_reportsOn _ i))).rd hm hi hr)

theorem psqStat_retired (s : State) (i cause : Nat) {n : Nat} (hn : n < 8) :
    (s.retired i cause).rd (baseOf .psq n + 0x14) = s.rd (baseOf .psq n + 0x14) := by
  refine rd_retired s cause (by simp only [baseOf]; omega) ?_ (psqStat_ne_site hn i _)
    (List.not_mem_append (psqStat_not_mem_pbaOffs n) (psqStat_not_mem_evrOffs n))
  simp only [List.mem_cons, List.not_mem_nil, or_false, not_or]
  exact ⟨psqStat_ne_site hn i _, psqStat_ne_site hn i _, psqStat_ne_site hn i _⟩

theorem siteRunning_retired (s : State) {i : Nat} (hi : i < 256) (cause : Nat) : (s.retired i cause).siteRunning i = s.siteRunning i :=
  siteRunning_congr (rd_retired s cause (by simp only [baseOf]; omega) (by simp) (by simp)
    (not_mem_reports (Nat.le_add_right_of_le (site_past_reports i)))) fun _ hn => psqStat_retired s i cause hn

/-- A retirement of a site that no sequencer runs (R280). -/
theorem retireNow_of_idle {s : State} {i : Nat} (hi : i < 256) (h : s.siteRunning i = false) (hret : s.siteRetired i = false) (cause : Nat) :
    s.retireNow i cause = s.retired i cause := by
  have hat : ((s.put .site i SITE_STATE_RETIRED 1).put .site i SITE_STATE_CAUSE cause).retireAt i = s.retireAt i :=
    retireAt_congr fun o ho => (rd_put_other _ _ ho).trans (rd_put_other _ _ ho)
  have heq : s.retireNow i cause = match (s.retired i cause).sitePsq i with
      | some n => if s.siteActive i then (s.retired i cause).checkNoActive n else s.retired i cause
      | none => s.retired i cause := by
    rw [State.retired, ← hat]
    simp only [State.retireNow, hret, Bool.false_eq_true, if_false]
    rfl
  rw [heq]
  split
  · next n hn => rw [checkNoActive_of_idle hn ((siteRunning_retired s hi cause).trans h), ite_self]
  · rfl

theorem retired_eq_with (s : State) (i cause : Nat) : s.retired i cause = { s with
    regs := (s.retired i cause).regs, hif := (s.retired i cause).hif, evr := (s.retired i cause).evr, free := (s.retired i cause).free
    sig := (s.retired i cause).sig, banks := (s.retired i cause).banks, guards := (s.retired i cause).guards } := by
  have hreports := retireReports_eq_with (s.retirePuts i cause (s.retireAt i)) i
  have hoff := (retireSupplies_turnsOff ((s.retirePuts i cause (s.retireAt i)).retireReports i) i).frame
  rw [← State.retired] at hoff
  generalize s.retired i cause = u at *
  generalize (s.retirePuts i cause (s.retireAt i)).retireReports i = w at *
  rw [hoff, hreports]
  rfl

/-- A word of a retired site's page stands as the retirement put it. -/
theorem rd_retired_word (s : State) {i : Nat} (hi : i < 256) (cause : Nat) {d : Nat} (hd : d < 0x1000) (h18 : d ≠ 0x18) :
    (s.retired i cause).rd (baseOf .site i + d) = (s.retirePuts i cause (s.retireAt i)).rd (baseOf .site i + d) :=
  ((retireSupplies_turnsOff _ i).rd _ (by simp only [baseOf]; omega)).trans
    ((retireReports_reportsOn _ i).rd_word (site_past_reports i) h18)

/-- What a retired site shows, and its cause bit. -/
theorem retired_shows (s : State) {i cause : Nat} (hi : i < 256) (hc : cause < 8) :
    (s.retired i cause).siteRetired i = true ∧ (s.retired i cause).fld .site i SITE_STATE_CAUSE = cause
      ∧ (s.retired i cause).fld .site i SITE_RETIRE_AT_LO + 2 ^ 32 * (s.retired i cause).fld .site i SITE_RETIRE_AT_HI = s.retireAt i
      ∧ ((s.retired i cause).intStat (baseOf .site i)).getLsbD 0 = true := by
  obtain ⟨hretired, hcause, hat⟩ := retirePuts_shows s i hc (retireAt_lt s i)
  have hstate := rd_retired_word s hi cause (d := 0x4C) (by decide) (by decide)
  have hlo : (s.retired i cause).fld .site i SITE_RETIRE_AT_LO = (s.retirePuts i cause (s.retireAt i)).fld .site i SITE_RETIRE_AT_LO :=
    fld_congr (rd_retired_word s hi cause (d := 0x50) (by decide) (by decide))
  have hhi : (s.retired i cause).fld .site i SITE_RETIRE_AT_HI = (s.retirePuts i cause (s.retireAt i)).fld .site i SITE_RETIRE_AT_HI :=
    fld_congr (rd_retired_word s hi cause (d := 0x54) (by decide) (by decide))
  have hint : (s.retired i cause).intStat (baseOf .site i) = ((s.retirePuts i cause (s.retireAt i)).retireReports i).intStat (baseOf .site i) :=
    (retireSupplies_turnsOff _ i).rd _ (by simp only [baseOf]; omega)
  refine ⟨(flag_congr hstate).trans hretired, (fld_congr hstate).trans hcause, ?_, ?_⟩
  · rw [hlo, hhi, hat]
  · rw [hint]
    exact intStat_retireReports _ i

/-- RETIRE (R280). -/
theorem done_retire {s : State} (hs : Serving s) (i : Fin 256) (hret : s.siteRetired i.val = false) :
    ∃ t, exec (.retire i) s = .next t
      ∧ (s.siteRunning i.val = false → t.siteRetired i.val = true ∧ t.fld .site i.val SITE_STATE_CAUSE = 1
          ∧ t.fld .site i.val SITE_RETIRE_AT_LO + 2 ^ 32 * t.fld .site i.val SITE_RETIRE_AT_HI = s.retireAt i.val
          ∧ (t.intStat (baseOf .site i.val)).getLsbD 0 = true)
      ∧ (s.siteRunning i.val = true →
          (t.site i.val).changes.map (·.1) = (s.site i.val).changes.map (·.1) ++ [.retire 1] ∧ t.siteRetired i.val = false)
      ∧ t = { s with
          regs := t.regs, hif := t.hif, evr := t.evr, free := t.free, banks := t.banks, guards := t.guards, sites := t.sites } := by
  change ∃ t, done (s.asHostOn .site i.val _) = .next t ∧ _
  rw [asHostOn_of_open hs.2 rfl]
  cases hr : s.siteRunning i.val with
  | true =>
    obtain ⟨p, hchange⟩ := siteChange_of_running hr (.retire 1)
    rw [hchange]
    refine ⟨_, done_quiet hs.1 rfl rfl rfl fun _ _ => rfl, fun h => (nomatch h), fun _ => ⟨?_, hret⟩, rfl⟩
    rw [site_setSite_same]
    exact List.map_append
  | false =>
    rw [siteChange_of_idle hr, State.changeNow, retireNow_of_idle i.isLt hr hret]
    have hshows := retired_shows s (cause := 1) i.isLt (by decide)
    have hframe := retired_eq_with s i.val 1
    have hstat : ∀ n < 8, (s.retired i.val 1).rd (baseOf .psq n + 0x14) = s.rd (baseOf .psq n + 0x14) := fun n hn => psqStat_retired s i.val 1 hn
    generalize s.retired i.val 1 = u at *
    refine ⟨_, done_of_steady hs.1 (by rw [hframe]; exact hs.1.1) (by rw [hframe]) hstat, fun _ => hshows, fun h => (nomatch h), ?_⟩
    have hsig : s.sig = [] := hs.1.2.1
    have hsites : u.sites = s.sites := by rw [hframe]
    rw [← hsites] at hframe
    rw [← hsig]
    conv_lhs => rw [hframe]

/-- Settles O29, a command at a time: while no sequencer runs the site each puts its fields at once, else it waits or only reports. -/
theorem siteMaskAndRetirement : Obligations.SiteMaskAndRetirement := by
  unfold Obligations.SiteMaskAndRetirement
  intro s hs
  exact ⟨done_mask hs, done_retire hs, done_unretire hs, done_siteRegWrite hs, done_siteStateWrite hs⟩

end Sys2Proof.Machine

namespace Sys2Proof.Machine
open Sys2Proof Reg

/-! ## The overlay window, its descriptors and its DMA (O31) -/

/-! ### Bytes of the overlay store -/

theorem ovlWrite_eq_with (bs : List Byte) (s : State) (a : Nat) : s.ovlWrite a bs = { s with overlay := (s.ovlWrite a bs).overlay } := by
  induction bs generalizing s a with
  | nil => rfl
  | cons b r ih => exact ih (s.setOvlByte a b) (a + 1)

/-- A byte read after bytes are written from `a` on. -/
theorem ovlByte_ovlWrite (bs : List Byte) (s : State) (a x : Nat) :
    (s.ovlWrite a bs).ovlByte x = if a ≤ x ∧ x < a + bs.length then bs.getD (x - a) 0 else s.ovlByte x := by
  induction bs generalizing s a with
  | nil => rw [if_neg (by simp only [List.length_nil]; omega)]; rfl
  | cons b r ih =>
    have hset : (s.setOvlByte a b).ovlByte x = if x = a then b else s.ovlByte x := mapGet_mapSet _ _ _ _ _
    rw [State.ovlWrite, ih, hset, List.length_cons]
    by_cases hx : x = a
    · subst hx
      simp
    · by_cases hin : a + 1 ≤ x ∧ x < a + 1 + r.length
      · obtain ⟨k, rfl⟩ : ∃ k, x = a + 1 + k := ⟨x - (a + 1), by omega⟩
        rw [if_pos hin, if_pos (by omega), Nat.add_sub_cancel_left, show a + 1 + k - a = k + 1 by omega, List.getD_cons_succ]
      · rw [if_neg hin, if_neg hx, if_neg (by omega)]

theorem overlayBut_ovlWrite (bs : List Byte) (s : State) (a : Nat) : OverlayBut a bs.length s (s.ovlWrite a bs) := fun x hx => by
  rw [ovlByte_ovlWrite, if_neg (by omega)]

/-- The bytes of a word spell it. -/
theorem leNat_bytesOf (v : Word) : leNat (bytesOf v) = v.toNat := by
  have hv := v.isLt
  simp only [bytesOf, leNat, BitVec.extractLsb'_toNat, Nat.shiftRight_eq_div_pow]
  omega

/-- A word written to the store is read back. -/
theorem leNat_ovlWrite (s : State) (a : Nat) (v : Word) :
    leNat ((List.range 4).map fun j => (s.ovlWrite a (bytesOf v)).ovlByte (a + j)) = v.toNat := by
  have hbytes : ((List.range 4).map fun j => (s.ovlWrite a (bytesOf v)).ovlByte (a + j)) = bytesOf v := by
    simp [List.range_succ, ovlByte_ovlWrite, bytesOf]
  rw [hbytes, leNat_bytesOf]

/-! ### The cursor -/

/-- The address the cursor is at. -/
abbrev State.ovlCur (s : State) : Nat := 4096 * s.fld .ovl 0 OVL_CUR_SITE + s.fld .ovl 0 OVL_CUR_BYTE / 4 * 4

theorem ovlCur_congr {s t : State} (h : t.rd 0x61040 = s.rd 0x61040) : t.ovlCur = s.ovlCur := by
  rw [State.ovlCur, State.ovlCur, fld_congr (f := OVL_CUR_SITE) h, fld_congr (f := OVL_CUR_BYTE) h]

/-- The cursor is at the next word (R277). -/
theorem ovlNext_shows (s : State) :
    4096 * s.ovlNext.fld .ovl 0 OVL_CUR_SITE + s.ovlNext.fld .ovl 0 OVL_CUR_BYTE = (s.ovlCur + 4) % 2 ^ 20 := by
  have hsplit : ∀ a : Nat, 4096 * (a % 2 ^ 20 / 4096 % 2 ^ 8) + a % 2 ^ 20 % 4096 % 2 ^ 12 = a % 2 ^ 20 := by omega
  rw [State.ovlNext, fld_put_bits _ _ (by decide) (by decide) (by decide) (by decide), fld_put_same _ _ _ _ _ (by decide) (by decide),
    fld_put_same _ _ _ _ _ (by decide) (by decide)]
  exact hsplit _

theorem ovlNext_accesses (s : State) : Accesses 0x61000 [0x61040] s s.ovlNext :=
  .trans (.put s _ (List.mem_singleton.mpr rfl)) (.put _ _ (List.mem_singleton.mpr rfl))

/-- The overlay's page is below the sequencers' pages. -/
theorem psqStat_not_mem_ovl {o : Nat} (h : o < 0x80000) (n : Nat) : baseOf .psq n + 0x14 ∉ [o] :=
  List.mem_singleton.not.mpr (psqStat_ne_of_lt h n)

theorem steady_withOverlay {s : State} (hs : Steady s) (x : SMap Byte) : Steady { s with overlay := x } :=
  ⟨hs.1, hs.2.1, settle_of_same hs.2.2 rfl fun _ _ => rfl⟩

/-- The newest entry of a page depends on the recorded faults. -/
theorem raised_of_faults {s u t : State} {page cls base : Nat} (hf : t.faults = u.faults) (h : Raised page cls base s u) :
    Raised page cls base s t := by
  rwa [Raised, State.fault, hf, ← State.fault]

/-! ### A write of OVL_DATA -/

/-- An access that has stored what it stores and reported what it reports ends with the cursor moved on. -/
theorem done_ovlNext {s u : State} (hs : Steady s) {x : SMap Byte} (h : ReportsOn 0x61000 { s with overlay := x } u) :
    ∃ t, done u.ovlNext = .next t ∧ t.overlay = x ∧ t.faults = u.faults
      ∧ 4096 * t.fld .ovl 0 OVL_CUR_SITE + t.fld .ovl 0 OVL_CUR_BYTE = (s.ovlCur + 4) % 2 ^ 20
      ∧ Reported [0x61000] [0x61040] s t
      ∧ t = { s with regs := t.regs, hif := t.hif, faults := t.faults, evr := t.evr, free := t.free, overlay := t.overlay } := by
  have hcur : u.ovlCur = s.ovlCur := ovlCur_congr (h.rd_word (d := 0x40) (by decide) (by decide))
  have hnext := ovlNext_shows u
  have hfaults : u.ovlNext.faults = u.faults := rfl
  have hall := (Accesses.of_reportsOn h).trans (ovlNext_accesses u)
  rw [hcur] at hnext
  generalize u.ovlNext = w at *
  obtain ⟨hdone, hreported, hframe⟩ := hall.done (steady_withOverlay hs x) (by decide) fun n _ => psqStat_not_mem_ovl (by decide) n
  have hover : w.overlay = x := by rw [hall.frame]
  refine ⟨_, hdone, hover, hfaults, hnext, hreported, hframe.trans ?_⟩
  rw [← hover]

/-- What a write of OVL_DATA does before the cursor moves on (R277, R283). -/
theorem ovlAccess_some (s : State) (v : Word) :
    s.ovlAccess (some v) =
      if s.ovlSealedNow (s.fld .ovl 0 OVL_CUR_SITE) then (s.denied 0x61000).ovlNext
      else if s.siteRunning (s.fld .ovl 0 OVL_CUR_SITE) then s.ovlBusy.ovlNext
      else (s.ovlWrite s.ovlCur (bytesOf v)).ovlNext := rfl

/-- A write that is ignored because the region's sequencer runs reports OVL_BUSY (R277). -/
theorem ovlBusy_shows (s : State) : ReportsOn 0x61000 s s.ovlBusy ∧ Raised 0x61000 1 1 s s.ovlBusy := by
  obtain ⟨hr, hra, -⟩ := int_raiseOpen_shows s (k := .ovl) (i := 0) (page := 0x61000) rfl (by decide) 1 (b := 1) (base := 1) (by decide)
    (by decide)
  exact ⟨hr, hra⟩

/-- A write of OVL_DATA (R277, R283). -/
theorem done_ovlDataWrite {s : State} (hs : Serving s) (v : Word) :
    ∃ t, exec (.ovlDataAccess (some v)) s = .next t
      ∧ (s.ovlSealedNow (s.fld .ovl 0 OVL_CUR_SITE) = false → s.siteRunning (s.fld .ovl 0 OVL_CUR_SITE) = false →
          leNat ((List.range 4).map fun j => t.ovlByte (s.ovlCur + j)) = v.toNat)
      ∧ (s.ovlSealedNow (s.fld .ovl 0 OVL_CUR_SITE) = false → s.siteRunning (s.fld .ovl 0 OVL_CUR_SITE) = true →
          t.overlay = s.overlay ∧ Raised 0x61000 1 1 s t)
      ∧ (s.ovlSealedNow (s.fld .ovl 0 OVL_CUR_SITE) = true → t.overlay = s.overlay)
      ∧ OverlayBut s.ovlCur 4 s t
      ∧ 4096 * t.fld .ovl 0 OVL_CUR_SITE + t.fld .ovl 0 OVL_CUR_BYTE = (s.ovlCur + 4) % 2 ^ 20
      ∧ Reported [0x61000] [0x61040] s t
      ∧ t = { s with regs := t.regs, hif := t.hif, faults := t.faults, evr := t.evr, free := t.free, overlay := t.overlay } := by
  have hkept : ∀ {t : State}, t.overlay = s.overlay → OverlayBut s.ovlCur 4 s t := fun h x _ => by rw [State.ovlByte, h, ← State.ovlByte]
  change ∃ t, done (if s.live then s.ovlAccess (some v) else _) = .next t ∧ _
  rw [if_pos hs.2, ovlAccess_some]
  cases hseal : s.ovlSealedNow (s.fld .ovl 0 OVL_CUR_SITE) with
  | true =>
    obtain ⟨t, hdone, hover, -, hnext, hreported, hframe⟩ := done_ovlNext hs.1 (x := s.overlay) (.intSet 0x61000 s 0x40000000)
    exact ⟨t, hdone, fun h => (nomatch h), fun h => (nomatch h), fun _ => hover, hkept hover, hnext, hreported, hframe⟩
  | false =>
    cases hrun : s.siteRunning (s.fld .ovl 0 OVL_CUR_SITE) with
    | true =>
      obtain ⟨hr, hra⟩ := ovlBusy_shows s
      obtain ⟨t, hdone, hover, hfaults, hnext, hreported, hframe⟩ := done_ovlNext hs.1 (x := s.overlay) hr
      exact ⟨t, hdone, fun _ h => (nomatch h), fun _ _ => ⟨hover, raised_of_faults hfaults hra⟩, fun h => (nomatch h), hkept hover, hnext,
        hreported, hframe⟩
    | false =>
      have hread := leNat_ovlWrite s s.ovlCur v
      have hbut := overlayBut_ovlWrite (bytesOf v) s s.ovlCur
      have hwrite : ReportsOn 0x61000 { s with overlay := (s.ovlWrite s.ovlCur (bytesOf v)).overlay } (s.ovlWrite s.ovlCur (bytesOf v)) := by
        rw [← ovlWrite_eq_with]
        exact .refl _ _
      obtain ⟨t, hdone, hover, -, hnext, hreported, hframe⟩ := done_ovlNext hs.1 hwrite
      have hbyte : t.ovlByte = (s.ovlWrite s.ovlCur (bytesOf v)).ovlByte := by
        funext x
        rw [State.ovlByte, hover, ← State.ovlByte]
      refine ⟨t, hdone, fun _ _ => ?_, fun _ h => (nomatch h), fun h => (nomatch h), fun x hx => ?_, hnext, hreported, hframe⟩
      · rw [hbyte]
        exact hread
      · rw [hbyte]
        exact hbut x hx

/-! ### A read of OVL_DATA -/

theorem Interrupts.mono {offs offs' : List Nat} {s u : State} (h : Interrupts offs s u) (hsub : offs ⊆ offs') : Interrupts offs' s u where
  frame := h.frame
  rd o ho := h.rd o fun hm => ho (List.mem_append.mpr ((List.mem_append.mp hm).imp_left fun hm => hsub hm))

theorem Interrupts.put {offs : List Nat} (s : State) {k : PageKind} {i : Nat} {f : Fld} (v : Nat) (h : fldOff k i f 0 ∈ offs) :
    Interrupts offs s (s.put k i f v) := .wr h s _

theorem Interrupts.ovlNext {offs : List Nat} (h : 0x61040 ∈ offs) (s : State) : Interrupts offs s s.ovlNext :=
  .trans (.put (k := .ovl) (i := 0) (f := OVL_CUR_SITE) s _ h) (.put (k := .ovl) (i := 0) (f := OVL_CUR_BYTE) _ _ h)

/-- What a read of OVL_DATA answers (R277, R283). -/
theorem ovlAccess_none (s : State) :
    s.ovlAccess none =
      if s.ovlSealedNow (s.fld .ovl 0 OVL_CUR_SITE) then (s.denied 0x61000).ovlNext.completed (.words [0])
      else s.ovlNext.completed (.words [BitVec.ofNat 32 (leNat ((List.range 4).map fun j => s.ovlByte (s.ovlCur + j)))]) := rfl

/-- An answered read ends with the cursor moved on. -/
theorem done_ovlNext_completed {s u : State} (hs : Steady s) (h : Interrupts [0x61018, 0x61040] s u) (c : Completion) :
    ∃ t, done (u.ovlNext.completed c) = .next t ∧ t.hif.resp = c ∧ t.intStat 0x61000 = u.intStat 0x61000
      ∧ 4096 * t.fld .ovl 0 OVL_CUR_SITE + t.fld .ovl 0 OVL_CUR_BYTE = (u.ovlCur + 4) % 2 ^ 20
      ∧ RegsBut ([0x61018, 0x61040] ++ pbaOffs) s t
      ∧ t = { s with regs := t.regs, hif := t.hif } := by
  have hnext := ovlNext_shows u
  have hint : u.ovlNext.intStat 0x61000 = u.intStat 0x61000 :=
    (rd_put_other _ _ (by decide)).trans (rd_put_other u _ (by decide))
  have hall := h.trans (.ovlNext (by decide) u)
  generalize u.ovlNext = w at *
  obtain ⟨hdone, hframe⟩ := hall.done_completed hs (fun n _ => by simp [baseOf]; omega) c
  exact ⟨_, hdone, rfl, hint, hnext, hall.rd, hframe⟩

/-- A read of OVL_DATA (R277, R283). -/
theorem done_ovlDataRead {s : State} (hs : Serving s) :
    ∃ t, exec (.ovlDataAccess none) s = .next t
      ∧ (s.ovlSealedNow (s.fld .ovl 0 OVL_CUR_SITE) = false →
          t.hif.resp = .words [BitVec.ofNat 32 (leNat ((List.range 4).map fun j => s.ovlByte (s.ovlCur + j)))])
      ∧ (s.ovlSealedNow (s.fld .ovl 0 OVL_CUR_SITE) = true →
          t.hif.resp = .words [0] ∧ t.intStat 0x61000 = s.intStat 0x61000 ||| 0x40000000)
      ∧ 4096 * t.fld .ovl 0 OVL_CUR_SITE + t.fld .ovl 0 OVL_CUR_BYTE = (s.ovlCur + 4) % 2 ^ 20
      ∧ RegsBut ([0x61018, 0x61040] ++ pbaOffs) s t
      ∧ t = { s with regs := t.regs, hif := t.hif } := by
  change ∃ t, done (if s.live then s.ovlAccess none else _) = .next t ∧ _
  rw [if_pos hs.2, ovlAccess_none]
  cases hseal : s.ovlSealedNow (s.fld .ovl 0 OVL_CUR_SITE) with
  | true =>
    have hint : Interrupts [0x61018, 0x61040] s (s.denied 0x61000) := (Interrupts.intSet s 0x61000 0x40000000).mono (by simp)
    have hstat : (s.denied 0x61000).intStat 0x61000 = s.intStat 0x61000 ||| 0x40000000 := rd_intSet_same s 0x61000 _ (by decide)
    have hcur : (s.denied 0x61000).ovlCur = s.ovlCur := ovlCur_congr (rd_intSet_other s _ (by decide) (by decide))
    obtain ⟨t, hdone, hresp, hdenied, hnext, hrd, hframe⟩ := done_ovlNext_completed hs.1 hint (.words [0])
    exact ⟨t, hdone, fun h => (nomatch h), fun _ => ⟨hresp, hdenied.trans hstat⟩, hcur ▸ hnext, hrd, hframe⟩
  | false =>
    obtain ⟨t, hdone, hresp, -, hnext, hrd, hframe⟩ := done_ovlNext_completed hs.1 (.refl [0x61018, 0x61040] s) (.words [_])
    exact ⟨t, hdone, fun _ => hresp, fun h => (nomatch h), hnext, hrd, hframe⟩

/-! ### Descriptors -/

theorem descOff (j : Nat) : fldOff .ovl 0 OVL_DESC_WORD j = 0x61100 + 4 * j := by
  simp only [fldOff, baseOf, OVL_DESC_WORD]
  omega

/-- A whole word put is the word. -/
theorem putBits_word (w v : Word) : putBits w 31 0 v.toNat = v := by
  refine BitVec.eq_of_toNat_eq ?_
  rw [← bitsOf_word, bitsOf_putBits_same w 31 0 v.toNat (by decide) (by decide)]
  exact Nat.mod_eq_of_lt v.isLt

/-- A write of a descriptor's word (R277). -/
theorem done_descriptorWrite {s : State} (hs : Serving s) (d : Fin 32) (w : Fin 8) (v : Word) :
    ∃ t, exec (.descriptorWrite d w v) s = .next t
      ∧ (s.psqRunning (bitsOf (s.descWord d.val 5) 22 20) = false → t.rd (0x61100 + 4 * (8 * d.val + w.val)) = v)
      ∧ (s.psqRunning (bitsOf (s.descWord d.val 5) 22 20) = true →
          Raised 0x61000 1 1 s t ∧ t.rd (0x61100 + 4 * (8 * d.val + w.val)) = s.rd (0x61100 + 4 * (8 * d.val + w.val)))
      ∧ Reported [0x61000] [0x61100 + 4 * (8 * d.val + w.val)] s t
      ∧ t = { s with regs := t.regs, hif := t.hif, faults := t.faults, evr := t.evr, free := t.free } := by
  have hend : ∀ {u : State}, Accesses 0x61000 [0x61100 + 4 * (8 * d.val + w.val)] s u → _ := fun h =>
    h.done hs.1 (by decide) fun n _ => psqStat_not_mem_ovl (by omega) n
  change ∃ t, done (s.asHostOn .ovl 0 _) = .next t ∧ _
  rw [asHostOn_of_open hs.2 rfl, descriptorWrite]
  cases hr : s.psqRunning (bitsOf (s.descWord d.val 5) 22 20) with
  | true =>
    rw [if_pos rfl]
    obtain ⟨hrep, hra⟩ := ovlBusy_shows s
    generalize s.ovlBusy = u at *
    obtain ⟨hdone, hreported, hframe⟩ := hend (.of_reportsOn hrep)
    have hword : u.rd (0x61100 + 4 * (8 * d.val + w.val)) = s.rd (0x61100 + 4 * (8 * d.val + w.val)) :=
      (Accesses.of_reportsOn hrep (offs := [])).rd List.not_mem_nil (by omega) (not_mem_reports (by omega))
    exact ⟨_, hdone, fun h => (nomatch h), fun _ => ⟨hra, hword⟩, hreported, hframe⟩
  | false =>
    rw [if_neg (by decide)]
    have hput : Accesses 0x61000 [0x61100 + 4 * (8 * d.val + w.val)] s (s.putAt .ovl 0 OVL_DESC_WORD (8 * d.val + w.val) v.toNat) :=
      .putAt s _ (List.mem_singleton.mpr (descOff _))
    have hword : (s.putAt .ovl 0 OVL_DESC_WORD (8 * d.val + w.val) v.toNat).rd (0x61100 + 4 * (8 * d.val + w.val)) = v := by
      rw [← descOff, putAt_eq_wr, rd_wr_same]
      exact putBits_word _ v
    generalize s.putAt .ovl 0 OVL_DESC_WORD (8 * d.val + w.val) v.toNat = u at *
    obtain ⟨hdone, hreported, hframe⟩ := hend hput
    exact ⟨_, hdone, fun _ => hword, fun h => (nomatch h), hreported, hframe⟩

/-! ### A DMA is asked for -/

theorem ovlResp_accesses (s : State) (r w : Nat) : Accesses 0x61000 [0x61054] s (s.ovlResp r w) :=
  .trans (.put s _ (List.mem_singleton.mpr rfl)) (.put _ _ (List.mem_singleton.mpr rfl))

theorem fld_ovlResp (s : State) {r : Nat} (hr : r < 16) (w : Nat) : (s.ovlResp r w).fld .ovl 0 OVL_DMA_RESP_RESULT = r := by
  rw [State.ovlResp, fld_put_bits _ _ (by decide) (by decide) (by decide) (by decide), fld_put_same _ _ _ _ _ (by decide) (by decide)]
  exact Nat.mod_eq_of_lt hr

/-- A DMA that is refused ends with its result, and with what was reported before (R278). -/
theorem done_ovlResp {s u : State} (hs : Steady s) (h : ReportsOn 0x61000 s u) {r : Nat} (hr : r < 16) :
    ∃ t, done (u.ovlResp r 0) = .next t ∧ t.fld .ovl 0 OVL_DMA_RESP_RESULT = r ∧ Reported [0x61000] [0x61054] s t
      ∧ t = { s with regs := t.regs, hif := t.hif, faults := t.faults, evr := t.evr, free := t.free, ovlDma := t.ovlDma } := by
  have hres := fld_ovlResp u hr 0
  have hall := (Accesses.of_reportsOn h).trans (ovlResp_accesses u r 0)
  generalize u.ovlResp r 0 = w at *
  obtain ⟨hdone, hreported, hframe⟩ := hall.done hs (by decide) fun n _ => psqStat_not_mem_ovl (by decide) n
  have hdma : w.ovlDma = s.ovlDma := by rw [hall.frame]
  refine ⟨_, hdone, hres, hreported, hframe.trans ?_⟩
  rw [← hdma]

/-- The regions that OVL_DMA_CTRL names. -/
def State.dmaSites (s : State) : List Nat :=
  (List.range (s.fld .ovl 0 OVL_DMA_CTRL_COUNT_M1 + 1)).map (s.fld .ovl 0 OVL_DMA_CTRL_FIRST + ·)

/-- The transfer that OVL_DMA_CTRL asks for. -/
def State.dmaAsked (s : State) : OvlDma :=
  ⟨BitVec.ofNat 32 (s.fld .ovl 0 OVL_DMA_HANDLE), s.fld .ovl 0 OVL_DMA_OFF / 64 * 64, s.fld .ovl 0 OVL_DMA_CTRL_FIRST,
    s.fld .ovl 0 OVL_DMA_CTRL_COUNT_M1⟩

/-- The object a transfer reads from, where it holds what is asked for. -/
abbrev State.dmaObject (s : State) (j : OvlDma) : Option VsObj := s.plainRange j.handle j.off (4096 * (j.countM1 + 1))

/-- Whether the checks let a transfer pass (R278, R283). -/
abbrev State.dmaAdmits (s : State) : Prop :=
  s.ovlDma = none ∧ (∀ i ∈ s.dmaSites, s.siteRunning i = false ∧ s.ovlSealed i = false)
    ∧ s.dmaAsked.first + s.dmaAsked.countM1 < 256 ∧ (s.dmaObject s.dmaAsked).isSome = true

theorem ovlDma_eq (s : State) : ovlDma s =
    if s.dmaSites.any s.siteRunning then s.ovlBusy.ovlResp 2 0
    else if s.ovlDma.isSome then s.ovlResp 2 0
    else if 256 < s.dmaAsked.first + (s.dmaAsked.countM1 + 1) then s.ovlResp 3 0
    else if (s.dmaObject s.dmaAsked).isNone || s.dmaSites.any s.ovlSealed then s.ovlResp 4 0
    else { s with ovlDma := some s.dmaAsked } := rfl

/-- A transfer that is refused with a result, and what was reported before it (R278). -/
abbrev DmaRefused (s : State) : Prop := ∃ u r, ReportsOn 0x61000 s u ∧ (r = 2 ∨ r = 3 ∨ r = 4) ∧ ovlDma s = u.ovlResp r 0

/-- A transfer is in progress where the checks let it pass, and refused otherwise (R278, R283). -/
theorem ovlDma_cases (s : State) :
    (s.dmaAdmits ∧ ovlDma s = { s with ovlDma := some s.dmaAsked }) ∨ (¬ s.dmaAdmits ∧ DmaRefused s) := by
  unfold DmaRefused
  rw [ovlDma_eq]
  by_cases hrun : s.dmaSites.any s.siteRunning = true
  · refine .inr ⟨fun h => ?_, _, 2, (ovlBusy_shows s).1, .inl rfl, if_pos hrun⟩
    obtain ⟨i, hi, hx⟩ := List.any_eq_true.mp hrun
    exact absurd hx (Bool.eq_false_iff.mp (h.2.1 i hi).1)
  rw [if_neg hrun]
  by_cases hsome : s.ovlDma.isSome = true
  · exact .inr ⟨fun h => by simp [h.1] at hsome, s, 2, .refl _ s, .inl rfl, if_pos hsome⟩
  rw [if_neg hsome]
  by_cases hlast : 256 < s.dmaAsked.first + (s.dmaAsked.countM1 + 1)
  · exact .inr ⟨fun h => by have := h.2.2.1; omega, s, 3, .refl _ s, .inr (.inl rfl), if_pos hlast⟩
  rw [if_neg hlast]
  by_cases hbad : ((s.dmaObject s.dmaAsked).isNone || s.dmaSites.any s.ovlSealed) = true
  · refine .inr ⟨fun h => ?_, s, 4, .refl _ s, .inr (.inr rfl), if_pos hbad⟩
    have hsealed : s.dmaSites.any s.ovlSealed = false :=
      List.any_eq_false.mpr fun i hi => Bool.eq_false_iff.mp (h.2.1 i hi).2
    simp [Option.isNone_eq_false_iff.mpr h.2.2.2, hsealed] at hbad
  rw [if_neg hbad]
  obtain ⟨hobj, hsealed⟩ := Bool.or_eq_false_iff.mp (Bool.eq_false_iff.mpr hbad)
  refine .inl ⟨⟨Option.not_isSome_iff_eq_none.mp hsome, fun i hi => ⟨?_, ?_⟩, by omega, Option.isNone_eq_false_iff.mp hobj⟩, rfl⟩
  · exact Bool.eq_false_iff.mpr (List.any_eq_false.mp (Bool.eq_false_iff.mpr hrun) i hi)
  · exact Bool.eq_false_iff.mpr (List.any_eq_false.mp hsealed i hi)

/-- OVL_DMA (R278, R283). -/
theorem done_ovlDma {s : State} (hs : Serving s) :
    ∃ t, exec .ovlDma s = .next t
      ∧ (s.ovlDma = none → (∀ i ∈ s.dmaSites, s.siteRunning i = false ∧ s.ovlSealed i = false) →
          s.dmaAsked.first + s.dmaAsked.countM1 < 256 → (s.dmaObject s.dmaAsked).isSome = true → t = { s with ovlDma := some s.dmaAsked })
      ∧ (t.ovlDma = s.ovlDma →
          t.fld .ovl 0 OVL_DMA_RESP_RESULT = 2 ∨ t.fld .ovl 0 OVL_DMA_RESP_RESULT = 3 ∨ t.fld .ovl 0 OVL_DMA_RESP_RESULT = 4)
      ∧ Reported [0x61000] [0x61054] s t
      ∧ t = { s with regs := t.regs, hif := t.hif, faults := t.faults, evr := t.evr, free := t.free, ovlDma := t.ovlDma } := by
  change ∃ t, done (s.asHostOn .ovl 0 ovlDma) = .next t ∧ _
  rw [asHostOn_of_open hs.2 rfl]
  rcases ovlDma_cases s with ⟨hadmits, heq⟩ | ⟨hnot, u, r, hrep, hr, heq⟩ <;> rw [heq]
  · refine ⟨_, done_quiet hs.1 rfl rfl rfl fun _ _ => rfl, fun _ _ _ _ => rfl, fun h => ?_, ⟨fun _ _ => rfl, fun _ _ => rfl, rfl⟩, rfl⟩
    exact nomatch h.trans hadmits.1
  · obtain ⟨t, hdone, hres, hreported, hframe⟩ := done_ovlResp hs.1 hrep (r := r) (by omega)
    exact ⟨t, hdone, fun h1 h2 h3 h4 => absurd ⟨h1, h2, h3, h4⟩ hnot, fun _ => hres ▸ hr, hreported, hframe⟩

/-! ### A DMA is done -/

/-- A word that a demand read delivers: where its region is written, it is good (R295, R297, R300). -/
abbrev Delivers (s : State) (w : Nat) : Prop := s.vsWritten (w / 512) = true → GoodWord s w

theorem Reads.delivers {s u : State} (h : Reads s u) {w : Nat} (hd : Delivers s w) : Delivers u w := fun hw =>
  h.goodWord (hd (by rw [h.frame] at hw; exact hw))

theorem readWord_of_delivers {s : State} {w : Nat} (h : Delivers s w) : (s.readWord w none).2 = true := by
  cases hw : s.vsWritten (w / 512) with
  | true => exact readWord_ok (h hw)
  | false => simp only [State.readWord, hw, Bool.not_false, if_true]

theorem readNexts_of_delivers (l : List (Nat × Nat)) (r : State × Bool) (h : ∀ w ∈ l, Delivers r.1 w.1) : (l.foldl readNext r).2 = r.2 := by
  induction l generalizing r with
  | nil => rfl
  | cons w l ih =>
    rw [List.foldl_cons, ih (readNext r w) fun x hx => (Reads.readWord r.1 w.1).delivers (h x (List.mem_cons_of_mem w hx))]
    exact (congrArg (r.2 && ·) (readWord_of_delivers (h w List.mem_cons_self))).trans (Bool.and_true _)

/-- A demand read of words that are all delivered. -/
theorem readWords_of_delivers {s : State} {ws : List Nat} (h : ∀ w ∈ ws, Delivers s w) : (s.readWords ws []).2 = true := by
  have hall : ∀ w ∈ ws.zipIdx, Delivers (s.pcnChip 1 ((ws.map (· / 8)).eraseDups.length)) w.1 := fun w hw =>
    (Reads.pcnChip s _ _).delivers (h w.1 (List.fst_mem_of_mem_zipIdx hw))
  rw [readWords_nil_hits]
  exact readNexts_of_delivers ws.zipIdx (_, true) hall

/-- The bytes of a word of an object lie together. -/
theorem phys_word (o : VsObj) (y : Nat) : o.phys (8 * (y / 8)) / 8 = o.phys y / 8 := by
  rw [VsObj.phys, VsObj.phys, show 8 * (y / 8) / 65536 = y / 65536 by omega]
  omega

/-- Every word that a read of an object touches holds one of the bytes read. -/
theorem mem_words {o : VsObj} {x n w : Nat} (h : w ∈ o.words x n) : ∃ i < n, w = o.phys (x + i) / 8 := by
  unfold VsObj.words at h
  split at h
  · exact absurd h List.not_mem_nil
  · obtain ⟨k, hk, rfl⟩ := List.mem_map.mp h
    have hk := List.mem_range.mp hk
    refine ⟨8 * (x / 8 + k) - x, by omega, ?_⟩
    rw [← phys_word o (x + _), show (x + (8 * (x / 8 + k) - x)) / 8 = x / 8 + k by omega]

/-- The words of bytes that are not bad are delivered. -/
theorem delivers_of_not_bad {s : State} {o : VsObj} {x n : Nat} (h : s.objBad o x n = false) : ∀ w ∈ o.words x n, Delivers s w := by
  intro w hw hwritten
  obtain ⟨i, hi, rfl⟩ := mem_words hw
  obtain ⟨hpoison, hfailed⟩ := Bool.or_eq_false_iff.mp (Bool.eq_false_iff.mpr (List.any_eq_false.mp h i (List.mem_range.mpr hi)))
  rw [Nat.div_div_eq_div_mul] at hwritten
  rw [hwritten, Bool.and_true] at hfailed
  exact ⟨hpoison, (vsChannel_word _).symm ▸ hfailed⟩

/-- A transfer shows that it is done: its result, and whether bytes of the object were never written (R278). -/
def State.dmaShown (s : State) (unwritten : Nat) : State := (s.ovlResp 1 unwritten).int .ovl 0 0

/-- A transfer writes the object's bytes to the regions. -/
abbrev State.dmaWritten (s : State) (j : OvlDma) (o : VsObj) : State :=
  s.ovlWrite (4096 * j.first) (s.objRead o j.off (4096 * (j.countM1 + 1)))

theorem dmaWritten_eq_with (s : State) (j : OvlDma) (o : VsObj) :
    s.dmaWritten j o = { s with overlay := (s.dmaWritten j o).overlay } := ovlWrite_eq_with _ s _

/-- The state of a transfer whose bytes have been read. -/
def State.dmaRead (s : State) (j : OvlDma) (o : VsObj) : State :=
  (({ s with ovlDma := none } : State).readWords (o.words j.off (4096 * (j.countM1 + 1))) []).1

theorem ovlDmaDone_of_good {s : State} {j : OvlDma} {o : VsObj} (hj : s.ovlDma = some j) (ho : s.dmaObject j = some o)
    (hgood : s.objBad o j.off (4096 * (j.countM1 + 1)) = false) :
    ∃ x, ovlDmaDone [] s = ((s.dmaRead j o).dmaWritten j o).dmaShown x := by
  have hok : (({ s with ovlDma := none } : State).readWords (o.words j.off (4096 * (j.countM1 + 1))) []).2 = true :=
    readWords_of_delivers (delivers_of_not_bad (s := { s with ovlDma := none }) hgood)
  have ho' : ({ s with ovlDma := none } : State).plainRange j.handle j.off (4096 * (j.countM1 + 1)) = some o := ho
  refine ⟨bit ((s.dmaRead j o).objUnwritten o j.off (4096 * (j.countM1 + 1))), ?_⟩
  simp only [ovlDmaDone, hj, ho', hok, if_true]
  rfl

theorem dmaRead_reads (s : State) (j : OvlDma) (o : VsObj) : Reads { s with ovlDma := none } (s.dmaRead j o) := .readWords _ _

/-- A read changes no byte of the object. -/
theorem objRead_dmaRead (s : State) (j : OvlDma) (o : VsObj) (x n : Nat) : (s.dmaRead j o).objRead o x n = s.objRead o x n := by
  have hvs : (s.dmaRead j o).vs.bytes = s.vs.bytes := by rw [(dmaRead_reads s j o).frame]
  simp only [State.objRead, State.vsByte, hvs]

/-- The result and the cause bit of a transfer that is done. -/
theorem dmaShown_shows (s : State) (x : Nat) :
    Interrupts [0x61018, 0x61054] s (s.dmaShown x) ∧ (s.dmaShown x).fld .ovl 0 OVL_DMA_RESP_RESULT = 1
      ∧ ((s.dmaShown x).intStat 0x61000).getLsbD 0 = true := by
  have hint : Interrupts [0x61018] (s.ovlResp 1 x) (s.dmaShown x) := .intSet _ 0x61000 _
  have hresp : Interrupts [0x61018, 0x61054] s (s.ovlResp 1 x) :=
    .trans (.put (k := .ovl) (i := 0) (f := OVL_DMA_RESP_RESULT) s _ (by decide))
      (.put (k := .ovl) (i := 0) (f := OVL_DMA_RESP_UNWRITTEN) _ _ (by decide))
  exact ⟨hresp.trans (hint.mono (by simp)), (fld_congr (hint.rd 0x61054 (by decide))).trans (fld_ovlResp s (by decide) x),
    intStat_int _ .ovl 0 (by decide) (by decide)⟩

/-- The bytes of the object stand in the regions, and every other byte of the store as before (R278). -/
theorem dmaWritten_shows {s w : State} {j : OvlDma} {o : VsObj} (hover : w.overlay = s.overlay)
    (hobj : ∀ x n, w.objRead o x n = s.objRead o x n) :
    (∀ i < 4096 * (j.countM1 + 1), (w.dmaWritten j o).ovlByte (4096 * j.first + i) = s.vsByte (o.phys (j.off + i)))
      ∧ OverlayBut (4096 * j.first) (4096 * (j.countM1 + 1)) s (w.dmaWritten j o) := by
  have hlen : (s.objRead o j.off (4096 * (j.countM1 + 1))).length = 4096 * (j.countM1 + 1) := by simp [State.objRead]
  have hkept : ∀ x, w.ovlByte x = s.ovlByte x := fun x => by rw [State.ovlByte, hover, ← State.ovlByte]
  refine ⟨fun i hi => ?_, fun x hx => ?_⟩
  · rw [State.dmaWritten, hobj, ovlByte_ovlWrite, if_pos (by omega), Nat.add_sub_cancel_left, List.getD_eq_getElem _ _ (by omega)]
    simp only [State.objRead, List.getElem_map, List.getElem_range]
  · rw [State.dmaWritten, hobj, ← hkept x]
    exact overlayBut_ovlWrite _ w _ x (by rwa [hlen])

/-- A transfer that has read its bytes, written them and shown its end ends. -/
theorem done_dmaShown {s w v u : State} (hs : Steady s) (hread : Reads { s with ovlDma := none } w)
    (hwrite : v = { w with overlay := v.overlay }) (hshown : Interrupts [0x61018, 0x61054] v u) :
    done u = .next { u with sig := [] } ∧ u.overlay = v.overlay ∧ u.ovlDma = none
      ∧ { u with sig := [] } = { s with
          regs := u.regs, hif := u.hif, overlay := u.overlay, ovlDma := u.ovlDma, vs := u.vs, chipWraps := u.chipWraps } := by
  have hsig : s.sig = [] := hs.2.1
  have hregs : v.regs = w.regs := by rw [hwrite]
  have hmine : ∀ n < 8, (0x63000 ≤ baseOf .psq n + 0x14 ∧ baseOf .psq n + 0x14 ≠ 0x200064)
      ∧ baseOf .psq n + 0x14 ∉ [0x61018, 0x61054] := by decide
  have hstat : ∀ n < 8, u.rd (baseOf .psq n + 0x14) = s.rd (baseOf .psq n + 0x14) := fun n hn => by
    obtain ⟨⟨hlow, hue⟩, hdma⟩ := hmine n hn
    have hv : v.rd (baseOf .psq n + 0x14) = w.rd (baseOf .psq n + 0x14) := by rw [State.rd, hregs, ← State.rd]
    exact (hshown.rd _ (List.not_mem_append hdma (psqStat_not_mem_pbaOffs n))).trans (hv.trans (hread.rd _ (.inr hlow) hue))
  obtain ⟨r, k, c, rfl⟩ : ∃ r k c, w = { s with ovlDma := none, regs := r, vs := { s.vs with ueRun := k }, chipWraps := c } :=
    ⟨_, _, _, hread.frame⟩
  obtain ⟨x, rfl⟩ : ∃ x, v = { s with
      ovlDma := none, regs := r, vs := { s.vs with ueRun := k }, chipWraps := c, overlay := x } := ⟨_, hwrite⟩
  obtain ⟨r', h, g, rfl⟩ : ∃ r' h g, u = { s with
      ovlDma := none, regs := r', vs := { s.vs with ueRun := k }, chipWraps := c, overlay := x, hif := h, sig := g } :=
    ⟨_, _, _, hshown.frame⟩
  exact ⟨done_of_steady hs hs.1 rfl hstat, rfl, rfl, by rw [← hsig]⟩

/-- OVL_DMA_DONE of a transfer that meets no bad word (R278). -/
theorem done_ovlDmaDone {s : State} (hs : Steady s) {j : OvlDma} {o : VsObj} (hj : s.ovlDma = some j) (ho : s.dmaObject j = some o)
    (hgood : s.objBad o j.off (4096 * (j.countM1 + 1)) = false) :
    ∃ t, exec (.ovlDmaDone []) s = .next t
      ∧ t.ovlDma = none ∧ t.fld .ovl 0 OVL_DMA_RESP_RESULT = 1 ∧ (t.intStat 0x61000).getLsbD 0 = true
      ∧ (∀ i < 4096 * (j.countM1 + 1), t.ovlByte (4096 * j.first + i) = s.vsByte (o.phys (j.off + i)))
      ∧ OverlayBut (4096 * j.first) (4096 * (j.countM1 + 1)) s t
      ∧ t = { s with
          regs := t.regs, hif := t.hif, overlay := t.overlay, ovlDma := t.ovlDma, vs := t.vs, chipWraps := t.chipWraps } := by
  obtain ⟨x, heq⟩ := ovlDmaDone_of_good hj ho hgood
  change ∃ t, done (ovlDmaDone [] s) = .next t ∧ _
  rw [heq]
  have hread := dmaRead_reads s j o
  obtain ⟨hbytes, hbut⟩ := dmaWritten_shows (j := j) (o := o) (w := s.dmaRead j o) (by rw [hread.frame]) (objRead_dmaRead s j o)
  have hwrite := dmaWritten_eq_with (s.dmaRead j o) j o
  obtain ⟨hshown, hres, hint⟩ := dmaShown_shows ((s.dmaRead j o).dmaWritten j o) x
  generalize ((s.dmaRead j o).dmaWritten j o).dmaShown x = u at *
  generalize (s.dmaRead j o).dmaWritten j o = v at *
  obtain ⟨hdone, hover, hdma, hframe⟩ := done_dmaShown hs hread hwrite hshown
  have hbyte : u.ovlByte = v.ovlByte := by
    funext y
    rw [State.ovlByte, hover, ← State.ovlByte]
  refine ⟨_, hdone, hdma, hres, hint, fun i hi => ?_, fun y hy => ?_, hframe⟩
  · exact (congrFun hbyte _).trans (hbytes i hi)
  · exact (congrFun hbyte y).trans (hbut y hy)

/-- Settles O31, a command at a time: an access of the window, a descriptor's write, a transfer asked for and a transfer done. -/
theorem overlayAccess : Obligations.OverlayAccess := by
  unfold Obligations.OverlayAccess
  intro s hs
  exact ⟨done_ovlDataWrite hs, done_ovlDataRead hs, done_descriptorWrite hs, done_ovlDma hs,
    fun _ _ hj ho hgood => done_ovlDmaDone hs.1 hj ho hgood⟩

end Sys2Proof.Machine

namespace Sys2Proof.Machine
open Sys2Proof Reg

/-! ## The record sequence number wraps at 48 bits (O33)

SEQ of a record is a field of 48 bits (R348), and FRE_SEQ holds the next one in the 32 bits of LO and the 16 of HI. The statement counts it
modulo 2^64. -/

/-- The burst of PSQ 3 has ended and site 0 waits for the issue of its record, which takes the last sequence number. -/
def lastSequence : State :=
  let s := { State.reset with dev := .ready }
  let s := ((s.put .fre 3 FRE_STATE_PHASE 5).put .freG 0 FRE_SEQ_LO 0xFFFFFFFF).put .freG 0 FRE_SEQ_HI 0xFFFF
  (s.setSite 0 { s.site 0 with pending := true }).setPsq 3 { s.psq 3 with awaiting := [0] }

theorem lastSequence_serving : Serving lastSequence :=
  serving_of (by decide +kernel) (by decide +kernel) (by decide +kernel) (by decide +kernel)

theorem freSeq_lastSequence : lastSequence.freSeq = 2 ^ 48 - 1 := by decide +kernel

/-- The issue of the record leaves both words of FRE_SEQ at 0. -/
theorem wordAfter_recordIssue_lastSequence :
    wordAfter (exec (.recordIssue 3) lastSequence) 0x24005C = 0 ∧ wordAfter (exec (.recordIssue 3) lastSequence) 0x240060 = 0 := by
  decide +kernel

/-- FRE_SEQ reads 0 where both of its words do. -/
theorem freSeq_of_zero {t : State} (hlo : t.rd 0x24005C = 0) (hhi : t.rd 0x240060 = 0) : t.freSeq = 0 := by
  change bitsOf (t.rd 0x24005C) 31 0 + 2 ^ 32 * bitsOf (t.rd 0x240060) 15 0 = 0
  rw [hlo, hhi]
  decide

/-- Refutes O33: the issue of a record is said to leave FRE_SEQ one more modulo 2^64, but FRE_SEQ has 48 bits, as SEQ of a record has (R346,
R348): after the record of SEQ 2^48 − 1 it reads 0, and not 2^48. -/
theorem not_limitsAndRecords : ¬ Obligations.LimitsAndRecords := by
  unfold Obligations.LimitsAndRecords
  intro h
  obtain ⟨-, -, -, -, hissue, -⟩ := h lastSequence lastSequence_serving
  obtain ⟨t, ht, -, -, -, hseq, -⟩ :=
    hissue 3 0 [] (by decide +kernel) (by decide +kernel) List.not_mem_nil (by decide +kernel) (by decide +kernel)
      ⟨by decide +kernel, by decide +kernel⟩ (by decide +kernel)
  obtain ⟨hlo, hhi⟩ := wordAfter_recordIssue_lastSequence
  rw [ht] at hlo hhi
  rw [freSeq_lastSequence, freSeq_of_zero hlo hhi] at hseq
  exact absurd hseq (by decide)

end Sys2Proof.Machine

namespace Sys2Proof.Machine
open Sys2Proof Reg

/-! ## A trip that cancels a measurement of a site that no page shows (O49)

A measurement's item names its site by any number (`MsrItem.site`), and no invariant of a steady state says that it is one of the 256. Register
S0 of a site 519 would be register 0x307060, past the pages of the sites: GMN_TRIPS of bank 0. A CRITICAL trip that follows one nobody
acknowledged is recorded at Fatal (R60), so that the device enters FAULT (R61); the running item then ends CANCELLED (R408), and its result
goes into S0 of its site (R406). -/

/-! ### A result without a value in a register of its site -/

/-- A PPMU request whose results go into a register of the item's site, with no status beside them (R406). -/
structure ToSiteOnly (r : MsrReq) : Prop where
  ppmu : r.source = 0
  toSite : r.toSite = true
  noStatus : r.bits 2 19 19 ≠ 1

/-- The register of site `i` that takes the results of a request (R406). -/
def MsrReq.siteWord (r : MsrReq) (i : Nat) : Nat := fldOff .site i SITE_S (r.bits 2 27 24)

theorem deliver_eq_siteResult {s : State} {b : Nat} {r : MsrReq} {it : MsrItem} {i st : Nat} {v : Int} (hr : r.toSite = true)
    (hi : it.site = some i) : s.deliver b r it st v = (s.siteResult b r i it.unit st (s.isLate r) v).int .acq b 0 := by
  simp only [State.deliver, hr, hi]

theorem siteResult_of_no_value {s : State} {b : Nat} {r : MsrReq} {i unit st : Nat} {late : Bool} {v : Int} (hr : r.bits 2 19 19 ≠ 1)
    (hst : statusHasValue st = false) : s.siteResult b r i unit st late v = (s.setSiteReg i (r.bits 2 27 24) 0xFFFFFFFF).drawn := by
  simp only [State.siteResult, hst, hr, if_false, Bool.false_eq_true]

/-- A result delivered CANCELLED reads as no value in its site's register (R406). -/
theorem rd_deliver_cancelled {s : State} {b : Nat} {r : MsrReq} {it : MsrItem} {i : Nat} (hr : ToSiteOnly r) (hi : it.site = some i)
    (hint : r.siteWord i ≠ pageBase .acq b + 0x18) (hpba : r.siteWord i ∉ pbaOffs) : (s.deliver b r it 5 0).rd (r.siteWord i) = 0xFFFFFFFF := by
  rw [deliver_eq_siteResult hr.toSite hi, siteResult_of_no_value hr.noStatus rfl]
  refine (rd_intSet_other _ _ hint hpba).trans ((rd_wr_same _ _ _).trans ?_)
  exact putBits_word _ 0xFFFFFFFF

theorem deliver_cancelled_keepsCore {s : State} {b : Nat} {r : MsrReq} {it : MsrItem} {i : Nat} (hr : ToSiteOnly r) (hi : it.site = some i) :
    KeepsCore s (s.deliver b r it 5 0) := by
  rw [deliver_eq_siteResult hr.toSite hi, siteResult_of_no_value hr.noStatus rfl]
  exact ((KeepsCore.putAt _ _ _ _ _ _).trans (.drawn _)).trans (.int _ _ _ _)

/-! ### The running item is cancelled -/

/-- A bank whose instruments only run one item. -/
def runsOnly (r : MsrReq) (it : MsrItem) (at_ : Nat) : MeasSt := { MeasSt.idle with run := some (r, it, at_) }

/-- The connections of a running item are open, and it runs no longer (R408). -/
def State.unrun (s : State) (b : Nat) (r : MsrReq) (it : MsrItem) : State :=
  let s := ((s.unhold b r.source it.unit).pmuOff b).put .acq b ACQ_STAT_USE 0
  (s.setMeas b { s.measOf b with run := none }).put .acq b MSR_CUR_BUSY 0

theorem stopRun_eq {s : State} {b : Nat} {r : MsrReq} {it : MsrItem} {at_ : Nat} (h : (s.measOf b).run = some (r, it, at_)) :
    s.stopRun b = ((s.unrun b r it).deliver b r it 5 0).reqCheck b r := by
  simp only [State.stopRun, h, State.unrun]

theorem KeepsCore.busTo (s : State) (b src lane : Nat) : KeepsCore s (s.busTo b src lane) :=
  ((put _ _ _ _ _).trans (put _ _ _ _ _)).trans (put _ _ _ _ _)

theorem KeepsCore.pmuOff (s : State) (b : Nat) : KeepsCore s (s.pmuOff b) :=
  .ite ((((put _ _ _ _ _).trans (setPin _ _ _)).trans ((put _ _ _ _ _).trans (put _ _ _ _ _))).trans (busTo _ _ _ _)) (refl s)

theorem measOf_congr {s u : State} (h : u.meas = s.meas) (b : Nat) : u.measOf b = s.measOf b := by rw [State.measOf, h, State.measOf]

/-- The running item of a PPMU request leaves its bank's instruments idle. -/
theorem measOf_unrun {s : State} {b : Nat} {r : MsrReq} {it : MsrItem} {at_ : Nat} (h : s.measOf b = runsOnly r it at_) (hr : ToSiteOnly r)
    (c : Nat) : (s.unrun b r it).measOf c = if c = b then MeasSt.idle else s.measOf c := by
  have hopen : KeepsCore s (((s.unhold b r.source it.unit).pmuOff b).put .acq b ACQ_STAT_USE 0) := by
    rw [hr.ppmu]
    exact ((KeepsCore.busTo s b 0 0).trans (.pmuOff _ _)).trans (.put _ _ _ _ _)
  simp only [State.unrun]
  generalize ((s.unhold b r.source it.unit).pmuOff b).put .acq b ACQ_STAT_USE 0 = u at hopen ⊢
  rw [measOf_congr (KeepsCore.put _ _ _ _ _).meas, measOf_setMeas, measOf_congr hopen.meas, measOf_congr hopen.meas, h]
  rfl

theorem cancelWhere_of_idle {s : State} {b : Nat} (h : s.measOf b = MeasSt.idle) (p : MsrReq → Bool) : s.cancelWhere b p = s := by
  simp only [State.cancelWhere, h, MeasSt.idle, List.filter_nil, List.foldl_nil]

theorem reqCheck_of_idle {s : State} {b : Nat} (h : s.measOf b = MeasSt.idle) (r : MsrReq) : s.reqCheck b r = s := by
  simp only [State.reqCheck, h, MeasSt.idle, List.find?_nil]

/-- Cancelling the one running item of a bank delivers it. -/
theorem cancelWhere_of_runsOnly {s : State} {b : Nat} {r : MsrReq} {it : MsrItem} {at_ i : Nat} (h : s.measOf b = runsOnly r it at_)
    (hr : ToSiteOnly r) (hi : it.site = some i) :
    s.cancelWhere b (fun _ => true) = (s.unrun b r it).deliver b r it 5 0 := by
  have hidle : ((s.unrun b r it).deliver b r it 5 0).measOf b = MeasSt.idle := by
    rw [measOf_congr (deliver_cancelled_keepsCore hr hi).meas, measOf_unrun h hr, if_pos rfl]
  have hstop : s.stopRun b = (s.unrun b r it).deliver b r it 5 0 := by
    rw [stopRun_eq (by rw [h]; rfl), reqCheck_of_idle hidle]
  simp only [State.cancelWhere, h, runsOnly, if_true, hstop, hidle, MeasSt.idle, List.filter_nil, List.foldl_nil]

/-! ### FAULT is entered while an item runs -/

/-- The instruments of bank 0 alone are not idle. -/
theorem measOf_of_single {s : State} {m : MeasSt} (h : s.meas = [(0, m)]) (b : Nat) : s.measOf b = if b = 0 then m else MeasSt.idle := by
  simp only [State.measOf, h, mapGet, eq_comm (a := (0 : Nat))]

/-- The word at `o` is that of a result without a value, and no bank measures. -/
structure Cancelled (o : Nat) (u : State) : Prop where
  word : u.rd o = 0xFFFFFFFF
  idle : ∀ b, u.measOf b = MeasSt.idle

section
variable {s : State} {r : MsrReq} {it : MsrItem} {at_ i : Nat} (h : s.meas = [(0, runsOnly r it at_)]) (hr : ToSiteOnly r)
  (hi : it.site = some i) (hint : r.siteWord i ≠ pageBase .acq 0 + 0x18) (hpba : r.siteWord i ∉ pbaOffs)
include h hr hi hint hpba

/-- The requests of every bank are cancelled (R408): the result of bank 0's running item stands in the register of its site. -/
theorem rd_cancelAll :
    ((List.range 24).foldl (fun s b => s.cancelWhere b fun _ => true) s).rd (r.siteWord i) = 0xFFFFFFFF := by
  refine (foldl_of_once (I := fun u => u.meas = [(0, runsOnly r it at_)]) (J := Cancelled (r.siteWord i)) List.nodup_range (a := 0)
    (by decide) ?_ ?_ ?_ h).word
  · intro u b _ hb hu
    rwa [cancelWhere_of_idle (by rw [measOf_of_single hu, if_neg hb])]
  · intro u hu
    have hrun : u.measOf 0 = runsOnly r it at_ := measOf_of_single hu 0
    rw [cancelWhere_of_runsOnly hrun hr hi]
    refine ⟨rd_deliver_cancelled hr hi hint hpba, fun b => ?_⟩
    rw [measOf_congr (deliver_cancelled_keepsCore hr hi).meas, measOf_unrun hrun hr, measOf_of_single hu]
    split <;> rfl
  · intro u b _ _ hu
    rwa [cancelWhere_of_idle (hu.idle b)]

variable (h1 : r.siteWord i % 0x1000 ≠ 0x44) (h2 : r.siteWord i % 0x1000 ≠ 0x804)
include h1 h2

/-- It stands there after the device has entered FAULT, which gives up calibration steps besides (R446). -/
theorem rd_enterFault (cause typ : Nat) :
    (s.enterFault cause typ).rd (r.siteWord i) = 0xFFFFFFFF := by
  have hsafe : ∀ (u : State) (o : Nat), u.safeAllPins.rd o = u.rd o := fun _ _ => rfl
  have hheld : ∀ u : State, ((List.range 24).foldl (fun s b => s.setBank b { s.bank b with held := true }) u).meas = u.meas :=
    fun u => foldl_of_step (P := fun v => v.meas = u.meas) (f := fun s b => s.setBank b { s.bank b with held := true }) (fun _ _ hv => hv) _ rfl
  rw [State.enterFault, hsafe, rd_calAbandonAll_other _ h1 h2]
  refine rd_cancelAll (at_ := at_) ?_ hr hi hint hpba
  rw [(KeepsCore.foldl .cutPsq _ _).meas, hheld, (KeepsCore.allSupFault _).meas]
  exact h

/-- It stands there after a command that recorded a Fatal entry (R61). -/
theorem rd_done_of_fatal {t : State} (hg : s.grave.any Prod.fst = true) (hdev : s.dev = .run) (ht : done s = .next t) :
    t.rd (r.siteWord i) = 0xFFFFFFFF := by
  obtain ⟨⟨fatal, typ⟩, hgrave, rfl⟩ := (Option.any_eq_true _ _).mp hg
  -- the states are named, so that no comparison of their fields unfolds how they came about
  obtain ⟨v, hv⟩ : ∃ v, ({ s with grave := none } : State).calAbandonAll = v := ⟨_, rfl⟩
  have hcore : KeepsCore { s with grave := none } v := hv ▸ .calAbandonAll _
  have hrd := rd_enterFault (hcore.meas.trans h) hr hi hint hpba h1 h2 1 typ
  obtain ⟨w, hw⟩ : ∃ w, v.enterFault 1 typ = w := ⟨_, rfl⟩
  rw [hw] at hrd
  rw [State.rd, done_regs ht, fall_of_fatal hgrave hv (hcore.dev.trans hdev) hw]
  exact hrd

end

/-! ### What an entry leaves until the command ends -/

/-- The banks, the instruments' requests and DEVICE_STATE stand; an entry may be noted. -/
structure KeepsUnits (s u : State) : Prop where
  banks : u.banks = s.banks
  meas : u.meas = s.meas
  dev : u.dev = s.dev

namespace KeepsUnits

theorem trans {s t u : State} (h1 : KeepsUnits s t) (h2 : KeepsUnits t u) : KeepsUnits s u :=
  ⟨h2.banks.trans h1.banks, h2.meas.trans h1.meas, h2.dev.trans h1.dev⟩

theorem ite {c : Prop} [Decidable c] {s t u : State} (h1 : KeepsUnits s t) (h2 : KeepsUnits s u) : KeepsUnits s (if c then t else u) := by
  split
  · exact h1
  · exact h2

theorem of_keepsCore {s u : State} (h : KeepsCore s u) : KeepsUnits s u := ⟨h.banks, h.meas, h.dev⟩

theorem noteGrave (s : State) (fatal : Bool) (typ : Nat) : KeepsUnits s (s.noteGrave fatal typ) := by
  unfold State.noteGrave
  split
  · exact ⟨rfl, rfl, rfl⟩
  · exact .ite ⟨rfl, rfl, rfl⟩ ⟨rfl, rfl, rfl⟩

theorem raise (s : State) (k : PageKind) (i cls base : Nat) (d : Word) : KeepsUnits s (s.raise k i cls base d) := by
  have hset : ∀ (c : Prop) [Decidable c] (u : State) (page : Nat) (m : Word), KeepsCore u (if c then u.intSet page m else u) :=
    fun c _ u page m => .ite (.of_reportsOn (.intSet page u m)) (.refl u)
  have hoffer : ∀ (x : EvrIn) (u : State), KeepsCore u (u.evrOffer x) := fun x u => .of_reportsOn (.evrOffer 0 u x)
  simp only [State.raise, State.recordFault, if_true, ← ite_not (recordedLevel _ _ _ < 2)]
  refine .ite (of_keepsCore ?_) ((of_keepsCore (.trans ?_ (.allSupFault _))).trans (noteGrave _ _ _))
  all_goals exact (((KeepsCore.of_reportsOn (.setFault _ s _)).trans (hset _ _ _ _)).trans (hset _ _ _ _)).trans (hoffer _ _)

end KeepsUnits

/-! ### The trip -/

/-- A trip before its action and its entry: TRIP, the counts and the causes (R385). -/
def State.countTrip (s : State) (b m : Nat) : State :=
  ((((s.setGmnBit b GMN_TRIP0 GMN_TRIP1 m true).bump .gmn b GMN_TRIPS_COUNT GMN_TRIPS_OVF).bump .gmnSum 0 GMN_TOTAL_COUNT GMN_TOTAL_OVF).int
    .gmn b 0).int .gmnSum 0 0

/-- A trip with ACTION CRITICAL in a bank that is not off raises its class at Critical, and wakes nothing (R386, R387). -/
theorem trip_of_critical {s : State} {b m : Nat} (hact : (s.countTrip b m).fldAt .gmn b GMN_CFG_ACTION m = 2)
    (hbank : ((s.countTrip b m).bank b).phase ≠ .off) :
    s.trip b m = (s.countTrip b m).raise .gmn b (guardClass m) 4 (BitVec.ofNat 32 m) := by
  have hphase : (((s.countTrip b m).raise .gmn b (guardClass m) 4 (BitVec.ofNat 32 m)).bank b).phase ≠ .off := by
    rwa [State.bank, (KeepsUnits.raise _ _ _ _ _ _).banks]
  simp only [State.countTrip] at hact hphase ⊢
  simp [State.trip, hact, hphase]

/-- An evaluation that finds a monitor outside its window for the first time trips it (R378, R385). -/
theorem gmnEval_of_new_trip {s : State} {b m : Nat} {v : Int} (hruns : s.gmnRuns b m = true) (hblank : s.gmnBlanked b m = false)
    (hout : s.gmnOutside b m v = true) (htrip : tripped (s.setGmnBit b GMN_LIVE0 GMN_LIVE1 m true) b m = false) :
    s.gmnEval b m v = (s.setGmnBit b GMN_LIVE0 GMN_LIVE1 m true).trip b m := by
  rw [State.gmnEval, if_neg (by simp [hruns, hblank]), if_pos hout]
  exact if_neg (by simp [htrip])

theorem guardTick_of_sampled {s : State} {o : GuardObs} (h : s.gmnMode o.bank o.m = 0) :
    guardTick [o] s = s.gmnEval o.bank o.m o.value := by
  simp [guardTick, placeObs, h]

/-- An evaluation that trips a monitor counts the trip in its bank (R385). -/
theorem counts_of_evaluates {o : GuardObs} {s t : State} (h : Evaluates o s t) (hruns : s.gmnRuns o.bank o.m = true)
    (hblank : s.gmnBlanked o.bank o.m = false) (hout : s.gmnOutside o.bank o.m o.value = true) (htrip : tripped s o.bank o.m = false) :
    Counts .gmn o.bank GMN_TRIPS_COUNT s t := by
  rw [Evaluates, if_neg (by simp [hruns, hblank])] at h
  obtain ⟨-, -, hnew, -⟩ := h
  exact (hnew hout htrip).1

/-! ### The trip at Fatal -/

/-- A released PPMU request of one item, whose result goes into register S0 of the item's site. -/
def strayRequest : MsrReq := ⟨0, 0, [0, 0, 0x10000000], some 0, 0, [], 1, true⟩

/-- PSQ 3 runs, and bank 0 measures an item of site 519. Pin monitor 0 of the bank has ACTION CRITICAL, and a trip of it at Critical stands
unacknowledged. -/
def strayResult : State :=
  let s := { State.reset with dev := .run, domains := BitVec.allOnes 40, banks := [(0, { BankSt.down with phase := .on })] }
  let s := s.setFault (pageBase .gmn 0) ⟨[⟨1, 4, 4, false, 0, 0, 0, 0⟩], 1, [(1, 4)], none⟩
  ((s.setMeas 0 (runsOnly strayRequest ⟨some 519, 0⟩ 0)).putAt .gmn 0 GMN_CFG_ACTION 0 2).put .psq 3 PSQ_STAT_RUNSTATE 2

/-- Pin monitor 0 of bank 0 sees a quantity above its window. -/
def highPin : GuardObs := ⟨0, 0, 100000⟩

theorem strayResult_serving : Serving strayResult :=
  serving_of (by decide +kernel) (by decide +kernel) (by decide +kernel) (by decide +kernel)

theorem strayRequest_toSiteOnly : ToSiteOnly strayRequest := ⟨by decide, by decide, by decide⟩

/-- Register S0 of site 519 would lie at GMN_TRIPS of bank 0. -/
theorem siteWord_strayRequest : strayRequest.siteWord 519 = fldOff .gmn 0 GMN_TRIPS_COUNT 0 := by decide

/-- The state in which the trip of pin monitor 0 is raised. -/
def strayTrip : State := (strayResult.setGmnBit 0 GMN_LIVE0 GMN_LIVE1 0 true).countTrip 0 0

theorem guardTick_strayResult : guardTick [highPin] strayResult = strayTrip.raise .gmn 0 1 4 0 := by
  rw [guardTick_of_sampled (by decide +kernel),
    gmnEval_of_new_trip (by decide +kernel) (by decide +kernel) (by decide +kernel) (by decide +kernel)]
  exact trip_of_critical (by decide +kernel) (by decide +kernel)

/-- The result of the item that the trip cancels stands in GMN_TRIPS. -/
theorem rd_done_guardTick_strayResult {t : State} (h : done (guardTick [highPin] strayResult) = .next t) :
    t.rd (fldOff .gmn 0 GMN_TRIPS_COUNT 0) = 0xFFFFFFFF := by
  have hlevel : recordedLevel (strayTrip.fault (pageBase .gmn 0)) 1 4 = 5 := by decide +kernel
  have hunits := KeepsUnits.raise strayTrip .gmn 0 1 4 0
  have hdev : strayTrip.dev = .run := by decide +kernel
  have hmeas : strayTrip.meas = [(0, runsOnly strayRequest ⟨some 519, 0⟩ 0)] := by decide +kernel
  rw [guardTick_strayResult] at h
  rw [← siteWord_strayRequest]
  exact rd_done_of_fatal (hunits.meas.trans hmeas) strayRequest_toSiteOnly rfl (by decide) (by decide) (by decide) (by decide)
    (grave_raise 0 hlevel) (hunits.dev.trans hdev) h

/-- Refutes O49: the first trip of a monitor is said to count one in GMN_TRIPS, but a trip recorded at Fatal (R60) cancels the running
measurement, and one whose item names site 519 has its result written over the count. -/
theorem not_guardMonitors : ¬ Obligations.GuardMonitors := by
  unfold Obligations.GuardMonitors
  intro h
  obtain ⟨-, -, -, htick, -⟩ := h strayResult strayResult_serving
  obtain ⟨t, ht, -, heval⟩ := htick [highPin]
  have hev := heval rfl highPin (List.mem_singleton.mpr rfl)
  rw [if_pos (Or.inl (by decide +kernel))] at hev
  have hcount : t.fld .gmn 0 GMN_TRIPS_COUNT = 1 :=
    (counts_of_evaluates hev (by decide +kernel) (by decide +kernel) (by decide +kernel) (by decide +kernel)).trans (by decide +kernel)
  have hfull : t.fld .gmn 0 GMN_TRIPS_COUNT = 2 ^ 31 - 1 := (congrArg (bitsOf · 30 0) (rd_done_guardTick_strayResult ht)).trans (by decide)
  exact absurd (hcount.symm.trans hfull) (by decide)

end Sys2Proof.Machine

namespace Sys2Proof.Machine
open Sys2Proof Reg

/-! ## A failing bin check that is recorded at Fatal (O48) -/

theorem KeepsCore.freeTmu (s : State) (t : Nat) : KeepsCore s (s.freeTmu t) := by
  constructor <;> rw [freeTmu_eq_with]

namespace Dark

/-- An entry that the page records at Fatal is noted for the end of the command. -/
theorem raise_fatal {hit : Bool} {s : State} (h : Dark hit s) {k : PageKind} {i cls base : Nat} (d : Word)
    (hl : recordedLevel (s.fault (pageBase k i)) cls base = 5) : Dark true (s.raise k i cls base d) where
  fatal _ := grave_raise d hl
  notOn := (h.raise k i cls base d).notOn
  meas := (h.raise k i cls base d).meas

/-- The end of a calibration notes nothing and leaves what is noted. -/
theorem calEnd {hit : Bool} {s : State} (h : Dark hit s) (t r : Nat) : Dark hit (s.calEnd t r) :=
  ((h.keeps (.put _ _ _ _ _)).keeps (.freeTmu _ t)).int _ _ _

/-- A command in which a Fatal entry was recorded leaves the device in OFF, BOOT or FAULT (R61, R78). -/
theorem done_dev {u t : State} (h : Dark true u) (ht : done u = .next t) : t.dev = .off ∨ t.dev = .boot ∨ t.dev = .fault := by
  have hdev : t.dev = u.fall.dev := (congrArg State.dev (Host.Outcome.next.inj ht)).symm.trans (settle_dev_of_ne h.fall_dev)
  rw [hdev]
  exact h.fall_dev

end Dark

/-- A calibration with a run that fails its bin check raises class 2 and ends with BIN_BAD (R431). -/
theorem tmuCalDone_of_binBad {s : State} {u : Nat} {runs : List (List Nat)} (hbusy : s.tmuBusy u = false) (hbad : runs.any binBad = true) :
    tmuCalDone u runs false s
      = ((s.put .tmu u TMU_CAL_STAT_HITS ((runs.getLastD []).foldl (· + ·) 0)).tmuRaise u 2 2).calEnd u 3 := by
  simp only [tmuCalDone, hbusy, hbad, Bool.false_eq_true, if_false, if_true]

/-- A failing bin check that the page records at Fatal leaves no device at work. -/
theorem dev_of_fatal_binBad {s t : State} {u : Fin 16} {runs : List (List Nat)} (hdark : Dark false s) (hbusy : s.tmuBusy u = false)
    (hbad : runs.any binBad = true) (hl : recordedLevel (s.fault (pageBase .tmu u)) 2 2 = 5)
    (ht : exec (.tmuCalDone u runs false) s = .next t) : t.dev = .off ∨ t.dev = .boot ∨ t.dev = .fault := by
  have hend : exec (.tmuCalDone u runs false) s = done (tmuCalDone u runs false s) := rfl
  rw [hend, tmuCalDone_of_binBad hbusy hbad] at ht
  exact (((hdark.keeps (.put _ _ _ _ _)).raise_fatal _ hl).calEnd _ _).done_dev ht

/-! ### The fourth bin check that fails -/

/-- An entry of class 2 of TMU 0, at base level Warning. -/
def binEntry (level : Nat) (seq : BitVec 16) : FaultEntry := ⟨2, level, 2, false, seq, 0, 0, 0⟩

/-- TMU 0 is calibrated at the host's request, in a device at work. Its three calibrations before this one failed their bin checks and stand
unacknowledged, the third recorded at Critical (R60). -/
def fourthCal : State :=
  (({ State.reset with dev := .ready, domains := BitVec.allOnes 40 }).setFault (pageBase .tmu 0)
    ⟨[binEntry 4 2, binEntry 3 1, binEntry 2 0], 3, [(2, 4)], none⟩).holdTmu 0 2

/-- A run whose edges all fell in one bin. -/
def stuckRun : List Nat := 65536 :: List.replicate 511 0

theorem fourthCal_serving : Serving fourthCal :=
  serving_of (by decide +kernel) (by decide +kernel) (by decide +kernel) (by decide +kernel)

theorem fourthCal_dev : fourthCal.dev = .ready := by decide +kernel

theorem fourthCal_dark : Dark false fourthCal where
  fatal := nofun
  notOn b := by
    rw [bank_of_no_banks (by decide +kernel)]
    decide
  meas := by decide +kernel

theorem fourthCal_level : recordedLevel (fourthCal.fault (pageBase .tmu 0)) 2 2 = 5 := by decide +kernel

/-- An empty bin fails the check (R431). -/
theorem stuckRun_binBad : [stuckRun, stuckRun].any binBad = true := by decide +kernel

/-- Refutes O48: the end of a calibration is said to change one TMU and what it reports on its page, but the fourth bin check that fails with
no acknowledgement in between is recorded at Fatal (R60), so that the device enters FAULT (R61). -/
theorem not_timeMeasurement : ¬ Obligations.TimeMeasurement := by
  unfold Obligations.TimeMeasurement
  intro h
  obtain ⟨-, -, -, -, -, -, -, hcal, -⟩ := h fourthCal fourthCal_serving
  have hbusy : fourthCal.tmuBusy (0 : Fin 16).val = false := by decide +kernel
  obtain ⟨t, ht, -, -, -, -, -, -, -, hframe⟩ := hcal 0 [stuckRun, stuckRun] false hbusy
  have hready : t.dev = .ready := (congrArg State.dev hframe).trans fourthCal_dev
  have hdev := dev_of_fatal_binBad fourthCal_dark hbusy stuckRun_binBad fourthCal_level ht
  rcases hdev with hdev | hdev | hdev <;> exact absurd (hready.symm.trans hdev) (by decide)

end Sys2Proof.Machine

namespace Sys2Proof.Machine
open Sys2Proof Reg

/-! ## The SPDM responder and its sessions (O52) -/

/-! ### Answers -/

/-- An answer changes the Security Engine's state alone, and the count of free values where its code is free. -/
abbrev Answers (s u : State) : Prop := u = { s with sec := u.sec, free := u.free }

/-- The state after a request whose answer is ERROR. -/
abbrev saysError (s : State) (code : Nat) : State := { s with sec := { s.sec with reply := .error code } }

/-- A request that is answered and does nothing else ends with what it answered. -/
theorem done_answers {s u : State} (hs : Steady s) (h : Answers s u) : done u = .next u :=
  done_quiet hs (by rw [h]) (by rw [h]) (by rw [h]) fun n _ => by rw [h]; rfl

theorem done_saysError {s : State} (hs : Steady s) (code : Nat) : done (s.sayError code) = .next (saysError s code) := done_answers hs rfl

/-- While the host is served, and no reset of the link holds, a request is served (R467). -/
theorem spdm_of_serving {s : State} (hs : Serving s) (hp : s.hif.perst = false) (f : State → State) : s.spdm f = f s := by
  rw [State.spdm, hs.2, hp]
  rfl

section
variable {s : State} (hs : Serving s) (hp : s.hif.perst = false)
include hs hp

/-- A request in its order, outside a session, does what it does. -/
theorem outside_of_order {ses : Option Nat} {conn : Nat} (f : State → State) (h : ses = none) (hc : s.sec.conn = conn) :
    s.outside ses conn f = f s := by
  simp [State.outside, spdm_of_serving hs hp, h, hc]

/-- A request out of its order, or inside a session, is answered UnexpectedRequest (R470). -/
theorem outside_of_unexpected {ses : Option Nat} {conn : Nat} (f : State → State) (h : ses.isSome = true ∨ s.sec.conn ≠ conn) :
    s.outside ses conn f = saysError s 4 := by
  have hc : (ses.isSome || s.sec.conn != conn) = true := by simpa using h
  rw [State.outside, spdm_of_serving hs hp, if_pos hc]
  rfl

/-- What holds of an UnexpectedRequest and of the request in its order holds of the request. -/
theorem outside_cases {P : State → Prop} {ses : Option Nat} {conn : Nat} {f : State → State} (herr : P (saysError s 4)) (h : P (f s)) :
    P (s.outside ses conn f) := by
  by_cases hc : ses.isSome = true ∨ s.sec.conn ≠ conn
  · rwa [outside_of_unexpected hs hp f hc]
  · rw [not_or, Option.not_isSome_iff_eq_none, not_not] at hc
    rwa [outside_of_order hs hp f hc.1 hc.2]

theorem exec_getVersion (ses : Option Nat) :
    ∃ t, exec (.getVersion ses) s = .next t
      ∧ (ses = none → t = { s with sec := { s.sec with conn := 1, reply := .version [0x1200] } })
      ∧ (ses.isSome = true → t = saysError s 4) :=
  ⟨_, done_answers hs.1 (outside_cases hs hp (P := Answers s) rfl rfl), fun h => outside_of_order hs hp _ h rfl,
    fun h => outside_of_unexpected hs hp _ (.inl h)⟩

theorem exec_getCapabilities (ses : Option Nat) :
    ∃ t, exec (.getCapabilities ses) s = .next t
      ∧ (ses = none → s.sec.conn = 1 → t = { s with sec := { s.sec with
          conn := 2
          reply := .capabilities ["CERT_CAP", "CHAL_CAP", "ENCRYPT_CAP", "MAC_CAP", "MUT_AUTH_CAP", "KEY_EX_CAP"] 2 15 4096 4096 } })
      ∧ (ses.isSome = true ∨ s.sec.conn ≠ 1 → t = saysError s 4) :=
  ⟨_, done_answers hs.1 (outside_cases hs hp (P := Answers s) rfl rfl), outside_of_order hs hp _, outside_of_unexpected hs hp _⟩

theorem exec_negotiateAlgorithms (ses : Option Nat) (a : AlgSet) :
    ∃ t, exec (.negotiateAlgorithms ses a) s = .next t
      ∧ (ses = none → s.sec.conn = 2 → t = { s with sec := { s.sec with conn := 3, algs := a, reply := .algorithms a } })
      ∧ (ses.isSome = true ∨ s.sec.conn ≠ 2 → t = saysError s 4) :=
  ⟨_, done_answers hs.1 (outside_cases hs hp (P := Answers s) rfl rfl), outside_of_order hs hp _, outside_of_unexpected hs hp _⟩

end

/-! ### Digests, certificate, challenge, measurements -/

/-- Nothing changes but the answer, and the count of free values where its code is free. -/
abbrev AnswersOnly (s u : State) : Prop := u = { s with sec := { s.sec with reply := u.sec.reply }, free := u.free }

/-- Such a request ends with its answer. -/
theorem done_answersOnly {s u : State} (hs : Steady s) (h : AnswersOnly s u) : done u = .next u := done_answers hs (by rw [h])

/-- What answers GET_DIGESTS in its order (R470). -/
def State.digestsAnswer (s : State) : State :=
  if s.sec.algs.hash then s.say (.digests 1 (Config.sha384 Config.certChain)) else s.sayError 4

/-- What answers GET_CERTIFICATE in its order (R470). -/
def State.certificateAnswer (slot off len : Nat) (s : State) : State :=
  if !s.sec.algs.hash then s.sayError 4
  else if slot ≠ 0 ∨ Config.certChain.length ≤ off then s.sayOpen
  else s.say (.certificate ((Config.certChain.drop off).take len)
    (Config.certChain.length - off - ((Config.certChain.drop off).take len).length))

/-- What answers CHALLENGE in its order (R470). -/
def State.challengeAnswer (slot : Nat) (transcript : List Byte) (s : State) : State :=
  if !(s.sec.algs.hash && s.sec.algs.asym) then s.sayError 4
  else if slot ≠ 0 then s.sayOpen
  else s.say (.challengeAuth (Config.signIdentity transcript))

theorem exec_getDigests_eq (ses : Option Nat) (s : State) :
    exec (.getDigests ses) s = done (s.outside ses 3 State.digestsAnswer) := rfl

theorem exec_getCertificate_eq (ses : Option Nat) (slot off len : Nat) (s : State) :
    exec (.getCertificate ses slot off len) s = done (s.outside ses 3 (State.certificateAnswer slot off len)) := rfl

theorem exec_challenge_eq (ses : Option Nat) (slot : Nat) (transcript : List Byte) (s : State) :
    exec (.challenge ses slot transcript) s = done (s.outside ses 3 (State.challengeAnswer slot transcript)) := rfl

theorem digestsAnswer_answers (s : State) : AnswersOnly s s.digestsAnswer := by
  unfold State.digestsAnswer
  split <;> rfl

theorem certificateAnswer_answers (slot off len : Nat) (s : State) : AnswersOnly s (s.certificateAnswer slot off len) := by
  unfold State.certificateAnswer
  split
  · rfl
  · split <;> rfl

theorem challengeAnswer_answers (slot : Nat) (transcript : List Byte) (s : State) : AnswersOnly s (s.challengeAnswer slot transcript) := by
  unfold State.challengeAnswer
  split
  · rfl
  · split <;> rfl

/-- A request for measurements that the selected algorithms cannot answer (R471). -/
abbrev MeasurementsBarred (s : State) (sign : Bool) : Prop :=
  s.sec.conn ≠ 3 ∨ s.sec.algs.spec = false ∨ s.sec.algs.hash = false ∨ (sign = true ∧ s.sec.algs.asym = false)

/-- What answers GET_MEASUREMENTS (R471). -/
def State.measurementsAnswer (ses : Option Nat) (index : BitVec 8) (sign : Bool) (transcript : List Byte) (s : State) : State :=
  if s.sec.conn != 3 || !(s.sec.algs.spec && s.sec.algs.hash) || (sign && !s.sec.algs.asym) then s.sayError 4
  else if ses.any fun i => !s.sessionOpen i then s.sayError 4
  else
    match s.blocksAt index.toNat with
    | some bs => s.say (.measurements 20 bs (if sign then some (Config.signIdentity transcript) else none))
    | none => s.sayOpen

theorem exec_getMeasurements_eq (ses : Option Nat) (index : BitVec 8) (sign : Bool) (transcript : List Byte) (s : State) :
    exec (.getMeasurements ses index sign transcript) s = done (s.spdm (State.measurementsAnswer ses index sign transcript)) := rfl

section
variable (ses : Option Nat) (index : BitVec 8) (sign : Bool) (transcript : List Byte) (s : State)

theorem measurementsAnswer_answers : AnswersOnly s (s.measurementsAnswer ses index sign transcript) := by
  unfold State.measurementsAnswer
  split
  · rfl
  · split
    · rfl
    · split <;> rfl

variable {ses index sign s}

theorem measurementsAnswer_of_barred (h : MeasurementsBarred s sign) : s.measurementsAnswer ses index sign transcript = saysError s 4 := by
  refine if_pos ?_
  simp only [Bool.or_eq_true, bne_iff_ne, Bool.not_eq_true', Bool.and_eq_false_iff, Bool.and_eq_true]
  tauto

/-- The blocks that the index names, outside a session or inside an open one. -/
theorem measurementsAnswer_of_blocks (hb : ¬ MeasurementsBarred s sign) (hses : ∀ i ∈ ses, s.sessionOpen i = true)
    {bs : List (Nat × Nat × List Byte)} (hbs : s.blocksAt index.toNat = some bs) :
    s.measurementsAnswer ses index sign transcript
      = s.say (.measurements 20 bs (if sign then some (Config.signIdentity transcript) else none)) := by
  have hbar : ¬ (s.sec.conn != 3 || !(s.sec.algs.spec && s.sec.algs.hash) || (sign && !s.sec.algs.asym)) = true := by
    simp only [Bool.or_eq_true, bne_iff_ne, Bool.not_eq_true', Bool.and_eq_false_iff, Bool.and_eq_true]
    tauto
  have hopen : ¬ (ses.any fun i => !s.sessionOpen i) = true := by
    rw [Option.any_eq_true]
    rintro ⟨i, hi, hno⟩
    simp [hses i hi] at hno
  rw [State.measurementsAnswer, if_neg hbar, if_neg hopen, hbs]

end

section
variable {s : State} (hs : Serving s) (hp : s.hif.perst = false)
include hs hp

/-- What becomes of a request that only answers: its own answer in its order, and UnexpectedRequest otherwise. -/
theorem done_outside (ses : Option Nat) (conn : Nat) {f : State → State} (h : AnswersOnly s (f s)) :
    ∃ t, done (s.outside ses conn f) = .next t
      ∧ (ses = none → s.sec.conn = conn → t = f s)
      ∧ (ses.isSome = true ∨ s.sec.conn ≠ conn → t = saysError s 4)
      ∧ AnswersOnly s t :=
  have hans := outside_cases hs hp (P := AnswersOnly s) rfl h
  ⟨_, done_answersOnly hs.1 hans, outside_of_order hs hp f, outside_of_unexpected hs hp f, hans⟩

theorem exec_getDigests (ses : Option Nat) :
    ∃ t, exec (.getDigests ses) s = .next t
      ∧ (ses = none → s.sec.conn = 3 → s.sec.algs.hash = true →
          t = { s with sec := { s.sec with reply := .digests 1 (Config.sha384 Config.certChain) } })
      ∧ (ses = none → s.sec.conn = 3 → s.sec.algs.hash = false → t = saysError s 4)
      ∧ (ses.isSome = true ∨ s.sec.conn ≠ 3 → t = saysError s 4) := by
  rw [exec_getDigests_eq]
  obtain ⟨t, ht, hin, hout, -⟩ := done_outside hs hp ses 3 (digestsAnswer_answers s)
  exact ⟨t, ht, fun h hc hh => (hin h hc).trans (if_pos hh), fun h hc hh => (hin h hc).trans (if_neg (by simp [hh])), hout⟩

theorem exec_getCertificate (ses : Option Nat) (slot off len : Nat) :
    ∃ t, exec (.getCertificate ses slot off len) s = .next t
      ∧ (ses = none → s.sec.conn = 3 → s.sec.algs.hash = true → slot = 0 → off < Config.certChain.length →
          t.sec.reply = .certificate ((Config.certChain.drop off).take len)
            (Config.certChain.length - off - ((Config.certChain.drop off).take len).length))
      ∧ (ses.isSome = true ∨ s.sec.conn ≠ 3 → t = saysError s 4)
      ∧ AnswersOnly s t := by
  rw [exec_getCertificate_eq]
  obtain ⟨t, ht, hin, hout, hans⟩ := done_outside hs hp ses 3 (certificateAnswer_answers slot off len s)
  refine ⟨t, ht, fun h hc hh hslot hoff => ?_, hout, hans⟩
  rw [hin h hc, State.certificateAnswer, if_neg (by simp [hh]), if_neg (by omega)]
  rfl

theorem exec_challenge (ses : Option Nat) (slot : Nat) (tr : List Byte) :
    ∃ t, exec (.challenge ses slot tr) s = .next t
      ∧ (ses = none → s.sec.conn = 3 → s.sec.algs.hash = true → s.sec.algs.asym = true → slot = 0 →
          t = { s with sec := { s.sec with reply := .challengeAuth (Config.signIdentity tr) } })
      ∧ (ses.isSome = true ∨ s.sec.conn ≠ 3 → t = saysError s 4)
      ∧ AnswersOnly s t := by
  rw [exec_challenge_eq]
  obtain ⟨t, ht, hin, hout, hans⟩ := done_outside hs hp ses 3 (challengeAnswer_answers slot tr s)
  refine ⟨t, ht, fun h hc hh ha hslot => ?_, hout, hans⟩
  rw [hin h hc, State.challengeAnswer, if_neg (by simp [hh, ha]), if_neg (by omega)]
  rfl

theorem exec_getMeasurements (ses : Option Nat) (ix : BitVec 8) (sign : Bool) (tr : List Byte) :
    ∃ t, exec (.getMeasurements ses ix sign tr) s = .next t
      ∧ (s.sec.conn = 3 → s.sec.algs.spec = true → s.sec.algs.hash = true → (sign = true → s.sec.algs.asym = true) →
          (∀ i ∈ ses, s.sessionOpen i = true) → ∀ bs ∈ s.blocksAt ix.toNat,
            t = { s with sec := { s.sec with
              reply := .measurements 20 bs (if sign then some (Config.signIdentity tr) else none) } })
      ∧ (MeasurementsBarred s sign → t = saysError s 4)
      ∧ AnswersOnly s t := by
  have hans := measurementsAnswer_answers ses ix sign tr s
  rw [exec_getMeasurements_eq, spdm_of_serving hs hp]
  refine ⟨_, done_answersOnly hs.1 hans, fun hc hspec hhash hsign hses bs hbs => ?_, measurementsAnswer_of_barred tr, hans⟩
  exact measurementsAnswer_of_blocks tr (by simp [MeasurementsBarred, hc, hspec, hhash]; tauto) hses hbs

theorem exec_unsupportedRequest (c : BitVec 8) (ses : Option Nat) :
    ∃ t, exec (.unsupportedRequest c ses) s = .next t ∧ t = saysError s 7 := by
  refine ⟨_, ?_, rfl⟩
  rw [← done_saysError hs.1 7, ← spdm_of_serving hs hp fun s => s.sayError 7]
  rfl

end

/-! ### What SEC_STAT shows of the sessions -/

/-- The role depends on the Security Engine's state alone (R479). -/
theorem roleOf_congr {s t : State} (h : t.sec = s.sec) : roleOf t = roleOf s := by
  have hkey : t.ownerKey = s.ownerKey := by
    funext slot
    rw [State.ownerKey, h, ← State.ownerKey]
  rw [roleOf, h, hkey, ← roleOf]

theorem putSessions_sec (s : State) : s.putSessions.sec = s.sec := rfl

/-- The role follows what SEC_STAT shows (R479). -/
theorem putSessions_role (s : State) : s.putSessions.role = roleOf s.putSessions := rfl

theorem rd_putSessions_other (s : State) {o : Nat} (h : o ≠ 0x20014) : s.putSessions.rd o = s.rd o :=
  (rd_put_other _ _ h).trans ((rd_put_other _ _ h).trans (rd_put_other s _ h))

theorem fld_reRole (s : State) (k : PageKind) (i : Nat) (f : Fld) : s.reRole.fld k i f = s.fld k i f := rfl

/-- SEC_STAT counts the sessions. -/
theorem fld_putSessions (s : State) : s.putSessions.fld .secCtl 0 SEC_STAT_SESSIONS = s.sec.sessions.length % 16 := by
  have hput : (s.put .secCtl 0 SEC_STAT_SESSIONS s.sec.sessions.length).fld .secCtl 0 SEC_STAT_SESSIONS
      = s.sec.sessions.length % 16 := fld_put_same s _ _ _ _ (by decide) (by decide)
  rw [← hput]
  simp only [State.putSessions, fld_reRole]
  rw [fld_put_bits _ _ (by decide) (by decide) (by decide) (by decide), fld_put_bits _ _ (by decide) (by decide) (by decide) (by decide)]

/-- What a request that opens or ends sessions changes: the Security Engine, the role, SEC_STAT, and what its page reports. -/
structure OnSessions (s u : State) : Prop where
  frame : u = { s with
    regs := u.regs, hif := u.hif, faults := u.faults, evr := u.evr, free := u.free, sec := u.sec, role := u.role, sig := u.sig }
  reported : Reported [0x20000] [0x20014, 0x20048] s u

namespace OnSessions

theorem of_reportsOn {s u : State} (h : ReportsOn 0x20000 s u) : OnSessions s u where
  frame := by
    have hsec : u.sec = s.sec := by rw [h.frame]
    have hrole : u.role = s.role := by rw [h.frame]
    rw [hsec, hrole]
    exact h.frame
  reported := (Accesses.of_reportsOn h).reported

theorem trans {s t u : State} (h1 : OnSessions s t) (h2 : OnSessions t u) : OnSessions s u where
  frame := by rw [h2.frame, h1.frame]
  reported := by
    obtain ⟨hr1, hf1, hh1⟩ := h1.reported
    obtain ⟨hr2, hf2, hh2⟩ := h2.reported
    exact ⟨fun o ho => (hr2 o ho).trans (hr1 o ho), fun q hq => (hf2 q hq).trans (hf1 q hq), by rw [hh2, hh1]⟩

theorem withSec (s : State) (x : SecSt) : OnSessions s { s with sec := x } := ⟨rfl, fun _ _ => rfl, fun _ _ => rfl, rfl⟩

theorem say (s : State) (r : SpdmReply) : OnSessions s (s.say r) := withSec s _

theorem putSessions (s : State) : OnSessions s s.putSessions where
  frame := rfl
  reported := ⟨fun o ho => rd_putSessions_other s fun h => ho (by simp [h]), fun _ _ => rfl, rfl⟩

theorem int (s : State) (b : Nat) : OnSessions s (s.int .secCtl 0 b) := of_reportsOn (.int s .secCtl 0 b)

theorem ite {c : Prop} [Decidable c] {s t u : State} (h1 : OnSessions s t) (h2 : OnSessions s u) : OnSessions s (if c then t else u) := by
  split
  · exact h1
  · exact h2

theorem dropSession (s : State) (x : SpdmSession) : OnSessions s (s.dropSession x) :=
  .ite ((withSec s _).trans ((putSessions _).trans (int _ 1))) ((withSec s _).trans (putSessions _))

theorem openSession (s : State) (x : SpdmSession) : OnSessions s (s.openSession x) :=
  .trans (.ite ((withSec s _).trans ((putSessions _).trans (int _ 1))) (withSec s _)) (say _ _)

/-- The words of the sequencers are none of those that such a request changes. -/
theorem psqStat {s u : State} (h : OnSessions s u) (n : Nat) : u.rd (baseOf .psq n + 0x14) = s.rd (baseOf .psq n + 0x14) := by
  refine h.reported.1 _ ?_
  have hp := psqStat_not_mem_pbaOffs n
  have he := psqStat_not_mem_evrOffs n
  simp only [baseOf] at hp he ⊢
  simp only [List.map_cons, List.map_nil, List.cons_append, List.nil_append, List.mem_cons, List.mem_append, not_or]
  exact ⟨by omega, by omega, by omega, hp, he⟩

/-- Such a request ends with what it did. -/
theorem done {s u : State} (hs : Steady s) (h : OnSessions s u) :
    Machine.done u = .next { u with sig := [] } ∧ SecSessions s { u with sig := [] } := by
  refine ⟨done_of_steady hs (by rw [h.frame]; exact hs.1) (by rw [h.frame]) fun n _ => h.psqStat n, h.reported, ?_⟩
  have hsig : s.sig = [] := hs.2.1
  rw [← hsig]
  conv_lhs => rw [h.frame]

end OnSessions

theorem secSessions_saysError (s : State) (code : Nat) : SecSessions s (saysError s code) := ⟨(OnSessions.say s (.error code)).reported, rfl⟩

/-- An interrupt cause changes nothing of the Security Engine and the role. -/
theorem int_sec (s : State) (k : PageKind) (i b : Nat) : (s.int k i b).sec = s.sec := by rw [int_eq_with]
theorem int_role (s : State) (k : PageKind) (i b : Nat) : (s.int k i b).role = s.role := by rw [int_eq_with]

/-! ### KEY_EXCHANGE -/

/-- A new session's number is none that a held session has. -/
theorem newSession_fresh {s : State} (h : s.sec.sessions.length < 4) : ∀ x ∈ s.sec.sessions, x.id ≠ s.newSession := by
  cases hf : (List.range 4).find? fun i => !s.sec.sessions.any fun x => x.id == i with
  | none =>
    have hall : List.range 4 ⊆ s.sec.sessions.map SpdmSession.id := fun i hi => by
      simpa using List.find?_eq_none.mp hf i hi
    have hlen := (List.nodup_range.subperm hall).length_le
    rw [List.length_range, List.length_map] at hlen
    omega
  | some i =>
    have hnew : s.newSession = i := by rw [State.newSession, hf, Option.getD_some]
    simpa [hnew] using List.find?_some hf

/-- The algorithms that a key exchange needs are selected (R469, R472). -/
def exchangeable (a : AlgSet) (owner : Option (BitVec 8)) : Bool :=
  a.dhe && a.aead && a.schedule && a.asym && a.hash && (owner.isNone || a.reqAsym)

/-- What answers KEY_EXCHANGE in its order (R472). -/
def State.exchangeAnswer (owner : Option (BitVec 8)) (transcript : List Byte) (s : State) : State :=
  if !exchangeable s.sec.algs owner then s.sayError 4
  else if 4 ≤ s.sec.sessions.length then s.sayError 0xA
  else
    match owner with
    | none => s.beginSession none transcript
    | some slot =>
      if 7 < slot.toNat ∨ (s.ownerKey slot.toNat).isNone then s.sayError 1
      else if s.ownerSession.isSome then s.sayError 3
      else s.beginSession (some slot.toNat) transcript

theorem exec_keyExchange_eq (ses : Option Nat) (owner : Option (BitVec 8)) (transcript : List Byte) (s : State) :
    exec (.keyExchange ses owner transcript) s = done (s.outside ses 3 (State.exchangeAnswer owner transcript)) := rfl

/-- What KEY_EXCHANGE may change: the sessions and the answer, what SEC_STAT shows, and the role. -/
structure Exchanges (s u : State) : Prop where
  frame : u = { s with regs := u.regs, sec := { s.sec with sessions := u.sec.sessions, reply := u.sec.reply }, role := u.role }
  rd : RegsBut [0x20014, 0x20048] s u

namespace Exchanges

theorem saysError (s : State) (code : Nat) : Exchanges s (saysError s code) := ⟨rfl, fun _ _ => rfl⟩

theorem beginSession (s : State) (owner : Option Nat) (transcript : List Byte) : Exchanges s (s.beginSession owner transcript) where
  frame := rfl
  rd _ ho := rd_putSessions_other _ (List.ne_of_not_mem_cons ho)

theorem exchangeAnswer (s : State) (owner : Option (BitVec 8)) (transcript : List Byte) :
    Exchanges s (s.exchangeAnswer owner transcript) := by
  unfold State.exchangeAnswer
  split
  · exact saysError s 4
  · split
    · exact saysError s 0xA
    · split
      · exact beginSession s _ _
      · split
        · exact saysError s 1
        · split
          · exact saysError s 3
          · exact beginSession s _ _

/-- Such a request ends with what it did. -/
theorem done {s u : State} (hs : Steady s) (h : Exchanges s u) : Machine.done u = .next u :=
  done_quiet hs (by rw [h.frame]) (by rw [h.frame]) (by rw [h.frame]) fun n hn => h.rd _ (by
    simp only [baseOf, List.mem_cons, List.not_mem_nil, or_false]
    omega)

end Exchanges

/-- An enrolled slot. -/
abbrev enrolled (s : State) (slot : BitVec 8) : Bool := decide (slot.toNat < 8) && (s.ownerKey slot.toNat).isSome

theorem not_unenrolled_of_enrolled {s : State} {slot : BitVec 8} (h : enrolled s slot = true) :
    ¬ (7 < slot.toNat ∨ (s.ownerKey slot.toNat).isNone = true) := by
  obtain ⟨hlt, hkey⟩ := Bool.and_eq_true_iff.mp h
  rw [decide_eq_true_eq] at hlt
  rw [Option.isSome_iff_ne_none] at hkey
  rintro (h7 | hnone)
  · omega
  · exact hkey (Option.isNone_iff_eq_none.mp hnone)

section
variable {s : State} {owner : Option (BitVec 8)} (transcript : List Byte) (ha : exchangeable s.sec.algs owner = true)
include ha

theorem exchangeAnswer_of_full (hlen : 4 ≤ s.sec.sessions.length) : s.exchangeAnswer owner transcript = saysError s 0xA := by
  unfold State.exchangeAnswer
  rw [if_neg (by simp [ha]), if_pos hlen]
  rfl

variable (hlen : s.sec.sessions.length < 4)
include hlen

/-- A request of a slot that is not enrolled. -/
theorem exchangeAnswer_of_unenrolled (h : owner.any (fun x => decide (7 < x.toNat) || (s.ownerKey x.toNat).isNone) = true) :
    s.exchangeAnswer owner transcript = saysError s 1 := by
  obtain ⟨slot, rfl, hslot⟩ := (Option.any_eq_true _ _).mp h
  rw [State.exchangeAnswer, if_neg (by simp [ha]), if_neg (by omega)]
  exact if_pos (by simpa using hslot)

/-- A request of an enrolled slot while another Owner's session exists. -/
theorem exchangeAnswer_of_owned (h : owner.any (enrolled s) = true) (hown : s.ownerSession.isSome = true) :
    s.exchangeAnswer owner transcript = saysError s 3 := by
  obtain ⟨slot, rfl, hslot⟩ := (Option.any_eq_true _ _).mp h
  rw [State.exchangeAnswer, if_neg (by simp [ha]), if_neg (by omega)]
  exact (if_neg (not_unenrolled_of_enrolled hslot)).trans (if_pos hown)

/-- A request of no slot, or of an enrolled one while no Owner's session exists. -/
theorem exchangeAnswer_of_granted (h : owner = none ∨ owner.any (enrolled s) = true ∧ s.ownerSession = none) :
    s.exchangeAnswer owner transcript = s.beginSession (owner.map (·.toNat)) transcript := by
  unfold State.exchangeAnswer
  rw [if_neg (by simp [ha]), if_neg (by omega)]
  rcases h with rfl | ⟨h, hown⟩
  · rfl
  · obtain ⟨slot, rfl, hslot⟩ := (Option.any_eq_true _ _).mp h
    exact (if_neg (not_unenrolled_of_enrolled hslot)).trans (if_neg (by simp [hown]))

end

/-- A session that begins is counted in SEC_STAT (R472). -/
theorem beginSession_shows {s : State} (hlen : s.sec.sessions.length < 4) (owner : Option Nat) (transcript : List Byte) :
    (s.beginSession owner transcript).fld .secCtl 0 SEC_STAT_SESSIONS = s.sec.sessions.length + 1 := by
  refine (fld_putSessions _).trans ?_
  rw [List.length_append, List.length_singleton]
  omega

theorem exec_keyExchange {s : State} (hs : Serving s) (hp : s.hif.perst = false) (ses : Option Nat) (owner : Option (BitVec 8))
    (tr : List Byte) :
    ∃ t, exec (.keyExchange ses owner tr) s = .next t
      ∧ (ses = none → s.sec.conn = 3 → exchangeable s.sec.algs owner = true → s.sec.sessions.length < 4 →
          (owner = none ∨ owner.any (enrolled s) = true ∧ s.ownerSession = none) →
            t.sec.sessions = s.sec.sessions ++ [⟨s.newSession, false, owner.map (·.toNat)⟩]
              ∧ (∀ x ∈ s.sec.sessions, x.id ≠ s.newSession)
              ∧ t.sec.reply = .keyExchange s.newSession owner.isSome (Config.signIdentity tr)
              ∧ t.fld .secCtl 0 SEC_STAT_SESSIONS = s.sec.sessions.length + 1)
      ∧ (ses = none → s.sec.conn = 3 → exchangeable s.sec.algs owner = true → s.sec.sessions.length < 4 →
          owner.any (fun x => decide (7 < x.toNat) || (s.ownerKey x.toNat).isNone) = true → t = saysError s 1)
      ∧ (ses = none → s.sec.conn = 3 → exchangeable s.sec.algs owner = true → s.sec.sessions.length < 4 →
          owner.any (enrolled s) = true → s.ownerSession.isSome = true → t = saysError s 3)
      ∧ (ses = none → s.sec.conn = 3 → exchangeable s.sec.algs owner = true → 4 ≤ s.sec.sessions.length → t = saysError s 0xA)
      ∧ (ses.isSome = true ∨ s.sec.conn ≠ 3 → t = saysError s 4)
      ∧ RegsBut [0x20014, 0x20048] s t
      ∧ t = { s with regs := t.regs, sec := { s.sec with sessions := t.sec.sessions, reply := t.sec.reply }, role := t.role } := by
  have hex : Exchanges s (s.outside ses 3 (State.exchangeAnswer owner tr)) :=
    outside_cases hs hp (.saysError s 4) (.exchangeAnswer s owner tr)
  have hin := outside_of_order hs hp (ses := ses) (conn := 3) (State.exchangeAnswer owner tr)
  rw [exec_keyExchange_eq]
  refine ⟨_, hex.done hs.1, fun h hc ha hlen hgrant => ?_, fun h hc ha hlen hbad => ?_, fun h hc ha hlen hen hown => ?_,
    fun h hc ha hlen => ?_, outside_of_unexpected hs hp _, hex.rd, hex.frame⟩
  · rw [hin h hc, exchangeAnswer_of_granted tr ha hlen hgrant]
    refine ⟨rfl, newSession_fresh hlen, ?_, beginSession_shows hlen _ _⟩
    cases owner <;> rfl
  · exact (hin h hc).trans (exchangeAnswer_of_unenrolled tr ha hlen hbad)
  · exact (hin h hc).trans (exchangeAnswer_of_owned tr ha hlen hen hown)
  · exact (hin h hc).trans (exchangeAnswer_of_full tr ha hlen)

/-! ### A session is opened, or discarded -/

/-- Sessions are shown, and ROLE_CHANGE is set where the Owner session begins or ends. -/
def State.sessionsShown (s : State) (change : Bool) : State := if change then s.putSessions.int .secCtl 0 1 else s.putSessions

theorem sessionsShown_sec (s : State) (change : Bool) : (s.sessionsShown change).sec = s.sec := by
  cases change
  · rfl
  · exact int_sec _ _ _ _

theorem sessionsShown_role (s : State) (change : Bool) : (s.sessionsShown change).role = roleOf (s.sessionsShown change) := by
  cases change
  · rfl
  · exact (int_role _ _ _ _).trans (roleOf_congr (int_sec s.putSessions .secCtl 0 1)).symm

/-- A change of the Owner session sets ROLE_CHANGE (R473, R479). -/
theorem sessionsShown_roleChange (s : State) : ((s.sessionsShown true).intStat 0x20000).getLsbD 1 = true :=
  intStat_int _ .secCtl 0 (by decide) (by decide)

/-- The Security Engine without a session, and without an Owner where it was the Owner session (R473). -/
def SecSt.without (e : SecSt) (x : SpdmSession) : SecSt :=
  { e with sessions := e.sessions.filter fun y => y.id != x.id, owner := if x.open_ && x.owner.isSome then none else e.owner }

theorem dropSession_eq (s : State) (x : SpdmSession) :
    s.dropSession x = ({ s with sec := s.sec.without x } : State).sessionsShown (x.open_ && x.owner.isSome) := rfl

theorem dropSession_sec (s : State) (x : SpdmSession) : (s.dropSession x).sec = s.sec.without x := sessionsShown_sec _ _

theorem dropSession_role (s : State) (x : SpdmSession) : (s.dropSession x).role = roleOf (s.dropSession x) := sessionsShown_role _ _

/-- The end of the Owner session ends its role (R473, R479). -/
theorem dropSession_owner (s : State) {x : SpdmSession} (hopen : x.open_ = true) (hown : x.owner.isSome = true) :
    (s.dropSession x).sec.owner = none ∧ ((s.dropSession x).intStat 0x20000).getLsbD 1 = true := by
  have hwas : (x.open_ && x.owner.isSome) = true := by rw [hopen, hown]; rfl
  constructor
  · rw [dropSession_sec]
    exact if_pos hwas
  · rw [dropSession_eq, hwas]
    exact sessionsShown_roleChange _

/-- The Security Engine with a session's handshake complete, and its Owner where it asked for one (R472). -/
def SecSt.opened (e : SecSt) (x : SpdmSession) : SecSt :=
  { e with sessions := e.sessions.map fun y => if y.id == x.id then { y with open_ := true } else y, owner := x.owner.or e.owner }

theorem openSession_of_plain {s : State} {x : SpdmSession} (h : x.owner.isSome = false) :
    s.openSession x = ({ s with sec := s.sec.opened x } : State).say .finish := by
  rw [State.openSession, h]
  rfl

theorem openSession_of_owner {s : State} {x : SpdmSession} (h : x.owner.isSome = true) :
    s.openSession x = (({ s with sec := s.sec.opened x } : State).sessionsShown true).say .finish := by
  rw [State.openSession, h]
  rfl

theorem openSession_sec (s : State) (x : SpdmSession) : (s.openSession x).sec = { s.sec.opened x with reply := .finish } := by
  cases h : x.owner.isSome
  · rw [openSession_of_plain h]
    rfl
  · rw [openSession_of_owner h, State.say, sessionsShown_sec]

theorem opened_sessions (e : SecSt) (x : SpdmSession) :
    (e.opened x).sessions = e.sessions.map fun y => if y.id = x.id then { y with open_ := true } else y := by
  simp only [SecSt.opened, beq_iff_eq]

/-- The begin of the Owner session begins its role (R472, R479). -/
theorem openSession_owner (s : State) {x : SpdmSession} (h : x.owner.isSome = true) :
    ((s.openSession x).intStat 0x20000).getLsbD 1 = true ∧ (s.openSession x).role = roleOf (s.openSession x) := by
  rw [openSession_of_owner h]
  exact ⟨sessionsShown_roleChange _, sessionsShown_role _ _⟩

/-! ### FINISH -/

/-- A session is discarded for a FINISH whose signature does not verify (R472). -/
def State.finishRefused (s : State) (x : SpdmSession) : State := (((s.dropSession x).int .secCtl 0 3).raiseOpen .secCtl 0 3 1).sayError 5

/-- What is reported of a FINISH that does not verify: the cause, and class 3 at Notice. -/
theorem finishRefused_reports (u : State) :
    ReportsOn 0x20000 u ((u.int .secCtl 0 3).raiseOpen .secCtl 0 3 1)
      ∧ Raised 0x20000 3 1 u ((u.int .secCtl 0 3).raiseOpen .secCtl 0 3 1)
      ∧ (((u.int .secCtl 0 3).raiseOpen .secCtl 0 3 1).intStat 0x20000).getLsbD 3 = true := by
  have hraise := ReportsOn.raiseOpen (u.int .secCtl 0 3) .secCtl 0 3 (base := 1) (by decide)
  refine ⟨(ReportsOn.int u .secCtl 0 3).trans hraise, ?_, hraise.ints (by decide) 3 (intStat_int u .secCtl 0 (by decide) (by decide))⟩
  refine raised_of_same ?_ ?_ (raised_raiseOpen _ .secCtl 0 3 (by decide))
  · rw [int_eq_with]
    rfl
  · rw [int_eq_with]

theorem dropSession_faults (s : State) (x : SpdmSession) (q : Nat) : (s.dropSession x).fault q = s.fault q := by
  rw [dropSession_eq, State.sessionsShown]
  split
  · rw [int_eq_with]
    rfl
  · rfl

theorem finishRefused_onSessions (s : State) (x : SpdmSession) : OnSessions s (s.finishRefused x) :=
  ((OnSessions.dropSession s x).trans (.of_reportsOn (finishRefused_reports _).1)).trans (.say _ _)

theorem finishRefused_shows (s : State) (x : SpdmSession) :
    (s.finishRefused x).sec = { s.sec.without x with reply := .error 5 }
      ∧ ((s.finishRefused x).intStat 0x20000).getLsbD 3 = true ∧ Raised 0x20000 3 1 s (s.finishRefused x) := by
  have hepc : (s.dropSession x).epc = s.epc := by rw [(OnSessions.dropSession s x).frame]
  obtain ⟨hreports, hraised, hint⟩ := finishRefused_reports (s.dropSession x)
  have hsec : _ = s.sec.without x := (congrArg State.sec hreports.frame).trans (dropSession_sec s x)
  rw [State.finishRefused]
  generalize ((s.dropSession x).int .secCtl 0 3).raiseOpen .secCtl 0 3 1 = u at *
  refine ⟨?_, hint, raised_of_same (dropSession_faults s x _) hepc hraised⟩
  rw [State.sayError, State.say, hsec]

/-- The session whose handshake a FINISH is to complete. -/
abbrev handshake (s : State) (ses : Option Nat) : Option SpdmSession := ses.bind fun i => s.sec.sessions.find? fun x => x.id == i && !x.open_

/-- The open session that a request is sent in. -/
abbrev openIn (s : State) (ses : Option Nat) : Option SpdmSession := ses.bind fun i => s.sec.sessions.find? fun x => x.id == i && x.open_

/-- The Owner session. -/
abbrev ownerOpen (s : State) : Option SpdmSession := s.sec.sessions.find? fun x => x.open_ && x.owner.isSome

theorem open_of_openIn {s : State} {ses : Option Nat} {x : SpdmSession} (h : openIn s ses = some x) : x.open_ = true := by
  obtain ⟨i, -, hx⟩ := Option.bind_eq_some_iff.mp h
  have hfound := List.find?_some hx
  exact (Bool.and_eq_true_iff.mp hfound).2

/-- What answers FINISH (R472). -/
def State.finishAnswer (ses : Option Nat) (sig : Option (List Byte)) (message : List Byte) (s : State) : State :=
  match handshake s ses with
  | none => s.sayError 4
  | some x => if s.finishGood x sig message then s.openSession x else s.finishRefused x

theorem exec_finish_eq (ses : Option Nat) (sig : Option (List Byte)) (message : List Byte) (s : State) :
    exec (.finish ses sig message) s = done (s.spdm (State.finishAnswer ses sig message)) := rfl

/-- What answers END_SESSION (R473). -/
def State.endSessionAnswer (ses : Option Nat) (s : State) : State :=
  match openIn s ses with
  | none => s.sayError 4
  | some x => (s.dropSession x).say .endSession

theorem exec_endSession_eq (ses : Option Nat) (s : State) : exec (.endSession ses) s = done (s.spdm (State.endSessionAnswer ses)) := rfl

theorem exec_sessionIdleTimeout_of_some {s : State} {x : SpdmSession} (h : ownerOpen s = some x) :
    exec .sessionIdleTimeout s = done (s.dropSession x) := by
  unfold ownerOpen at h
  show done (sessionIdleTimeout s) = _
  rw [sessionIdleTimeout, h]

theorem exec_sessionIdleTimeout_of_none {s : State} (h : ownerOpen s = none) : exec .sessionIdleTimeout s = done s := by
  unfold ownerOpen at h
  show done (sessionIdleTimeout s) = _
  rw [sessionIdleTimeout, h]

section
variable {s : State} (hs : Serving s)
include hs

/-- A FINISH that verifies, or needs no signature. -/
theorem done_openSession (x : SpdmSession) :
    ∃ t, done (s.openSession x) = .next t
      ∧ t.sec.sessions = s.sec.sessions.map (fun y => if y.id = x.id then { y with open_ := true } else y)
      ∧ t.sec.owner = x.owner.or s.sec.owner ∧ t.sec.reply = .finish
      ∧ (x.owner.isSome = true → (t.intStat 0x20000).getLsbD 1 = true ∧ t.role = roleOf t)
      ∧ SecSessions s t := by
  obtain ⟨hdone, hsess⟩ := (OnSessions.openSession s x).done hs.1
  have hsec := openSession_sec s x
  have howner := openSession_owner s (x := x)
  generalize s.openSession x = u at *
  refine ⟨_, hdone, ?_, ?_, ?_, howner, hsess⟩
  · exact (congrArg SecSt.sessions hsec).trans (opened_sessions _ _)
  · exact congrArg SecSt.owner hsec
  · exact congrArg SecSt.reply hsec

/-- A FINISH that does not verify. -/
theorem done_finishRefused (x : SpdmSession) :
    ∃ t, done (s.finishRefused x) = .next t
      ∧ t.sec.sessions = s.sec.sessions.filter (fun y => y.id != x.id) ∧ t.sec.reply = .error 5
      ∧ (t.intStat 0x20000).getLsbD 3 = true ∧ Raised 0x20000 3 1 s t
      ∧ SecSessions s t := by
  obtain ⟨hdone, hsess⟩ := (finishRefused_onSessions s x).done hs.1
  obtain ⟨hsec, hint, hraised⟩ := finishRefused_shows s x
  generalize s.finishRefused x = u at *
  exact ⟨_, hdone, congrArg SecSt.sessions hsec, congrArg SecSt.reply hsec, hint, hraised, hsess⟩

theorem exec_finish (hp : s.hif.perst = false) (ses : Option Nat) (sig : Option (List Byte)) (msg : List Byte) :
    ∃ t, exec (.finish ses sig msg) s = .next t
      ∧ (∀ x ∈ handshake s ses, s.finishGood x sig msg = true →
          t.sec.sessions = s.sec.sessions.map (fun y => if y.id = x.id then { y with open_ := true } else y)
            ∧ t.sec.owner = x.owner.or s.sec.owner ∧ t.sec.reply = .finish
            ∧ (x.owner.isSome = true → (t.intStat 0x20000).getLsbD 1 = true ∧ t.role = roleOf t))
      ∧ (∀ x ∈ handshake s ses, s.finishGood x sig msg = false →
          t.sec.sessions = s.sec.sessions.filter (fun y => y.id != x.id) ∧ t.sec.reply = .error 5
            ∧ (t.intStat 0x20000).getLsbD 3 = true ∧ Raised 0x20000 3 1 s t)
      ∧ (handshake s ses = none → t = saysError s 4)
      ∧ SecSessions s t := by
  rw [exec_finish_eq, spdm_of_serving hs hp, State.finishAnswer]
  cases hx : handshake s ses with
  | none => exact ⟨_, done_saysError hs.1 4, nofun, nofun, fun _ => rfl, secSessions_saysError s 4⟩
  | some x =>
    simp only [Option.mem_some_iff, forall_eq', reduceCtorEq, false_imp_iff, true_and]
    cases hgood : s.finishGood x sig msg with
    | true =>
      obtain ⟨t, ht, hsessions, howner, hreply, hrole, hsess⟩ := done_openSession hs x
      exact ⟨t, ht, fun _ => ⟨hsessions, howner, hreply, hrole⟩, nofun, hsess⟩
    | false =>
      obtain ⟨t, ht, hsessions, hreply, hint, hraised, hsess⟩ := done_finishRefused hs x
      exact ⟨t, ht, nofun, fun _ => ⟨hsessions, hreply, hint, hraised⟩, hsess⟩

/-! ### The end of a session -/

theorem exec_endSession (hp : s.hif.perst = false) (ses : Option Nat) :
    ∃ t, exec (.endSession ses) s = .next t
      ∧ (∀ x ∈ openIn s ses, t.sec.sessions = s.sec.sessions.filter (fun y => y.id != x.id) ∧ t.sec.reply = .endSession
          ∧ (x.owner.isSome = true → t.sec.owner = none ∧ (t.intStat 0x20000).getLsbD 1 = true) ∧ t.role = roleOf t)
      ∧ (openIn s ses = none → t = saysError s 4)
      ∧ SecSessions s t := by
  rw [exec_endSession_eq, spdm_of_serving hs hp, State.endSessionAnswer]
  cases hx : openIn s ses with
  | none => exact ⟨_, done_saysError hs.1 4, nofun, fun _ => rfl, secSessions_saysError s 4⟩
  | some x =>
    obtain ⟨hdone, hsess⟩ := ((OnSessions.dropSession s x).trans (.say _ .endSession)).done hs.1
    have hsec := dropSession_sec s x
    have hrole := dropSession_role s x
    have howner := dropSession_owner s (open_of_openIn hx)
    simp only [Option.mem_some_iff, forall_eq', reduceCtorEq, false_imp_iff, true_and]
    generalize s.dropSession x = u at *
    exact ⟨_, hdone, ⟨congrArg SecSt.sessions hsec, rfl, howner, hrole⟩, hsess⟩

theorem exec_sessionIdleTimeout :
    ∃ t, exec .sessionIdleTimeout s = .next t
      ∧ (∀ x ∈ ownerOpen s, t.sec.sessions = s.sec.sessions.filter (fun y => y.id != x.id) ∧ t.sec.owner = none
          ∧ (t.intStat 0x20000).getLsbD 1 = true ∧ t.role = roleOf t)
      ∧ (ownerOpen s = none → t = s)
      ∧ SecSessions s t := by
  cases hx : ownerOpen s with
  | none =>
    rw [exec_sessionIdleTimeout_of_none hx]
    exact ⟨s, done_self hs.1, nofun, fun _ => rfl, (OnSessions.withSec s s.sec).reported, rfl⟩
  | some x =>
    have hfound := hx
    unfold ownerOpen at hfound
    have howned := List.find?_some hfound
    obtain ⟨hopen, hown⟩ := Bool.and_eq_true_iff.mp howned
    obtain ⟨hdone, hsess⟩ := (OnSessions.dropSession s x).done hs.1
    have hsec := dropSession_sec s x
    have hrole := dropSession_role s x
    obtain ⟨hnone, hint⟩ := dropSession_owner s hopen hown
    rw [exec_sessionIdleTimeout_of_some hx]
    simp only [Option.mem_some_iff, forall_eq', reduceCtorEq, false_imp_iff, true_and]
    generalize s.dropSession x = u at *
    exact ⟨_, hdone, ⟨congrArg SecSt.sessions hsec, hnone, hint, hrole⟩, hsess⟩

end

/-- Settles O52: each request either only answers, or opens or discards a session and shows it on the page of the Security Engine. -/
theorem spdmResponder : Obligations.SpdmResponder := by
  unfold Obligations.SpdmResponder
  intro s hs hp
  exact ⟨exec_getVersion hs hp, exec_getCapabilities hs hp, exec_negotiateAlgorithms hs hp, exec_getDigests hs hp,
    exec_getCertificate hs hp, exec_challenge hs hp, exec_getMeasurements hs hp, exec_keyExchange hs hp, exec_finish hs hp,
    exec_endSession hs hp, exec_unsupportedRequest hs hp, exec_sessionIdleTimeout hs⟩

end Sys2Proof.Machine

namespace Sys2Proof.Machine
open Sys2Proof Reg

/-! ## The queue (O1) -/

/-- Settles O1: a step looks at the front of the queue, and with nothing there one MCLK cycle passes. -/
theorem stepRunsFrontCommand : Obligations.StepRunsFrontCommand := by
  unfold Obligations.StepRunsFrontCommand
  exact ⟨fun _ _ _ => rfl, fun _ => rfl⟩

end Sys2Proof.Machine

namespace Sys2Proof.Machine
open Sys2Proof Reg

/-! ## A link that goes down at Fatal (O54)

A couple that loses its link while it serves the feed raises class 2 of the Pairs page at Error (R504). The third loss that the host leaves
unacknowledged is recorded at Fatal (R60), so that the device enters FAULT (R61), where no channel drives (R35, R116). -/

/-- No channel drives in a device that has entered FAULT (R35, R116). -/
theorem drvOn_enterFault (s : State) (cause typ : Nat) : ∀ e ∈ (s.enterFault cause typ).pins, e.2.drvOn = false := by
  intro e he
  simp only [State.enterFault, State.safeAllPins, List.mem_filterMap] at he
  obtain ⟨p, -, hp⟩ := he
  split at hp
  · cases hp
  · cases hp
    rfl

/-- Settling changes no channel. -/
theorem done_pins {u t : State} (ht : done u = .next t) : t.pins = u.fall.pins :=
  have hsettle : u.fall.settle.pins = u.fall.pins := by rw [settle_eq_with]
  (congrArg State.pins (Host.Outcome.next.inj ht)).symm.trans hsettle

/-- A Fatal entry of a device that runs leaves no channel driving when the command ends (R35, R61). -/
theorem drvOn_of_fatal {u t : State} (hg : u.grave.any Prod.fst = true) (hu : RunsUnmeasured u) (ht : done u = .next t) :
    ∀ e ∈ t.pins, e.2.drvOn = false := by
  obtain ⟨⟨fatal, typ⟩, hgrave, rfl⟩ := (Option.any_eq_true _ _).mp hg
  -- the states are named, so that no comparison of their fields unfolds how they came about
  obtain ⟨v, hab⟩ : ∃ v, ({ u with grave := none } : State).calAbandonAll = v := ⟨_, rfl⟩
  have hv : RunsUnmeasured v := hab ▸ RunsUnmeasured.keeps (s := { u with grave := none }) ⟨hu.dev, hu.meas⟩ (.calAbandonAll _)
  obtain ⟨w, hw⟩ : ∃ w, v.enterFault 1 typ = w := ⟨_, rfl⟩
  have hoff := drvOn_enterFault v 1 typ
  rw [hw] at hoff
  rw [done_pins ht, fall_of_fatal hgrave hab hv.dev hw]
  exact hoff

/-- The link is DOWN, before its class is raised (R504). -/
def State.linkLost (s : State) : State := (s.setLstate 5).int .plk 0 1

theorem linkLost_keepsCore (s : State) : KeepsCore s s.linkLost := (KeepsCore.put s .plk 0 PLK_STAT_LSTATE 5).trans (.int _ _ _ _)

theorem linkLost_faults (s : State) : s.linkLost.faults = s.faults := by
  rw [State.linkLost, int_eq_with]
  rfl

/-- A trained link that goes down while it serves the feed, and takes none, raises class 2 at Error and no more (R504, R516). -/
theorem plkDown_of_serving {s : State} (htrained : s.linkTrainedNow = true) (hfeed : s.flag .plk 0 PLK_STAT_FEEDING = false)
    (hserve : s.flag .plk 0 PLK_STAT_SERVING = true) : KeepsCore (s.linkLost.raiseOpen .plk 0 2 3) s.plkDown := by
  simp only [State.plkDown, htrained, hfeed, hserve, Bool.not_true, Bool.false_eq_true, if_false, Bool.or_true, if_true]
  rw [← State.linkLost]
  generalize s.linkLost.raiseOpen .plk 0 2 3 = u
  exact ⟨rfl, rfl, rfl, rfl⟩

/-- The link goes down in a device that runs and serves the feed, with class 2 unacknowledged at Critical: no channel drives any more. -/
theorem drvOn_of_third_loss {s t : State} (hs : RunsUnmeasured s) (htrained : s.linkTrainedNow = true)
    (hfeed : s.flag .plk 0 PLK_STAT_FEEDING = false) (hserve : s.flag .plk 0 PLK_STAT_SERVING = true)
    (hcrit : lookupKey (s.fault (pageBase .plk 0)).unacked 2 = some 4) (ht : exec .linkSilence s = .next t) :
    ∀ e ∈ t.pins, e.2.drvOn = false := by
  have hend := plkDown_of_serving htrained hfeed hserve
  have hlevel : recordedLevel (s.linkLost.fault (pageBase .plk 0)) 2 3 = 5 := by
    rw [State.fault, linkLost_faults, ← State.fault, recordedLevel, hcrit]
    rfl
  have hraise := (KeepsCore.drawn (s.linkLost.raise .plk 0 2 3 s.linkLost.freeWord)).trans hend
  refine drvOn_of_fatal ?_ (((hs.keeps (linkLost_keepsCore s)).raise .plk 0 2 3 _).keeps hraise) ht
  rw [hraise.grave]
  exact grave_raise _ hlevel

/-! ### The third loss that nobody acknowledged -/

/-- An entry of class 2 of the Pairs page, at base level Error. -/
def lossEntry (level : Nat) (seq : BitVec 16) : FaultEntry := ⟨2, level, 3, false, seq, 0, 0, 0⟩

/-- PSQ 3 is in its burst and channel 0 drives, in a device that serves the feed of its partner over a PAIRED link. Two losses of the link
before stand unacknowledged, the second recorded at Critical (R60). -/
def thirdLoss : State :=
  let s := { State.reset with dev := .run, pins := [(0, { PinSt.idle with drvOn := true })] }
  let s := s.setFault (pageBase .plk 0) ⟨[lossEntry 4 1, lossEntry 3 0], 2, [(2, 4)], none⟩
  ((s.put .plk 0 PLK_STAT_LSTATE 4).put .plk 0 PLK_STAT_SERVING 1).put .psq 3 PSQ_STAT_RUNSTATE 2

theorem thirdLoss_serving : Serving thirdLoss :=
  serving_of (by decide +kernel) (by decide +kernel) (by decide +kernel) (by decide +kernel)

theorem thirdLoss_pins : thirdLoss.pins = [(0, { PinSt.idle with drvOn := true })] := by decide +kernel

/-- Refutes O54: a silence of the link is said to leave every channel as it is, but the third loss of a served link that nobody acknowledged is
recorded at Fatal (R60), so that the device enters FAULT (R61) and the driver of every channel goes off (R35, R116). -/
theorem not_pairsLink : ¬ Obligations.PairsLink := by
  unfold Obligations.PairsLink
  intro h
  obtain ⟨-, -, -, -, -, -, -, -, -, hsilence, -⟩ := h thirdLoss thirdLoss_serving
  obtain ⟨t, ht, -, -, -, -, -, hpins, -⟩ := hsilence
  have hoff := drvOn_of_third_loss (s := thirdLoss) ⟨by decide +kernel, by decide +kernel⟩ (by decide +kernel) (by decide +kernel)
    (by decide +kernel) (by decide +kernel) ht
  rw [hpins, thirdLoss_pins] at hoff
  exact absurd (hoff _ (List.mem_singleton.mpr rfl)) (by decide)

end Sys2Proof.Machine

namespace Sys2Proof.Machine
open Sys2Proof Reg

/-! ## A received bit lands past the serial master's page (O56)

GO takes the word size of a framed transfer from SPM_CFG.WSIZE, as 8, 16, 32 or 64 bits (R523, R524). Nothing that `Serving` says bounds the
word size of the transfer in progress (`SpmJob.wordBits`), and the first wire bit of a word goes to the word's most significant bit. -/

/-- A framed transfer of one wire bit is in progress, in words of 65,536 bits. -/
def wideTransfer : State :=
  { State.reset with dev := .ready, spm := { SpmSt.idle with job := some ⟨1, true, 65536, false, 0, 0⟩ } }

theorem wideTransfer_serving : Serving wideTransfer :=
  serving_of (by decide +kernel) (by decide +kernel) (by decide +kernel) (by decide +kernel)

/-- The received bit is set in what would be word 2,047 of the RX buffer. -/
theorem wordAfter_spmTransferDone_wideTransfer :
    wordAfter (exec (.spmTransferDone 0 [true]) wideTransfer) 0x333FC ≠ wideTransfer.rd 0x333FC := by decide +kernel

/-- Refutes O56: the end of a page transfer is said to change no register past the serial master's page, but with words of 65,536 bits the
first received bit is stored on the page of NVM, at 0x333FC. -/
theorem not_serialMasterAndFlash : ¬ Obligations.SerialMasterAndFlash := by
  unfold Obligations.SerialMasterAndFlash
  intro h
  obtain ⟨-, -, hend, -⟩ := h wideTransfer wideTransfer_serving
  obtain ⟨t, ht, -, -, -, -, hregs, -⟩ := hend 0 [true]
  apply wordAfter_spmTransferDone_wideTransfer
  rw [ht]
  exact hregs 0x333FC (by decide)

end Sys2Proof.Machine

namespace Sys2Proof.Machine
open Sys2Proof Reg

/-! ## A summary that a full recorder cannot store (O57)

The recorder writes the summary of its drops at once, as a Notice of its own (R542). Where every slot holds a record of a higher severity, the
summary is not stored, and the recorder raises class 2 after class 1 (R540). -/

/-! ### A full recorder -/

/-- No record is of the severity given or below (R540). -/
theorem oldestAtMost_of_all_above {sev : Nat} {l : List (Nat × EvrRec)} (h : ∀ e ∈ l, sev < e.2.sev) : oldestAtMost sev l = none := by
  induction l with
  | nil => rfl
  | cons e l ih =>
    obtain ⟨he, hl⟩ := List.forall_mem_cons.mp h
    simp only [oldestAtMost, ih hl, if_neg (Nat.not_le.mpr he)]

/-- A record finds no slot where the recorder is full of records of higher severity (R540). -/
theorem place_of_full {s : State} {sev : Nat} (hfull : 16384 ≤ s.records.length) (habove : ∀ e ∈ s.records, sev < e.2.sev) :
    s.place sev = none := by
  simp only [State.place, Nat.sub_eq_zero_of_le hfull, Nat.lt_irrefl, false_and, if_false, oldestAtMost_of_all_above habove, Option.map_none]

/-- The records depend on the slots. -/
theorem records_congr {s u : State} (h : u.evr.slots = s.evr.slots) : u.records = s.records := by rw [State.records, h, ← State.records]

/-- The records of slots that each hold one. -/
theorem records_of_slots {s : State} {l : List Nat} {r : Nat → EvrRec} (h : s.evr.slots = l.map fun k => (k, some (r k))) :
    s.records = l.map fun k => (k, r k) := by
  rw [State.records, h, List.filterMap_map]
  exact congrFun List.filterMap_eq_map' l

/-- An entry that finds no slot is not stored (R540). -/
theorem makeRecord_of_full {s : State} {x : EvrIn} (hfull : 16384 ≤ s.records.length) (habove : ∀ e ∈ s.records, x.level < e.2.sev) :
    s.makeRecord x = s.unstored x.level := by
  rw [State.makeRecord, place_of_full hfull habove]

/-- A fault entry that is not passed on leaves the recorder as it is (R462). -/
theorem recordFault_evr_of_unoffered (s : State) (k : PageKind) (i cls : Nat) {base : Nat} (d : Word) (h : base < 2) :
    (s.recordFault false k i cls base d).evr = s.evr := by
  have hset : ∀ (c : Prop) [Decidable c] (u : State) (page : Nat) (m : Word), (if c then u.intSet page m else u).evr = u.evr := by
    intro c _ u page m
    split
    · rw [intSet_eq_with]
    · rfl
  have hlow : base < 4 := by omega
  simp only [State.recordFault, recordedLevel_low _ _ _ h, h, hlow, if_true, Bool.false_eq_true, if_false, hset]
  rfl

/-- What the recorder has done with a Notice of its own before it makes the record: the page's history holds it. -/
def State.ownNoted (s : State) (cls : Nat) : State := (s.recordFault false .evr 0 cls 1 s.freeWord).drawn

theorem ownNoted_records (s : State) (cls : Nat) : (s.ownNoted cls).records = s.records :=
  records_congr (congrArg EvrSt.slots (recordFault_evr_of_unoffered s .evr 0 cls _ (by decide)))

theorem ownNoted_grave (s : State) (cls : Nat) : (s.ownNoted cls).grave = s.grave := by
  have hlow : recordedLevel (s.fault (pageBase .evr 0)) cls 1 < 4 := by rw [recordedLevel_low _ _ _ (by decide)]; decide
  rw [State.ownNoted, drawn_grave, recordFault_eq_with _ _ _ _ _ _ _ hlow]

/-- A Notice of the recorder itself that it cannot store is counted, and raises class 2 in its turn (R540). -/
theorem ownRecord_of_full {s : State} (cls : Nat) (summary : Bool) (data : List Word) (hfull : 16384 ≤ s.records.length)
    (habove : ∀ e ∈ s.records, 1 < e.2.sev) :
    s.ownRecord cls summary data = ((s.ownNoted cls).bump .evr 0 EVR_UNSTORED_COUNT EVR_UNSTORED_OVF).raiseOpen .evr 0 2 1 := by
  have hrecords := ownNoted_records s cls
  exact makeRecord_of_full (x := { s.evrEntry .evr 0 cls 1 1 s.freeWord with summary := summary, data := data })
    (hrecords.symm ▸ hfull) (hrecords.symm ▸ habove)

/-! ### The newest entry of the recorder's page -/

/-- The class of the newest entry of a page. -/
def State.newestClass (s : State) (page : Nat) : Option Nat := (s.fault page).hist.head?.map FaultEntry.cls

theorem newestClass_of_raised {s t : State} {page cls base : Nat} (h : Raised page cls base s t) : t.newestClass page = some cls := by
  have hfst := congrArg (Option.map Prod.fst) h
  rwa [Option.map_map] at hfst

theorem newestClass_int (s : State) (k : PageKind) (i b page : Nat) : (s.int k i b).newestClass page = s.newestClass page := by
  rw [int_eq_with]
  rfl

/-- The end of a command that noted nothing keeps the entries. -/
theorem newestClass_done {u t : State} (hg : u.grave = none) (ht : done u = .next t) (page : Nat) :
    t.newestClass page = u.newestClass page := by
  have hfaults : t.faults = u.faults := by
    rw [← Host.Outcome.next.inj ht, settle_eq_with]
    simp only [State.fall, hg]
  rw [State.newestClass, State.fault, hfaults, ← State.fault, State.newestClass]

/-! ### The summary -/

/-- The recorder as a summary begins: the drops are forgotten (R542). -/
def State.dropsForgotten (s : State) : State := s.setEvr { s.evr with drops := [], dropOther := 0, since := 0 }

/-- The summary of drops in a full recorder leaves class 2 as the newest entry of its page (R540, R542). -/
theorem newestClass_evrSummary_of_full {s t : State} (hon : s.recorderOn = true) (hg : s.grave = none) (hsince : s.evr.since ≠ 0)
    (hqueue : s.evr.queue = []) (hheld : s.evr.held = []) (hclear : s.evr.clearing = none) (hfull : 16384 ≤ s.records.length)
    (habove : ∀ e ∈ s.records, 1 < e.2.sev) (ht : exec .evrSummary s = .next t) : t.newestClass 0x32000 = some 2 := by
  obtain ⟨data, hsummary⟩ : ∃ data, evrSummary s = (s.dropsForgotten.ownRecord 1 true data).int .evr 0 2 := by
    rw [evrSummary, if_neg (by simp [hsince, hqueue, hheld, hclear])]
    exact ⟨_, rfl⟩
  have hexec : exec .evrSummary s = done (if s.recorderOn then evrSummary s else s) := rfl
  rw [hexec, hon, if_pos rfl, hsummary, ownRecord_of_full 1 true data (s := s.dropsForgotten) hfull habove] at ht
  have hcore : KeepsCore (s.dropsForgotten.ownNoted 1) _ :=
    ((KeepsCore.bump _ .evr 0 EVR_UNSTORED_COUNT EVR_UNSTORED_OVF).trans (.raiseOpen_of_low _ .evr 0 2 (by decide : 1 < 2))).trans
      (.int _ .evr 0 2)
  rw [newestClass_done (hcore.grave.trans ((ownNoted_grave _ 1).trans hg)) ht, newestClass_int]
  exact newestClass_of_raised (raised_raiseOpen _ .evr 0 2 (by decide))

/-- The first `n` slots of the recorder hold records of severity Error, its queue is empty, and an entry was dropped. -/
def errorRecords (n : Nat) : State :=
  { State.reset with
    dev := .ready
    evr := { State.reset.evr with
      since := 1, drops := [((1, 1), 1)], slots := (List.range n).map fun k => (k, some ⟨k, 3, []⟩), topSeq := some (n - 1) } }

theorem errorRecords_records (n : Nat) : (errorRecords n).records = (List.range n).map fun k => (k, ⟨k, 3, []⟩) :=
  records_of_slots (r := fun k => ⟨k, 3, []⟩) rfl

/-- The records decide nothing of what a state between commands asks. -/
theorem errorRecords_serving (n : Nat) : Serving (errorRecords n) :=
  have hsettled : Steady { State.reset with dev := .ready } := steady_of rfl rfl (by decide +kernel)
  ⟨⟨rfl, rfl, settle_of_same hsettled.2.2 rfl fun _ _ => rfl⟩, rfl⟩

/-- Refutes O57: the summary of drops is said to leave its class 1 as the newest entry of the recorder's page, but a recorder full of records
of severity Error cannot store the summary, and raises class 2 for that after it (R540). -/
theorem not_eventsAndNvm : ¬ Obligations.EventsAndNvm := by
  unfold Obligations.EventsAndNvm
  intro h
  obtain ⟨-, -, -, -, -, -, -, -, -, -, hsummary, -⟩ := h (errorRecords 16384) (errorRecords_serving _)
  obtain ⟨t, ht, -, -, -, -, hraised, -⟩ := hsummary (by decide) rfl rfl rfl (by decide)
  have hnewest : t.newestClass 0x32000 = some 2 := by
    refine newestClass_evrSummary_of_full (s := errorRecords 16384) (by decide +kernel) rfl (by decide) rfl rfl rfl ?_ ?_ ht
    · simp [errorRecords_records]
    · simp [errorRecords_records]
  rw [newestClass_of_raised hraised] at hnewest
  exact absurd hnewest (by decide)

end Sys2Proof.Machine
